-- ==== Sys2Proof/Word.lean ====
section
/-! DEFINITION. The native word types of the device (00_scope, "Words, numbers and bits", R8) and the few plain helpers
on them that every other file uses. -/

namespace Sys2Proof

/-- The native 12-bit word; bit 11 is its most significant bit (00_scope). -/
abbrev Word := BitVec 12

/-- A 24-bit word address of the device map (R170). -/
abbrev Addr := BitVec 24

/-- A two-word value, low word first (R8). -/
abbrev DWord := BitVec 24

/-- A program-memory address of a cluster (R21, R36). -/
abbrev PAddr := BitVec 17

/-- A program word (R36, R43). -/
abbrev PWord := BitVec 14

/-- A 48-bit product, accumulator or record payload (R69, R70, R358). -/
abbrev Quad := BitVec 48

/-- A host-side container of 16 bits (R396). -/
abbrev Container := BitVec 16

/-- A byte of the host's or of the NV memory (R367, R396). -/
abbrev Byte := BitVec 8

/-- Engine number e, 0 to 63 (00_scope, R5). -/
abbrev Eng := Fin 64

/-- Thread number t, 0 to 7 (R20). -/
abbrev Thr := Fin 8

/-- Cluster number c, 0 to 7 (R5). -/
abbrev Clu := Fin 8

/-- Value with the low word at the lower address (R8). -/
def joinW (hi lo : Word) : DWord := hi ++ lo

/-- Bits [11:0] of a two-word value (R8). -/
def loW (v : DWord) : Word := v.setWidth 12

/-- Bits [23:12] of a two-word value (R8). -/
def hiW (v : DWord) : Word := (v >>> 12).setWidth 12

/-- Word k of a wide value given as a natural number, low word first (R8). -/
def wordOf (n k : Nat) : Word := BitVec.ofNat 12 (n / 2 ^ (12 * k))

/-- One bit as a number. -/
def bit1 (b : Bool) : Nat := if b then 1 else 0

/-- A word with the single field value `n` placed at bit `p`. -/
def fld (p n : Nat) : Word := BitVec.ofNat 12 (n * 2 ^ p)

/-- A word with bit `p` set when `b`. -/
def flag (p : Nat) (b : Bool) : Word := if b then BitVec.ofNat 12 (2 ^ p) else 0

/-- Bits [p+w-1:p] of a word as a number. -/
def bitsAt {k : Nat} (v : BitVec k) (p w : Nat) : Nat := v.toNat / 2 ^ p % 2 ^ w

/-- A count that saturates at 4,095, as the status registers' counters do. -/
def sat12 (n : Nat) : Word := if n ≤ 4095 then BitVec.ofNat 12 n else 0xFFF

/-- Cluster of an engine (R5): c = e / 8. -/
def Eng.cluster (e : Eng) : Clu := ⟨e.val / 8, by omega⟩

/-- Index of an engine within its cluster (R5): k = e mod 8. -/
def Eng.index (e : Eng) : Fin 8 := ⟨e.val % 8, by omega⟩

end Sys2Proof
end

