-- ==== Sys2Proof/Config.lean ====
section
/-! DEFINITION. What the spec leaves open as a value: every constant here has NO body, so nothing can be proved about the
number it gives (notes/assumptions/1 to 4, 12 to 16, 48 and 58 to 62 name each of them and the rule that leaves it open). -/

namespace Sys2Proof

/-- Bits of an RCP, SQ or L2 result (R72: a fixed function of operation and input, unpublished beyond its bounds).
`op` is 0 RCP, 1 √X, 2 1/√X, 3 log₂, 4 2^y; the pair is (M, E). Used only where it meets the bound. -/
opaque Config.apxChoice (op : Nat) (x : DWord) : DWord × Word

/-- What a word reads as after its contents became undefined: `epoch` counts the losses of the bank (R467, R194). -/
opaque Config.lostWord (epoch addr : Nat) : Word

/-- As `lostWord`, for a program word of 14 bits (R467, R194). -/
opaque Config.lostPWord (epoch addr : Nat) : PWord

/-- Data of a read that collided with a write on a dual-port word (R187: undefined). -/
opaque Config.collidedWord (n : Nat) : Word

/-- Which of two writes that collide on a dual-port word is stored (R187: undefined): the one the bank meets second. -/
opaque Config.secondWins (n : Nat) : Bool

/-- The sample a pop returns when a word of it fails its parity check persistently (R90 and R183 give a pop no outcome). -/
opaque Config.badSample (n : Nat) : DWord

/-- Where in its tolerance a period of the free-running RC oscillator lies, and where it stands at entry to RUN (R342, R489: ±5 %). -/
opaque Config.rcPeriod (n : Nat) : BitVec 12

/-- Whether a cycle of the 32.768 kHz crystal takes 9,156 fabric clocks or 9,155 (R361, R489: 9,155.27 of them on average). -/
opaque Config.crystalLate (n : Nat) : Bool

/-- CHECK of a grant handle: a keyed function of INDEX and GEN, unpublished (R398). `key` numbers the secret. -/
opaque Config.grantCheck (key index gen : Nat) : BitVec 20

/-- The boot ROM's staging area at entry to RUN holds undefined values (R472): `n` counts the entries. -/
opaque Config.stagingWord (n epoch addr : Nat) : Word

/-- Bits of a stored word that are found wrong when every replay of a read fails (R186): which ones, the spec does not say. -/
opaque Config.upsetBits (n : Nat) : BitVec 14

/-- What the recorder takes for a word of its RAM ring that fails every replay (R183 and R364 give its own reads no outcome). -/
opaque Config.unreadWord (n addr : Nat) : Word

/-- What the recorder's RAM ring holds after VKEEP was lost (R371). -/
opaque Config.lostRecorderWord (n addr : Nat) : Word

/-- The move that triggered a refused register write commanded by its row: its address, its destination id and, at task level, the
virtual address it named (R80, R98). -/
opaque Config.storeOrigin (n : Nat) : PAddr × BitVec 7 × Addr

/-- Where in configuration space a capability lies, in dwords: 0 Power Management, 1 PCI Express, 2 MSI-X (R388 gives no place). -/
opaque Config.capPlace (c : Nat) : BitVec 6

/-- A word of PCIe configuration space that the spec does not state, by byte offset (R388). -/
opaque Config.cfgSpace (off : Nat) : BitVec 32

end Sys2Proof
end

