-- ==== Sys2Proof/Syntax.lean ====
section
/-! DEFINITION. The commands of the block: `Instr`, one constructor per row of spec/opcode_table.json, over the operand types the
rows' rules name. Physical facts the device only meets (a parity failure, a converter code, a lost clock, a host's data)
arrive as operands. -/

namespace Sys2Proof

/-- A lane of an engine (R6). -/
inductive Lane where
  | a | b | c
deriving DecidableEq, Repr

/-- Who makes a register or memory write (R10, R27, R171, R316, R393, R484). -/
inductive Master where
  /-- A store of thread `t` of engine `e`, at machine level when `machine` (R103). The boot ROM and its setup records
  store as E0.T0 at machine level (R478). -/
  | engine (e : Eng) (t : Thr) (machine : Bool)
  /-- An SVP operation of thread `t` of selvedge engine `e` (R101). -/
  | svp (e : Eng) (t : Thr)
  /-- The host, through BAR2 (R393). -/
  | host
  /-- The shuttle as weft master, executing a descriptor (R411). -/
  | shuttle
  /-- The boot monitor (R484). -/
  | monitor
deriving DecidableEq, Repr

/-- How a read of memory or of a register ends physically (R182, R183, R187, R189). -/
inductive ReadOutcome where
  /-- The first read passes. -/
  | ok
  /-- A parity replay passes (R183): transient; in an access of several words, of the first of them. -/
  | replayed
  /-- The same of word `k` of the access. -/
  | replayedAt (k : Fin 32)
  /-- A weft resend succeeds (R182): counted at source 80. -/
  | resent
  /-- The read collided with a write and its parity passes: undefined data (R187, R189). -/
  | collided
  /-- The read collided with a write, its parity fails, and a replay passes: the stored result (R189). -/
  | collidedReplayed
  /-- Every replay fails (R183): persistent; in an access of several words, of the first of them. -/
  | persistent
  /-- The same of word `k` of the access. -/
  | persistentAt (k : Fin 32)
  /-- The read met another read at the bank's other port: both return the word (R187). -/
  | metRead
  /-- The same, and a replay of word `k` passes (R183). -/
  | metReplayed (k : Fin 32)
  /-- The same, and every replay of word `k` fails (R183). -/
  | metPersistent (k : Fin 32)
  /-- Every replay of a colliding read fails (R189); in an access of several words, of the first of them. -/
  | persistentCollided
  /-- The same of word `k` of the access. -/
  | persistentCollidedAt (k : Fin 32)
  /-- The weft transfer fails after its resends (R182). -/
  | weftFail
  /-- The weft transfer has not completed within 16,384 fk (R182): source 83. -/
  | timeout
  /-- The target answers with an error response (R171, R177, R326). -/
  | errorResponse
deriving DecidableEq, Repr

/-- How the writes of a snapshot end physically (R182, R267). -/
inductive SnapOutcome where
  /-- Every first presentation passes. -/
  | ok
  /-- A weft resend of a word succeeds: source 80. -/
  | resent
  /-- The weft transfer of word `k` fails after its resends, DIR being word 64: source 81. -/
  | failed (k : Fin 65)
deriving DecidableEq, Repr

/-- What the balls of the test access port do (R512): an edge of TCK with TMS and TDI, or TRST_N low. -/
inductive TapInput where
  | edge (tms tdi : Bool)
  | trst
deriving DecidableEq, Repr

/-- The edges that take the TAP from Test-Logic-Reset through Run-Test/Idle to Select-DR-Scan. -/
def tapLeaves : List TapInput := [.edge false false, .edge true false]

/-- How a write ends physically (R182, R184). -/
inductive WriteOutcome where
  /-- The first presentation passes. -/
  | ok
  /-- A resend passes after the bank's check failed (R184): transient at 64 + c; in an access of several words, of the first of them. -/
  | resentBank
  /-- The same of word `k` of the access. -/
  | resentBankAt (k : Fin 32)
  /-- A weft resend succeeds (R182): source 80. -/
  | resentWeft
  /-- The write collided with another write at the bank's other port: one of the two values is stored (R187). -/
  | collided
  /-- The write collided with a read at the bank's other port: it is performed (R187). -/
  | metRead
  /-- The bank's transport check fails persistently (R184); in an access of several words, of the first of them. -/
  | bankFail
  /-- The same of word `k` of the access. -/
  | bankFailAt (k : Fin 32)
  /-- The weft transfer fails after its resends (R182): source 81. -/
  | weftFail
  /-- The weft transfer has not completed within 16,384 fk (R182): source 83. -/
  | timeout
  /-- The target answers with an error response although the address accepts writes (R177, R326, R395). -/
  | errorResponse
deriving DecidableEq, Repr

/-- A request leaving an engine, as the output voter sees it (R138, R144). -/
structure Request where
  addr : Addr
  kind : BitVec 4
  data : Word
  parity : Bool
  /-- The mailbox of a message (MSG.DST[7:0]) or the register of an SVP operation (B:A); 0 for the others. -/
  target : DWord := 0
deriving DecidableEq, Repr

/-- What a fault makes of one request of a lane: its presence inverted, and bits of its parts inverted. -/
structure ReqFault where
  presence : Bool := false
  addr : Addr := 0
  kind : BitVec 4 := 0
  data : Word := 0
  parity : Bool := false
  target : DWord := 0
deriving DecidableEq, Repr

/-- A fault in a lane at a vote: of its first or its second request of that clock (R145). -/
abbrev VoteFault := Option (Fin 2 × ReqFault)

/-- A fault that strikes one lane in one move (R42, R143). -/
inductive LaneFault where
  /-- The parity bit of the word in the lane's line buffer or cache is wrong (R42). -/
  | parity
  /-- The value that the lane reads from the move's source has these bits inverted. -/
  | value (x : Word)
deriving DecidableEq, Repr

/-- An input pin, by its code of R301 (0x00 to 0x28), or 41 for NMI_N. -/
abbrev Pin := Fin 42

/-- A signal that reaches the engines through input agreement (R148): a pin, or the event line of an on-chip interrupt source. -/
inductive Input where
  | pin (p : Pin)
  | line (n : Fin 32)
  /-- The fabric tick that drives the timers (R94). -/
  | tick
deriving DecidableEq, Repr

/-- The lanes whose released value of an input changes (R149, R152): all of them, or, where a cross-lane wire or a synchroniser is
faulty, all but one, or one alone. -/
inductive InputView where
  | all
  | allBut (l : Lane)
  | only (l : Lane)
deriving DecidableEq, Repr

/-- A sensing channel SD0 to SD47 (R232). -/
abbrev Chan := Fin 48

/-- A Jarsyn port J0 to J2 (R428). -/
abbrev Port := Fin 3

/-- A memory bank of a cluster, by the bit numbers of CLU.RST (R213): 0 to 7 home banks, 8 flex, 9 bobbin RAM, 10 program
memory. -/
abbrev Bank := Fin 11

/-- What kind of weft transfer a timeout ends (R182). -/
inductive Transfer where
  /-- The outstanding load of a thread. -/
  | load (e : Eng) (t : Thr)
  /-- The oldest posted store of an engine. -/
  | store (e : Eng)
  /-- The table walk of an engine. -/
  | walk (e : Eng)
  /-- The oldest fill of an engine. -/
  | fill (e : Eng)
  /-- The block element of a thread. -/
  | block (e : Eng) (t : Thr)
  /-- A transfer of the shuttle for the descriptor of an SQ. -/
  | shuttle (n : Fin 8)
  /-- The front end's next write of a channel to its first or second bobbin. -/
  | bobbin (n : Chan) (second : Bool)
  /-- The recorder's read of a captured waveform. -/
  | wave
deriving DecidableEq, Repr

/-- Disagreement of the three copies of a meter after an interval (R256). -/
inductive CopyFault where
  | none
  /-- One copy differs and is rewritten. -/
  | oneCopy
  /-- All three copies differ. -/
  | allCopies
deriving DecidableEq, Repr

/-- How a companion access meets an access of the internal port to its word (R187, R188). -/
inductive Collision where
  | none
  /-- The internal port reads the word. -/
  | withRead
  /-- The internal port writes the word. -/
  | withWrite
deriving DecidableEq, Repr

/-- A place whose three copies disagree in the trip fabric (R283): a line or a mapped output. -/
inductive CopyPlace where
  | line (n : Fin 24)
  | output (j : Fin 23)
deriving DecidableEq, Repr

/-- How a nonvolatile commit attempt ends (R368, R369). -/
inductive NvOutcome where
  /-- Write and read-back match. -/
  | matched
  /-- Bytes 0 to 25 as they are read back differ in these bits, byte 0 lowest. -/
  | differs (flips : BitVec 208)
  /-- Busy too long after the sector's erase, or the status is unreadable. -/
  | silentErase
  /-- The same after the write, of which the first `k` bytes have been stored. -/
  | silentWrite (k : Fin 33)
  /-- Power is lost when `k` bytes have been stored (R368). -/
  | cutOff (k : Fin 33)
deriving DecidableEq, Repr

/-- A PCIe configuration request as the rules use it (R388, R389, R474). -/
inductive CfgRequest where
  | read (off : BitVec 12)
  /-- A write of the Command register's Bus Master Enable. -/
  | setBme (on : Bool)
  /-- A write of the PMCSR power state: D3hot or D0. -/
  | setD3 (on : Bool)
  /-- Any other write. -/
  | write (off : BitVec 12) (v : BitVec 32)
deriving DecidableEq, Repr

/-- How a host memory read ends (R395, R413, R414). -/
inductive HostRead where
  | data (c : Container)
  | unsupported
  | abort
  | poisoned
deriving DecidableEq, Repr

/-- How one access of a monitor command ends, where it does not simply succeed: a read, a write, or what the host returns for a
host-window word (R182 to R189, R395). -/
inductive MonEnd where
  | read (o : ReadOutcome)
  | write (o : WriteOutcome)
  | host (h : HostRead)
deriving DecidableEq, Repr

/-- The accesses of one monitor command that do not simply succeed: each by its place among the command's accesses, in their order from
0. -/
abbrev MonEnds := List (Nat × MonEnd)

/-- What a fault has left in one of the three copies of a configuration word of the collector: the copy, its word, and whether the word's
parity passes (R329). -/
structure CfgHit where
  copy : Fin 3
  word : Word
  parity : Bool
deriving DecidableEq, Repr

/-- A line that answers the monitor's command A (R486): a new value, a carriage return alone to step on to the next word, or "." to end. -/
inductive MonAnswer where
  | value (v : Word)
  | step
  | stop
deriving DecidableEq, Repr

/-- A fetched descriptor, as its little-endian fields (R407). -/
structure Descriptor where
  opc : BitVec 8
  flg : BitVec 8
  tag : Container
  grant0 : Container
  grant1 : Container
  grant2 : Container
  rsv10 : Container
  count : BitVec 32
  haddr : BitVec 64
  daddr : BitVec 32
  rsv28 : BitVec 32
  /-- Bytes 32 to 63, as sixteen 16-bit values. -/
  param : Vector Container 16
deriving DecidableEq, Repr

/-- How the read of a descriptor's 64 bytes ends (R405, R407, R413). -/
inductive DescRead where
  /-- The bytes, in ascending address. -/
  | bytes (b : Vector (BitVec 8) 64)
  /-- Unsupported Request, Completer Abort or a timeout. -/
  | failed
  | poisoned
deriving DecidableEq, Repr

/-- What ends a descriptor's data transfer before its count, if anything (R414); `at_` counts the words done. -/
inductive XferStop where
  | none
  /-- A device access fails (reason 0x01): persistent parity, weft failure or an error response. -/
  | device (at_ : Nat) (o : ReadOutcome)
  /-- A device write fails (reason 0x01). -/
  | deviceWrite (at_ : Nat) (o : WriteOutcome)
  /-- A host read fails (reason 0x02). -/
  | host (at_ : Nat)
  /-- Poisoned host data (reason 0x03). -/
  | poisoned (at_ : Nat)
deriving DecidableEq, Repr

/-- A device read of host memory that a completion timeout ends (R388). -/
inductive HostXfer where
  /-- The host-window load of a thread (R395). -/
  | load (e : Eng) (t : Thr)
  /-- The host-window read of a thread's block element (R85, R395). -/
  | block (e : Eng) (t : Thr)
  /-- The descriptor fetch of an SQ (R413). -/
  | fetch (n : Fin 8)
  /-- The data of a COPY_IN or LOAD_PROGRAM, with the words already received (R414). -/
  | copy (n : Fin 8) (data : List Container)
  /-- A request of the boot ROM's host load (R480, R483). -/
  | boot
deriving DecidableEq, Repr

/-- One 5-symbol copy of a trip frame (R430). -/
structure TripCopy where
  kind : BitVec 2
  line : BitVec 5
  origin : Word
  seq : Word
deriving DecidableEq, Repr

/-- A received BUDGET, EPOCH or MAIL frame (R438), with the CRC-16 that came at its end. -/
structure Frame where
  lseq : BitVec 4
  src : Word
  fseq : Word
  words : List Word
  crc : BitVec 16
deriving DecidableEq, Repr

/-- What a boot frame carries beside its image offset and data (R438, R480). -/
structure BootHead where
  lseq : BitVec 4
  src : Word
  fseq : Word
  /-- Word 2 of the payload, and words 4 and 5, which no rule uses in a boot frame. -/
  word2 : Word
  word4 : Word
  word5 : Word
  crc : BitVec 16
deriving DecidableEq, Repr

/-- The monitored clocks, sources 118 to 123 in order (R492). -/
inductive ClockName where
  | reference | pll | fabric | rc | khz32 | refclk
deriving DecidableEq, Repr

/-- The monitored rails, sources 124 to 129 in order (R498). -/
inductive Rail where
  | vcore | vioA | vioB | vdda | vkeep | vddSds
deriving DecidableEq, Repr

/-- How the delivery of an image ends physically (R483). -/
inductive LoadEnd where
  | ok
  /-- A target write fails (R184): code 0x65. -/
  | targetFail (off : Nat)
  /-- A source read returns an error: code 0x67. -/
  | sourceFail (off : Nat)
deriving DecidableEq, Repr

/-- The outcome of a message send (R92). -/
inductive SendEnd where
  | delivered | full | dead
deriving DecidableEq, Repr

/-- A command of the block: one constructor per row of spec/opcode_table.json, its summary and rule beside it. The table gives
no operands; these are what the row's rules name (notes/assumptions/5). The rows stand in the table's order, but those without operands
come last: Lean compiles at most 245 constructors that carry operands. -/
inductive Instr where
  /-- R14: One move of a thread passes through fetch, move and commit and writes its source value to its destination. -/
  | move (e : Eng) (fault : Option (Lane × LaneFault))
  /-- R43: The word 0x0000 moves IMM0 to NUL and is folded into the lane signature. -/
  | nop (e : Eng) (t : Thr)
  /-- R29: While no thread is ready, selection is repeated at the end of every engine clock. -/
  | idleSelect (e : Eng)
  /-- R38: A returned program line is written into the caches of all three lanes at the victim way. -/
  | fillComplete (e : Eng) (o : ReadOutcome)
  /-- R67: ALU.ADD computes A + v and sets the flags. -/
  | aluAdd (e : Eng) (t : Thr) (v : Word)
  /-- R67: ALU.ADC computes A + v + C and sets the flags. -/
  | aluAdc (e : Eng) (t : Thr) (v : Word)
  /-- R67: ALU.SUB computes A − v and sets the flags. -/
  | aluSub (e : Eng) (t : Thr) (v : Word)
  /-- R67: ALU.SBC computes A − v − (1 − C) and sets the flags. -/
  | aluSbc (e : Eng) (t : Thr) (v : Word)
  /-- R67: ALU.AND computes A and v. -/
  | aluAnd (e : Eng) (t : Thr) (v : Word)
  /-- R67: ALU.OR computes A or v. -/
  | aluOr (e : Eng) (t : Thr) (v : Word)
  /-- R67: ALU.XOR computes A xor v. -/
  | aluXor (e : Eng) (t : Thr) (v : Word)
  /-- R68: ALU.SHL shifts A left by v[3:0]. -/
  | aluShl (e : Eng) (t : Thr) (v : Word)
  /-- R68: ALU.SHR shifts A right logically by v[3:0]. -/
  | aluShr (e : Eng) (t : Thr) (v : Word)
  /-- R68: ALU.SAR shifts A right arithmetically by v[3:0]. -/
  | aluSar (e : Eng) (t : Thr) (v : Word)
  /-- R68: ALU.CMP sets the flags of A − v and leaves R unchanged. -/
  | aluCmp (e : Eng) (t : Thr) (v : Word)
  /-- R69: MUL.GO forms the signed 48-bit product of AH:A and BH:v. -/
  | mulGo (e : Eng) (t : Thr) (v : Word)
  /-- R69: MAC.MAC adds the product to the 48-bit accumulator. -/
  | macMac (e : Eng) (t : Thr) (v : Word)
  /-- R69: MAC.MSU subtracts the product from the accumulator. -/
  | macMsu (e : Eng) (t : Thr) (v : Word)
  /-- R69: MAC.MUL loads the accumulator with the product. -/
  | macMul (e : Eng) (t : Thr) (v : Word)
  /-- R69: MAC.CLR sets the accumulator to 0. -/
  | macClr (e : Eng) (t : Thr) (v : Word)
  /-- R69: MAC.SHR shifts the accumulator right arithmetically by v[5:0]. -/
  | macShr (e : Eng) (t : Thr) (v : Word)
  /-- R70: A MAC operation completes into the accumulator after its latency; `late`: the thread's next move,
  which waited for it, was selected before its exception arose (R28, R106). -/
  | macComplete (e : Eng) (t : Thr) (late : Bool)
  /-- R72: APX.RCP computes a normalised reciprocal of X. -/
  | apxRcp (e : Eng) (t : Thr) (v : Word)
  /-- R72: APX.SQ computes √X or 1/√X as Y[0] selects. -/
  | apxSq (e : Eng) (t : Thr) (v : Word)
  /-- R72: APX.L2 computes log₂ X or 2^y as Y[0] selects. -/
  | apxL2 (e : Eng) (t : Thr) (v : Word)
  /-- R72: APX.DIV computes the exact quotient and remainder of XH:v by Y. -/
  | apxDiv (e : Eng) (t : Thr) (v : Word)
  /-- R73: An APX operation completes into its result ports after its latency; `late`: the thread's next move,
  which waited for it, was selected before its exception arose (R28, R106). -/
  | apxComplete (e : Eng) (late : Bool)
  /-- R74: LSU.LDPI starts a double load from SEG:v and sets P to v + 2. -/
  | lsuLdpi (e : Eng) (t : Thr) (v : Word)
  /-- R74: LSU.LD1PI starts a single load from SEG:v and sets P to v + 1. -/
  | lsuLd1pi (e : Eng) (t : Thr) (v : Word)
  /-- R74: LSU.STPD posts a double store at SEG:(v − 2) and sets P to v − 2. -/
  | lsuStpd (e : Eng) (t : Thr) (v : Word)
  /-- R74: LSU.ST1PD posts a single store at SEG:(v − 1) and sets P to v − 1. -/
  | lsuSt1pd (e : Eng) (t : Thr) (v : Word)
  /-- R74: LSU.LDX starts a load at SEG:(v + X × scale). -/
  | lsuLdx (e : Eng) (t : Thr) (v : Word)
  /-- R74: LSU.STX posts a store at SEG:(v + X × scale). -/
  | lsuStx (e : Eng) (t : Thr) (v : Word)
  /-- R74: LSU.LDB starts a load at SEG:(v + X). -/
  | lsuLdb (e : Eng) (t : Thr) (v : Word)
  /-- R74: LSU.STB posts a store at SEG:(v + X). -/
  | lsuStb (e : Eng) (t : Thr) (v : Word)
  /-- R74: LSU.FNC starts a fence that waits for every posted store of the thread. -/
  | lsuFnc (e : Eng) (t : Thr) (v : Word)
  /-- R78: A fence completes when the last posted store of the thread has committed. -/
  | fenceComplete (e : Eng) (t : Thr)
  /-- R219: A load returns its data into LSU.Q and LSU.QH after its region latency. -/
  | loadComplete (e : Eng) (t : Thr) (o o2 : ReadOutcome) (host hostH : Container)
  /-- R78: A posted store commits to memory and frees its store-buffer entry. -/
  | storeCommit (e : Eng) (o o2 : WriteOutcome)
  /-- R200: A two-level walk reads the page tables for a missing translation and fills the TLB and walk cache. -/
  | tableWalk (e : Eng) (o1 o2 : ReadOutcome)
  /-- R82: BLK.GO with OP MOVE starts a block copy from source to destination. -/
  | blkMove (e : Eng) (t : Thr) (hi : BitVec 10)
  /-- R82: BLK.GO with OP FILL starts writing PAT to the destination. -/
  | blkFill (e : Eng) (t : Thr) (hi : BitVec 10)
  /-- R82: BLK.GO with OP CMP starts a compare that stops at the first differing pair. -/
  | blkCmp (e : Eng) (t : Thr) (hi : BitVec 10)
  /-- R82: BLK.GO with OP SCAN starts a scan for a match or mismatch of PAT under IGN. -/
  | blkScan (e : Eng) (t : Thr) (hi : BitVec 10)
  /-- R84: One element of a block operation is performed and advances the live state. -/
  | blkElement (e : Eng) (t : Thr) (o1 o2 : ReadOutcome) (ow : WriteOutcome) (host host2 : HostRead)
  /-- R84: A block operation ends with DONE set and releases its thread. -/
  | blkEnd (e : Eng) (t : Thr)
  /-- R86: PCU.JMP jumps to THI:v, or returns when the target is the return gate. -/
  | pcuJmp (e : Eng) (t : Thr) (v : Word)
  /-- R86: PCU.JAL writes LK with the next move's address and jumps to THI:v. -/
  | pcuJal (e : Eng) (t : Thr) (v : Word)
  /-- R86: PCU.RET jumps to LK. -/
  | pcuRet (e : Eng) (t : Thr) (v : Word)
  /-- R86: PCU.JNZ jumps to THI:v when CND is not 0. -/
  | pcuJnz (e : Eng) (t : Thr) (v : Word)
  /-- R23: A move to PCU.TM writes the thread mode, effective from the second following move. -/
  | pcuTm (e : Eng) (t : Thr) (v : Word)
  /-- R86: A machine-level move to PCU.KR writes a key-rights word. -/
  | pcuKr (e : Eng) (t : Thr) (v : Word)
  /-- R87: ICU.INV invalidates a line and its pin in the engine's three caches. -/
  | icuInv (e : Eng) (t : Thr) (v : Word)
  /-- R87: ICU.PIN pins a line, filling it first if absent. -/
  | icuPin (e : Eng) (t : Thr) (v : Word)
  /-- R87: ICU.SYNC discards every line buffer of the engine and optionally the whole cache. -/
  | icuSync (e : Eng) (t : Thr) (v : Word)
  /-- R89: SMP.OPEN attaches the thread's cursor to a channel's bobbin. -/
  | smpOpen (e : Eng) (t : Thr) (v : Word)
  /-- R89: SMP.SKIP advances the cursor by v samples. -/
  | smpSkip (e : Eng) (t : Thr) (v : Word)
  /-- R90: A pop of SMP.Q returns the next sample expanded to 24 bits and latches QH and SEQ. -/
  | smpQ (e : Eng) (t : Thr) (o : ReadOutcome)
  /-- R92: MSG.SND sends one word to the mailbox named by DST. -/
  | msgSnd (e : Eng) (t : Thr) (v : Word)
  /-- R92: MSG.FLUSH empties the selected own mailbox. -/
  | msgFlush (e : Eng) (t : Thr) (v : Word)
  /-- R92: A pop of MSG.Q removes the oldest word of the selected mailbox and latches FROM. -/
  | msgQ (e : Eng) (t : Thr)
  /-- R92: A message word reaches a mailbox and is kept or refused as full, setting interrupt line 8 to 11. -/
  | mailboxWordArrive (e : Eng) (t : Thr)
  /-- R93: INP.SNAP freezes or releases the thread's INP ports. -/
  | inpSnap (e : Eng) (t : Thr) (v : Word)
  /-- R94: TMR.START loads the thread timer and starts it. -/
  | tmrStart (e : Eng) (t : Thr) (v : Word)
  /-- R94: TMR.STOP stops the thread timer and clears EXP and OVF. -/
  | tmrStop (e : Eng) (t : Thr) (v : Word)
  /-- R95: A thread timer reaching 0 sets EXP, reloads or stops, and may set its interrupt line. -/
  | timerExpiry (e : Eng) (t : Thr)
  /-- R96: MMU.INVP invalidates every TLB entry of one page under every root. -/
  | mmuInvp (e : Eng) (t : Thr) (v : Word)
  /-- R96: MMU.INVK invalidates every TLB entry with a given key. -/
  | mmuInvk (e : Eng) (t : Thr) (v : Word)
  /-- R96: MMU.INVA invalidates the whole TLB and walk cache, or the walk cache only. -/
  | mmuInva (e : Eng) (t : Thr) (v : Word)
  /-- R99: TRP.SET sets the engine's request bit for one trip line. -/
  | trpSet (e : Eng) (t : Thr) (v : Word)
  /-- R99: TRP.CLR clears one trip request bit, or all with v = 31. -/
  | trpClr (e : Eng) (t : Thr) (v : Word)
  /-- R99: TRP.SETM sets the request bits of TL0 to TL11 by mask. -/
  | trpSetm (e : Eng) (t : Thr) (v : Word)
  /-- R99: TRP.SETMH sets the request bits of TL12 to TL23 by mask. -/
  | trpSetmh (e : Eng) (t : Thr) (v : Word)
  /-- R99: A changed engine request bit reaches the trip fabric and enters the raw value of its line. -/
  | tripRequestArrive (e : Eng)
  /-- R100: WDC.CHECK sends a check-in of task v[3:0] to the watchdog. -/
  | wdcCheck (e : Eng) (t : Thr) (v : Word)
  /-- R100: WDC.SERVE sends a watchdog service from a selvedge engine. -/
  | wdcServe (e : Eng) (t : Thr) (v : Word)
  /-- R101: SVP.WR writes v to the selvedge register at B:A. -/
  | svpWr (e : Eng) (t : Thr) (v : Word)
  /-- R101: SVP.WRI writes v at B:A and increments A. -/
  | svpWri (e : Eng) (t : Thr) (v : Word)
  /-- R101: SVP.RD reads the selvedge register at B:A into SVP.Q. -/
  | svpRd (e : Eng) (t : Thr) (v : Word)
  /-- R101: SVP.RDI reads at B:A and increments A. -/
  | svpRdi (e : Eng) (t : Thr) (v : Word)
  /-- R101: SVP.FNC waits until every earlier SVP write of the engine has taken effect. -/
  | svpFnc (e : Eng) (t : Thr) (v : Word)
  /-- R101: An SVP operation reaches the selvedge and takes effect or is refused with ERR. -/
  | svpTakeEffect (e : Eng)
  /-- R117: A thread ready for entry spends a slot capturing its frame and jumping to the vector of an interrupt, NMI or imprecise
  exception. -/
  | entrySlot (e : Eng) (o : WriteOutcome)
  /-- R121: A machine-level jump to the return gate waits for the thread's stores and restores the frame. -/
  | returnGate (e : Eng) (t : Thr) (o : ReadOutcome)
  /-- R115: A write of 1 to ENG.IPEND, IPENDH or IPENDX clears interrupt pending bits. -/
  | engIpendClear (m : Master) (e : Eng) (k : Fin 3) (v : Word)
  /-- R133: ENG.SWI.SET sets the pending bit of line 30. -/
  | engSwiSet (m : Master) (e : Eng)
  /-- R133: ENG.SWI.CLR clears the pending bit of line 30. -/
  | engSwiClr (m : Master) (e : Eng)
  /-- R25: ENG.TCTL.GO starts a halted thread at the entry address and frees its frames. -/
  | engTctlGo (m : Master) (e : Eng) (t : Thr)
  /-- R27: ENG.TCTL.HALT halts a running thread at the next slot boundary. -/
  | engTctlHalt (m : Master) (e : Eng) (t : Thr)
  /-- R31: A write of ENG.CFG sets shape, reservation and enable, or is refused. -/
  | engCfgWrite (m : Master) (e : Eng) (v : Word)
  /-- R144: Every request leaving the engine is voted bitwise over the lanes in the clock after its C state. -/
  | outputVote (e : Eng) (a b c : VoteFault) (copiesAgree : Bool)
  /-- R140: A pick closes after W commits or W × 3 ek of running and each lane sends its signature. -/
  | pickClose (e : Eng) (timed : Bool) (xa xb xc : DWord)
  /-- R141: The voted comparison of the signatures takes effect 6 ek after the close. -/
  | pickVerdict (e : Eng) (unitsAgree : Bool)
  /-- R156: The bulk copy of a re-threading completes. -/
  | bulkCopyEnd (e : Eng)
  /-- R156: At the next slot boundary the lanes' clocks are gated and the dirty queue and pause set are copied. -/
  | pauseStart (e : Eng)
  /-- R156: The pause ends and the three lanes resume in step with the odd lane unvoted. -/
  | pauseEnd (e : Eng) (ek : Word)
  /-- R165: A write of ENG.HINJ inverts one bit of a lane's next fold to test detection and re-threading. -/
  | engHinj (m : Master) (e : Eng) (v : Word)
  /-- R149: A lane's released input value changes after two clocks of agreement. -/
  | inputAgreed (e : Eng) (i : Input) (level : Bool) (v : InputView)
  /-- R152: Unequal views of an input for ENG.HIAG.TO × 16 ek count at source 135. -/
  | inputAgreementTimeout (e : Eng) (l : Lane)
  /-- R191: An idle bank of a gated cluster enters retention. -/
  | retentionEnter (c : Clu) (b : Bank)
  /-- R192: A bank in retention completes its wake and presents the waiting accesses. -/
  | bankWake (c : Clu) (b : Bank)
  /-- R194: A retention regulator falling low sets CLU.RLOST and counts cause 0x06. -/
  | retentionLoss (c : Clu) (b : Bank)
  /-- R182: A weft transfer not completed within 16,384 fk ends with an error response. -/
  | weftTransferTimeout (x : Transfer)
  /-- R190: An internal companion-RAM read that received BUSY is presented again after 8 fk. -/
  | busyRepresent (e : Eng) (t : Thr) (o o2 : ReadOutcome)
  /-- R178: A write of CLU.FLEX sets the flex mode and port masters or is refused. -/
  | cluFlexWrite (m : Master) (c : Clu) (v : Word)
  /-- R234: A group clock edge ending a decimation interval delivers filter results of its channels. -/
  | decimationIntervalEnd (n : Chan) (fast : Bool) (bits : List Bool) (f0 f1 : CopyFault)
  /-- R240: No group clock edge for 300 fk makes the group's channels invalid. -/
  | groupClockLost (g : Fin 12)
  /-- R240: Resumed group clock edges restart the channels' filters. -/
  | groupClockResume (g : Fin 12)
  /-- R240: No bitstream transition for 64 group clocks makes the channel invalid. -/
  | stuckBitstream (n : Chan)
  /-- R240: A transition on a stuck bitstream restarts the channel. -/
  | bitstreamTransition (n : Chan)
  /-- R242: A SAR conversion slot ends and its code is written to the result register and comparators. -/
  | conversionSlotEnd (adb : Bool) (code : Word) (done : Bool)
  /-- R246: The front end writes a sample or block into a bobbin and makes it available to cursors. -/
  | bobbinWrite (n : Chan) (second : Bool) (o : WriteOutcome) (k : Fin 9)
  /-- R257: MTR.CLR clears a meter's accumulators, counts and gaps and their shadow copies. -/
  | mtrClr (m : Master) (v : Word)
  /-- R259: MTR.LATCH copies both meters' accumulators into the MTR.L registers. -/
  | mtrLatch (m : Master) (v : Word)
  /-- R265: A companion read returns an exchange RAM or control word with parity. -/
  | companionRead (a : BitVec 13) (badParity : Bool) (c : Collision)
  /-- R265: A companion write stores a free-area word or is refused and counted. -/
  | companionWrite (a : BitVec 13) (v : Word) (parity both : Bool) (c : Collision)
  /-- R265: A companion write of CACK with bit 0 = 1 releases INT_N. -/
  | cack (v : Word) (parity : Bool)
  /-- R275: A fabric pin filter takes a new level after it has held for 4F fabric clocks. -/
  | fabricPinLevel (p : Pin) (level : Bool) (copies : BitVec 3)
  /-- R278: A comparator evaluates a new source value with hysteresis and persistence. -/
  | comparatorEvaluate (n : Fin 64)
  /-- R279: No new source value for 256 µs makes the comparator source invalid. -/
  | sourceInvalidTimeout (n : Fin 64)
  /-- R280: A write of TC.CFGn or TC.PERn resets the count and may turn the comparator off. -/
  | tcCfgWrite (m : Master) (n : Fin 64) (per : Bool) (v : Word)
  /-- R282: A write of TRF.TLREL releases latched lines whose raw value is 0. -/
  | tlrel (m : Master) (high : Bool) (v : Word)
  /-- R276: Selecting a GPIO on a line returns it to an input. -/
  | tlgWrite (m : Master) (n : Fin 24) (high : Bool) (v : Word)
  /-- R283: A trip-line or output copy differing for 4 fabric clocks counts at source 101. -/
  | copyDisagree (w : CopyPlace)
  /-- R290: A safety output read back unlike its command counts at source 102. -/
  | readbackMismatch (p : Fin 25)
  /-- R296: A write of PIO.CPCFG stores the pilot mode and duty or is refused. -/
  | pioCpcfgWrite (m : Master) (v : Word)
  /-- R300: A write of PIO.IMD starts or stops the injection wave. -/
  | pioImdWrite (m : Master) (v : Word)
  /-- R276: A write of PIO.GDIR sets GPIO directions, refused for trip-source GPIOs. -/
  | pioGdirWrite (m : Master) (high : Bool) (v : Word)
  /-- R301: A selected edge on a synchronised pin sets interrupt line 16 + k on every engine. -/
  | pioEvent (p : BitVec 6) (level : Bool)
  /-- R303: Every TRF configuration word is checked every 1,024 fk. -/
  | configCheckScan (off : Word) (bad : Bool)
  /-- R319: A fault event reaches the collector and is queued or dropped. -/
  | faultEvent (src : Fin 160) (cause : BitVec 7) (payload : DWord)
  /-- R322: The collector classifies one event of a source as minor, severe or notice and decides its reactions. -/
  | faultClassify (src : Fin 160) (bad : Option (Fin 4 × CfgHit))
  /-- R329: Every collector configuration word is compared and parity-checked once per 2,048 fk. -/
  | selfCheckScan (off : Word) (bad : Option CfgHit)
  /-- R312: A write of SEL.ENG names the selvedge engines or is refused. -/
  | selEngWrite (m : Master) (v : Word)
  /-- R313: A write of 1 to SEL.LOCK locks the selvedge until reset. -/
  | selLockWrite (m : Master) (v : Word)
  /-- R333: SEL.CMD.SAFE sets SAFE. -/
  | selCmdSafe (m : Master) (v : Word)
  /-- R335: SEL.CMD.RESET requests a commanded reset. -/
  | selCmdReset (m : Master) (v : Word)
  /-- R334: SEL.SREL.REL releases SAFE only when SEL.SBLK reads 0. -/
  | selSrel (m : Master) (v : Word)
  /-- R331: A write of SEL.ALIVE sets the ALIVE frequency from the next half-period. -/
  | selAliveWrite (m : Master) (v : Word)
  /-- R322: A write of FCL.SCLR clears SEV, TRP, ISO and the window of sources. -/
  | fclSclr (m : Master) (k : Fin 14) (v : Word)
  /-- R323: A write of a source's collector configuration takes effect in the next fabric clock or is refused. -/
  | fclConfigWrite (m : Master) (n : Fin 160) (k : Fin 4) (v : Word)
  /-- R344: A check-in reaching the watchdog raises its task's count. -/
  | checkIn (task : Fin 16)
  /-- R345: A service reaching the watchdog is judged early, valid or failed. -/
  | service (e : Eng) (t : Thr)
  /-- R350: WDG.COMMIT.GO checks and commits the staged period, window and expected counts. -/
  | wdgCommit (m : Master) (v : Word)
  /-- R352: A write of WDG.HOLD holds or releases the watchdog under TETHERED and SAFE. -/
  | wdgHold (m : Master) (v : Word)
  /-- R351: The clock monitor finding a stopped clock forces the safety outputs safe and sets SAFE. -/
  | wdgClockStop (monitoring : Bool)
  /-- R368: The recorder commits the oldest uncommitted record to NV with write and read-back. -/
  | nvCommit (o : NvOutcome)
  /-- R371: A write of REC.CFG with EN = 1 after VKEEP loss restores the recorder from NV. -/
  | recCfgWrite (m : Master) (v : Word)
  /-- R363: REC.SWGO writes a SOFT record from REC.SWP0 to REC.SWP3. -/
  | recSwgo (m : Master) (v : Word)
  /-- R365: REC.FGO starts a fetch of a record by SEQ from RAM or NV. -/
  | recFgo (m : Master) (v : Word)
  /-- R372: REC.WTRIG.GO starts a waveform capture and writes WHDR. -/
  | recWtrig (m : Master) (v : Word)
  /-- R372: Once the last sample is written the recorder reads and codes the waveform into WDATA and WEND records. -/
  | waveformCapture (o : ReadOutcome) (k : Fin 1024)
  /-- R376: SEL.RCONF.CONF confirms or refuses an armed recorder clear. -/
  | selRconf (m : Master) (v : Word)
  /-- R380: MON.CMD.ARM clears a gauge and starts counting. -/
  | monArm (m : Master) (g : Fin 32)
  /-- R380: MON.CMD.SNAP copies an armed gauge into its snapshot and stops it. -/
  | monSnap (m : Master) (g : Fin 32)
  /-- R379: A gauge value updates minimum, maximum, total and one bin, and may raise the alarm. -/
  | gaugeValue (g : Fin 32) (v : BitVec 36)
  /-- R474: A PCIe configuration request is answered, with retry status until the header is checked. -/
  | configRequest (q : CfgRequest)
  /-- R419: The link leaving L0 counts at source 104. -/
  | linkLeaveL0 (forD3 : Bool)
  /-- R406: A tail doorbell write submits descriptors on an SQ or is ignored. -/
  | sqTailDoorbell (n : Fin 8) (v : BitVec 32)
  /-- R406: A head doorbell write releases completion entries or is ignored. -/
  | cqHeadDoorbell (n : Fin 8) (v : BitVec 32)
  /-- R393: A host write through BAR2 writes a register as a weft master or is discarded and counted. -/
  | bar2Write (off : BitVec 20) (be : BitVec 4) (data : BitVec 32)
  /-- R394: A BAR request of another size or byte-enable pattern is refused and counted at source 82. -/
  | barBadRequest (isRead : Bool) (a : Addr)
  /-- R395: A host-window engine read returns its container or an error response. -/
  | hostReadComplete (e : Eng) (t : Thr) (o o2 : HostRead)
  /-- R400: SHT.GPCMD.CREATE creates a grant in the lowest free entry and returns its handle. -/
  | create (m : Master) (e : Eng)
  /-- R401: SHT.GPCMD.REVOKE invalidates a grant entry and advances or retires its generation. -/
  | revoke (m : Master) (e : Eng)
  /-- R403: Enabling an SQ checks its CQ and ring grant and resets its head and tail. -/
  | sqEnable (m : Master) (n : Fin 8)
  /-- R403: Disabling an SQ stops fetching after the executing descriptor. -/
  | sqDisable (m : Master) (n : Fin 8)
  /-- R403: Enabling a CQ sets head, tail, phase and PD. -/
  | cqEnable (m : Master) (n : Fin 8)
  /-- R403: Disabling a CQ is accepted only when no bound SQ is enabled. -/
  | cqDisable (m : Master) (n : Fin 8)
  /-- R421: SQCTL.UNQ lifts an SQ's quarantine and clears its count. -/
  | sqctlUnq (m : Master) (n : Fin 8)
  /-- R405: The shuttle reserves a CQ slot, reads a descriptor and checks it. -/
  | descriptorFetch (n : Fin 8) (r : DescRead)
  /-- R411: COPY_IN moves host words into device memory. -/
  | copyIn (n : Fin 8) (data : List Container) (stop : XferStop)
  /-- R411: COPY_OUT moves device words to host memory. -/
  | copyOut (n : Fin 8) (stop : XferStop)
  /-- R411: MSG delivers words from a descriptor into an engine mailbox. -/
  | msg (n : Fin 8)
  /-- R411: A refused MSG word is offered again every 1 µs until MSGTO. -/
  | mailboxRetry (n : Fin 8)
  /-- R411: GAUGE_READ copies a gauge's snapshot words to the host. -/
  | gaugeRead (n : Fin 8)
  /-- R411: REC_READ looks up records by SEQ and writes them to the host. -/
  | recRead (n : Fin 8) (stop : XferStop)
  /-- R375: REC_CLEAR arms a recorder clear and completes at its outcome. -/
  | recClear (n : Fin 8)
  /-- R411: LOAD_PROGRAM writes program words as aligned double stores. -/
  | loadProgram (n : Fin 8) (data : List Container) (stop : XferStop)
  /-- R411: FENCE completes when earlier descriptors of the named SQs have completed. -/
  | fence (n : Fin 8)
  /-- R405: The shuttle writes a completion and its phase word and applies moderation. -/
  | completionWrite (n : Fin 8)
  /-- R416: The CQ moderation timer expiring sends the MSI-X message. -/
  | cqTimerExpiry (n : Fin 8)
  /-- R429: A Jarsyn receiver gains sync after 3 clean commas. -/
  | syncAcquire (p : Port)
  /-- R429: A Jarsyn receiver loses sync on code violations or missing commas and counts a loss or ring break. -/
  | syncLoss (p : Port)
  /-- R436: An accepted TRIP_ADV arms a line and is forwarded. -/
  | tripAdv (p : Port) (c1 c2 c3 : Option TripCopy)
  /-- R436: An accepted TRIP_CFM sets chain_trip of its line and is forwarded. -/
  | tripCfm (p : Port) (c1 c2 c3 : Option TripCopy)
  /-- R436: An accepted TRIP_CXL closes a matching arm record and is forwarded. -/
  | tripCxl (p : Port) (c1 c2 c3 : Option TripCopy)
  /-- R435: The origin repeats TRIP_CFM every 1 ms while its line stays asserted. -/
  | confirmRepeat (n : Fin 24)
  /-- R436: An arm record's timer ending closes it and counts a lapsed advance. -/
  | armLapse (k : Fin 8)
  /-- R436: CHOLD ms without a confirm return chain_trip of a line to 0. -/
  | chainHoldExpiry (n : Fin 24)
  /-- R440: A received BUDGET frame is latched in JSN.RBUD and forwarded. -/
  | budget (p : Port) (f : Frame)
  /-- R440: A received EPOCH frame is latched in JSN.REPO and forwarded. -/
  | epoch (p : Port) (f : Frame)
  /-- R440: A received MAIL frame is checked and delivered at DST or forwarded. -/
  | mail (p : Port) (f : Frame)
  /-- R439: An ACK frame ends the sender's wait for a frame. -/
  | ack (p : Port) (lseq : BitVec 4) (crc : BitVec 16)
  /-- R439: No ACK within 2 µs resends the frame or drops it after 3 resends. -/
  | ackTimeout (p : Port)
  /-- R441: A write of JSN.TXCTL sends a BUDGET, EPOCH or MAIL frame. -/
  | jsnTxctl (m : Master) (v : Word)
  /-- R451: An accepted DEV.GO locks the setup registers and starts RUN. -/
  | devGo (m : Master) (v : Word)
  /-- R455: A write of DEV.MCTL.PRECISE sets or clears PRECISE. -/
  | devMctlPrecise (m : Master) (on : Bool)
  /-- R456: A write of DEV.MCTL.DOZE sets or clears DOZE. -/
  | devMctlDoze (m : Master) (on : Bool)
  /-- R456: A write of DEV.MCTL.DZMASK selects the clusters that may doze. -/
  | devMctlDzmask (m : Master) (v : Word)
  /-- R456: A cluster idle for 64 engine clocks under DOZE is clock-gated. -/
  | clusterGate (c : Clu)
  /-- R457: A wake event restarts a gated cluster's engine clocks. -/
  | clusterWake (c : Clu)
  /-- R458: MOD.SEAL.SEAL sets SEALED and clears TETHERED. -/
  | modSeal (m : Master)
  /-- R458: MOD.SEAL.UNSEAL clears SEALED while the seal is open. -/
  | modUnseal (m : Master)
  /-- R460: A write of MOD.CTL.SOLO sets or clears SOLO. -/
  | modSolo (m : Master) (on : Bool)
  /-- R466: POR_N low or TEST_EN high starts a cold reset. -/
  | coldReset (testEn : Bool)
  /-- R466: 1,024 fk after every reset cause has ended, BOOT or POWER-UP begins. -/
  | resetEnd (straps : BitVec 4)
  /-- R448: POR_N high with reference and PLL locked ends POWER-UP. -/
  | powerUpEnd (vkeepLost : Bool)
  /-- R496: The two die sensors convert every 100 µs. -/
  | thermalConversion (r0 r1 : Word)
  /-- R496: Temperature at the floor or above maximum counts at source 131. -/
  | overTemperature (aboveMax : Bool)
  /-- R492: A clock monitor finds a clock lost and counts cause 0x01. -/
  | clockLost (k : ClockName)
  /-- R492: A clock monitor finds a clock out of range and counts cause 0x02. -/
  | clockOutOfRange (k : ClockName)
  /-- R498: A rail below its good level counts cause 0x01. -/
  | supplyBelowGood (r : Rail)
  /-- R498: A rail above its limit counts cause 0x02. -/
  | supplyAboveLimit (r : Rail)
  /-- R479: The ROM reads and checks the image from QSPI flash. -/
  | qspiLoad (image : List (BitVec 8)) (outcome : LoadEnd)
  /-- R480: The host setting SHT.HWCTL.EN starts loading the image over PCIe. -/
  | hostLoad (image : List Container) (outcome : LoadEnd)
  /-- R480: A J0 boot frame delivers image words to the ROM. -/
  | bootFrame (off : DWord) (head : BootHead) (data : List Word) (outcome : LoadEnd)
  /-- R486: Monitor command A shows a word and takes a new value. -/
  | monitorA (a : Addr) (v : List MonAnswer) (x : MonEnds)
  /-- R486: Monitor command E shows n words. -/
  | monitorE (a : Addr) (n : Nat) (x : MonEnds)
  /-- R486: Monitor command F writes a value to n words. -/
  | monitorF (a : Addr) (n : Nat) (v : Word) (x : MonEnds)
  /-- R486: Monitor command C compares two ranges. -/
  | monitorC (a b : Addr) (n : Nat) (x : MonEnds)
  /-- R486: Monitor command M copies n words. -/
  | monitorM (a b : Addr) (n : Nat) (x : MonEnds)
  /-- R486: Monitor command S searches for a masked value. -/
  | monitorS (a : Addr) (n : Nat) (v : Word) (m : Word) (x : MonEnds)
  /-- R486: Monitor command I reads one register. -/
  | monitorI (a : Addr) (x : MonEnds)
  /-- R486: Monitor command O writes one register. -/
  | monitorO (a : Addr) (v : Word) (x : MonEnds)
  /-- R486: Monitor command G enters RUN from SETUP. -/
  | monitorG (x : MonEnds)
  /-- R486: Monitor command G e t starts a thread and may set a breakpoint. -/
  | monitorGThread (e : Eng) (t : Thr) (b : Option PAddr) (x : MonEnds)
  /-- R486: Monitor command H halts a thread and removes its engine's breakpoints. -/
  | monitorH (e : Eng) (t : Thr) (x : MonEnds)
  /-- R486: Monitor command L shows an engine's heddle registers. -/
  | monitorL (e : Eng) (x : MonEnds)
  /-- R486: Monitor command T shows a thread's state and frame. -/
  | monitorT (e : Eng) (t : Thr) (x : MonEnds)
  /-- R486: Monitor command K shows the collector state. -/
  | monitorK (x : MonEnds)
  /-- R486: Monitor command V shows records from a SEQ. -/
  | monitorV (q : BitVec 36) (n : Nat) (x : MonEnds)
  /-- R486: Monitor command X shows a gauge and may snapshot it. -/
  | monitorX (g : Fin 32) (snap : Bool) (x : MonEnds)
  /-- R486: Monitor command W writes words into QSPI flash. -/
  | monitorW (o : DWord) (n : Nat) (a : Addr) (back : List (BitVec 8)) (x : MonEnds)
  /-- R486: Monitor command Q reloads the image from a source without reset. -/
  | monitorQ (src : Fin 3) (image : List Word) (outcome : LoadEnd)
  /-- R10: A write to a register without its own row obeys its access code. -/
  | registerWrite (m : Master) (a : Addr) (v : Word)
  /-- R418: The PCIe link completes training and enters L0, setting SHT.ST.LUP and line 27. -/
  | linkEnterL0 (spd wid : BitVec 2)
  /-- R419: The device records a correctable or uncorrectable PCIe error and counts cause 0x02 or 0x03 at source 104. -/
  | linkErrorRecorded (uncorrectable : Bool)
  /-- R388: A device read of host memory with no completion within 50 µs ends with an error response counted at source 105. -/
  | completionTimeout (x : HostXfer)
  /-- R416: A host write to the MSI-X table in BAR0 that unmasks a vector sends its pending message. -/
  | msixVectorUnmask (k : Fin 32) (d : Fin 4) (v : BitVec 32)
  /-- R92: The outcome of a send returns to the sender's MSG.TXST as delivered, refused full, or ERR for a disabled or locked-up target. -/
  | msgSndComplete (e : Eng) (t : Thr)
  /-- R493: A lost or out-of-range clock returns, restoring its CLK.ST bit, OPS counting from the crystal, and collector operation on a
  resumed fabric clock. -/
  | clockReturn (k : ClockName)
  /-- R498: A rail rises back to its good level and its CLK.SUP bit returns to 1. -/
  | supplyReturn (r : Rail)
  /-- R330: The per-clock comparison finds two collector copies of state or decisions differing and causes a self-fault. -/
  | collectorStateMismatch (src : Fin 160)
  /-- R295: Lock travel or unlocked feedback beyond LOCKT ms sets lock_fault. -/
  | lockFault (hold : Bool)
  /-- R255: Each millisecond with an invalid meter input is counted in GAP. -/
  | meterGapMs
  /-- R263: At each snapshot period end the core commits the shadow, writes a snapshot buffer and DIR, and asserts INT_N. -/
  | snapshot (o : SnapOutcome := .ok)
  /-- R288: The common 40 kHz count toggles every running KD output. -/
  | kdHalfPeriod
  /-- R288: The SAFE_A and SAFE_B pair toggles each 25 µs while running. -/
  | safePairHalfPeriod
  /-- R292: One emergency-stop channel pressed alone for ESTD ms sets EDISC and counts. -/
  | estopDiscrepancy
  /-- R294: Both 60 V channels valid and low for 10 ms end the lock hold. -/
  | lockHoldEnd
  /-- R296: A 1 kHz pilot period starts and takes any new configuration. -/
  | cpPwmPeriod
  /-- R298: No classified sample for 2 ms sets STATE to FLT and STALE. -/
  | pilotStale
  /-- R300: IMD_INJ toggles each half of its period while enabled. -/
  | imdInjToggle
  /-- R331: ALIVE toggles at the end of each half-period while not frozen. -/
  | aliveHalfPeriod
  /-- R347: A period expiring without a valid service warns and starts the grace period. -/
  | wdgPeriodExpiry
  /-- R348: A grace period expiring sets SAFE, writes the expiry records and requests a watchdog reset. -/
  | wdgGraceExpiry
  /-- R362: A queued record takes its SEQ and check and is written whole into the RAM ring. -/
  | recordWrite
  /-- R369: After 100 ms without an NV response the recorder retries the same record. -/
  | nvRetry
  /-- R365: A record fetch ends with DONE or ABS. -/
  | fetchComplete
  /-- R376: No confirmation within 10 s disarms the clear and writes CLRREF. -/
  | clearLapse
  /-- R377: The NV ring erase after a clear ends. -/
  | nvEraseComplete
  /-- R361: Operating seconds advance after 32,768 crystal cycles. -/
  | opsIncrement
  /-- R390: PERST_N low resets the PCIe core and ring registers and abandons executing descriptors. -/
  | perstAssert
  /-- R474: PERST_N high lets the PCIe core leave reset. -/
  | perstDeassert
  /-- R433: A dedupe cache entry expires 64 µs after its entry. -/
  | dedupeExpiry
  /-- R466: RST_N low starts a warm reset. -/
  | warmReset
  /-- R466: The TAP leaving its idle states or EXTEST starts a test-access reset. -/
  | testAccessReset (xs : List TapInput := tapLeaves)
  /-- R348: A watchdog reset starts after the expiry records. -/
  | watchdogReset
  /-- R327: A RESET reaction starts a collector reset after the LOG records. -/
  | collectorReset
  /-- R335: A commanded reset starts within 64 fk of SEL.CMD.RESET. -/
  | commandedReset
  /-- R496: T ≥ 110 °C for 1 ms lowers the engine clock one step. -/
  | governorStepDown
  /-- R496: T ≤ 105 °C for 10 ms raises the engine clock one step. -/
  | governorStepUp
  /-- R496: Sensor readings differing by more than 8 °C for 1 ms count at source 130. -/
  | sensorDisagree
  /-- R472: At the start of BOOT the boot ROM on E0.T0 selects its source from the straps. -/
  | bootStart
  /-- R478: The ROM performs one setup record and waits on its fence. -/
  | setupRecord
  /-- R483: A J0 image that stops for 100 ms fails the boot with code 0x67. -/
  | bootSourceStall
deriving DecidableEq, Repr

end Sys2Proof
end

