-- ==== Sys2Proof/Decode.lean ====
section
/-! DEFINITION. The table of this block (spec/opcode_table.json) gives its rows no bits: no word spells a command, and
`decodeTableWord` answers none for every word. -/

namespace Sys2Proof

/-- The command a word spells by the table's bits: no row of the table has any (notes/assumptions/5). -/
def decodeTableWord (_nbits _w : Nat) : Option Instr := none

end Sys2Proof
end

