-- ==== Sys2Proof/Machine/State.lean ====
section
/-! DEFINITION. The state of the TVN-6412: every register, port, queue, buffer, counter, mode and pin the spec gives it, as
plain data, and the state after reset. Stored configuration registers live in one sparse register file keyed by their
word address (`Cells`, canonical over their reset values); what hardware maintains has fields of its own. -/

namespace Sys2Proof.Machine

/-- Sparse words keyed by address: strictly rising, and no entry equal to what an unlisted address reads as. -/
abbrev Cells (w : Nat) := List (Nat × BitVec w)

/-! ### Threads (chapters 01 to 03) -/

/-- Run state of a thread (R21). -/
inductive RunState where
  | halted | running | locked
deriving DecidableEq, Repr

/-- An 8-word program line with its line number PC[16:3], and the parity bit held beside each word (R36, R181). -/
structure Line where
  num : BitVec 14
  words : Vector PWord 8
  par : BitVec 8
deriving DecidableEq, Repr

/-- ALU operand, result and flags (R67). -/
structure AluState where
  a : Word := 0
  r : Word := 0
  n : Bool := false
  z : Bool := false
  c : Bool := false
  v : Bool := false
deriving DecidableEq, Repr

/-- MUL operands and product (R69). -/
structure MulState where
  a : Word := 0
  ah : Word := 0
  bh : Word := 0
  p : Quad := 0
deriving DecidableEq, Repr

/-- The MAC operations that complete later (R66, R69). -/
inductive MacOp where
  | mac | msu | mul | shr
deriving DecidableEq, Repr

/-- A MAC operation in flight: its product (or shift distance) and its trigger (R70, R125). -/
structure MacPend where
  op : MacOp
  arg : Quad
  pc : PAddr
  dest : BitVec 7
  /-- PRECISE was set when it was triggered: it holds the thread (R126, R455). -/
  precise : Bool
deriving DecidableEq, Repr

/-- MAC operands and accumulator (R69, R70). -/
structure MacState where
  a : Word := 0
  ah : Word := 0
  bh : Word := 0
  acc : Quad := 0
  pend : Option MacPend := none
deriving DecidableEq, Repr

/-- The APX operations (R71). -/
inductive ApxOp where
  | rcp | sq | l2 | div
deriving DecidableEq, Repr

/-- An APX operation in flight (R33, R71). -/
structure ApxPend where
  op : ApxOp
  x : DWord
  y : Word
  pc : PAddr
  dest : BitVec 7
  /-- PRECISE was set when it was triggered: it holds the thread (R126, R455). -/
  precise : Bool
deriving DecidableEq, Repr

/-- APX operands and results (R71). -/
structure ApxState where
  xh : Word := 0
  y : Word := 0
  r : Word := 0
  rh : Word := 0
  e : Word := 0
  rem : Word := 0
  pend : Option ApxPend := none
deriving DecidableEq, Repr

/-- An outstanding load (R74 to R80): physical and program addresses of both words. -/
structure Load where
  pa : Addr
  va : Addr
  /-- The second word of a double load. -/
  second : Option (Addr × Addr)
  /-- Split under R76. -/
  split : Bool
  /-- Made at machine level. -/
  machine : Bool
  /-- Its request has passed output voting (R144). -/
  sent : Bool := false
  /-- Host-window stores that the engine posted before it and that have not reached the host (R395). -/
  older : Nat := 0
  /-- Re-presentations that a companion read which received BUSY may still make, and the result that ended them (R190). -/
  tries : Option Nat := none
  result : Option (ReadOutcome × ReadOutcome) := none
deriving DecidableEq, Repr

/-- LSU operands, results, status and load in flight (R74 to R80). -/
structure LsuState where
  seg : Word := 0
  d : Word := 0
  dh : Word := 0
  x : Word := 0
  ctl : Word := 0
  q : Word := 0
  qh : Word := 0
  p : Word := 0
  part : Bool := false
  split : Bool := false
  busy : Bool := false
  rpl : Bool := false
  load : Option Load := none
  /-- The next move is the load-delay move (R75, R127). -/
  delay : Bool := false
  /-- New Q, and QH of a double load, that the load-delay move does not see yet (R75, R128). -/
  newQ : Option (Word × Option Word) := none
  /-- A deferred load fault: cause and the load's address (R80). -/
  fault : Option (BitVec 6 × Addr) := none
  /-- A fence waits for the thread's posted stores (R74, R78). -/
  fence : Bool := false
deriving DecidableEq, Repr

/-- The BLK ports, as operands or as live state (R81). -/
structure BlkPorts where
  src : Word := 0
  sseg : Word := 0
  dst : Word := 0
  dseg : Word := 0
  cnt : Word := 0
  pat : Word := 0
  ign : Word := 0
deriving DecidableEq, Repr

/-- Block-repeat of a thread (R81 to R85). -/
structure BlkState where
  opnd : BlkPorts := {}
  live : BlkPorts := {}
  op : BitVec 2 := 0
  sne : Bool := false
  done : Bool := false
  hit : Bool := false
  lt : Bool := false
  flt : Bool := false
  /-- An operation is running and holds the thread. -/
  active : Bool := false
  /-- The running operation has examined its last element. -/
  ended : Bool := false
  /-- BLK.GO of the operation was a LIT move (R110, BCTL.GLIT). -/
  glit : Bool := false
  /-- Address of the operation's BLK.GO move (R80, R130). -/
  goPc : PAddr := 0
  /-- Re-presentations that the element's companion-RAM read, which received BUSY, has had (R190). -/
  tries : Nat := 0
deriving DecidableEq, Repr

/-- Sample cursor and its ports (R89 to R91). -/
structure SmpState where
  sel : Word := 0
  /-- The attached channel. -/
  chan : Option Chan := none
  /-- Number of the next sample to pop, counted from entry to RUN. -/
  pos : Nat := 0
  ovr : Bool := false
  qh : Word := 0
  seq : Word := 0
deriving DecidableEq, Repr

/-- Message ports (R92). -/
structure MsgState where
  dst : Word := 0
  sel : Word := 0
  from_ : Word := 0
  tx : Word := 0
  /-- A send whose outcome has not returned. -/
  pend : Bool := false
deriving DecidableEq, Repr

/-- The thread timer (R94, R95). -/
structure TmrState where
  ldh : Word := 0
  cfg : Word := 0
  count : DWord := 0
  reload : DWord := 0
  /-- CFG in force, taken at START. -/
  cfgNow : Word := 0
  run : Bool := false
  exp : Bool := false
  ovf : BitVec 4 := 0
  /-- Fabric clocks left to the next decrement. -/
  pre : Nat := 0
  /-- Expiries that are due: how often the count has reached 0 since the last that was taken. -/
  due : Nat := 0
deriving DecidableEq, Repr

/-- MMU operand and fault status (R96, R97). -/
structure MmuState where
  vah : Word := 0
  fa : Word := 0
  fah : Word := 0
  fs : Word := 0
deriving DecidableEq, Repr

/-- Imprecise-exception ports (R98). -/
structure ExcState where
  ea : Word := 0
  eah : Word := 0
  cs : Word := 0
  port : Word := 0
  amask : Word := 0
deriving DecidableEq, Repr

/-- Selvedge port of a thread (R101). -/
structure SvpState where
  a : Word := 0
  b : Word := 0
  q : Word := 0
  st : Word := 0
  /-- The thread's last operation has not yet taken effect. -/
  pend : Bool := false
deriving DecidableEq, Repr

/-- A precise fault: cause code, VAL, FA and FAH, and what MMU.FS receives for causes 0x10 to 0x15 (R97, R108). -/
structure PFault where
  cause : BitVec 6
  val : Word := 0
  fa : Addr := 0
  fs : Word := 0
deriving DecidableEq, Repr

/-- A tail entry in place of a return (R122): the cause that replaced it, and what the gate found in the frame of the interrupted code,
TM.IEN and PCH.APRI. -/
structure Tail where
  cause : BitVec 6
  ien : Bool
  apri : BitVec 4
deriving DecidableEq, Repr

/-- One thread of an engine (R21). G0 does not exist: entry 0 of `g` is never read or written by a move. -/
structure Thread where
  g : Vector Word 32 := Vector.replicate 32 0
  pc : PAddr := 0
  lk : PAddr := 0
  tm : Word := 0x800
  kr : Vector Word 3 := Vector.replicate 3 0
  /-- TM and KR in force for the next move, while that move is a shadow move (R127, R129). -/
  shadow : Option (Word × Vector Word 3) := none
  run : RunState := .halted
  /-- A halt waits for the slot boundary (R27). -/
  haltReq : Bool := false
  lb : Option Line := none
  /-- Active priority, coded as PCH.APRI (R111). -/
  apri : BitVec 4 := 0xF
  alu : AluState := {}
  mul : MulState := {}
  mac : MacState := {}
  apx : ApxState := {}
  lsu : LsuState := {}
  blk : BlkState := {}
  thi : Word := 0
  cnd : Word := 0
  icuAh : Word := 0
  /-- PCU.IST: REF, HIT, FAIL (R88), and whether a pin's fill is awaited. -/
  ist : Word := 0
  pinPend : Bool := false
  smp : SmpState := {}
  msg : MsgState := {}
  /-- INP.V0 to INP.V3 as frozen by INP.SNAP (R93). -/
  inp : Option (Vector Word 4) := none
  tmr : TmrState := {}
  mmu : MmuState := {}
  exc : ExcState := {}
  /-- WDC.ST as the thread's last verdict left it, and whether a verdict is awaited (R34, R100). -/
  wdc : Word := 0
  wdcPend : Bool := false
  svp : SvpState := {}
  /-- The next move was selected before the exception of the operation that it waited for arose, and goes first (R28, R106). -/
  begun : Bool := false
  /-- The cause of the interrupt or NMI whose entry was begun (R118). -/
  entering : Option (BitVec 6) := none
  /-- A pending imprecise exception: its cause and failed store address (R125). -/
  pexc : Option (BitVec 6 × Addr) := none
  /-- A precise fault of a load-delay move, waiting for the load (R128). -/
  pfault : Option PFault := none
  /-- A return waits for its frame read (R121). -/
  ret : Bool := false
  /-- A return was replaced by a tail entry (R122). -/
  tail : Option Tail := none
  /-- The frame writer's staging: the words last captured for the thread, by number in the frame (R114, R135). -/
  staged : List (Nat × Word) := []
deriving DecidableEq, Repr

/-! ### Engines (chapters 01 to 04) -/

/-- One way of a cache set (R36). -/
structure Way where
  line : Line
  pin : Bool
deriving DecidableEq, Repr

/-- A cache set: four ways and the victim pointer (R36, R39). -/
structure CacheSet where
  ways : Vector (Option Way) 4 := Vector.replicate 4 none
  victim : Fin 4 := 0
deriving DecidableEq, Repr

/-- Why a line is being filled (R37, R40, R117). -/
inductive FillKind where
  | fetch | pin | vector
deriving DecidableEq, Repr

/-- A requested line fill (R37, R38). -/
structure Fill where
  t : Thr
  num : BitVec 14
  kind : FillKind
deriving DecidableEq, Repr

/-- A posted store (R78). -/
structure StoreEntry where
  t : Thr
  pa : Addr
  /-- The address the fault record shows (R80): virtual at task level. -/
  va : Addr
  data : Word
  /-- The second word of an aligned double store. -/
  data2 : Option Word
  /-- Second half of a split store (R79, PART). -/
  half2 : Bool
  machine : Bool
  pc : PAddr
  dest : BitVec 7
  /-- Its request has passed output voting (R144). -/
  sent : Bool := false
deriving DecidableEq, Repr

/-- A translation held by the TLB: root, VA[23:10] and the level-2 entry (R205). -/
structure TlbEntry where
  root : BitVec 2
  vpn : BitVec 14
  entry : DWord
deriving DecidableEq, Repr

/-- A walk-cache entry: root, VA[23:18] and the level-2 table's address (R205). -/
structure WalkEntry where
  root : BitVec 2
  idx : BitVec 6
  table : Addr
deriving DecidableEq, Repr

/-- A table walk in progress (R200, R205, R209). -/
structure Walk where
  t : Thr
  va : Addr
  write : Bool
  half2 : Bool
  blk : Bool
  val : Word
  /-- An invalidation committed meanwhile: the result is discarded (R209). -/
  discard : Bool := false
  /-- The thread has been entered or started meanwhile: a fault of the walk is met again by the move that missed, when it is
  executed again (R77). -/
  orphan : Bool := false
deriving DecidableEq, Repr

/-- An SVP operation on its way to the selvedge (R101). -/
structure SvpOp where
  t : Thr
  a : Word
  b : Word
  /-- `some v` writes v, `none` reads. -/
  write : Option Word
  fence : Bool
  /-- Its request has passed output voting (R144). -/
  sent : Bool := false
deriving DecidableEq, Repr

/-- A mailbox word with its origin as MSG.FROM shows it (R92). -/
structure MailWord where
  v : Word
  origin : Word
deriving DecidableEq, Repr

/-- The place a re-threading has reached (R156). -/
inductive RtPhase where
  | none
  /-- Steps 1 to 3: the bulk copy runs. -/
  | bulk
  /-- Step 4: the bulk copy has ended. -/
  | copied
  /-- Step 5: paused. -/
  | paused
  /-- Step 6: in step, unvoted. -/
  | inStep
deriving DecidableEq, Repr

/-- A closed pick awaiting its verdict (R141). -/
structure ClosedPick where
  sigs : Vector DWord 3
  /-- The rejoin comparison of R156, step 7. -/
  rejoin : Bool
  thr : Thr
  /-- Lanes whose folds of the pick took an injection (R165). -/
  inj : Vector Bool 3 := Vector.replicate 3 false
deriving DecidableEq, Repr

/-- The heddle of an engine (chapter 04). -/
structure Heddle where
  sig : Vector DWord 3 := Vector.replicate 3 0x5A5A5A
  /-- The lanes whose next fold takes W0[0] inverted, and those whose folds of the open pick took one (R165). -/
  inject : Vector Bool 3 := Vector.replicate 3 false
  injPick : Vector Bool 3 := Vector.replicate 3 false
  /-- Each lane's count of the commits and entry slots folded in the open pick (R140, R154). -/
  count : Vector Nat 3 := Vector.replicate 3 0
  lastThr : Thr := 0
  closed : List ClosedPick := []
  retired : Vector Bool 3 := Vector.replicate 3 false
  odd : Option Lane := none
  phase : RtPhase := .none
  /-- ENG.HST.STATE = 0b11. -/
  stopped : Bool := false
  cnt : Vector Word 3 := Vector.replicate 3 0
  /-- Fabric-time instants of each lane's last counted detections, newest first (R158). -/
  times : Vector (List Nat) 3 := Vector.replicate 3 []
  last : Word := 0
  maxp : Word := 0
  maxr : Word := 0
  picks : Word := 0
  /-- Engine-clock count at the detection being repaired, and the engine clocks its pause has gated (R164, HMAXR). -/
  since : Nat := 0
  gatedEk : Nat := 0
deriving DecidableEq, Repr

/-- The requests that one commit sends in one engine clock, waiting for output voting (R144, R145): the commit's number, its thread
and its one or two requests. -/
structure Out where
  slot : Nat
  t : Thr
  reqs : List Request
deriving DecidableEq, Repr

/-- What each lane of an engine holds for itself (R135): one copy of it stands in `Engine` for the lanes that agree. -/
structure EngineCore where
  threads : Vector Thread 8 := Vector.replicate 8 {}
  /-- Thread of the move last committed since entry to RUN (R29). -/
  last : Option Thr := none
  rr : Thr := 0
  /-- The thread selected for the next slot (R29). -/
  cur : Option Thr := none
  sets : Vector CacheSet 64 := Vector.replicate 64 {}
  fills : List Fill := []
  sbuf : List StoreEntry := []
  tlb : Vector (Option TlbEntry) 16 := Vector.replicate 16 none
  tlbPtr : Fin 16 := 0
  wcache : Vector (Option WalkEntry) 8 := Vector.replicate 8 none
  wcPtr : Fin 8 := 0
  walk : Option Walk := none
  mbox : Vector (List MailWord) 4 := Vector.replicate 4 []
  /-- Trip request bits TL0 to TL23 as TRP.RQ shows them (R99). -/
  trq : BitVec 24 := 0
  apxOwner : Option Thr := none
  blkOwner : Option Thr := none
  svpq : List SvpOp := []
  ipend : BitVec 32 := 0
  /-- Lines that have become pending in the running fabric clock (R11). -/
  ipendNow : BitVec 32 := 0
  /-- NMI pending on T0 (R120). -/
  nmi : Bool := false
  /-- Engine clock at which each pending line, and at 32 the NMI, was agreed (R118). -/
  agreed : Vector Nat 33 := Vector.replicate 33 0
  fuse : BitVec 8 := 0
  fsp : Vector Word 2 := #v[0x3F8, 0x3C0]
  /-- The lane's synchronised and released input levels by pin code (R148, R149). -/
  sync : BitVec 42 := 0
  inputs : BitVec 42 := 0
  /-- The lane's agreement stage does not release the fabric tick (R148, R152). -/
  tickOff : Bool := false
  /-- Engine clocks since entry to RUN (R94, TMR.FREE). -/
  free : Nat := 0
  /-- ENG configuration copies of a lane that stands still; a running lane's copies hold what the registers hold, since every write
  reaches every running lane (R135, R154). -/
  cfg : Option (Vector Word 67) := none
  /-- Requests of commits that have not been voted yet, oldest first (R144). -/
  out : List Out := []
deriving DecidableEq, Repr

/-- What waits at the delivery point while the engine's lanes are paused (R157). -/
inductive Delivery where
  /-- A load's data, with its replay and collision marks, or its failure and address. -/
  | load (t : Thr) (rpl busy : Bool) (q : Word) (qh : Option Word)
  | loadFail (t : Thr) (rpl busy : Bool) (cause : BitVec 6) (va : Addr)
  /-- The returned program line of a number, or its failure. -/
  | line (n : BitVec 14) (l : Option Line)
  /-- A mailbox word of a sender's thread. -/
  | mail (b : Fin 4) (w : MailWord)
  /-- The outcome of a send, a watchdog verdict's WDC.ST, and the end of an SVP operation. -/
  | sent (t : Thr) (r : SendEnd)
  | verdict (t : Thr) (st : Word)
  | svp (t : Thr) (err : Bool) (q : Option Word)
  /-- A released input. -/
  | input (i : Input) (level : Bool) (v : InputView)
deriving DecidableEq, Repr

/-- One engine (chapters 01 to 04): the state of the lanes that agree, and what the three lanes share. -/
structure Engine extends EngineCore where
  lock : Word := 0
  heddle : Heddle := {}
  /-- A lane whose state is not that of the others, or that no longer follows them: its own copy (R135). -/
  stray : Vector (Option EngineCore) 3 := Vector.replicate 3 none
  /-- The number of the next commit that sends requests. -/
  slot : Nat := 0
  /-- The trip request bits as last voted (R99, R160). -/
  trqOut : BitVec 24 := 0
  /-- Event lines that have toggled and await agreement (R148). -/
  lineIn : BitVec 32 := 0
  /-- The delivery point's queue in a pause, oldest first (R157). -/
  held : List Delivery := []
  /-- The requests that last left through output voting (R144). -/
  sent : List Request := []
deriving DecidableEq, Repr

/-! ### Clusters (chapter 05) -/

/-- Whether a bank is active, in retention or waking (R191, R192). -/
inductive BankMode where
  | active | retained | waking
deriving DecidableEq, Repr

/-- A cluster's memory state beside its words (R191 to R194, R213). -/
structure Cluster where
  banks : Vector BankMode 11 := Vector.replicate 11 .active
  /-- How often each bank's contents have become undefined (R194, R467). -/
  epoch : Vector Nat 11 := Vector.replicate 11 0
  rlost : Word := 0
  /-- Bits of CLU.RLOST set in the running fabric clock (R11). -/
  rlostNow : Word := 0
  ptcnt : Word := 0
  ppcnt : Word := 0
  ccnt : Word := 0
  pea : Addr := 0
  pest : Word := 0x00F
  /-- Clock-gated under DOZE (R456). -/
  gated : Bool := false
  /-- A bobbin write for an attached cursor has come while gated (R457). -/
  woken : Bool := false
  /-- The pending bits of its engines, the lowest-numbered first, as they stood when it was gated (R457). -/
  pendAt : Vector (BitVec 32) 8 := Vector.replicate 8 0
  /-- Cut off by ISOLATE (R326). -/
  iso : Bool := false
deriving DecidableEq, Repr

/-! ### Sensing front end, converters, meters, companion (chapter 07) -/

/-- One filter path of a channel (R234 to R236). -/
structure FilterPath where
  /-- Bits since the filter state was zero, newest first, as far back as the filter reaches. -/
  hist : List Bool := []
  /-- Outputs still to pass undelivered (R234). -/
  skip : Nat := 0
  /-- The last delivered result. -/
  value : DWord := 0
  /-- A result has been delivered since the last start. -/
  fresh : Bool := false
  /-- Decimation intervals ended since entry to RUN: the group's edge count divided by D (R234). -/
  ends : Nat := 0
  /-- The filter started inside the running interval, whose earlier bits count 0 (R234). -/
  part : Bool := false
deriving DecidableEq, Repr

/-- A write waiting at the front end for one copy of a bobbin: the bobbin-RAM words of one FULL sample or one BLOCK8 block, and
how many samples become available with it (R246). -/
structure BobWrite where
  words : List (Nat × Word)
  samples : Nat
  /-- Place in the order in which the group's writes leave the front end (R229). -/
  issue : Nat := 0
deriving DecidableEq, Repr

/-- One sensing channel (R232 to R251). -/
structure Channel where
  precise : FilterPath := { skip := 2 }
  fast : FilterPath := { skip := 1 }
  stuck : Bool := false
  /-- The over-range condition is on (R240). -/
  ovr : Bool := false
  /-- Samples delivered on the bobbin's source path (R239, SDF.SEQ). -/
  count : Nat := 0
  /-- Samples of the unfinished BLOCK8 block, oldest first (R250). -/
  block : List DWord := []
  /-- Writes waiting for the two copies (R245, R246). -/
  queue0 : List BobWrite := []
  queue1 : List BobWrite := []
  /-- Samples available to cursors in the two copies. -/
  avail0 : Nat := 0
  avail1 : Nat := 0
  /-- Bobbin disabled at entry to RUN (R247). -/
  disabled : Bool := false
  berr : Bool := false
  /-- `berr` was set in the running fabric clock (R11). -/
  berrNow : Bool := false
deriving DecidableEq, Repr

/-- Group-clock state (R240, R326). -/
structure Group where
  lost : Bool := false
  iso : Bool := false
  /-- Bobbin writes that have left the front end (R229). -/
  issued : Nat := 0
deriving DecidableEq, Repr

/-- The two converters (R242 to R244). -/
structure Adc where
  slotA : Nat := 0
  slotB : Nat := 0
  ra : Vector Word 16 := Vector.replicate 16 0
  rb : Vector Word 16 := Vector.replicate 16 0
  rrefA : Word := 0
  rrefB : Word := 0
  cntA : Word := 0
  cntB : Word := 0
  /-- The last conversion of the input failed (R279). -/
  badA : Vector Bool 16 := Vector.replicate 16 false
  badB : Vector Bool 16 := Vector.replicate 16 false
  /-- The paired slot that ADA last converted and its code, awaiting ADB's (R243). -/
  pairA : Option (Nat × Word) := none
  isoA : Bool := false
  isoB : Bool := false
deriving DecidableEq, Repr

/-- Accumulators and counts of a meter (R254, R255). -/
structure MeterAcc where
  imp : Nat := 0
  exp : Nat := 0
  n : BitVec 36 := 0
  gap : DWord := 0
deriving DecidableEq, Repr

/-- One meter of the metering core: the voted copy (R253 to R257). -/
structure Meter where
  acc : MeterAcc := {}
  /-- Enabled and its configuration accepted at entry to RUN (R253). -/
  on : Bool := false
  halted : Bool := false
  ce : Bool := false
  xce : Bool := false
  /-- Cross-check failed since reset; and since the last snapshot. -/
  x : Bool := false
  xSnap : Bool := false
  /-- Consecutive failing comparisons (R255). -/
  xrun : Nat := 0
  /-- An input is invalid; one has been in the current millisecond; and a gap began in it (R255). -/
  gap : Bool := false
  gapMs : Bool := false
  gapNew : Bool := false
  /-- A gap since the last snapshot (R261). -/
  gapSnap : Bool := false
  /-- Results with their interval that await their partner of the same interval; the check pair has its own copy of V (R253). -/
  v : Option (Nat × DWord) := none
  i : Option (Nat × DWord) := none
  xv : Option (Nat × DWord) := none
  xx : Option (Nat × DWord) := none
  /-- The last power product, after INV and CLC (R277). -/
  p : Quad := 0
deriving DecidableEq, Repr

/-- The triplicated always-on shadow (R257). -/
structure Shadow where
  acc : Vector MeterAcc 2 := Vector.replicate 2 {}
  seq : BitVec 36 := 0
  /-- The shadow was lost with VKEEP and has been started from 0 (R257). -/
  lost : Bool := false
deriving DecidableEq, Repr

/-- Metering core and companion port (R253 to R266, R273). -/
structure Metering where
  m : Vector Meter 2 := Vector.replicate 2 {}
  shadow : Shadow := {}
  /-- The MTR.L registers (R259). -/
  latch : Vector MeterAcc 2 := Vector.replicate 2 {}
  /-- A publication awaits its CACK, and one was made in the running fabric clock (R265). -/
  intLow : Bool := false
  intNow : Bool := false
  /-- In the running fabric clock: a companion access is in progress, and BUSY_N is low (R188, R273). -/
  act : Bool := false
  busyLow : Bool := false
  /-- That access is a read: the port drives its data balls (R265). -/
  reading : Bool := false
  pecnt : Word := 0
  xecnt : Word := 0
  /-- A[12:0] of the last erroneous companion access (R266, R273). -/
  lea : BitVec 13 := 0
  cmpIso : Bool := false
  /-- How often the companion RAM's contents have become undefined (R467; notes/assumptions/8). -/
  exEpoch : Nat := 0
  /-- The word the companion port last drove, with its parity bit (R265). -/
  driven : Option (Word × Bool) := none
deriving DecidableEq, Repr

/-! ### Trip fabric and vehicle side (chapter 08) -/

/-- A comparator (R278, R279). -/
structure Comparator where
  act : Bool := false
  cnt : Nat := 0
  /-- No new value for 256 µs (R279). -/
  stale : Bool := false
deriving DecidableEq, Repr

/-- The pilot decoder and generator (R296 to R298). -/
structure Pilot where
  state : BitVec 3 := 7
  diode : Bool := false
  stale : Bool := false
  cand : BitVec 3 := 7
  candCnt : Nat := 0
  badCnt : Nat := 0
  goodCnt : Nat := 0
  /-- The configuration in force, taken at a period start. -/
  cfg : Word := 0
  /-- CP_PWM's output register, and the fabric clocks of its last changes, the newest first, as far back as a conversion's window can look
  (R297). -/
  level : Bool := false
  changes : List Nat := [0]
  /-- A period of MODE 0b10 is in its high time. -/
  high : Bool := false
  /-- Fabric clock in which the running period started. -/
  start : Nat := 0
  /-- The override is in force, or CP_PWM has not resumed since it ended (R288). -/
  ovr : Bool := true
deriving DecidableEq, Repr

/-- The trip fabric (chapter 08). -/
structure Trip where
  tc : Vector Comparator 64 := Vector.replicate 64 {}
  /-- Lines asserted, and their voted raw values (R281, R282). -/
  asserted : BitVec 24 := 0
  raw : BitVec 24 := 0
  /-- The lines as each of the three copies has them (R274, R282, R283). -/
  copies : Vector (BitVec 24) 3 := Vector.replicate 3 0
  /-- Filtered level of each pin in the three copies (R275). -/
  filt : Vector (BitVec 3) 42 := Vector.replicate 42 0
  /-- Engine request bits as they stand at the fabric (R99). -/
  req : Vector (BitVec 24) 64 := Vector.replicate 64 0
  estopTrip : Bool := false
  edisc : Bool := false
  /-- Both channels have shown pressed since EDISC was set (R292). -/
  bothPressed : Bool := false
  /-- The two causes of lock_fault (R295): bit 0 travel, bit 1 the hold without the locked feedback. -/
  lockFault : BitVec 2 := 0
  /-- The 60 V rule's hold (R294). -/
  hold : Bool := false
  /-- door_open (R293). -/
  door : Bool := false
  /-- The lock hold, output 22 (R286). -/
  lockOut : Bool := true
  /-- Page-0 offsets whose configuration word fails its check (R303). -/
  badCfg : List Nat := []
  /-- TRF.CPEA.OFF. -/
  cpea : Word := 0
  /-- Phase of the common 40 kHz count, and of the SAFE pair (R288). -/
  kdPhase : Bool := false
  safePhase : Bool := false
  /-- Outputs that are running, that is, toggling. -/
  kdRun : BitVec 4 := 0
  safeRun : Bool := false
  pilot : Pilot := {}
  imd : Bool := false
  /-- The PIO's synchronised level of each pin code (R301). -/
  pio : BitVec 64 := 0
  /-- Outputs with a clock-monitor force (R351). -/
  forced : Bool := false
deriving DecidableEq, Repr

/-! ### Selvedge, collector, watchdog (chapters 09, 10) -/

/-- The requester of a memory or weft event (R175, R185). -/
inductive Requester where
  | master (m : Master)
  | frontEnd
  | recorder
deriving DecidableEq, Repr

/-- A waiting fault event (R317, R319), with its requester where R185 gives it one. -/
structure FaultEvent where
  cause : BitVec 7
  payload : DWord
  req : Option Requester := none
deriving DecidableEq, Repr

/-- Collector state of one source (R322, R340). -/
structure Source where
  sev : Bool := false
  trp : Bool := false
  iso : Bool := false
  open_ : Bool := false
  cnt : BitVec 8 := 0
  tOpen : Nat := 0
  tot : Word := 0
  waiting : List FaultEvent := []
  /-- The counted events classified in the running fabric clock, each with whether its cause is always severe (R322). -/
  nowEvs : List Bool := []
deriving DecidableEq, Repr

/-- The fault collector and selvedge control (chapter 09). -/
structure Collector where
  src : Vector Source 160 := Vector.replicate 160 {}
  lsrc : Word := 0
  lcs : Word := 0
  lpl : DWord := 0
  drop : Word := 0
  self : Bool := false
  selfCfg : Bool := false
  selfA : Word := 0
  nosel : Bool := false
  icnt : Word := 0
  ia : Addr := 0
  /-- ALIVE's level and the frequency in force (R331). -/
  alive : Bool := false
  freq : BitVec 6 := 10
  /-- A collector reset is due, with the lowest deciding source, and its RESET reactions are of the running fabric clock (R327). -/
  resetDue : Option (Fin 160) := none
  resetNow : Bool := false
  /-- An event has been classified in the running fabric clock (R340). -/
  lastNow : Bool := false
  /-- The copies of configuration words that a fault has struck, by page-1 offset: every other copy holds the word as it was written (R329). -/
  strays : List (Nat × CfgHit) := []
  /-- Configuration words written in the running fabric clock, by page-1 offset, as they stood before it (R323). -/
  olds : List (Nat × Word) := []
  /-- A commanded reset is due (R335). -/
  cmdReset : Bool := false
deriving DecidableEq, Repr

/-- A set of watchdog parameters: PER, C and the sixteen expected codes (R342, R344, R349). -/
structure WdgSet where
  per : DWord := 0x0186A0
  c : BitVec 3 := 0
  exp : Vector (BitVec 2) 16 := Vector.replicate 16 0
deriving DecidableEq, Repr

/-- What an engine has sent to the watchdog (R100, R344, R345). -/
inductive WdgMsg where
  | check (task : Fin 16)
  | serve (e : Eng) (t : Thr)
deriving DecidableEq, Repr

/-- A message word on its way to a mailbox, and its outcome on the way back (R92). -/
structure Flight where
  src : Eng
  t : Thr
  dst : Eng
  box : Fin 4
  v : Word
  done : Option SendEnd := none
deriving DecidableEq, Repr

/-- The watchdog (chapter 10). -/
structure Watchdog where
  /-- Check-ins and services on their way, oldest first (R100). -/
  inbox : List WdgMsg := []
  running : Bool := false
  grace : Bool := false
  held : Bool := false
  /-- A hold has ended: a new period starts in the next tick (R352). -/
  restart : Bool := false
  cstop : Bool := false
  mstop : Bool := false
  /-- Tick index i, and fabric clocks left of the running tick (R342). -/
  i : DWord := 0
  left : Nat := 0
  now : WdgSet := {}
  /-- A commit awaiting the next period (R350). -/
  pend : Option WdgSet := none
  cnt : Vector (BitVec 3) 16 := Vector.replicate 16 0
  /-- A service was already judged in this tick (R345). -/
  judged : Bool := false
  /-- Services that have arrived in the running fabric clock, and whether a period has expired in it (R345). -/
  served : List (Eng × Thr) := []
  expired : Bool := false
  lev : Word := 0
  svcnt : Word := 0
  /-- A watchdog reset is due (R348). -/
  resetDue : Bool := false
deriving DecidableEq, Repr

/-! ### Recorder and gauges (chapter 11) -/

/-- A record as it waits in the queue: what R359 lists (R358, R362). -/
structure Record where
  typ : BitVec 5
  code : BitVec 7
  src : Word
  pay : Quad
  /-- The fabric clock in which it arose (R362). -/
  fk : Nat := 0
deriving DecidableEq, Repr

/-- A slot of the NV memory: 32 bytes (R367). -/
abbrev Slot : Type := Vector Byte 32

/-- A CLEAR record awaiting its commit: its SEQ and words, and the SQ whose descriptor it completes, unless that is abandoned (R377,
R391). -/
structure ClearDue where
  seq : BitVec 36
  words : Vector Word 16
  sq : Option (Fin 8)
deriving DecidableEq, Repr

/-- A waveform capture under way (R372). -/
structure Wave where
  cl : Clu
  ch : Chan
  k : Nat
  n : Nat
  a : Nat
  /-- T: the next sample to be written at the trigger. -/
  t : Nat
  /-- The channel had a bobbin in the cluster at the trigger. -/
  ok : Bool
deriving DecidableEq, Repr

/-- The event recorder (chapter 11). The RAM ring's words lie in the memory at 0x910_000 (R364). -/
structure Recorder where
  queue : List Record := []
  nseq : BitVec 36 := 0
  cseq : BitVec 36 := 0
  /-- A record has been committed: REC.CSEQ names one (R368, R371). -/
  committed : Bool := false
  /-- SEQ of the oldest uncommitted record. -/
  next : BitVec 36 := 0
  chk : DWord := 0xB704CE
  ops : BitVec 36 := 0
  /-- Cycles of the running second: of the crystal, and of the RC oscillator counted in its place; and fabric clocks to the next of them
  (R361). -/
  sub : Nat := 0
  subRc : Nat := 0
  subLeft : Nat := 0
  pcc : DWord := 0
  /-- Oldest SEQ that a fetch may still return (R377). -/
  floor : BitVec 36 := 0
  /-- Oldest SEQ written into the RAM ring since the recorder was restored (R371). -/
  ramFrom : BitVec 36 := 0
  /-- The RAM ring's contents were lost with VKEEP: the number of the free values that unlisted words hold (R371). -/
  ramLost : Option Nat := none
  lost : Word := 0
  nvlost : Word := 0
  qdrop : Word := 0
  /-- Records lost since the last LOSS record (R370). -/
  lossSince : Nat := 0
  vkl : Bool := false
  /-- Incoming records are held back until the restore (R371). -/
  held : Bool := false
  nvFail : Bool := false
  /-- Rewrites left for the record being committed (R369). -/
  tries : Nat := 2
  /-- The nonvolatile memory did not respond: a retry waits (R369). -/
  silent : Bool := false
  /-- Commits are isolated until a reset (R326, R369). -/
  iso : Bool := false
  /-- The NV memory's slots that are not blank, by number: of the ring, and of the CLEAR log (R366, R367). -/
  nv : List (Nat × Slot) := []
  clog : List (Nat × Slot) := []
  /-- CLEAR-log slots used (R384). -/
  clogUsed : Nat := 0
  /-- Commands last sent at the recorder SPI port, each its bytes in order (R366, R368). -/
  spi : List (List Byte) := []
  /-- CLEAR records awaiting their commit, oldest first (R377). -/
  clears : List ClearDue := []
  /-- CLEAR records of confirmed clears in the queue, oldest first: the SQ of each one's descriptor, unless abandoned (R362, R377). -/
  confirmed : List (Option (Fin 8)) := []
  erase : Bool := false
  fetching : Bool := false
  fst : Word := 0
  fbuf : Vector Word 16 := Vector.replicate 16 0
  wave : Option Wave := none
  miss : Bool := false
  /-- An armed clear and the SQ of its descriptor (R375). -/
  armed : Option (Fin 8) := none
  /-- That descriptor has not been abandoned (R391). -/
  armedLive : Bool := false
deriving DecidableEq, Repr

/-- The running or snapshot values of a gauge (R379). -/
structure GaugeVals where
  count : Nat := 0
  min : DWord := 0
  max : DWord := 0
  tot : BitVec 36 := 0
  bins : Vector DWord 16 := Vector.replicate 16 0
deriving DecidableEq, Repr

/-- A gauge (R378 to R381). -/
structure Gauge where
  armed : Bool := false
  valid : Bool := false
  alm : Bool := false
  sat : Bool := false
  run : GaugeVals := {}
  snap : GaugeVals := {}
deriving DecidableEq, Repr

/-! ### Shuttle (chapter 12) -/

/-- An entry of the grant table (R399). -/
structure Grant where
  v : Bool := false
  ret : Bool := false
  gen : BitVec 7 := 0
  base : DWord := 0
  len : DWord := 0
  rights : BitVec 8 := 0
  owner : BitVec 6 := 0
deriving DecidableEq, Repr

/-- A descriptor in execution (R405, R411). -/
structure Exec where
  d : Descriptor
  /-- Words done (R415). -/
  prog : Nat
  /-- Its completion, once decided: status and result (R413, R414). -/
  status : Option (BitVec 16 × BitVec 32)
  /-- The head that its completion reports. -/
  head : Word
  /-- µs since the first refusal of a mailbox word (R411). -/
  refused : Option Nat
  /-- For FENCE: the SQs whose earlier descriptor has not completed (R411). -/
  wait : BitVec 8
deriving DecidableEq, Repr

/-- A submission ring (R403, R405, R424). -/
structure Sq where
  en : Bool := false
  head : Word := 0
  tail : Word := 0
  qc : BitVec 8 := 0
  quar : Bool := false
  rge : Bool := false
  cqoff : Bool := false
  abt : Bool := false
  at_ : Word := 0
  ap : DWord := 0
  exec : Option Exec := none
  /-- Stopped by its ring grant or by its CQ (R405, R420). -/
  stopped : Bool := false
deriving DecidableEq, Repr

/-- A completion ring (R405, R416, R425). -/
structure Cq where
  en : Bool := false
  head : Word := 0
  tail : Word := 0
  phase : Bool := false
  err : Bool := false
  pd : BitVec 8 := 0
  /-- The moderation timer runs (R416). -/
  timer : Bool := false
  /-- CTHR in force: a moderation field takes effect at the next completion (R416). -/
  thr : BitVec 8 := 1
deriving DecidableEq, Repr

/-- A completion as written to the host (R412). -/
structure Completion where
  cq : Fin 8
  slot : Word
  tag : Container
  status : BitVec 16
  prog : BitVec 32
  result : BitVec 32
  pword : Container
deriving DecidableEq, Repr

/-- The shuttle (chapter 12). -/
structure Shuttle where
  sq : Vector Sq 8 := Vector.replicate 8 {}
  cq : Vector Cq 8 := Vector.replicate 8 {}
  grants : Vector Grant 512 := Vector.replicate 512 {}
  /-- Number of the secret drawn at entry to BOOT (R398). -/
  key : Nat := 0
  /-- GPST and GPH of each engine's grant port (R400). -/
  gpst : Vector Word 64 := Vector.replicate 64 0
  gph : Vector (BitVec 36) 64 := Vector.replicate 64 0
  gfcnt : Word := 0
  pecnt : Word := 0
  gfh : BitVec 36 := 0
  gfsq : Word := 0
  lup : Bool := false
  prst : Bool := false
  d3 : Bool := false
  bme : Bool := false
  spd : BitVec 2 := 0
  wid : BitVec 2 := 0
  iso : Bool := false
  /-- Out of its reset state (R390, R474). -/
  ready : Bool := false
  /-- The PCIe core is out of reset (R474). -/
  coreUp : Bool := false
  /-- Configuration requests still receive retry status (R474). -/
  retry : Bool := false
  ssvid : Container := 0x1F4D
  ssid : Container := 0x6412
  /-- The SQ served last (R405). -/
  served : Fin 8 := 7
  /-- BAR0 and BAR2 as the host has set them (R388). -/
  bar0 : BitVec 32 := 0
  bar2 : BitVec 32 := 0
  /-- MSI-X table: address and data of each of the 32 vectors, their mask and pending bits (R388, R392, R416). -/
  msixAddr : Vector (BitVec 64) 32 := Vector.replicate 32 0
  msixData : Vector (BitVec 32) 32 := Vector.replicate 32 0
  mask : BitVec 32 := 0xFFFFFFFF
  pba : BitVec 32 := 0
  /-- The last message sent: an MSI-X vector, or a PME (`none`) in D3hot (R389). -/
  lastMsg : Option (Option (BitVec 5)) := none
  /-- Answer to the last configuration request: `none` retry status (R474). -/
  cfgAnswer : Option (BitVec 32) := none
  /-- The last completion written to the host (R412). -/
  lastCpl : Option Completion := none
  /-- Memory writes to the host last sent by a descriptor, a completion or an engine's store: byte address and bytes of each, in order
  (R395, R405, R411, R415). -/
  hostOut : List (Nat × List Byte) := []
  /-- The memory read last sent to the host: byte address and number of bytes (R395, R405, R411). -/
  hostIn : List (Nat × Nat) := []
  /-- The last BAR read that completed with Unsupported Request (R394). -/
  lastUr : Option Addr := none
deriving DecidableEq, Repr

/-! ### Jarsyn ports (chapter 13) -/

/-- A frame waiting for, or in, transmission (R438, R439). -/
structure TxFrame where
  typ : BitVec 4
  src : Word
  fseq : Word
  words : List Word
  /-- It is the device's own frame, counted by JSN.TXST (R441). -/
  own : Bool
deriving DecidableEq, Repr

/-- A symbol on a Jarsyn lane: a control symbol, or a data byte (R429). -/
inductive Symbol where
  | ctrl (b : Byte)
  | data (b : Byte)
deriving DecidableEq, Repr

/-- A Jarsyn port (R429 to R441). -/
structure JPort where
  sync : Bool := false
  iso : Bool := false
  /-- Trip frames sent, oldest first: three copies each (R430, R433). -/
  trips : List TripCopy := []
  /-- Other frames waiting; the first is being sent (R439). -/
  txq : List TxFrame := []
  resends : Nat := 0
  lseq : BitVec 4 := 0
  /-- LSEQ of the last frame received (R439). -/
  rxSeq : Option (BitVec 4) := none
  /-- LSEQ of the last ACK sent. -/
  acked : Option (BitVec 4) := none
  /-- The symbols of each frame put on the line, oldest first (R430, R438). -/
  sent : List (List Symbol) := []
deriving DecidableEq, Repr

/-- A key of the dedupe cache: KIND or TYPE, ORIGIN or SRC, line, SEQ or FSEQ (R433, R440), and when it was entered. -/
structure Dedupe where
  trip : Bool
  kind : BitVec 4
  origin : Word
  line : BitVec 5
  seq : Word
  at_ : Nat
deriving DecidableEq, Repr

/-- An arm record (R436). -/
structure Arm where
  port : Port
  origin : Word
  line : BitVec 5
  seq : Word
deriving DecidableEq, Repr

/-- What this device has announced of a local line (R430, R434, R435). -/
structure Local where
  seq : Word := 0
  /-- An advance is out. -/
  adv : Bool := false
  /-- A confirm is out and its line still asserted. -/
  cfm : Bool := false
  /-- Fabric clock until which a new advance is held back (R434). -/
  holdTo : Nat := 0
deriving DecidableEq, Repr

/-- The Jarsyn block (chapter 13). -/
structure Jarsyn where
  port : Vector JPort 3 := Vector.replicate 3 {}
  dedupe : List Dedupe := []
  arms : List Arm := []
  /-- Lines with a running hold of a received confirm (R436). -/
  held : BitVec 24 := 0
  /-- The events whose confirms those holds come from: ORIGIN, line and SEQ (R436). -/
  confirms : List (Word × BitVec 5 × Word) := []
  loc : Vector Local 24 := Vector.replicate 24 {}
  seq : Word := 0
  fseq : Word := 0
  fresh : Word := 0
  adrop : Word := 0
  mdrop : Word := 0
  busy : Bool := false
  dropped : BitVec 3 := 0
  rbud : Vector Word 4 := Vector.replicate 4 0
  rbsrc : Word := 0
  repo : Vector Word 4 := Vector.replicate 4 0
  resrc : Word := 0
deriving DecidableEq, Repr

/-! ### Phases, modes, resets, boot, clocks (chapters 14 to 16) -/

/-- The four phases (R448). -/
inductive Phase where
  | powerUp | boot | setup | run
deriving DecidableEq, Repr

/-- Phase, modes and resets (chapter 14). -/
structure Dev where
  phase : Phase := .boot
  safe : Bool := true
  /-- An event that sets SAFE has come in the running fabric clock (R334). -/
  safeNow : Bool := false
  degraded : Bool := false
  sealed : Bool := false
  tethered : Bool := false
  /-- RESET record CODE of the last reset (R466, R470). -/
  rkind : BitVec 3 := 1
  /-- The kind of highest rank among the resets joined so far, while in reset (R468). -/
  inReset : Option (BitVec 3) := none
  /-- A reset of the POR_N or RST_N pin is among those joined: its end latches the straps (R461). -/
  latch : Bool := false
  /-- TEST_EN holds the device in its cold reset (R523). -/
  testEn : Bool := false
  /-- The lowest deciding source of a collector reset, for the RESET record (R359). -/
  rsrc : BitVec 8 := 0
  /-- Latched BOOT[2:0] and DEVELOP (R461). -/
  boot : BitVec 3 := 0
  devl : Bool := false
  scnt : Word := 0
deriving DecidableEq, Repr

/-- Loading state of the boot ROM (chapter 15). -/
structure Boot where
  /-- BOOT_START has run and a source is being read. -/
  loading : Bool := false
  source : BitVec 3 := 0
  /-- Words of the image received so far. -/
  image : List Word := []
  /-- Setup records staged, oldest first: address, value and image word offset (R478, R481). -/
  records : List (Addr × Word × Nat) := []
  /-- A load of the monitor's Q command in SETUP (R486). -/
  inSetup : Bool := false
  auto : Bool := false
  mbaud : BitVec 3 := 0
  failed : Option (BitVec 7) := none
  /-- A setup record was refused or the load failed: no further record is performed (R483). -/
  stopped : Bool := false
  breakpoints : List (Eng × PAddr) := []
  /-- The monitor's last reply: words shown, or an error digit 1 to 4 (R485). -/
  reply : List (BitVec 36) := []
  error : Option (Fin 5) := none
  /-- Bytes of the flash read so far, and those of them whose group of three is not yet complete (R367, R479). -/
  fetched : Nat := 0
  rest : List Byte := []
  /-- Commands last sent to the boot flash, each its bytes in order (R479, R486). -/
  flash : List (List Byte) := []
  /-- What the W command last programmed, and read back as it was written: the first byte's place, and the bytes (R486). -/
  flashed : Option (Nat × List Byte) := none
deriving DecidableEq, Repr

/-- States of the TAP controller of IEEE 1149.1 (R512). -/
inductive TapState where
  | testLogicReset | runTestIdle
  | selectDr | captureDr | shiftDr | exit1Dr | pauseDr | exit2Dr | updateDr
  | selectIr | captureIr | shiftIr | exit1Ir | pauseIr | exit2Ir | updateIr
deriving DecidableEq, Repr

/-- The test access port (R512): its controller, the instruction register and its shift stage, the data register that shifts, and the
boundary register as last updated, a cell for each ball that the device can drive. -/
structure Tap where
  st : TapState := .testLogicReset
  ir : BitVec 4 := 2
  irShift : BitVec 4 := 0
  dr : List Bool := []
  cells : List Bool := []
deriving DecidableEq, Repr

/-- Clock, supply and thermal state (chapter 16). -/
structure Clk where
  /-- Engine clock now: 0 600, 1 480, 2 400, 3 300 MHz (R515). -/
  step : BitVec 2 := 0
  pllOk : Bool := true
  fsOk : Bool := true
  xOk : Bool := true
  rcOk : Bool := true
  kOk : Bool := true
  refOk : Bool := true
  /-- The fabric clock runs; while it does not, a loss of it waits to reach source 120 (R493). -/
  fabOk : Bool := true
  temp0 : Word := 0
  temp1 : Word := 0
  tmax : Word := 0
  sup : BitVec 6 := 0x3F
  steps : Word := 0
  /-- A conversion has been taken since reset. -/
  sensed : Bool := false
  /-- VCO cycles of the running engine clock that have passed, and those it takes in all (R490). -/
  vco : Nat := 0
  len : Nat := 4
deriving DecidableEq, Repr

/-- The whole device. -/
structure State where
  /-- Commands waiting, first in first out. -/
  pending : List Instr
  /-- Fabric clocks counted by the model (its own field; notes/assumptions/6). -/
  fk : Nat
  /-- Fabric clock t0 of entry to RUN (R451). -/
  runFk : Nat
  /-- Counter of free values taken (its own field; notes/assumptions/7). -/
  free : Nat
  /-- How often the boot ROM's stack and staging area has taken contents that no rule gives: as the ROM works, and at each entry to RUN
  (R472; its own field). -/
  runs : Nat
  /-- Stored registers by word address, canonical over `Reg.resetValue`. -/
  regs : Cells 12
  /-- Data words by physical word address, canonical over `State.memDefault`. -/
  mem : Cells 12
  /-- Program words by cluster × 131,072 + n, canonical over `State.progDefault`. -/
  prog : Cells 14
  /-- Stored words that are wrong (R181, R186): by word address, program words at 2²⁴ + their key, the bits in which the stored
  word, and in bit 14 its parity bit, differ from what was written; canonical over 0. -/
  upset : Cells 15
  engines : Vector Engine 64
  /-- Message words sent by engines whose outcome has not returned (R92). -/
  flights : List Flight
  clusters : Vector Cluster 8
  chans : Vector Channel 48
  groups : Vector Group 12
  adc : Adc
  mtr : Metering
  trip : Trip
  col : Collector
  wdg : Watchdog
  rcd : Recorder
  mon : Vector Gauge 32
  sht : Shuttle
  jsn : Jarsyn
  dev : Dev
  boot : Boot
  clk : Clk
  tap : Tap
deriving DecidableEq, Repr

/-- Ends a run with a fault. The spec gives every command of the table an effect on the state, or none: a physical error, a
refused write and an abandoned transfer are all effects. -/
inductive Fault where
  /-- Raised by no meaning (safe: it is never answered). -/
  | none_
deriving DecidableEq, Repr

/-- Ends a run with a refusal. -/
inductive Refusal where
  /-- A command that has no meaning yet, by its mnemonic (safe: the run stops). -/
  | notModelled (mnemonic : String)
deriving DecidableEq, Repr

/-- Levels of an undriven board at the input pins, by pin code (R525): DOOR_A, SEAL_OPEN_N, LOCK_FB0, ESTOP_A and NMI_N are
high, all others low. -/
def idlePins : BitVec 42 := 0x200B4000000

/-- The filtered level of every pin in the three copies of the trip fabric, on an undriven board (R275, R525); the lock's feedback has not
been taken yet, and reads 0b00 (R308). -/
def idleFilt : Vector (BitVec 3) 42 :=
  ⟨((List.range 42).map fun p => if idlePins.getLsbD p && p ≠ 0x1D then 7 else 0).toArray, by simp⟩

/-- The device at the start of BOOT after the first cold reset, with VKEEP intact and blank (R448, R467): every register at
its reset value, every engine halted, caches, queues and rings empty, SAFE set, PCC counted to 1 and its RESET record
waiting in the recorder's queue (R359, R361). Values the spec does not give are named in notes/assumptions/8 to 11. -/
def State.reset : State where
  pending := []
  fk := 0
  runFk := 0
  free := 0
  runs := 0
  regs := []
  mem := []
  prog := []
  upset := []
  flights := []
  engines := Vector.replicate 64 { inputs := idlePins, sync := idlePins }
  clusters := Vector.replicate 8 {}
  chans := Vector.replicate 48 {}
  groups := Vector.replicate 12 {}
  adc := {}
  mtr := {}
  trip := { filt := idleFilt,
            pio := idlePins.setWidth 41 |>.setWidth 64 }
  col := {}
  wdg := {}
  rcd := { pcc := 1, queue := [⟨5, 1, 0, 0, 0⟩] }
  mon := Vector.replicate 32 {}
  sht := { coreUp := true, retry := true }
  jsn := {}
  dev := {}
  boot := {}
  clk := {}
  tap := {}

end Sys2Proof.Machine
end

