-- ==== Sys2Proof/Machine/Regs.lean ====
section
/-! DEFINITION. The register map 0x800_000 to 0x84F_FFF: for every assigned word its access code, its reset value and the bits
its fields occupy. A word without an entry is a reserved address (R13). -/

namespace Sys2Proof.Machine

/-- Access codes (R10). -/
inductive Acc where
  | rw | ro | wo | w1c | lk | sv
deriving DecidableEq, Repr

/-- What the register map says of one word. Bits outside `mask` are reserved: they read 0 and a write of them is dropped
(notes/assumptions/17). -/
structure RegInfo where
  acc : Acc
  reset : Nat := 0
  mask : Nat := 0xFFF
deriving DecidableEq, Repr

/-- `some` of the entry when `lo ≤ o ≤ hi`. -/
def rng (o lo hi : Nat) : Bool := lo ≤ o && o ≤ hi

/-! ### Block bases -/

def devBase : Nat := 0x800000
def clkBase : Nat := 0x801000
def cluBase (c : Clu) : Nat := 0x804000 + c.val * 0x400
def sdfBase : Nat := 0x808000
def adcBase : Nat := 0x809000
def mtrBase : Nat := 0x80A000
def trfBase : Nat := 0x80C000
def monBase (g : Fin 32) : Nat := 0x80E000 + g.val * 0x40
def shtBase : Nat := 0x810000
def jsnBase : Nat := 0x812000
def recBase : Nat := 0x814000
def cmpBase : Nat := 0x816000
def pioBase : Nat := 0x818000
def engBase (e : Eng) : Nat := 0x820000 + e.val * 0x100
def selBase : Nat := 0x840000
def fclCfgBase : Nat := 0x841000
def fclStBase : Nat := 0x842000
def wdgBase : Nat := 0x843000
def modBase : Nat := 0x844000
def rconfBase : Nat := 0x845000

/-- DEV block (R470). -/
def devInfo : Nat → Option RegInfo
  | 0 => some ⟨.ro, 0x2B0, 0xFFF⟩
  | 1 => some ⟨.ro, 0x641, 0xFFF⟩
  | 2 => some ⟨.ro, 0, 0xFF8⟩
  | 3 => some ⟨.wo, 0, 0x001⟩
  | 4 => some ⟨.ro, 0, 0xFF0⟩
  | 5 => some ⟨.rw, 0, 0xCFF⟩
  | 6 => some ⟨.ro, 0, 0x0FF⟩
  | _ => none

/-- CLK block (R514, R515). -/
def clkInfo : Nat → Option RegInfo
  | 0 => some ⟨.lk, 0xC00, 0xC00⟩
  | 1 => some ⟨.ro, 0x3F0, 0xFF0⟩
  | 2 | 3 | 4 => some ⟨.ro, 0, 0xFFF⟩
  | 5 => some ⟨.ro, 0xFC0, 0xFC0⟩
  | 6 => some ⟨.ro, 0, 0xFFF⟩
  | _ => none

/-- CLU block of a cluster (R212, R213). -/
def cluInfo (o : Nat) : Option RegInfo :=
  if o = 0 then some ⟨.lk, 0, 0xCFF⟩
  else if o = 1 then some ⟨.lk, 0, 0x7FF⟩
  else if o = 2 then some ⟨.lk, 0x010, 0x0FF⟩
  else if o = 3 then some ⟨.ro, 0, 0x7FF⟩
  else if o = 4 then some ⟨.w1c, 0, 0x7FF⟩
  else if rng o 5 9 then some ⟨.ro, 0, 0xFFF⟩
  else if o = 0xA then some ⟨.ro, 0x00F, 0xCFF⟩
  else if rng o 0x10 0x1F then some ⟨.rw, 0, if o % 2 = 0 then 0xFFF else 0x00F⟩
  else if rng o 0x40 0x7F then some ⟨.rw, 0, if o % 2 = 0 then 0xFFF else 0x81F⟩
  else none

/-- SDF block (R268, R269). -/
def sdfInfo (o : Nat) : Option RegInfo :=
  if o ≤ 0xB then some ⟨.lk, 0, 0xE3F⟩
  else if rng o 0xC 0x10 then some ⟨.ro, 0, 0xFFF⟩
  else if rng o 0x11 0x14 then some ⟨.w1c, 0, 0xFFF⟩
  else if rng o 0x100 0x27F then
    match o % 8 with
    | 0 => some ⟨.lk, 0, 0xFFF⟩
    | 1 => some ⟨.lk, 0, 0xE00⟩
    | 2 => some ⟨.lk, 0, 0xFFC⟩
    | 3 => some ⟨.lk, 0x003, 0x00F⟩
    | 4 => some ⟨.lk, 0, 0x7FF⟩
    | 5 => some ⟨.rw, 0, 0x0FF⟩
    | _ => some ⟨.ro, 0, 0xFFF⟩
  else none

/-- ADC block (R270). -/
def adcInfo (o : Nat) : Option RegInfo :=
  if o = 0 then some ⟨.lk, 0, 0xCFF⟩
  else if o = 1 then some ⟨.lk, 0x010, 0x0FF⟩
  else if o = 2 || o = 3 then some ⟨.ro, 0, 0xFFF⟩
  else if rng o 0x10 0x1F then some ⟨.lk, 0, 0x03F⟩
  else if rng o 0x20 0x2F then some ⟨.lk, 0, 0x01F⟩
  else if rng o 0x40 0x61 then some ⟨.ro, 0, 0xFFF⟩
  else none

/-- MTR block (R271, R272). -/
def mtrInfo (o : Nat) : Option RegInfo :=
  if o = 0 then some ⟨.lk, 0, 0xFC0⟩
  else if rng o 1 8 then some ⟨.lk, 0, 0xFFF⟩
  else if o = 9 then some ⟨.lk, 0x00A, 0x3FF⟩
  else if o = 0xA || o = 0xB then some ⟨.lk, 0, 0xFFF⟩
  else if o = 0xC then some ⟨.wo, 0, 0x003⟩
  else if o = 0xD then some ⟨.wo, 0, 0x001⟩
  else if o = 0xE then some ⟨.ro, 0, 0xFFE⟩
  else if rng o 0x10 0x39 then some ⟨.ro, 0, 0xFFF⟩
  else none

/-- CMP block (R273). -/
def cmpInfo : Nat → Option RegInfo
  | 0 => some ⟨.lk, 0, 0x800⟩
  | 1 => some ⟨.ro, 0, 0xE00⟩
  | 2 | 3 | 4 => some ⟨.ro, 0, 0xFFF⟩
  | _ => none

/-- Reset values of TRF.THA to TRF.LHI (R307), by offset from 0x44D. -/
def trfThreshold : Nat → Nat
  | 0 => 0xD9A | 1 => 0xC00 | 2 => 0xA66 | 3 => 0x8CD | 4 => 0x733 | 5 => 0x111 | _ => 0x222

/-- TRF block, page 0 of the trip fabric (R307, R308). -/
def trfInfo (o : Nat) : Option RegInfo :=
  if o < 0x200 then
    match o % 8 with
    | 0 => some ⟨.sv, 0x001, 0xFFF⟩
    | 1 => some ⟨.sv, 0x001, 0x0FF⟩
    | 7 => none
    | _ => some ⟨.sv, 0, 0xFFF⟩
  else if o < 0x380 then
    if o % 16 ≤ 8 then some ⟨.sv, 0, 0xFFF⟩
    else if o % 16 = 9 then some ⟨.sv, 0, 0xFE0⟩
    else none
  else if rng o 0x400 0x42D then some ⟨.sv, 0, 0xFFF⟩
  else if o = 0x440 then some ⟨.sv, 0, 0xFFF⟩
  else if o = 0x441 || o = 0x442 then some ⟨.sv, 0, 0x00F⟩
  else if o = 0x443 || o = 0x444 then some ⟨.sv, 0, 0xFFF⟩
  else if o = 0x445 then some ⟨.sv, 0, 0x0FF⟩
  else if o = 0x446 then some ⟨.sv, 0, 0xFFF⟩
  else if o = 0x447 then some ⟨.sv, 0x032, 0x0FF⟩
  else if rng o 0x448 0x44A then some ⟨.sv, 0, 0xFFF⟩
  else if o = 0x44B then some ⟨.sv, 0x064, 0x0FF⟩
  else if o = 0x44C then some ⟨.sv, 0x004, 0x9FF⟩
  else if rng o 0x44D 0x453 then some ⟨.sv, trfThreshold (o - 0x44D), 0xFFF⟩
  else if o = 0x454 then some ⟨.sv, 0x0D0, 0x0FF⟩
  else if rng o 0x460 0x46F then some ⟨.sv, 0, 0xFFF⟩
  else if rng o 0x480 0x489 then some ⟨.ro, 0, 0xFFF⟩
  else if o = 0x48A then some ⟨.ro, 0x007, 0x01F⟩
  else if o = 0x48B then some ⟨.ro, 0, 0xFF0⟩
  else if o = 0x48C then some ⟨.ro, 0xFFF, 0xFFF⟩
  else if o = 0x48D then some ⟨.ro, 0x7FF, 0x7FF⟩
  else if o = 0x48E then some ⟨.ro, 0, 0xFFF⟩
  else if o = 0x4A0 || o = 0x4A1 then some ⟨.sv, 0, 0xFFF⟩
  else none

/-- MON registers of one gauge (R386, R387). -/
def monInfo (o : Nat) : Option RegInfo :=
  if o = 0 then some ⟨.rw, 0, 0xFFC⟩
  else if o = 1 then some ⟨.rw, 0, 0xFFF⟩
  else if o = 2 then some ⟨.rw, 0, 0x03F⟩
  else if rng o 3 6 then some ⟨.rw, 0, 0xFFF⟩
  else if o = 7 then some ⟨.wo, 0, 0x003⟩
  else if o = 8 then some ⟨.ro, 0, 0xF00⟩
  else if rng o 9 0x2F then some ⟨.ro, 0, 0xFFF⟩
  else none

/-- SHT block (R423 to R426). -/
def shtInfo (o : Nat) : Option RegInfo :=
  if o < 0x100 then
    match o with
    | 0 => some ⟨.lk, 0x004, 0x0FF⟩
    | 1 => some ⟨.lk, 0x064, 0xFFF⟩
    | 2 => some ⟨.lk, 0x002, 0x003⟩
    | 3 => some ⟨.ro, 0, 0xFF0⟩
    | 4 => some ⟨.rw, 0, 0x81F⟩
    | 5 | 6 => some ⟨.ro, 0, 0xFFF⟩
    | 7 => some ⟨.ro, 0x200, 0x3FF⟩
    | 8 | 9 | 10 => some ⟨.ro, 0, 0xFFF⟩
    | 11 => some ⟨.ro, 0, 0x1F3⟩
    | 0x10 | 0x11 | 0x12 | 0x13 => some ⟨.rw, 0, 0xFFF⟩
    | 0x14 => some ⟨.rw, 0, 0x00F⟩
    | 0x15 => some ⟨.rw, 0, 0x001⟩
    | _ => none
  else if o < 0x200 then
    match o % 32 with
    | 0 | 1 | 2 | 3 => some ⟨.rw, 0, 0xFFF⟩
    | 4 => some ⟨.rw, 0, 0x00F⟩
    | 5 => some ⟨.rw, 0x00F, 0xFFF⟩
    | 6 => some ⟨.rw, 0, 0x007⟩
    | 7 | 8 | 9 => some ⟨.rw, 0, 0xFFF⟩
    | 10 => some ⟨.rw, 0, 0x801⟩
    | 11 => some ⟨.ro, 0, 0xFE0⟩
    | 14 => some ⟨.ro, 0, 0x0FF⟩
    | 12 | 13 | 15 | 16 | 17 => some ⟨.ro, 0, 0xFFF⟩
    | _ => none
  else if o < 0x300 then
    match o % 32 with
    | 0 | 1 | 2 | 3 => some ⟨.rw, 0, 0xFFF⟩
    | 4 => some ⟨.rw, 0, 0x00F⟩
    | 5 => some ⟨.rw, 0x00F, 0xFFF⟩
    | 6 => some ⟨.rw, 0, 0x81F⟩
    | 7 => some ⟨.rw, 0x001, 0x0FF⟩
    | 8 => some ⟨.rw, 0, 0xFFF⟩
    | 9 => some ⟨.rw, 0, 0x800⟩
    | 10 => some ⟨.ro, 0, 0xF00⟩
    | 11 | 12 => some ⟨.ro, 0, 0xFFF⟩
    | 13 => some ⟨.ro, 0, 0x0FF⟩
    | _ => none
  else if rng o 0x400 0x7FF then
    match o % 16 with
    | 0 | 1 | 2 | 3 => some ⟨.rw, 0, 0xFFF⟩
    | 4 => some ⟨.rw, 0, 0x0FF⟩
    | 5 => some ⟨.rw, 0, 0x1FF⟩
    | 6 => some ⟨.wo, 0, 0x003⟩
    | 7 => some ⟨.ro, 0, 0xDFF⟩
    | 8 | 9 | 10 => some ⟨.ro, 0, 0xFFF⟩
    | _ => none
  else if rng o 0x1000 0x1FFF then
    match o % 8 with
    | 0 | 1 | 2 | 3 => some ⟨.ro, 0, 0xFFF⟩
    | 4 => some ⟨.ro, 0, 0x0FF⟩
    | 5 => some ⟨.ro, 0, 0xE7F⟩
    | 6 => some ⟨.ro, 0, 0x03F⟩
    | _ => none
  else none

/-- JSN block (R447). -/
def jsnInfo (o : Nat) : Option RegInfo :=
  if o = 0 then some ⟨.lk, 0, 0xFFF⟩
  else if o = 1 then some ⟨.lk, 0, 0xFFC⟩
  else if o = 2 then some ⟨.lk, 0x014, 0xFFF⟩
  else if o = 3 then some ⟨.lk, 0x003, 0x0FF⟩
  else if o = 4 || o = 5 then some ⟨.lk, 0, 0xFFF⟩
  else if o = 6 then some ⟨.ro, 0, 0xCCC⟩
  else if rng o 7 0xD then some ⟨.ro, 0, 0xFFF⟩
  else if rng o 0x10 0x24 then some ⟨.rw, 0, 0xFFF⟩
  else if o = 0x25 then some ⟨.wo, 0, 0xF1F⟩
  else if o = 0x26 then some ⟨.ro, 0, 0xF00⟩
  else if rng o 0x30 0x34 || rng o 0x38 0x3C then some ⟨.ro, 0, 0xFFF⟩
  else none

/-- REC block (R383, R384). -/
def recInfo (o : Nat) : Option RegInfo :=
  if o = 0 then some ⟨.lk, 0, 0xFFF⟩
  else if o = 1 then some ⟨.ro, 0, 0xF00⟩
  else if rng o 2 0xF then some ⟨.ro, 0, 0xFFF⟩
  else if o = 0x10 then some ⟨.rw, 0, 0xFFF⟩
  else if o = 0x11 then some ⟨.rw, 0x001, 0xFFF⟩
  else if o = 0x12 then some ⟨.rw, 0, 0x3FF⟩
  else if o = 0x13 then some ⟨.wo, 0, 0x001⟩
  else if o = 0x14 then some ⟨.ro, 0, 0xC00⟩
  else if o = 0x15 then some ⟨.ro, 0, 0xCFF⟩
  else if rng o 0x20 0x22 then some ⟨.rw, 0, 0xFFF⟩
  else if o = 0x23 then some ⟨.wo, 0, 0x001⟩
  else if o = 0x24 then some ⟨.ro, 0, 0xE00⟩
  else if rng o 0x30 0x3F then some ⟨.ro, 0, 0xFFF⟩
  else if rng o 0x40 0x43 then some ⟨.rw, 0, 0xFFF⟩
  else if o = 0x44 then some ⟨.wo, 0, 0x07F⟩
  else none

/-- PIO block (R309, R310). -/
def pioInfo (o : Nat) : Option RegInfo :=
  if o ≤ 3 then some ⟨.rw, 0, 0xFFF⟩
  else if o = 4 || o = 5 then some ⟨.ro, 0, 0xFFF⟩
  else if o = 6 then some ⟨.rw, 0, 0xFFF⟩
  else if o = 7 then some ⟨.rw, 0, 0xBFF⟩
  else if o = 8 then some ⟨.rw, 0, 0x001⟩
  else if o = 9 then some ⟨.ro, 0, 0xE00⟩
  else if rng o 0x10 0x17 then some ⟨.rw, 0, 0xC3F⟩
  else none

/-- ENG block of an engine (R56 to R59, R132, R133, R163, R164). -/
def engInfo (o : Nat) : Option RegInfo :=
  match o with
  | 0x00 => some ⟨.lk, 0, 0xFE0⟩
  | 0x01 => some ⟨.lk, 0x001, 0x0FF⟩
  | 0x02 => some ⟨.lk, 0, 0xFFF⟩
  | 0x03 => some ⟨.lk, 0, 0x01F⟩
  | 0x04 => some ⟨.wo, 0, 0xC07⟩
  | 0x05 | 0x06 => some ⟨.ro, 0, 0x0FF⟩
  | 0x10 => some ⟨.lk, 0, 0x1FF⟩
  | 0x11 => some ⟨.lk, 0x07F, 0x07F⟩
  | 0x12 => some ⟨.lk, 0x3F8, 0x3FF⟩
  | 0x13 => some ⟨.lk, 0x3C0, 0x3FF⟩
  | 0x14 => some ⟨.lk, 0x3C0, 0x3FF⟩
  | 0x15 => some ⟨.lk, 0x388, 0x3FF⟩
  | 0x16 => some ⟨.ro, 0x3F8, 0x3FF⟩
  | 0x17 => some ⟨.ro, 0x3C0, 0x3FF⟩
  | 0x18 => some ⟨.ro, 0, 0x0FF⟩
  | 0x19 => some ⟨.ro, 0, 0xF3F⟩
  | 0x1A | 0x1B => some ⟨.w1c, 0, 0xFFF⟩
  | 0x1C => some ⟨.w1c, 0, 0x8FF⟩
  | 0x1D => some ⟨.wo, 0, 0x003⟩
  | 0x1E => some ⟨.ro, 0xFFF, 0xFFF⟩
  | 0x40 => some ⟨.lk, 0x301, 0xF03⟩
  | 0x41 => some ⟨.lk, 0x3E8, 0xFFF⟩
  | 0x42 => some ⟨.lk, 0x040, 0x0FF⟩
  | 0x43 => some ⟨.ro, 0, 0xFE0⟩
  | 0x44 | 0x45 | 0x46 => some ⟨.ro, 0, 0xFFF⟩
  | 0x47 => some ⟨.ro, 0, 0xC7F⟩
  | 0x48 | 0x49 | 0x4A => some ⟨.ro, 0, 0xFFF⟩
  | 0x4B => some ⟨.wo, 0, 0x003⟩
  | 0x80 => some ⟨.ro, 0xFFF, 0xFFF⟩
  | 0x81 => some ⟨.ro, 0x0FF, 0x0FF⟩
  | _ => if rng o 0x20 0x3F then some ⟨.rw, 0, 0x07F⟩ else none

/-- SEL page 0 (R337, R338). -/
def selInfo : Nat → Option RegInfo
  | 0 => some ⟨.lk, 0, 0x0FF⟩
  | 1 => some ⟨.lk, 0, 0x001⟩
  | 2 => some ⟨.ro, 0x800, 0xFC0⟩
  | 3 => some ⟨.sv, 0x00A, 0x03F⟩
  | 4 => some ⟨.sv, 0, 0x003⟩
  | 5 => some ⟨.sv, 0, 0x001⟩
  | 6 => some ⟨.ro, 0, 0x01F⟩
  | 7 | 8 | 9 => some ⟨.ro, 0, 0xFFF⟩
  | _ => none

/-- Fixed sources of the table of R320. -/
def srcFixed (n : Nat) : Bool := n = 100 || n = 117 || n = 118 || n = 119 || n = 124

/-- N of the table of R320. -/
def srcN (n : Nat) : Nat :=
  if n ≤ 63 then 3 else if n ≤ 79 then 8 else if n = 80 then 16 else if n = 96 || n = 97 || n = 101 then 4
  else if rng n 104 108 then 4 else if rng n 110 112 then 8 else if n = 113 || n = 114 then 4
  else if n = 130 || n = 132 || n = 133 || n = 135 then 4 else 1

/-- Minor set of the table of R320. -/
def srcMinor (n : Nat) : Nat := if n ≤ 63 then 0x03 else if srcFixed n then 0 else 0x01

/-- Severe set of the table of R320. -/
def srcSevere (n : Nat) : Nat :=
  if n ≤ 63 || srcFixed n || n = 101 || n = 102 || n = 103 || n = 120 || n = 125 || n = 131 then 0x23 else 0x03

/-- SEL page 1: collector configuration (R339). -/
def fclInfo (o : Nat) : Option RegInfo :=
  if o < 0x220 then
    match o % 4 with
    | 0 => some ⟨.sv, srcN (o / 4), 0xFFF⟩
    | 1 => some ⟨.sv, 0x3E8, 0xFFF⟩
    | 2 => some ⟨.sv, srcMinor (o / 4), 0xC7F⟩
    | _ => some ⟨.sv, srcSevere (o / 4), 0x07F⟩
  else if o < 0x280 then some ⟨.sv, 0, 0⟩
  else none

/-- SEL page 2: collector state (R340). -/
def fclStInfo (o : Nat) : Option RegInfo :=
  if o < 0xA0 || rng o 0x100 0x19F then some ⟨.ro, 0, 0xFFF⟩
  else if rng o 0x200 0x20D then some ⟨.ro, 0, 0xFFF⟩
  else if rng o 0x210 0x21D then some ⟨.sv, 0, 0xFFF⟩
  else if rng o 0x220 0x226 then some ⟨.ro, 0, 0xFFF⟩
  else none

/-- SEL page 3: watchdog (R356, R357). -/
def wdgInfo : Nat → Option RegInfo
  | 0 => some ⟨.lk, 0, 0x800⟩
  | 1 => some ⟨.sv, 0x6A0, 0xFFF⟩
  | 2 => some ⟨.sv, 0x018, 0xFFF⟩
  | 3 => some ⟨.sv, 0, 0x007⟩
  | 4 | 5 => some ⟨.sv, 0, 0xFFF⟩
  | 6 => some ⟨.sv, 0, 0x0FF⟩
  | 7 => some ⟨.sv, 0, 0x001⟩
  | 8 => some ⟨.sv, 0, 0x001⟩
  | 0x10 => some ⟨.ro, 0x6A0, 0xFFF⟩
  | 0x11 => some ⟨.ro, 0x018, 0xFFF⟩
  | 0x12 => some ⟨.ro, 0, 0x007⟩
  | 0x13 | 0x14 => some ⟨.ro, 0, 0xFFF⟩
  | 0x15 => some ⟨.ro, 0, 0x0FF⟩
  | 0x16 => some ⟨.ro, 0, 0xFE0⟩
  | 0x17 | 0x18 | 0x19 | 0x1A | 0x1B | 0x1C | 0x1D | 0x1E => some ⟨.ro, 0, 0xFFF⟩
  | _ => none

/-- SEL page 4: mode control (R471). -/
def modInfo : Nat → Option RegInfo
  | 0 => some ⟨.sv, 0, 0x001⟩
  | 1 => some ⟨.sv, 0, 0x003⟩
  | 2 => some ⟨.ro, 0, 0xF00⟩
  | 3 => some ⟨.ro, 0, 0xFFF⟩
  | _ => none

/-- SEL page 5: clearing confirmation (R385). -/
def rconfInfo : Nat → Option RegInfo
  | 0 => some ⟨.sv, 0, 0x001⟩
  | 1 => some ⟨.ro, 0, 0xCFF⟩
  | _ => none

/-- The register map; `none` is a reserved word (R13, R170). -/
def regInfo (a : Nat) : Option RegInfo :=
  let o := a % 0x1000
  match a / 0x1000 with
  | 0x800 => devInfo o
  | 0x801 => clkInfo o
  | 0x804 | 0x805 => cluInfo (a % 0x400)
  | 0x808 => sdfInfo o
  | 0x809 => adcInfo o
  | 0x80A => mtrInfo o
  | 0x80C => trfInfo o
  | 0x80E => if o < 0x800 then monInfo (o % 0x40) else none
  | 0x810 => shtInfo o
  | 0x811 => shtInfo (o + 0x1000)
  | 0x812 => jsnInfo o
  | 0x814 => recInfo o
  | 0x816 => cmpInfo o
  | 0x818 => pioInfo o
  | 0x820 | 0x821 | 0x822 | 0x823 => engInfo (a % 0x100)
  | 0x840 => selInfo o
  | 0x841 => fclInfo o
  | 0x842 => fclStInfo o
  | 0x843 => wdgInfo o
  | 0x844 => modInfo o
  | 0x845 => rconfInfo o
  | _ => none

/-- Whether a register word lies in the selvedge (R311): the trip fabric's page 0 and the SEL pages. -/
def isSelvedge (a : Nat) : Bool := a / 0x1000 = 0x80C || rng (a / 0x1000) 0x840 0x845

/-- Reset value of a stored register; a reserved word reads as 0 in the sparse file. -/
def regReset (a : Nat) : Word := BitVec.ofNat 12 (((regInfo a).map RegInfo.reset).getD 0)

/-- The field bits of a register. -/
def regMask (a : Nat) : Word := BitVec.ofNat 12 (((regInfo a).map RegInfo.mask).getD 0)

end Sys2Proof.Machine
end

