-- ==== Sys2Proof/Machine/Ops.lean ====
section
/-! DEFINITION. Named operations over the sparse memories and registers, accessors of the parts of the state, the device memory
map, and the shared effects every block uses: counting a fault event, setting an interrupt line, queueing a record. -/

namespace Sys2Proof.Machine

/-! ### Vectors -/

/-- One entry of a vector changed. -/
def upd {α : Type} {n : Nat} (v : Vector α n) (i : Fin n) (f : α → α) : Vector α n :=
  v.set i.val (f (v[i.val]'i.isLt)) i.isLt

/-- A vector from a function of the index. -/
def tab {α : Type} (n : Nat) (f : Nat → α) : Vector α n := ⟨((List.range n).map f).toArray, by simp⟩

/-- Every entry changed, with its index. -/
def vmap {α β : Type} {n : Nat} (f : Nat → α → β) (v : Vector α n) : Vector β n :=
  ⟨(v.toList.zipIdx.map fun p => f p.2 p.1).toArray, by simp⟩

/-! ### Sparse words -/

/-- The word at a key: its listed value, else the default `d`. -/
def Cells.read {w : Nat} (d : BitVec w) : Cells w → Nat → BitVec w
  | [], _ => d
  | (k, x) :: r, a => if a = k then x else Cells.read d r a

/-- The word at a key replaced, in canonical form: keys rise strictly and a word equal to the default `d` of its key is not
listed. -/
def Cells.write {w : Nat} (d : BitVec w) : Cells w → Nat → BitVec w → Cells w
  | [], a, v => if v = d then [] else [(a, v)]
  | (k, x) :: r, a, v =>
    if a < k then (if v = d then (k, x) :: r else (a, v) :: (k, x) :: r)
    else if a = k then (if v = d then r else (a, v) :: r)
    else (k, x) :: Cells.write d r a v

/-- The canonical form, against the default of each key. -/
def Cells.wf {w : Nat} (d : Nat → BitVec w) : Cells w → Bool
  | [] => true
  | (k, x) :: r => x ≠ d k && (match r with | [] => true | (j, _) :: _ => k < j) && Cells.wf d r

/-! ### Parts of the state -/

def State.eng (s : State) (e : Eng) : Engine := s.engines[e.val]'e.isLt
def State.setEng (s : State) (e : Eng) (x : Engine) : State := { s with engines := s.engines.set e.val x e.isLt }
def State.updEng (s : State) (e : Eng) (f : Engine → Engine) : State := s.setEng e (f (s.eng e))

def Engine.thr (x : Engine) (t : Thr) : Thread := x.threads[t.val]'t.isLt
def Engine.updThr (x : Engine) (t : Thr) (f : Thread → Thread) : Engine :=
  { x with threads := x.threads.set t.val (f (x.thr t)) t.isLt }

def State.thr (s : State) (e : Eng) (t : Thr) : Thread := (s.eng e).thr t
def State.updThr (s : State) (e : Eng) (t : Thr) (f : Thread → Thread) : State := s.updEng e fun x => x.updThr t f

/-! ### Lanes (R6, R135) -/

def laneList : List Lane := [.a, .b, .c]
def laneIdx : Lane → Fin 3
  | .a => 0
  | .b => 1
  | .c => 2

def Heddle.isRetired (h : Heddle) (l : Lane) : Bool := h.retired[(laneIdx l).val]
/-- Frozen: the odd lane until it resumes in step (R156, steps 1 to 5). -/
def Heddle.frozen (h : Heddle) (l : Lane) : Bool := h.odd = some l && (h.phase = .bulk || h.phase = .copied || h.phase = .paused)
/-- The lane commits and folds. -/
def Heddle.commits? (h : Heddle) (l : Lane) : Bool := !h.isRetired l && !h.frozen l
/-- The lane's requests are voted (R147, R156 step 6). -/
def Heddle.votes (h : Heddle) (l : Lane) : Bool := !h.isRetired l && h.odd ≠ some l
/-- The lanes whose requests and signatures count (R141, R147). -/
def Heddle.good (h : Heddle) : List Lane := laneList.filter h.votes

/-- The engine as one lane holds it (R135). -/
def Engine.view (x : Engine) (l : Lane) : Engine :=
  { x with toEngineCore := (x.stray[(laneIdx l).val]).getD x.toEngineCore }

/-- The lane holds a state of its own. -/
def Engine.apart (x : Engine) (l : Lane) : Bool := (x.stray[(laneIdx l).val]).isSome

/-- What a lane's own run leaves: its state and its signature; a request takes its number in every lane (R145). -/
def Engine.keepLane (x : Engine) (l : Lane) (y : Engine) : Engine :=
  { x with
    stray := upd x.stray (laneIdx l) fun _ => some y.toEngineCore
    heddle := { x.heddle with sig := upd x.heddle.sig (laneIdx l) fun _ => y.heddle.sig[(laneIdx l).val] }
    slot := max x.slot y.slot }

/-- The device as lane `l` of an engine sees it. -/
def State.asLane (s : State) (e : Eng) (l : Lane) : State := s.updEng e fun x => x.view l

/-- When every lane that commits holds a state of its own, the first of them stands for the lanes that agree. -/
def Engine.settle (x : Engine) : Engine :=
  match laneList.filter x.heddle.commits? with
  | [] => x
  | l :: r =>
    if (l :: r).all x.apart then
      { x.view l with stray := upd x.stray (laneIdx l) fun _ => none }
    else x

/-- WHAT THE LANES OF AN ENGINE DO IN ONE CLOCK (R135): `f` in the lanes that agree, and in each lane with a state of its own, on
that state; `g` in its place in the lane `odd`, which a fault strikes. What they do outside the engine's lanes is done once. -/
def State.inLanesWith (s : State) (e : Eng) (odd : Option Lane) (g f : State → State) : State :=
  let u := laneList.foldl (fun (u : State) l =>
    if (s.eng e).heddle.commits? l && ((s.eng e).apart l || odd = some l) then
      u.updEng e fun x => x.keepLane l (((if odd = some l then g else f) (s.asLane e l)).eng e)
    else u) (f s)
  match odd with
  | some _ => u.updEng e Engine.settle
  | none => u

/-- The same with no lane struck. -/
def State.inLanes (s : State) (e : Eng) (f : State → State) : State := s.inLanesWith e none f f

/-- A change of what each lane holds, in every lane. -/
def State.updLanes (s : State) (e : Eng) (f : Engine → Engine) : State := s.inLanes e fun s => s.updEng e f

/-- A change of one thread in every lane. -/
def State.updThrs (s : State) (e : Eng) (t : Thr) (f : Thread → Thread) : State := s.updLanes e fun x => x.updThr t f

/-- A re-threading pause gates the engine's clocks (R156, R157). -/
def State.paused (s : State) (e : Eng) : Bool := (s.eng e).heddle.phase = .paused

/-! ### Parts of the rest of the state -/

def State.clu (s : State) (c : Clu) : Cluster := s.clusters[c.val]'c.isLt
def State.updClu (s : State) (c : Clu) (f : Cluster → Cluster) : State :=
  { s with clusters := s.clusters.set c.val (f (s.clu c)) c.isLt }

def State.chan (s : State) (n : Chan) : Channel := s.chans[n.val]'n.isLt
def State.updChan (s : State) (n : Chan) (f : Channel → Channel) : State :=
  { s with chans := s.chans.set n.val (f (s.chan n)) n.isLt }

def State.updCol (s : State) (f : Collector → Collector) : State := { s with col := f s.col }
def State.src (s : State) (n : Fin 160) : Source := s.col.src[n.val]'n.isLt
def State.updSrc (s : State) (n : Fin 160) (f : Source → Source) : State :=
  s.updCol fun k => { k with src := k.src.set n.val (f (s.src n)) n.isLt }

def State.updTrip (s : State) (f : Trip → Trip) : State := { s with trip := f s.trip }
def State.updRcd (s : State) (f : Recorder → Recorder) : State := { s with rcd := f s.rcd }
def State.updWdg (s : State) (f : Watchdog → Watchdog) : State := { s with wdg := f s.wdg }
def State.updSht (s : State) (f : Shuttle → Shuttle) : State := { s with sht := f s.sht }
def State.updJsn (s : State) (f : Jarsyn → Jarsyn) : State := { s with jsn := f s.jsn }
def State.updDev (s : State) (f : Dev → Dev) : State := { s with dev := f s.dev }
def State.updBoot (s : State) (f : Boot → Boot) : State := { s with boot := f s.boot }
def State.updClk (s : State) (f : Clk → Clk) : State := { s with clk := f s.clk }
def State.updMtr (s : State) (f : Metering → Metering) : State := { s with mtr := f s.mtr }
def State.updAdc (s : State) (f : Adc → Adc) : State := { s with adc := f s.adc }

/-! ### Stored registers -/

/-- The stored value of a register word. -/
def State.reg (s : State) (a : Nat) : Word := Cells.read (regReset a) s.regs a

/-- A register word stored, its reserved bits dropped (notes/assumptions/17). -/
def State.setReg (s : State) (a : Nat) (v : Word) : State :=
  { s with regs := Cells.write (regReset a) s.regs a (v &&& regMask a) }

/-- A stored register as a number. -/
def State.regN (s : State) (a : Nat) : Nat := (s.reg a).toNat

/-- A bit of a stored register. -/
def State.regB (s : State) (a p : Nat) : Bool := (s.reg a).getLsbD p

/-- A 24-bit value in two consecutive registers, low word first (R8). -/
def State.reg2 (s : State) (a : Nat) : DWord := joinW (s.reg (a + 1)) (s.reg a)

/-! ### Engines -/

/-- ENG.CFG of an engine (R57). -/
def State.engCfg (s : State) (e : Eng) : Nat := s.regN (engBase e)
def State.shape (s : State) (e : Eng) : Nat := s.engCfg e / 0x400
def State.engEn (s : State) (e : Eng) : Bool := s.regB (engBase e) 5
/-- Threads of the engine's shape (R20). -/
def State.nThreads (s : State) (e : Eng) : Nat := 8 / 2 ^ min (s.shape e) 2
/-- The reserved thread (R57). -/
def State.rsv (s : State) (e : Eng) : Option Nat :=
  if s.regB (engBase e) 9 then some (s.engCfg e / 0x40 % 8) else none
/-- SEL.ENG names the engine (R312). -/
def State.isSel (s : State) (e : Eng) : Bool := e.val < 8 && s.regB selBase e.val
/-- SEL.ENG names 2 to 8 engines (R312). -/
def selValid (v : Word) : Bool :=
  2 ≤ ((List.range 8).filter fun k => v.getLsbD k).length
/-- SEL.LOCK is set (R313). -/
def State.selLocked (s : State) : Bool := s.regB (selBase + 1) 0
/-- ENG.LOCK.LKD (R133). -/
def Engine.locked (x : Engine) : Bool := x.lock.getLsbD 11
/-- The engines in ascending order. -/
def engList : List Eng := List.finRange 64
def thrList : List Thr := List.finRange 8

/-- VBASE (R109). -/
def State.vbase (s : State) (e : Eng) : Nat := s.regN (engBase e + 0x10) % 512 * 256
/-- The return gate (R109). -/
def State.gate (s : State) (e : Eng) : PAddr := BitVec.ofNat 17 (s.vbase e + 0xC0)
/-- The engine's entry address ENTRYH:ENTRY (R25). -/
def State.entryPc (s : State) (e : Eng) : PAddr :=
  BitVec.ofNat 17 (s.regN (engBase e + 3) % 32 * 4096 + s.regN (engBase e + 2))
/-- Home bank of an engine (R5). -/
def homeBase (e : Eng) : Nat := e.val / 8 * 0x100000 + e.val % 8 * 0x8000

/-! ### Phases and modes -/

def State.inRun (s : State) : Bool := s.dev.phase = .run
/-- PRECISE and DOZE are DEV.MCTL bits (R470). -/
def State.precise (s : State) : Bool := s.regB (devBase + 5) 11
def State.doze (s : State) : Bool := s.regB (devBase + 5) 10

/-! ### The device memory map (R170, R172) -/

/-- What lies at a word address. -/
inductive Region where
  | home (c : Clu) (k : Fin 8)
  | flex (c : Clu)
  | bobbin (c : Clu)
  | program (c : Clu)
  | regs
  | companion
  | recorder
  | host
  | reserved
deriving DecidableEq, Repr

/-- Cluster of a word address below 0x800_000. -/
def cluOf (a : Nat) : Clu := ⟨a / 0x100000 % 8, by omega⟩

/-- The region of a word address (R170, R172). -/
def regionOf (a : Addr) : Region :=
  let n := a.toNat
  if n < 0x800000 then
    let o := n % 0x100000
    if o < 0x40000 then .home (cluOf n) ⟨o / 0x8000 % 8, by omega⟩
    else if o < 0x42000 then .flex (cluOf n)
    else if o < 0x48000 then .reserved
    else if o < 0x4C000 then .bobbin (cluOf n)
    else if o < 0x80000 then .reserved
    else if o < 0xC0000 then .program (cluOf n)
    else .reserved
  else if n < 0x850000 then .regs
  else if rng n 0x900000 0x9007FF then .companion
  else if rng n 0x910000 0x911FFF then .recorder
  else if 0xC00000 ≤ n then .host
  else .reserved

/-- The bank that holds a word of a cluster, coded as CLU.RST (R213). -/
def Region.bank : Region → Option (Clu × Bank)
  | .home c k => some (c, ⟨k.val, by omega⟩)
  | .flex c => some (c, 8)
  | .bobbin c => some (c, 9)
  | .program c => some (c, 10)
  | _ => none

/-- The data regions of the clusters: home banks, flex banks and bobbin RAMs (R200). -/
def Region.isData : Region → Bool
  | .home _ _ | .flex _ | .bobbin _ => true
  | _ => false

/-- Whether a word lies inside a bank of a cluster, by address. -/
def inBank (c : Clu) (b : Bank) (a : Nat) : Bool :=
  match (regionOf (BitVec.ofNat 24 a)).bank with
  | some (c', b') => a < 0x800000 && c = c' && b = b'
  | none => false

/-- The boot ROM's staging area in E0's home bank (R472). -/
def inStaging (a : Nat) : Bool := rng a 0x006000 0x007FFF
/-- The recorder's RAM window (R364). -/
def inRecorder (a : Nat) : Bool := rng a 0x910000 0x911FFF

/-- What an unlisted data word reads as: 0 while its contents have never been lost (notes/assumptions/8), a free value
after each loss (R194, R371, R467) and, in the staging area, after an entry to RUN (R472). The companion RAM's first 256 words,
which only the device writes, hold 0 until it has written them (R260, R263). -/
def State.memDefault (s : State) (a : Nat) : Word :=
  match (regionOf (BitVec.ofNat 24 a)).bank with
  | some (c, b) =>
    let n := (s.clu c).epoch[b.val]'b.isLt
    if inStaging a && s.runs ≠ 0 then Config.stagingWord s.runs n a
    else if n = 0 then 0 else Config.lostWord n a
  | none =>
    if regionOf (BitVec.ofNat 24 a) = .companion then
      if s.mtr.exEpoch = 0 || a % 0x800 < 0x100 then 0 else Config.lostWord s.mtr.exEpoch a
    else match (if inRecorder a then s.rcd.ramLost else none) with
    | some n => Config.lostRecorderWord n a
    | none => 0

/-- The boot ROM's stack and staging area takes contents that no rule gives (R472). -/
def State.stage (s : State) : State :=
  { s with runs := s.runs + 1, mem := s.mem.filter fun p => !inStaging p.1, upset := s.upset.filter fun p => !inStaging p.1 }

/-- What an unlisted program word reads as. -/
def State.progDefault (s : State) (a : Nat) : PWord :=
  let n := (s.clu ⟨a / 131072 % 8, by omega⟩).epoch[10]
  if n = 0 then 0 else Config.lostPWord n a

/-! ### Stored words and their parity (R181, R186) -/

/-- Ones of a number's low bits. -/
def ones (n w : Nat) : Nat := ((List.range w).filter fun i => n.testBit i).length

/-- P of a word stored at an address: data, A[11:0] and P together hold an odd number of ones (R181). -/
def foldedParity {w : Nat} (a : Nat) (v : BitVec w) : Bool := (ones v.toNat w + ones a 12) % 2 = 0

/-- Key of program word `n` of a cluster, in `prog` and in `upset`. -/
def progKey (c : Clu) (n : PAddr) : Nat := c.val * 131072 + n.toNat
def upsetKey (c : Clu) (n : PAddr) : Nat := 0x1000000 + progKey c n

/-- Bits in which the word stored under a key differs from what was written, with its parity bit at 14. -/
def State.flips (s : State) (k : Nat) : BitVec 15 := Cells.read 0 s.upset k

/-- A data word of a data region, the companion RAM or the recorder RAM, as it was written. -/
def State.written (s : State) (a : Nat) : Word := Cells.read (s.memDefault a) s.mem a
/-- The same as it is stored. -/
def State.memWord (s : State) (a : Nat) : Word := s.written a ^^^ (s.flips a).setWidth 12
/-- The parity bit stored with a data word (R181). -/
def State.memP (s : State) (a : Nat) : Bool := foldedParity a (s.written a) ^^ (s.flips a).getLsbD 14
/-- The sum that a read recomputes is odd (R181). -/
def State.memGood (s : State) (a : Nat) : Bool := s.memP a = foldedParity a (s.memWord a)

/-- A data word written, with its parity (R181): what was wrong of the word is gone (R186). -/
def State.setMem (s : State) (a : Nat) (v : Word) : State :=
  { s with mem := Cells.write (s.memDefault a) s.mem a v, upset := Cells.write 0 s.upset a 0 }

def State.progWritten (s : State) (c : Clu) (n : PAddr) : PWord := Cells.read (s.progDefault (progKey c n)) s.prog (progKey c n)
def State.progWord (s : State) (c : Clu) (n : PAddr) : PWord := s.progWritten c n ^^^ (s.flips (upsetKey c n)).setWidth 14
/-- The parity bit stored with a program word, which folds in n[11:0] (R181). -/
def State.progP (s : State) (c : Clu) (n : PAddr) : Bool :=
  foldedParity n.toNat (s.progWritten c n) ^^ (s.flips (upsetKey c n)).getLsbD 14
def State.progGood (s : State) (c : Clu) (n : PAddr) : Bool := s.progP c n = foldedParity n.toNat (s.progWord c n)

def State.setProg (s : State) (c : Clu) (n : PAddr) (v : PWord) : State :=
  { s with prog := Cells.write (s.progDefault (progKey c n)) s.prog (progKey c n) v
           upset := Cells.write 0 s.upset (upsetKey c n) 0 }

/-- Program word number of a window address (R179). -/
def windowWord (a : Addr) : PAddr := BitVec.ofNat 17 ((a.toNat % 0x100000 - 0x80000) / 2)

/-- Key in `upset` of the word that an address of a bank, of the companion RAM or of the recorder RAM names. -/
def storedKey (a : Addr) : Nat :=
  match regionOf a with
  | .program c => upsetKey c (windowWord a)
  | _ => a.toNat

/-- The word an address names passes its parity check (R181). -/
def State.wordGood (s : State) (a : Addr) : Bool :=
  match regionOf a with
  | .program c => s.progGood c (windowWord a)
  | _ => s.memGood a.toNat

/-- The stored word at an address is found wrong (R186): an odd number of its bits, P among them, are flipped. -/
def State.spoil (s : State) (a : Addr) : State :=
  let w := match regionOf a with
    | .program _ => 14
    | _ => 12
  let v : BitVec 14 := BitVec.ofNat 14 ((Config.upsetBits s.free).toNat % 2 ^ w)
  if s.wordGood a then
    { s with upset := Cells.write 0 s.upset (storedKey a)
               (BitVec.ofNat 15 (v.toNat + (if ones v.toNat 14 % 2 = 0 then 2 ^ 14 else 0)))
             free := s.free + 1 }
  else s

/-- A window read: the low word holds bits [11:0], the high word bits [13:12] (R179). -/
def State.windowRead (s : State) (c : Clu) (a : Addr) : Word :=
  let p := s.progWord c (windowWord a)
  if a.getLsbD 0 then (p >>> 12).setWidth 12 else p.setWidth 12

/-- The contents of bank `b` of cluster `c` are lost: no word of it is listed and its epoch advances (R194, R467). -/
def State.loseBank (s : State) (c : Clu) (b : Bank) : State :=
  let s := s.updClu c fun x => { x with epoch := upd x.epoch b (· + 1) }
  if b = 10 then { s with prog := s.prog.filter fun p => p.1 / 131072 ≠ c.val
                          upset := s.upset.filter fun p => p.1 < 0x1000000 || (p.1 - 0x1000000) / 131072 ≠ c.val }
  else { s with mem := s.mem.filter fun p => !inBank c b p.1, upset := s.upset.filter fun p => !inBank c b p.1 }

/-! ### Free values -/

/-- A fresh number for a free value. -/
def State.takeFree (s : State) : State := { s with free := s.free + 1 }

/-! ### Interrupt lines (R115) -/

/-- Line `n` is pending in a lane, agreed in this engine clock unless it was pending before (R115, R118). -/
def Engine.pend (x : Engine) (n : Nat) : Engine :=
  { x with
    ipend := x.ipend ||| BitVec.ofNat 32 (2 ^ n)
    ipendNow := x.ipendNow ||| BitVec.ofNat 32 (2 ^ n)
    agreed := if x.ipend.getLsbD n then x.agreed else x.agreed.set (n % 33) x.free (by omega) }

/-- The lines of the on-chip sources outside the engine, whose events reach it as toggles of an event line (R115, R148). -/
def eventLine (n : Nat) : Bool := rng n 12 29

/-- An event of line `n` at an engine: an on-chip source toggles its event line, which awaits agreement (R148); the engine's own
events make the line pending in its lanes, and so does every event while its cluster is gated, since the pending bits then run in the
fabric clock (R456). -/
def State.setLine (s : State) (e : Eng) (n : Nat) : State :=
  if eventLine n && !(s.clu e.cluster).gated then s.updEng e fun x => { x with lineIn := x.lineIn ||| BitVec.ofNat 32 (2 ^ n) }
  else s.updLanes e fun x => x.pend n

/-- Line `n` of every engine of a list. -/
def State.setLines (s : State) (es : List Eng) (n : Nat) : State := es.foldl (fun s e => s.setLine e n) s

/-- Every selvedge engine, in ascending order. -/
def State.selEngines (s : State) : List Eng := engList.filter s.isSel

/-- Every engine whose ENG.CFG.EN is 1. -/
def State.enEngines (s : State) : List Eng := engList.filter s.engEn

/-- The engines an ITGT code names, where 0b01 has its own meaning `own` (R324, R381, R418). -/
def State.targets (s : State) (itgt : Nat) (own : List Eng) : List Eng :=
  match itgt with
  | 0 => s.selEngines
  | 1 => own
  | _ => s.enEngines

/-! ### Fault events (R317 to R319) -/

/-- The device is out of POWER-UP and not held in reset (R448, R468). -/
def State.up (s : State) : Bool := s.dev.phase ≠ .powerUp && s.dev.inReset.isNone

/-- A fault event reaches the collector: it waits behind the one being classified and at most four others, else it is
dropped and counted (R319). An event at sources 100 to 103 sets line 15 of every engine (R301). In POWER-UP and in reset the
collector does not run (R328, R448). -/
def State.raiseBy (s : State) (q : Option Requester) (n : Fin 160) (cause : BitVec 7) (payload : DWord) : State :=
  if !s.up then s
  else if (s.src n).waiting.length < 5 then
    let s := if rng n.val 100 103 then s.setLines engList 15 else s
    s.updSrc n fun x => { x with waiting := x.waiting ++ [⟨cause, payload, q⟩] }
  else s.updCol fun k => { k with drop := sat12 (k.drop.toNat + 1) }

/-- An event that no access of a master causes. -/
def State.raise (s : State) (n : Fin 160) (cause : BitVec 7) (payload : DWord) : State := s.raiseBy none n cause payload

/-- An event of an access by a master, which it carries (R185). -/
def State.raiseOf (s : State) (m : Master) (n : Fin 160) (cause : BitVec 7) (payload : DWord) : State :=
  s.raiseBy (some (.master m)) n cause payload

/-- Source of an engine (R320). -/
def engSrc (e : Eng) : Fin 160 := ⟨e.val, by omega⟩
/-- Source 64 + c (R185). -/
def dataSrc (c : Clu) : Fin 160 := ⟨64 + c.val, by omega⟩
/-- Source 72 + c (R185). -/
def progSrc (c : Clu) : Fin 160 := ⟨72 + c.val, by omega⟩

/-- VCORE and VIO_A are at or above their good levels (R304, R498). -/
def State.vcoreOk (s : State) : Bool := s.clk.sup.getLsbD 5
def State.vioAOk (s : State) : Bool := s.clk.sup.getLsbD 4
/-- The inputs of the VIO_A bank are taken: they are ignored without VCORE, and without their bank (R304). -/
def State.inputsOk (s : State) : Bool := s.vcoreOk && s.vioAOk

/-- Fabric clocks of one cycle of the always-on RC oscillator, 4 MHz ± 5 % (R489). -/
def rcCycle (n : Nat) : Nat := 71 + (Config.rcPeriod n).toNat % 9

/-! ### Records -/

/-- Place of a record among those of one fabric clock (R362); changes of mode stand in ascending CODE (R452). -/
def Record.rank (x : Record) : Nat :=
  match x.typ.toNat with
  | 5 => 0
  | 4 => 1
  | 1 => 2 + bitsAt x.src 0 8
  | 2 | 3 => 300
  | 6 => 301 + x.code.toNat
  | 8 | 9 => 430
  | 0xA => 431
  | 0xB => 432
  | _ => 433

/-- A record takes its place behind every record of an earlier fabric clock, and behind those of its own clock that the order of R362
puts before it. -/
def insertRec (x : Record) : List Record → List Record
  | [] => [x]
  | y :: r => if y.fk = x.fk && x.rank < y.rank then x :: y :: r else y :: insertRec x r

/-- A record enters the recorder's queue of 64, or is lost and counted (R362, R370). -/
def State.logRec (s : State) (typ : BitVec 5) (code : BitVec 7) (src : Word) (pay : Quad) : State :=
  s.updRcd fun r =>
    if r.queue.length < 64 then { r with queue := insertRec ⟨typ, code, src, pay, s.fk⟩ r.queue }
    else { r with qdrop := sat12 (r.qdrop.toNat + 1) }

/-! ### Messages to the host (R389, R416, R417) -/

/-- An MSI-X vector is sent, or held in its pending bit while masked or while the function makes no requests; in D3hot a PME is
sent in its place (R389, R416). A core held in reset sends and holds none (R390, R524). -/
def State.msix (s : State) (v : BitVec 5) : State :=
  if !s.sht.coreUp || s.sht.prst then s
  else s.updSht fun x =>
    let x := if x.mask.getLsbD v.toNat || x.d3 || !x.bme then { x with pba := x.pba ||| BitVec.ofNat 32 (2 ^ v.toNat) } else x
    if x.mask.getLsbD v.toNat then x
    else if x.d3 then { x with lastMsg := some none }
    else if x.bme then { x with lastMsg := some (some v) }
    else x

/-- SHT.HIRQ's vector, at a change of SEL.ST.SAFE, SELF, AFRZ or LKUP (R417). -/
def State.hirq (s : State) : State :=
  let r := s.reg (shtBase + 4)
  if r.getLsbD 11 then s.msix (r.setWidth 5) else s

/-! ### Memory events (R185, R213) -/

/-- Requester code of CLU.PEST.PORT (R175): an engine of the cluster, the shuttle, the front end, or 0xF for any other master
(notes/assumptions/18). -/
def portCode (c : Clu) : Requester → Nat
  | .master (.engine e _ _) | .master (.svp e _) => if e.val / 8 = c.val then e.val % 8 else 0xF
  | .master .shuttle | .master .host => 0x8
  | .frontEnd => 0xA
  | .master .monitor | .recorder => 0xF

/-- A memory event of a cluster's bank at an address: the CLU status registers, with the requester, and the collector (R185, R213).
`kind` is 0 transient, 1 persistent, 2 persistent in a collision, 3 write failed; a write's event counts at 64 + c whatever the
bank (R184). A failed write counts in neither of the two parity counters (DESIGN CHOICE, notes/assumptions/62). -/
def State.memEvent (s : State) (c : Clu) (b : Bank) (q : Requester) (kind : Nat) (cause : BitVec 7) (a : Addr) (write : Bool) : State :=
  let s := s.updClu c fun x =>
    { x with
      ptcnt := if kind = 0 then sat12 (x.ptcnt.toNat + 1) else x.ptcnt
      ppcnt := if kind = 1 || kind = 2 then sat12 (x.ppcnt.toNat + 1) else x.ppcnt
      pea := a
      pest := fld 10 kind ||| fld 4 b.val ||| fld 0 (portCode c q) }
  s.raiseBy (some q) (if b = 10 && !write then progSrc c else dataSrc c) cause a

/-! ### Clusters and the weft (R182, R326) -/

/-- A master inside a cluster: it does not cross the weft to reach the cluster's memory (R326). -/
def masterInside (c : Clu) : Master → Bool
  | .engine e _ _ | .svp e _ => e.val / 8 = c.val
  | _ => false

/-- Cluster of a memory address below 0x800_000. -/
def memClu (a : Addr) : Option Clu := ((regionOf a).bank).map Prod.fst

/-- The cluster that answers for an address: with its memory, with its CLU registers or with those of its engines. -/
def blockClu (a : Addr) : Option Clu :=
  let n := a.toNat
  if rng n 0x804000 0x805FFF then some ⟨(n - 0x804000) / 0x400 % 8, by omega⟩
  else if rng n 0x820000 0x823FFF then some ⟨(n - 0x820000) / 0x800 % 8, by omega⟩
  else memClu a

/-- An error response to a master that is not an engine counts at source 82 (R171, R185). -/
def State.errorTo (s : State) (m : Master) (a : Addr) (q : Requester := .master m) : State :=
  match m with
  | .engine _ _ _ | .svp _ _ => s
  | _ => s.raiseBy (some q) 82 0x01 a

/-- The cluster's isolation answers a master outside it with an error response (R326). -/
def State.cutOff (s : State) (m : Master) (a : Addr) : Bool :=
  match blockClu a with
  | some c => (s.clu c).iso && !masterInside c m
  | none => false

end Sys2Proof.Machine
end

