-- ==== Sys2Proof/Machine/Sensing.lean ====
section
/-! DEFINITION. The sensing front end: filters, validity, bobbins and the BLOCK8 code, the two converters, the metering core and
the companion port (R232 to R266). -/

namespace Sys2Proof.Machine

/-! ### Configuration of channels and groups (R268, R269) -/

def chanReg (n : Nat) (k : Nat) : Nat := sdfBase + 0x100 + 8 * n + k
def groupReg (g : Nat) : Nat := sdfBase + g
/-- Source 84 + g (R241). -/
def groupSrc (g : Fin 12) : Fin 160 := ⟨84 + g.val, by have := g.isLt; omega⟩

/-- Group n / 4 of a channel. -/
def groupOf (n : Chan) : Fin 12 := ⟨n.val / 4, by have := n.isLt; omega⟩

def State.groupAt (s : State) (g : Fin 12) : Group := s.groups[g.val]'g.isLt
/-- The path is enabled: PCFG.EN or FCFG.EN. -/
def State.pathEn (s : State) (n : Chan) (fast : Bool) : Bool := s.regB (chanReg n.val (if fast then 1 else 0)) 11
/-- Exponent k of the ratio D = 2^k: 5 to 9 precise, 2 to 5 fast (R235, R236, R269). -/
def State.pathK (s : State) (n : Chan) (fast : Bool) : Nat :=
  if fast then 2 + bitsAt (s.reg (chanReg n.val 1)) 9 2 else 5 + bitsAt (s.reg (chanReg n.val 0)) 8 3
/-- SRC of the bobbin: the fast path (R269). -/
def State.bobFast (s : State) (n : Chan) : Bool := s.regB (chanReg n.val 2) 3
/-- FMT of the bobbin: BLOCK8 (R269). -/
def State.bobBlock (s : State) (n : Chan) : Bool := s.regB (chanReg n.val 2) 2
/-- Cluster that copy 0 or 1 feeds, when it does (R245, R247). -/
def State.bobCluster (s : State) (n : Chan) (second : Bool) : Option Clu :=
  let r := s.reg (chanReg n.val 2)
  if (s.chan n).disabled then none
  else if second then (if r.getLsbD 10 then some ⟨bitsAt r 4 3 % 8, by omega⟩ else none)
  else if r.getLsbD 11 then some ⟨bitsAt r 7 3 % 8, by omega⟩ else none
/-- CAP = 2^J (R245). -/
def State.bobCap (s : State) (n : Chan) : Nat := 2 ^ bitsAt (s.reg (chanReg n.val 3)) 0 4
/-- Base offset B (R245). -/
def State.bobB (s : State) (n : Chan) : Nat := bitsAt (s.reg (chanReg n.val 4)) 0 11 * 8
/-- Watermark (R249). -/
def State.bobWm (s : State) (n : Chan) : Nat := bitsAt (s.reg (chanReg n.val 5)) 0 8

/-- A filter path is valid (R239); ISOLATE makes every channel of its group invalid (R326). -/
def State.pathValid (s : State) (n : Chan) (fast : Bool) : Bool :=
  let g := groupOf n
  let p := if fast then (s.chan n).fast else (s.chan n).precise
  s.inRun && s.pathEn n fast && s.regB (groupReg g.val) 11 && !(s.groupAt g).lost && !(s.groupAt g).iso && !(s.chan n).stuck &&
    p.skip = 0

/-- SDF.CVAL: every enabled path is valid, and one is enabled (R239). -/
def State.chanValid (s : State) (n : Chan) : Bool :=
  (s.pathEn n false || s.pathEn n true) && (!s.pathEn n false || s.pathValid n false) && (!s.pathEn n true || s.pathValid n true)

/-- The device drives SD_Cg: DRV = 1 in a group in use, from entry to RUN on; else the ball is an input (R232, R233, R239;
between SETUP and RUN: DESIGN CHOICE, notes/assumptions/62). -/
def State.sdcDriven (s : State) (g : Fin 12) : Bool := s.inRun && s.regB (groupReg g.val) 11 && s.regB (groupReg g.val) 10

/-! ### Filters (R234 to R236) -/

/-- A filter path of a channel. -/
def Channel.path (c : Channel) (fast : Bool) : FilterPath := if fast then c.fast else c.precise
def Channel.setPath (c : Channel) (fast : Bool) (p : FilterPath) : Channel := if fast then { c with fast := p } else { c with precise := p }

/-- The group's edge count at the path's next interval end (R234). -/
def State.nextEnd (s : State) (n : Chan) (fast : Bool) : Nat := (((s.chan n).path fast).ends + 1) * 2 ^ s.pathK n fast

/-- The group's edge count, as its paths' last interval ends show it. -/
def State.groupEdges (s : State) (g : Fin 12) : Nat :=
  (List.finRange 48).foldl (fun m n =>
    if groupOf n = g then
      max m (max (if s.pathEn n false then (s.chan n).precise.ends * 2 ^ s.pathK n false else 0)
        (if s.pathEn n true then (s.chan n).fast.ends * 2 ^ s.pathK n true else 0))
    else m) 0

/-- The path's interval end is the next of its group: the ends come in the order of their edges, and at one edge in ascending channel
order (R229, R234). -/
def State.endDue (s : State) (n : Chan) (fast : Bool) : Bool :=
  (List.finRange 48).all fun m => decide (groupOf m ≠ groupOf n) || [false, true].all fun f =>
    !s.pathEn m f || decide (s.nextEnd n fast < s.nextEnd m f) || (decide (s.nextEnd m f = s.nextEnd n fast) && decide (n ≤ m))

/-- Each entry replaced by the sum of the `d` entries from it on: one factor (1 + z⁻¹ + … + z^−(D−1)), newest first. -/
def boxSum (d : Nat) (xs : List Int) : List Int :=
  (List.range xs.length).map fun j => ((xs.drop j).take d).sum

/-- The raw output y of order K over the newest bits first; bits before the filter's start count 0 (R234, R235). -/
def sincOut (d k : Nat) (hist : List Bool) : Int :=
  let xs := (hist.take (k * d)).map fun b => if b then (1 : Int) else -1
  ((List.range k).foldl (fun ys _ => boxSum d ys) xs).headD 0

/-- A value saturated to a signed width. -/
def clampInt (w : Nat) (v : Int) : Int := max (-(2 ^ (w - 1))) (min (2 ^ (w - 1) - 1) v)

/-- The delivered precise result: y × 2^(23 − 3k), rounded to nearest with ties upwards when 3k > 23 (R235). -/
def preciseOut (k : Nat) (y : Int) : DWord :=
  let v := if 3 * k ≤ 23 then y * 2 ^ (23 - 3 * k) else (y + 2 ^ (3 * k - 24)).fdiv (2 ^ (3 * k - 23))
  BitVec.ofInt 24 (clampInt 24 v)

/-- The delivered fast result: y × 2^(11 − 2k), saturated, as a signed value (R236). -/
def fastOut (k : Nat) (y : Int) : DWord := BitVec.ofInt 24 (clampInt 12 (y * 2 ^ (11 - 2 * k)))

/-- A path's filter restarted: its state is zero and its first outputs are not delivered (R234). -/
def FilterPath.restart (p : FilterPath) (fast : Bool) : FilterPath :=
  { p with hist := [], skip := if fast then 1 else 2, fresh := false, part := true }

/-- Both paths restarted (R234). An over-range condition persists through it, and counts no event anew (DESIGN CHOICE,
notes/assumptions/58: R240 does not say when it ends). -/
def Channel.restart (c : Channel) : Channel :=
  { c with precise := c.precise.restart false, fast := c.fast.restart true }

/-- The bits of an interval end: as many as its ratio, or fewer when the filter started inside the interval (R234). -/
def FilterPath.bitsOk (p : FilterPath) (k : Nat) (bits : List Bool) : Bool :=
  bits.length = 2 ^ k || (p.part && 1 ≤ bits.length && bits.length ≤ 2 ^ k)

/-- An interval end: the bits enter, the output is formed, and it is due for delivery unless it is one of the first (R234 to R236). -/
def FilterPath.interval (p : FilterPath) (fast : Bool) (k : Nat) (bits : List Bool) : FilterPath × Option DWord :=
  let d := 2 ^ k
  let order := if fast then 2 else 3
  let hist := (bits.reverse ++ p.hist).take (order * d)
  let y := sincOut d order hist
  let p := { p with hist := hist, ends := p.ends + 1, part := false }
  if p.skip = 0 then (p, some (if fast then fastOut k y else preciseOut k y)) else ({ p with skip := p.skip - 1 }, none)

/-! ### Bobbins (R245 to R252) -/

/-- A signed value divided by 2^e, rounded to nearest with ties to even (R250). -/
def roundEven (x : Int) (e : Nat) : Int :=
  let q := x.fdiv (2 ^ e)
  let r := x - q * 2 ^ e
  if 2 * r < 2 ^ e then q else if 2 ^ e < 2 * r then q + 1 else if q % 2 = 0 then q else q + 1

/-- The smallest exponent for which every mantissa fits (R250). -/
def blockExp (xs : List DWord) : Nat :=
  ((List.range 13).find? fun e => xs.all fun x => let m := roundEven x.toInt e; -2048 ≤ m && m ≤ 2047).getD 12

/-- The nine words of a BLOCK8 block whose first sample is number s: header first (R250). -/
def blockWords (s : Nat) (xs : List DWord) : Word × List Word :=
  let e := blockExp xs
  (BitVec.ofNat 12 (e * 256 + s / 8 % 256), xs.map fun x => BitVec.ofInt 12 (roundEven x.toInt e))

/-- The bobbin-RAM writes of one delivered sample, number s, or of the block it completes (R245, R246). -/
def State.bobWrites (s : State) (n : Chan) (num : Nat) (x : DWord) : Option BobWrite × List DWord :=
  let cap := s.bobCap n
  let b := s.bobB n
  if s.bobBlock n then
    let blk := (s.chan n).block ++ [x]
    if blk.length < 8 then (none, blk)
    else
      let q := num / 8 % (cap / 8)
      let w := blockWords (num - 7) blk
      (some { words := (w.2.zipIdx.map fun p => (b + 9 * q + 1 + p.2, p.1)) ++ [(b + 9 * q, w.1)], samples := 8 }, [])
  else
    let o := b + 2 * (num % cap)
    (some { words := [(o, loW x), (o + 1, hiW x)], samples := 1 }, [])

/-- Samples of the channel are coded: a BLOCK8 bobbin that feeds a cluster (R247, R251). -/
def State.bobCodes (s : State) (n : Chan) : Bool :=
  s.bobBlock n && ((s.bobCluster n false).isSome || (s.bobCluster n true).isSome)

/-- A sample delivered on the bobbin's source path: numbered, clipped for BLOCK8 (R251), queued for each copy it feeds. -/
def State.bobDeliver (s : State) (n : Chan) (x : DWord) : State :=
  let x := if s.bobCodes n && 0x7FF7FF < x.toInt then 0x7FF7FF else x
  let num := (s.chan n).count
  let w := s.bobWrites n num x
  let feeds := (s.bobCluster n false).isSome || (s.bobCluster n true).isSome
  let g := groupOf n
  let at_ := (s.groupAt g).issued
  let s := if w.1.isSome then { s with groups := upd s.groups g fun x => { x with issued := at_ + 1 } } else s
  s.updChan n fun c =>
    { c with
      count := num + 1
      block := if feeds then w.2 else []
      queue0 := match w.1 with
        | some b => if (s.bobCluster n false).isSome then c.queue0 ++ [{ b with issue := at_ }] else c.queue0
        | none => c.queue0
      queue1 := match w.1 with
        | some b => if (s.bobCluster n true).isSome then c.queue1 ++ [{ b with issue := at_ }] else c.queue1
        | none => c.queue1 }

/-- Samples available to cursors in the copy that a cluster holds. -/
def State.bobAvail (s : State) (n : Chan) (c : Clu) : Nat :=
  if s.bobCluster n false = some c then (s.chan n).avail0 else (s.chan n).avail1
/-- The channel feeds the cluster (R89). -/
def State.bobFeeds (s : State) (n : Chan) (c : Clu) : Bool :=
  s.bobCluster n false = some c || s.bobCluster n true = some c

/-- Physical address of an offset of a cluster's bobbin RAM (R172). -/
def bobAddr (c : Clu) (o : Nat) : Nat := c.val * 0x100000 + 0x48000 + o

/-- Sample number i as a cursor in cluster c reads it, sign-extended to 24 bits (R90, R245). -/
def State.bobSample (s : State) (n : Chan) (c : Clu) (i : Nat) : DWord :=
  let cap := s.bobCap n
  let b := s.bobB n
  if s.bobBlock n then
    let q := i / 8 % (cap / 8)
    let e := bitsAt (s.memWord (bobAddr c (b + 9 * q))) 8 4
    BitVec.ofInt 24 ((s.memWord (bobAddr c (b + 9 * q + 1 + i % 8))).toInt * 2 ^ e)
  else
    let o := b + 2 * (i % cap)
    joinW (s.memWord (bobAddr c (o + 1))) (s.memWord (bobAddr c o))

/-- The bobbin-RAM words that hold sample number i (R245). -/
def State.bobPlace (s : State) (n : Chan) (c : Clu) (i : Nat) : List Nat :=
  let b := s.bobB n
  if s.bobBlock n then
    let q := i / 8 % (s.bobCap n / 8)
    [bobAddr c (b + 9 * q), bobAddr c (b + 9 * q + 1 + i % 8)]
  else [bobAddr c (b + 2 * (i % s.bobCap n)), bobAddr c (b + 2 * (i % s.bobCap n) + 1)]

/-- The word of the sample that fails its parity, if any (R181, R186). -/
def State.popBad (s : State) (n : Chan) (c : Clu) (i : Nat) : Option Nat := (s.bobPlace n c i).find? fun a => !s.memGood a

/-- What a pop returns (R90): the sample, or, where a word of it fails its parity persistently, a value that R90 and R183 do not give. -/
def State.popValue (s : State) (n : Chan) (c : Clu) (i : Nat) : DWord :=
  if (s.popBad n c i).isSome then Config.badSample s.free else s.bobSample n c i

/-- Samples a cursor can pop (SMP.ST.AVL before saturation). -/
def State.cursorAvl (s : State) (e : Eng) (x : SmpState) : Nat :=
  match x.chan with
  | some n => s.bobAvail n e.cluster - x.pos
  | none => 0

/-- A copy has advanced: overtaken cursors move to the oldest sample held, and a rise of AVL to the watermark sets line 12
(R90, R249). -/
def State.bobAdvance (s : State) (n : Chan) (c : Clu) (before : Nat) : State :=
  let now := s.bobAvail n c
  let cap := s.bobCap n
  let wm := s.bobWm n
  (engList.filter fun e => e.cluster = c).foldl (fun s e =>
    let rise := thrList.any fun t =>
      let x := (s.thr e t).smp
      x.chan = some n && wm ≠ 0 && before - x.pos < wm && wm ≤ now - max x.pos (now - cap)
    let s := s.updLanes e fun y =>
      { y with threads := vmap (fun _ (t : Thread) =>
          if t.smp.chan = some n && t.smp.pos < now - cap then { t with smp := { t.smp with pos := now - cap, ovr := true } } else t) y.threads }
    if rise then s.setLine e 12 else s) s

/-! ### Meters (R253 to R258) -/

def meterReg (m : Fin 2) (k : Nat) : Nat := mtrBase + k + m.val
/-- VCH and ICH of a meter (R272). -/
def State.vch (s : State) (m : Fin 2) : Nat := bitsAt (s.reg (meterReg m 1)) 0 6
def State.ich (s : State) (m : Fin 2) : Nat := bitsAt (s.reg (meterReg m 1)) 6 6
/-- XCH, and XEN unless the check was turned off at entry to RUN (R255). -/
def State.xch (s : State) (m : Fin 2) : Nat := bitsAt (s.reg (meterReg m 3)) 0 6
def State.xen (s : State) (m : Fin 2) : Bool := s.regB (meterReg m 3) 11 && !(s.mtr.m[m.val]).xce
def State.xtol (s : State) (m : Fin 2) : Nat := bitsAt (s.reg (meterReg m 3)) 6 5 * 2 ^ 14
/-- RC of a meter (R254). -/
def State.meterRc (s : State) (m : Fin 2) : DWord := s.reg2 (mtrBase + 5 + 2 * m.val)
/-- Source 98 + m (R258). -/
def meterSrc (m : Fin 2) : Fin 160 := ⟨98 + m.val, by omega⟩

/-- The precise path of a channel number is valid; numbers above 47 name no channel. -/
def State.preciseValid (s : State) (n : Nat) : Bool := if h : n < 48 then s.pathValid ⟨n, h⟩ false else false

/-- An input channel of the meter is invalid (R255). -/
def State.meterGap (s : State) (m : Fin 2) : Bool := !(s.preciseValid (s.vch m) && s.preciseValid (s.ich m))

/-- The meter compares nothing: its voltage or its check channel is invalid (R255). -/
def State.noCheck (s : State) (m : Fin 2) : Bool := !(s.preciseValid (s.vch m) && s.preciseValid (s.xch m))

def State.meter (s : State) (m : Fin 2) : Meter := s.mtr.m[m.val]
def State.updMeter (s : State) (m : Fin 2) (f : Meter → Meter) : State := s.updMtr fun x => { x with m := upd x.m m f }

/-- Saturation limit of IMP and EXP (R254). -/
def meterMax : Nat := 2 ^ 95 - 1

/-- The product of one interval (R254). -/
def meterProduct (v i rc : DWord) (inv clc : Bool) : Int :=
  let p := v.toInt * i.toInt
  let p := if inv then -p else p
  if clc then p - (i.toInt * i.toInt * (rc.toNat : Int)).fdiv (2 ^ 24) else p

/-- A product accumulated; the flag says that a register saturated (R254). -/
def MeterAcc.add (a : MeterAcc) (p : Int) : MeterAcc × Bool :=
  if 0 ≤ p then
    let n := a.imp + p.toNat
    ({ a with imp := min n meterMax, n := a.n + 1 }, meterMax < n)
  else
    let n := a.exp + (-p).toNat
    ({ a with exp := min n meterMax, n := a.n + 1 }, meterMax < n)

/-- Both results of an interval are in: the product, and saturation (R254). -/
def State.meterInterval (s : State) (m : Fin 2) (v i : DWord) : State :=
  let p := meterProduct v i (s.meterRc m) (s.regB mtrBase (7 - m.val)) (s.regB mtrBase (9 - m.val))
  let a := (s.meter m).acc.add p
  let s := s.updMeter m fun x => { x with acc := a.1, halted := a.2, p := BitVec.ofInt 48 p }
  if a.2 then s.raise (meterSrc m) 0x05 0 else s

/-- The voltage cross-check of an interval (R255). -/
def State.meterCheck (s : State) (m : Fin 2) (v x : DWord) : State :=
  if s.xtol m < (v.toInt - x.toInt).natAbs then
    let run := (s.meter m).xrun + 1
    let s := s.updMeter m fun y => { y with xrun := run }
    if run = 16 then (s.updMeter m fun y => { y with x := true, xSnap := true }).raise (meterSrc m) 0x03 0 else s
  else s.updMeter m fun y => { y with xrun := 0 }

/-- Two results of one interval, and what is left of two results: a result without a partner in its interval is dropped (R253). -/
def pairUp (a b : Option (Nat × DWord)) : Option (DWord × DWord) × Option (Nat × DWord) × Option (Nat × DWord) :=
  match a, b with
  | some x, some y => if x.1 = y.1 then (some (x.2, y.2), none, none) else if x.1 < y.1 then (none, none, b) else (none, a, none)
  | _, _ => (none, a, b)

/-- A precise result of channel n, of its interval number `num`, reaches meter m and is paired with the result of the same interval
(R253, R255): while an input is invalid nothing is accumulated, and while the voltage or the check channel is, nothing is compared. An
interval that made no comparison ends a run of failing ones. -/
def State.meterResult (s : State) (m : Fin 2) (n : Chan) (num : Nat) (x : DWord) : State :=
  if !(s.meter m).on || (s.meter m).halted then s
  else
    let y := s.meter m
    let r := if s.meterGap m then none else some (num, x)
    let rx := if s.noCheck m then none else some (num, x)
    let xv := if n.val = s.vch m then rx else y.xv
    let xx := if n.val = s.xch m then rx else y.xx
    let p := pairUp (if n.val = s.vch m then r else y.v) (if n.val = s.ich m then r else y.i)
    let c := pairUp xv xx
    let missed := c.1.isNone && (c.2.1 ≠ xv || c.2.2 ≠ xx || (n.val = s.vch m && y.xv.isSome) || (n.val = s.xch m && y.xx.isSome))
    let s := s.updMeter m fun y =>
      { y with v := p.2.1, i := p.2.2, xv := c.2.1, xx := c.2.2, xrun := if missed then 0 else y.xrun }
    let s := match c.1 with
      | some q => if s.xen m then s.meterCheck m q.1 q.2 else s
      | none => s
    match p.1 with
    | some q => s.meterInterval m q.1 q.2
    | none => s

/-- The vote of a meter's three copies after an interval of one of its channels (R256): one that differs is rewritten; where all three
do, the meter halts with the values `before`, the last on which two agreed. -/
def State.meterVote (s : State) (m : Fin 2) (n : Chan) (before : Meter) : CopyFault → State
  | .none => s
  | f =>
    if !(before.on && !before.halted && (n.val = s.vch m || n.val = s.ich m)) then s
    else if f = .oneCopy then s.raise (meterSrc m) 0x01 0
    else (s.updMeter m fun x => { x with acc := before.acc, p := before.p, halted := true }).raise (meterSrc m) 0x02 0

/-- Validity of the meters' inputs looked at again: an invalid input begins or continues a gap and drops a half-received interval, and an
invalid voltage or check channel restarts the count of failing comparisons (R255). The snapshot's G bit leaves out a halted meter, whose
MTR.ST.Gm goes on (DESIGN CHOICE, notes/assumptions/58: R261 and R256 do not say). -/
def State.refreshGaps (s : State) : State :=
  [0, 1].foldl (fun (s : State) (m : Fin 2) =>
    let gap := s.meterGap m
    let noX := s.noCheck m
    s.updMeter m fun y =>
      { y with
        gap := y.on && gap
        gapMs := y.gapMs || (y.on && gap)
        gapNew := y.gapNew || (y.on && gap && !y.gap)
        gapSnap := y.gapSnap || (y.on && gap && !y.halted)
        v := if gap then none else y.v
        i := if gap then none else y.i
        xv := if noX then none else y.xv
        xx := if noX then none else y.xx
        xrun := if noX then 0 else y.xrun }) s

/-- A millisecond ends (R255): GAP counts it when an input was invalid in it, and the first of a gap counts cause 0x04. -/
def State.meterMs (s : State) (m : Fin 2) : State :=
  let y := s.meter m
  let s := s.updMeter m fun y => { y with gapMs := y.gap, gapNew := false }
  if y.on && y.gapMs && !y.halted then
    let s := s.updMeter m fun y => { y with acc := { y.acc with gap := y.acc.gap + 1 }, gapSnap := true }
    if y.gapNew then s.raise (meterSrc m) 0x04 0 else s
  else s

/-- Over-range of a precise result: ORLIM (R240), or a BLOCK8 clip (R251). -/
def State.overRange (s : State) (n : Chan) (x : DWord) : Bool :=
  let lim := bitsAt (s.reg (chanReg n.val 0)) 0 8
  (lim ≠ 0 && lim * 2 ^ 15 ≤ x.toInt.natAbs) || (s.bobCodes n && !s.bobFast n && 0x7FF7FF < x.toInt)

/-- The input of a converter's slot: paired, its code, and how many slots the sequence has (R242, R243). -/
def State.adcSlot (s : State) (adb : Bool) (k : Nat) : Bool × Nat × Nat :=
  let cfg := s.reg adcBase
  let anyPair := (List.range 16).any fun j => s.regB (adcBase + 0x10 + j) 5
  let pair := s.regB (adcBase + 0x10 + k % 16) 5
  let inp := if adb && !pair then bitsAt (s.reg (adcBase + 0x20 + k % 16)) 0 5 else bitsAt (s.reg (adcBase + 0x10 + k % 16)) 0 5
  let len := if adb && !anyPair then bitsAt cfg 0 4 + 1 else bitsAt cfg 4 4 + 1
  (pair, inp, len)

/-! ### Snapshots and the companion (R257 to R266) -/

/-- One bit folded into a CRC-24 (R262). -/
def crcBit (c : DWord) (b : Bool) : DWord := (c <<< 1) ^^^ (if c.getLsbD 23 ^^ b then 0x864CFB else 0)
/-- One word folded, most significant bit first (R262). -/
def crcWord (c : DWord) (w : Word) : DWord := (List.range 12).foldl (fun c i => crcBit c (w.getLsbD (11 - i))) c
/-- CHK of a list of words (R262). -/
def crc24 (ws : List Word) : DWord := ws.foldl crcWord 0xB704CE

/-- The companion RAM's word address. -/
def exRam (i : Nat) : Nat := 0x900000 + i

/-- Words of a wide value, low word first (R8). -/
def wordsOf (n k : Nat) : List Word := (List.range k).map (wordOf n)

/-- The companion port responds (R265, R326). -/
def State.cmpOn (s : State) : Bool := s.regB cmpBase 11 && !s.mtr.cmpIso

/-- INT_N is low (R265): it is held high while the port does not respond. -/
def State.intIsLow (s : State) : Bool := s.mtr.intLow && s.cmpOn

/-- Words 0 to 61 of a snapshot (R261). -/
def State.snapshotWords (s : State) : List Word :=
  let m0 := s.meter 0
  let m1 := s.meter 1
  let flags := flag 11 s.dev.sealed ||| flag 10 s.mtr.shadow.lost ||| flag 9 m0.halted ||| flag 8 m1.halted |||
    flag 7 m0.gapSnap ||| flag 6 m1.gapSnap ||| flag 5 (s.regB mtrBase 9) ||| flag 4 (s.regB mtrBase 8) |||
    flag 3 m0.xSnap ||| flag 2 m1.xSnap
  [0x601, flags] ++ wordsOf s.mtr.shadow.seq.toNat 3 ++ wordsOf s.rcd.ops.toNat 3 ++ wordsOf s.rcd.pcc.toNat 2 ++
    wordsOf m0.acc.imp 8 ++ wordsOf m0.acc.exp 8 ++ wordsOf m1.acc.imp 8 ++ wordsOf m1.acc.exp 8 ++
    wordsOf m0.acc.n.toNat 3 ++ wordsOf m1.acc.n.toNat 3 ++ wordsOf m0.acc.gap.toNat 2 ++ wordsOf m1.acc.gap.toNat 2 ++
    wordsOf (s.meterRc 0).toNat 2 ++ wordsOf (s.meterRc 1).toNat 2 ++ [s.reg (mtrBase + 1), s.reg (mtrBase + 2)] ++
    wordsOf (s.reg2 (mtrBase + 0xA)).toNat 2 ++ [0, 0]

/-- A companion event: counted at its source with CMP.PECNT or XECNT, and its address recorded (R266, R273). -/
def State.companionEvent (s : State) (src : Fin 160) (cause : BitVec 7) (a : BitVec 13) : State :=
  (s.updMtr fun x =>
    { x with lea := a
             pecnt := if src = 132 then sat12 (x.pecnt.toNat + 1) else x.pecnt
             xecnt := if src = 132 then x.xecnt else sat12 (x.xecnt.toNat + 1) }).raise src cause (a.setWidth 24)

/-- MTR.LATCH: every accumulator, count and gap of both meters at once (R259). -/
def State.mtrLatch (s : State) : State := s.updMtr fun x => { x with latch := vmap (fun _ y => y.acc) x.m }

/-- MTR.CLR of the named meters: accumulators, counts, gaps and their shadow copies; a clear of both ends LOST (R257). -/
def State.mtrClear (s : State) (v : Word) : State :=
  s.updMtr fun x =>
    { x with
      m := vmap (fun i y => if v.getLsbD i then { y with acc := {} } else y) x.m
      shadow := { x.shadow with
        acc := vmap (fun i y => if v.getLsbD i then {} else y) x.shadow.acc
        lost := x.shadow.lost && !(v.getLsbD 0 && v.getLsbD 1) } }

end Sys2Proof.Machine
end

