-- ==== Sys2Proof/Machine/Fetch.lean ====
section
/-! DEFINITION. Instruction supply: caches, line buffers, fills (R36 to R42, R87, R88) and the fields of program words (R43 to
R52). -/

namespace Sys2Proof.Machine

/-- Line number PC[16:3]. -/
def lineOf (a : PAddr) : BitVec 14 := (a >>> 3).setWidth 14
/-- Cache set of a line, PC[8:3]. -/
def setOf (l : BitVec 14) : Fin 64 := ⟨l.toNat % 64, by omega⟩
/-- Word within the line. -/
def Line.word (l : Line) (a : PAddr) : PWord := l.words[a.toNat % 8]

def Engine.set (x : Engine) (l : BitVec 14) : CacheSet := x.sets[(setOf l).val]
def Engine.updSet (x : Engine) (l : BitVec 14) (f : CacheSet → CacheSet) : Engine :=
  { x with sets := upd x.sets (setOf l) f }

/-- The way of a set that holds a line. -/
def CacheSet.find (c : CacheSet) (l : BitVec 14) : Option Way :=
  (c.ways.toList.findSome? fun w => w.bind fun w => if w.line.num = l then some w else none)

/-- Pinned ways of a set. -/
def CacheSet.pins (c : CacheSet) : Nat := (c.ways.toList.filter fun w => (w.map Way.pin).getD false).length

/-- Whether way `i` of a set is pinned. -/
def CacheSet.pinned (c : CacheSet) (i : Nat) : Bool := ((c.ways.toList[i]?.bind id).map Way.pin).getD false

/-- The first unpinned way at or cyclically after `i`. -/
def CacheSet.unpinnedFrom (c : CacheSet) (i : Nat) : Fin 4 :=
  ⟨(((List.range 4).map fun k => (i + k) % 4).find? fun k => !c.pinned k).getD i % 4, by omega⟩

/-- A returned line replaces the victim way and the pointer steps to the next unpinned way (R39). -/
def CacheSet.install (c : CacheSet) (l : Line) (pin : Bool) : CacheSet :=
  let v := c.unpinnedFrom c.victim.val
  let c := { c with ways := c.ways.set v.val (some ⟨l, pin⟩) v.isLt }
  { c with victim := c.unpinnedFrom (v.val + 1) }

/-- A present line is pinned (R40). -/
def CacheSet.pinLine (c : CacheSet) (l : BitVec 14) : CacheSet :=
  { c with ways := vmap (fun _ w => w.map fun w => if w.line.num = l then { w with pin := true } else w) c.ways }

/-- A line and its pin are removed (R40). -/
def CacheSet.drop (c : CacheSet) (l : BitVec 14) : CacheSet :=
  { c with ways := vmap (fun _ w => w.bind fun w => if w.line.num = l then none else some w) c.ways }

/-- The cached line, if any. -/
def Engine.cached (x : Engine) (l : BitVec 14) : Option Line := ((x.set l).find l).map Way.line

/-- Pinned lines of the engine (ENG.ICPIN, R40). -/
def Engine.icpin (x : Engine) : Nat := x.sets.toList.foldl (fun n c => n + c.pins) 0

/-- The line a thread's fetch reads: its line buffer, else the cache (R37). -/
def Engine.line (x : Engine) (t : Thr) (a : PAddr) : Option Line :=
  match (x.thr t).lb with
  | some b => if b.num = lineOf a then some b else x.cached (lineOf a)
  | none => x.cached (lineOf a)

/-- The word of a line passes the parity check of the F state (R15, R36, R42). -/
def Line.good (l : Line) (a : PAddr) : Bool := l.par.getLsbD (a.toNat % 8) = foldedParity a.toNat (l.word a)

/-- The parity bit of one word of the line is inverted (R42). -/
def Line.upset (l : Line) (a : PAddr) : Line := { l with par := l.par ^^^ BitVec.ofNat 8 (2 ^ (a.toNat % 8)) }

/-- A line as program memory holds it, with the parity bits of its words (R36, R181). -/
def State.memLine (s : State) (c : Clu) (l : BitVec 14) : Line :=
  let at_ := fun (k : Nat) => (BitVec.ofNat 17 (l.toNat * 8 + k) : PAddr)
  ⟨l, tab 8 fun k => s.progWord c (at_ k), BitVec.ofNat 8 (((List.range 8).map fun k => bit1 (s.progP c (at_ k)) * 2 ^ k).sum)⟩

/-- The word that the thread's fetch reads at an address, in its line buffer or else in the cache, has its parity bit inverted. -/
def Engine.upsetWord (x : Engine) (t : Thr) (a : PAddr) : Engine :=
  let hit := ((x.thr t).lb.map fun b => decide (b.num = lineOf a)).getD false
  if hit then x.updThr t fun y => { y with lb := y.lb.map fun b => b.upset a }
  else x.updSet (lineOf a) fun c =>
    { c with ways := vmap (fun _ w => w.map fun w => if w.line.num = lineOf a then { w with line := w.line.upset a } else w) c.ways }

/-- The word at a program address as the thread would fetch it; program memory where no buffer or cache holds it. -/
def State.fetchWord (s : State) (e : Eng) (t : Thr) (a : PAddr) : PWord :=
  match (s.eng e).line t a with
  | some l => l.word a
  | none => s.progWord e.cluster a

/-- A line fill is requested, unless it already is (R37). -/
def Engine.request (x : Engine) (t : Thr) (l : BitVec 14) (k : FillKind) : Engine :=
  if x.fills.any fun f => f.num = l && f.kind = k && f.t = t then x else { x with fills := x.fills ++ [⟨t, l, k⟩] }

/-! ### Program words -/

/-- N14 id of a C12 source id; `none` is reserved (R50). -/
def c12Src (i : Nat) : Option Nat :=
  if i ≤ 0x12 then some i
  else if i = 0x18 || i = 0x20 then some i
  else if rng i 0x21 0x2F then some i
  else if rng i 0x30 0x37 then some (i + 0x10)
  else if rng i 0x38 0x3B then some (i + 0x18)
  else if i = 0x3C || i = 0x3D then some (i + 0x1E)
  else if i = 0x3E then some 0x64
  else if i = 0x3F then some 0x68
  else none

/-- N14 id of a C12 destination id (R51). -/
def c12Dst (i : Nat) : Nat :=
  if i ≤ 0x0F then i
  else if i ≤ 0x1F then i + 0x10
  else if i ≤ 0x2D then i + 0x1E
  else if i ≤ 0x37 then i + 0x26
  else if i ≤ 0x3B then i + 0x2C
  else if i ≤ 0x3D then i + 0x2C
  else i + 0x32

/-- Source ids of R44 that the unit tables name (R62). -/
def srcExists (i : Nat) : Bool :=
  i ≤ 0x12 || i = 0x18 || rng i 0x20 0x5D || i = 0x5F || rng i 0x60 0x72 || rng i 0x74 0x7A || rng i 0x7C 0x7E

/-- Destination ids of R45 that the unit tables name (R62). -/
def dstExists (i : Nat) : Bool := i ≤ 0x7E && i ≠ 0x63

/-- Source and destination id of a word, with the cause of the fault its encoding raises (R43, R46, R49, R62). -/
structure Ids where
  src : Nat
  dst : Nat
  bad : Option (BitVec 6)
deriving DecidableEq, Repr

/-- The ids of a program word in the encoding in force (R43 to R51). A C12 word whose [13:12] and whose source id are both wrong raises
0x02 (DESIGN CHOICE, notes/assumptions/58: R46 and R49 do not order them). -/
def decodeWord (c12 : Bool) (w : PWord) : Ids :=
  if c12 then
    let d := c12Dst (bitsAt w 0 6)
    if bitsAt w 12 2 ≠ 0 then ⟨(c12Src (bitsAt w 6 6)).getD 0, d, some 0x02⟩
    else match c12Src (bitsAt w 6 6) with
      | some i => ⟨i, d, none⟩
      | none => ⟨0, d, some 0x01⟩
  else
    let i := bitsAt w 7 7
    let d := bitsAt w 0 7
    ⟨i, d, if srcExists i && dstExists d then none else some 0x01⟩

/-- Whether a word is a LIT move, two words long (R44, R18): its source is the literal, whatever its other fields hold. -/
def isLit (c12 : Bool) (w : PWord) : Bool := (decodeWord c12 w).src = 0x18

end Sys2Proof.Machine
end

