-- ==== Sys2Proof/Machine/Heddle.lean ====
section
/-! DEFINITION. Pick signatures (R137 to R140) and the state of the three lanes (R147, R156 to R159). -/

namespace Sys2Proof.Machine

/-- One fold of a word into a signature (R139). -/
def foldStep (s w : DWord) : DWord := ((s <<< 1) ^^^ (if s.getLsbD 23 then 0xC20001 else 0)) ^^^ w

/-- Lane code of ENG.HLAST.LANE (R162, R164). -/
def laneCode : Lane → Nat
  | .a => 1
  | .b => 2
  | .c => 3
/-- A lane code; 0b00 names none. -/
def laneOf : Nat → Option Lane
  | 1 => some .a
  | 2 => some .b
  | 3 => some .c
  | _ => none

def Heddle.sigOf (h : Heddle) (l : Lane) : DWord := h.sig[(laneIdx l).val]

/-- The commits and entry slots of the open pick, as the source lane counts them (R140). -/
def Heddle.commits (h : Heddle) : Nat := (h.good.head?.map fun l => h.count[(laneIdx l).val]).getD 0

/-- ENG.HST.STATE (R164). -/
def Heddle.state (h : Heddle) : Nat :=
  if h.stopped then 3 else if h.odd.isSome then 1 else if h.retired.toList.any id then 2 else 0

/-- The odd parity bit of a 12-bit value (R182). -/
def oddParity (v : Word) : Bool := ((List.range 12).filter fun i => v.getLsbD i).length % 2 = 0

/-- W0 of a move (R137). -/
def w0Move (d : Nat) (t : Thr) (v : Word) : DWord :=
  BitVec.ofNat 24 (d % 128 * 2 ^ 16 + t.val * 2 ^ 13 + bit1 (oddParity v) * 2 ^ 12 + v.toNat)
/-- W0 of an entry slot (R137). -/
def w0Entry (cause : BitVec 6) (t : Thr) (vec : PAddr) : DWord :=
  BitVec.ofNat 24 (2 ^ 23 + cause.toNat * 2 ^ 16 + t.val * 2 ^ 13 + vec.toNat % 4096)
/-- WA and WD of a request (R137, R138). -/
def Request.words (r : Request) : List DWord :=
  [r.addr, BitVec.ofNat 24 (r.kind.toNat * 2 ^ 20 + bit1 r.parity * 2 ^ 12 + r.data.toNat)]

/-- A request of the kinds of R138, with the parity bit of its data; one that is no memory access has 0xF00_000 + the destination
id of its trigger for an address (R137). -/
def request (addr : Addr) (kind : BitVec 4) (data : Word) : Request := { addr := addr, kind := kind, data := data, parity := oddParity data }
def portRequest (d : Nat) (kind : BitVec 4) (data : Word) : Request := request (BitVec.ofNat 24 (0xF00000 + d)) kind data

/-- The first word of a fold with W0[0] inverted (R165). -/
def injectW0 : List DWord → List DWord
  | [] => []
  | w :: r => (w ^^^ 1) :: r

/-- A commit or entry slot folded into every committing lane, and counted for the pick (R137, R140); an armed injection
inverts W0[0] of its lane (R165). -/
def Heddle.fold (h : Heddle) (t : Thr) (ws : List DWord) : Heddle :=
  let hit := fun (i : Nat) => ((laneList[i]?).map h.commits?).getD false && (h.inject.toList[i]?).getD false
  { h with
    sig := vmap (fun i s =>
      if ((laneList[i]?).map h.commits?).getD false then (if hit i then injectW0 ws else ws).foldl foldStep s else s) h.sig
    inject := vmap (fun i b => b && !hit i) h.inject
    injPick := vmap (fun i b => b || hit i) h.injPick
    count := vmap (fun i n => if ((laneList[i]?).map h.commits?).getD false then n + 1 else n) h.count
    lastThr := t }

def State.foldCommit (s : State) (e : Eng) (t : Thr) (ws : List DWord) : State :=
  s.updEng e fun x => { x with heddle := x.heddle.fold t ws }

/-- The requests of a commit leave the lane for output voting (R15, R144). -/
def State.send (s : State) (e : Eng) (t : Thr) (reqs : List Request) : State :=
  if reqs.isEmpty then s else s.updEng e fun x => { x with out := x.out ++ [⟨x.slot, t, reqs⟩], slot := x.slot + 1 }

/-- A commit with its requests: folded into the signature, and sent to the vote (R15, R137). -/
def State.commit (s : State) (e : Eng) (t : Thr) (w0 : DWord) (reqs : List Request) : State :=
  (s.foldCommit e t (w0 :: (reqs.map Request.words).flatten)).send e t reqs

/-- A request of the thread has not been voted yet (R144). -/
def Engine.unvoted (x : Engine) (t : Thr) : Bool := x.out.any fun o => o.t = t

/-- Pick length W of ENG.HCFG.PICKW (R140). -/
def State.pickW (s : State) (e : Eng) : Nat := 16 * 2 ^ (s.regN (engBase e + 0x40) % 4)

end Sys2Proof.Machine
end

