-- ==== Sys2Proof/Machine/Traps.lean ====
section
/-! DEFINITION. Levels, frames, taking an exception and returning from one (R103 to R130): one shared entry operation, one shared
return, lockup, imprecise exceptions, and which event a thread takes next. -/

namespace Sys2Proof.Machine

/-- TM in force for the thread's next move (R127, R129). -/
def Thread.tmNow (x : Thread) : Word := match x.shadow with | some p => p.1 | none => x.tm
/-- KR in force for the thread's next move. -/
def Thread.krNow (x : Thread) : Vector Word 3 := match x.shadow with | some p => p.2 | none => x.kr
/-- Machine level (R103). -/
def Thread.machine (x : Thread) : Bool := x.tmNow.getLsbD 11
/-- The next move is a deferred move (R127). -/
def Thread.deferred (x : Thread) : Bool := x.lsu.delay || x.shadow.isSome

/-! ### Frames (R113, R124) -/

/-- Where an entry puts its frame: address, the bit of ENG.FUSE it takes, whether it lies on a deep stack, and whether it is
the emergency frame. -/
structure FrameSlot where
  addr : Nat
  use : Option (Fin 8)
  stack : Bool
  ovr : Bool
deriving DecidableEq, Repr

/-- The frame area (R113). -/
def State.frameArea (s : State) (e : Eng) : Nat := homeBase e + s.regN (engBase e + 0x11) % 128 * 256

/-- ENG.FSPt of threads 0 and 1. -/
def Engine.fspOf (x : Engine) (t : Thr) : Nat := (x.fsp[t.val % 2]'(Nat.mod_lt _ (by decide))).toNat

/-- The frame the next entry of a thread takes; `none` when it has no free frame (R113, R116, R124). -/
def State.allocFrame (s : State) (e : Eng) (t : Thr) : Option FrameSlot :=
  let x := s.eng e
  let area := s.frameArea e
  match s.shape e with
  | 0 => if x.fuse.getLsbD t.val then none else some ⟨area + 32 * t.val, some t, false, false⟩
  | 1 =>
    let b := 2 * (t.val % 4)
    if !x.fuse.getLsbD b then some ⟨area + 32 * b, some ⟨b, by omega⟩, false, false⟩
    else if !x.fuse.getLsbD (b + 1) then some ⟨area + 32 * (b + 1), some ⟨b + 1, by omega⟩, false, false⟩
    else none
  | _ =>
    let n := x.fspOf t
    let lim := s.regN (engBase e + 0x14 + t.val % 2)
    let first := s.regN (engBase e + 0x12 + t.val % 2) - 1
    if x.fuse.getLsbD t.val then none
    else if n = 0 || n - 1 < lim || (homeBase e + (n - 1) * 32) / 4096 ≠ (homeBase e + first * 32) / 4096 then
      some ⟨area + 32 * t.val, some t, false, true⟩
    else some ⟨homeBase e + (n - 1) * 32, none, true, false⟩

/-- The frame a return reads: the lean slot, the standard slot last entered, the top of the deep stack, or the emergency
frame; `none` when the thread holds no frame (R121). -/
def State.currentFrame (s : State) (e : Eng) (t : Thr) : Option FrameSlot :=
  let x := s.eng e
  let area := s.frameArea e
  match s.shape e with
  | 0 => if x.fuse.getLsbD t.val then some ⟨area + 32 * t.val, some t, false, false⟩ else none
  | 1 =>
    let b := 2 * (t.val % 4)
    if x.fuse.getLsbD (b + 1) then some ⟨area + 32 * (b + 1), some ⟨b + 1, by omega⟩, false, false⟩
    else if x.fuse.getLsbD b then some ⟨area + 32 * b, some ⟨b, by omega⟩, false, false⟩
    else none
  | _ =>
    if x.fuse.getLsbD t.val then some ⟨area + 32 * t.val, some t, false, true⟩
    else if x.fspOf t = s.regN (engBase e + 0x12 + t.val % 2) then none
    else some ⟨homeBase e + x.fspOf t * 32, none, true, false⟩

def setBit8 (b : BitVec 8) (i : Fin 8) (v : Bool) : BitVec 8 :=
  let m : BitVec 8 := BitVec.ofNat 8 (2 ^ i.val)
  if v then b ||| m else b &&& ~~~m

/-- A frame is taken (`true`) or freed (R113, R121). -/
def Engine.markFrame (x : Engine) (t : Thr) (f : FrameSlot) (take : Bool) : Engine :=
  match f.use with
  | some i => { x with fuse := setBit8 x.fuse i take }
  | none => { x with fsp := upd x.fsp ⟨t.val % 2, Nat.mod_lt _ (by decide)⟩ fun v => if take then v - 1 else v + 1 }

/-! ### Lockup (R123) -/

/-- Every thread halted and ENG.LOCK written. -/
def Engine.lockUp (x : Engine) (t : Thr) (cause : BitVec 6) : Engine :=
  { x with
    threads := vmap (fun _ y => { y with run := .locked, haltReq := false }) x.threads
    lock := flag 11 true ||| fld 8 t.val ||| cause.setWidth 12
    cur := none
    heddle := { x.heddle with odd := none, phase := .none } }

/-- Whether LOCKUP_N is low (R332). -/
def State.lockedUp (s : State) : Bool := s.engines.toList.any Engine.locked

/-- An engine locks up: threads stop, the record is written, LOCKUP_N asserts, and the fault source counts `code` (R123, R160,
R320). -/
def State.lockWith (s : State) (e : Eng) (t : Thr) (cause : BitVec 6) (code : BitVec 7) (payload : DWord) : State :=
  if (s.eng e).locked then s
  else
    let was := s.lockedUp
    let s := (s.updEng e fun x => x.lockUp t cause).raise (engSrc e) code payload
    if was then s else s.hirq

/-- Lockup of R123, counted with cause 0x50 and payload thread and entry cause (R320). -/
def State.lockup (s : State) (e : Eng) (t : Thr) (cause : BitVec 6) : State :=
  s.lockWith e t cause 0x50 (BitVec.ofNat 24 (t.val * 2 ^ 9 + cause.toNat))

/-! ### Precise faults and imprecise exceptions arise -/

/-- What MMU.FA, FAH and FS receive (R97). -/
def Thread.mmuFault (x : Thread) (f : PFault) : Thread :=
  if 0x10 ≤ f.cause.toNat && f.cause.toNat ≤ 0x15 then
    { x with mmu := { x.mmu with fa := loW f.fa, fah := hiW f.fa, fs := f.fs } }
  else x

/-- A precise fault arises (R16, R106): it waits for its entry slot, or locks up the engine when the thread has no free frame
(R123). Taking a deferred load fault consumes it (R80). -/
def State.preciseFault (s : State) (e : Eng) (t : Thr) (f : PFault) : State :=
  match s.allocFrame e t with
  | none => s.lockup e t f.cause
  | some _ =>
    s.updThr e t fun x =>
      { x.mmuFault f with
        pfault := some f
        lsu := if rng f.cause.toNat 0x17 0x19 && !x.blk.active then { x.lsu with fault := none } else x.lsu }

/-- The EXC.AMASK bit that masks a cause (R98). -/
def amaskBit : Nat → Option Nat
  | 0x1B => some 0
  | 0x1C => some 1
  | 0x1D => some 2
  | _ => none

/-- An imprecise exception arises at trigger `pc` with destination id `d` (R98, R125). -/
def State.imprecise (s : State) (e : Eng) (t : Thr) (cause : BitVec 6) (pc : PAddr) (d : BitVec 7) (fa : Addr) : State :=
  let x := s.thr e t
  if ((amaskBit cause.toNat).map fun b => x.exc.amask.getLsbD b).getD false then s
  else match x.pexc with
  | some _ => s.updThr e t fun x => { x with exc := { x.exc with cs := x.exc.cs ||| 0x800 } }
  | none =>
    let s := s.updThr e t fun x =>
      { x with
        exc := { x.exc with ea := pc.setWidth 12, eah := (pc >>> 12).setWidth 12, cs := cause.setWidth 12, port := d.setWidth 12 }
        pexc := some (cause, fa) }
    match s.allocFrame e t with
    | none => s.lockup e t cause
    | some _ => s

/-! ### Which event is taken (R107, R116, R120, R122) -/

/-- An event of a thread. -/
inductive Event where
  | precise (f : PFault)
  | imprecise (cause : BitVec 6) (fa : Addr)
  | nmi
  | line (n : Fin 32)
deriving DecidableEq, Repr

/-- Cause code (R108). -/
def Event.cause : Event → BitVec 6
  | .precise f => f.cause
  | .imprecise c _ => c
  | .nmi => 0
  | .line n => BitVec.ofNat 6 (0x20 + n.val)

/-- ENG.IRTn (R133). -/
def State.irt (s : State) (e : Eng) (n : Nat) : Word := s.reg (engBase e + 0x20 + n)
def State.irtPri (s : State) (e : Eng) (n : Nat) : Nat := bitsAt (s.irt e n) 3 3

/-- Line n is eligible on thread t at active priority `apri` (R116), but for IEN and the free frame. -/
def State.lineEligible (s : State) (e : Eng) (t : Thr) (apri : BitVec 4) (n : Nat) : Bool :=
  (s.irt e n).getLsbD 6 && (s.eng e).ipend.getLsbD n && bitsAt (s.irt e n) 0 3 = t.val &&
    (apri = 0xF || apri.toNat < s.irtPri e n)

/-- The best of the eligible lines that `ok` admits: higher priority, then lower number (R107). -/
def State.pickLine (s : State) (e : Eng) (t : Thr) (apri : BitVec 4) (ok : Nat → Bool) : Option (Fin 32) :=
  (List.finRange 32).foldl (fun b n =>
    if s.lineEligible e t apri n.val && ok n.val then
      match b with
      | none => some n
      | some m => if s.irtPri e m.val < s.irtPri e n.val then some n else b
    else b) none

/-- The NMI can be taken on the thread (R120). -/
def State.nmiEligible (s : State) (e : Eng) (t : Thr) (apri : BitVec 4) (free : Bool) : Bool :=
  t.val = 0 && (s.eng e).nmi && apri ≠ 8 && free && s.isSel e

/-- The interrupt or NMI whose entry the thread has begun, while it can still be taken: its line number, 32 for NMI (R118). -/
def State.beingEntered (s : State) (e : Eng) (t : Thr) (ien : Bool) (apri : BitVec 4) (free : Bool) : Option Nat :=
  match (s.thr e t).entering with
  | none => none
  | some c =>
    if c = 0 then (if s.nmiEligible e t apri free then some 32 else none)
    else if ien && free && s.lineEligible e t apri (c.toNat % 32) then some (c.toNat % 32) else none

/-- When a pending line, or 32 for the NMI, was agreed (R118). -/
def Engine.agreedAt (x : Engine) (n : Nat) : Nat := (x.agreed.toList[n]?).getD 0

/-- The event taken at a boundary with IEN, active priority and frame as given (R107): imprecise exceptions, NMI, lines. An entry that
has begun is taken over only by an NMI or a line of higher priority, agreed no more than 9 ek after the interrupt being entered; any
other event waits (R118). -/
def State.pickEvent (s : State) (e : Eng) (t : Thr) (ien : Bool) (apri : BitVec 4) (free : Bool) : Option Event :=
  match (s.thr e t).pexc with
  | some p => some (.imprecise p.1 p.2)
  | none =>
    let ok := fun (n : Nat) => match s.beingEntered e t ien apri free with
      | some k => n = k || (decide ((s.eng e).agreedAt n ≤ (s.eng e).agreedAt k + 9) &&
          (n = 32 || (k ≠ 32 && decide (s.irtPri e k < s.irtPri e n))))
      | none => true
    if s.nmiEligible e t apri free && ok 32 then some .nmi
    else if ien && free then (s.pickLine e t apri ok).map .line
    else none

/-- Vector of an exception cause (R108, R109). -/
def excVector (c : Nat) : Nat :=
  match c with
  | 0x00 => 0
  | 0x01 | 0x02 | 0x03 => 1
  | 0x04 | 0x05 => 2
  | 0x06 => 3
  | 0x07 => 4
  | 0x08 => 5
  | 0x09 => 6
  | 0x10 | 0x11 | 0x12 | 0x13 => 7
  | 0x14 | 0x15 => 8
  | 0x16 => 9
  | 0x17 | 0x18 | 0x19 => 10
  | 0x1A => 11
  | 0x1B | 0x1C | 0x1D => 12
  | _ => 13

/-- Vector address of a cause (R109). -/
def State.vector (s : State) (e : Eng) (cause : BitVec 6) : PAddr :=
  let n := cause.toNat
  BitVec.ofNat 17 (s.vbase e + (if 0x20 ≤ n then 4 * (n - 0x20) else 0x80 + 4 * excVector n))

/-! ### The entry (R114) -/

/-- Words 0 to 15, then 16 and 17 when `ldd`, then 18 to 25 when `blka`, by word number (R110 to R112). -/
def frameWords (x : Thread) (cause : BitVec 6) (val : Word) (fa : Addr) (lit ldd blka : Bool) : List (Nat × Word) :=
  let q := x.lsu.newQ.getD (x.lsu.q, none)
  let pch := flag 11 ldd ||| flag 10 blka ||| flag 9 lit ||| fld 5 x.apri.toNat ||| (x.pc >>> 12).setWidth 12
  let cs := flag 11 x.alu.n ||| flag 10 x.alu.z ||| flag 9 x.alu.c ||| flag 8 x.alu.v ||| cause.setWidth 12
  [(0, x.pc.setWidth 12), (1, pch), (2, x.tm), (3, cs), (4, val), (5, loW fa), (6, hiW fa), (7, x.lsu.seg),
   (8, x.g[1]), (9, x.g[2]), (10, x.thi), (11, x.cnd), (12, x.lsu.d), (13, x.lsu.dh), (14, x.lsu.q), (15, x.lsu.qh)] ++
  (if ldd then [(16, q.1), (17, q.2.getD x.lsu.qh)] else []) ++
  (if blka then
    let b := x.blk
    [(18, flag 3 b.glit ||| flag 2 b.sne ||| b.op.setWidth 12), (19, b.live.src), (20, b.live.sseg), (21, b.live.dst),
     (22, b.live.dseg), (23, b.live.cnt), (24, b.live.pat), (25, b.live.ign)]
  else [])

/-- The words of a thread's frame for an event (R110 to R112, R124): the emergency frame takes cause 0x1E. -/
def State.frameOf (s : State) (e : Eng) (t : Thr) (f : FrameSlot) (cause : BitVec 6) (val : Word) (fa : Addr) : List (Nat × Word) :=
  let x := s.thr e t
  frameWords x (if f.ovr then 0x1E else cause) (if f.ovr then cause.setWidth 12 else val) (if f.ovr then 0 else fa)
    (isLit (x.tm.getLsbD 10) (s.fetchWord e t x.pc)) x.lsu.delay (x.blk.active && !x.blk.ended)

/-- The frame writer writes its words (R114). -/
def State.writeFrame (s : State) (base : Nat) (ws : List (Nat × Word)) : State :=
  ws.foldl (fun s p => s.setMem (base + p.1) p.2) s

/-- Active priority after the entry (R114 step 3, R122). -/
def entryApri (s : State) (e : Eng) (ev : Event) (base : BitVec 4) : BitVec 4 :=
  match ev with
  | .line n => BitVec.ofNat 4 (s.irtPri e n.val)
  | .nmi => 8
  | _ => base

/-- The event is consumed: a line's pending bit, the pending NMI, the thread's pending fault or exception (R114 step 1). -/
def State.consume (s : State) (e : Eng) (t : Thr) (ev : Event) : State :=
  match ev with
  | .line n => s.updEng e fun x => { x with ipend := x.ipend &&& ~~~ BitVec.ofNat 32 (2 ^ n.val) }
  | .nmi => s.updEng e fun x => { x with nmi := false }
  | .precise _ => s.updThr e t fun x => { x with pfault := none }
  | .imprecise _ _ => s.updThr e t fun x => { x with pexc := none }

/-- Steps 2 to 5 of R114 on the thread: machine level, active priority, the vector, G1, G2 and LSU.SEG. -/
def Thread.entered (x : Thread) (apri : BitVec 4) (vec : PAddr) (addr : Nat) : Thread :=
  let q := x.lsu.newQ.getD (x.lsu.q, none)
  { x with
    tm := 0x800
    shadow := none
    apri := apri
    pc := vec
    g := (x.g.set 1 (wordOf addr 0)).set 2 (wordOf addr 1)
    lsu := { x.lsu with seg := wordOf addr 1, delay := false, newQ := none, q := q.1, qh := q.2.getD x.lsu.qh }
    blk := { x.blk with active := false, ended := false, done := x.blk.done || (x.blk.active && x.blk.ended) }
    begun := false
    entering := none
    tail := none }

/-- A fault of the walk that runs for the thread will be met again by its missing move or element (R77, R85). -/
def Engine.orphanWalk (x : Engine) (t : Thr) : Engine :=
  { x with walk := x.walk.map fun w => if w.t = t then { w with orphan := true } else w }

/-- VAL of an entry (R108). -/
def Event.val : Event → Word
  | .precise f => f.val
  | _ => 0
/-- FA and FAH of an entry (R108). -/
def Event.fa : Event → Addr
  | .precise f => f.fa
  | .imprecise c fa => if c = 0x1A then fa else 0
  | _ => 0

/-- What an entry does in a lane (R114): the thread's state is staged for the frame writer, the event is consumed, TM := 0x800, PC := the
vector, and the entry slot is folded (R137). An imprecise exception that arose while a frame was free but finds none at its entry
locks up the engine at that boundary (DESIGN CHOICE, notes/assumptions/58: R123 speaks of the instant in which it arises). -/
def State.enterLane (s : State) (e : Eng) (t : Thr) (ev : Event) : State :=
  match s.allocFrame e t with
  | none => s.lockup e t ev.cause
  | some f =>
    let cause : BitVec 6 := if f.ovr then 0x1E else ev.cause
    let vec := s.vector e cause
    let apri := entryApri s e ev (s.thr e t).apri
    let ws := s.frameOf e t f ev.cause ev.val ev.fa
    let s := s.updThr e t fun x => { x with staged := ws }
    let s := s.consume e t ev
    let s := s.updEng e fun y =>
      { ((y.markFrame t f true).orphanWalk t).updThr t fun x => x.entered apri vec f.addr with
        blkOwner := if y.blkOwner = some t then none else y.blkOwner }
    s.foldCommit e t [w0Entry cause t vec]

/-- TAKING AN EXCEPTION (R114): the thread's state goes into a free frame, or into the emergency frame through X13 with cause
0x1E (R124), and the thread enters the handler. -/
def State.enter (s : State) (e : Eng) (t : Thr) (ev : Event) : State :=
  match s.allocFrame e t with
  | none => s.lockup e t ev.cause
  | some f => (s.writeFrame f.addr (s.frameOf e t f ev.cause ev.val ev.fa)).enterLane e t ev

/-- CS.CAUSE of a frame is rewritten (R122). -/
def State.rewriteCause (s : State) (addr : Nat) (cause : Word) : State :=
  s.setMem (addr + 3) ((s.memWord (addr + 3) &&& 0xFC0) ||| cause)

/-- What a tail entry does in a lane (R122): the priority in force is the interrupted code's, as the gate found it in the frame. -/
def State.tailLane (s : State) (e : Eng) (t : Thr) (f : FrameSlot) (q : Tail) (ev : Event) : State :=
  let apri := entryApri s e ev q.apri
  let vec := s.vector e ev.cause
  let s := s.consume e t ev
  let s := s.updEng e fun y => (y.orphanWalk t).updThr t fun x => x.entered apri vec f.addr
  s.foldCommit e t [w0Entry ev.cause t vec]

/-- A tail entry (R122): the frame stays in use, CS.CAUSE is rewritten, and the entry of the new event follows. Of a posted-store error
the frame's VAL, FA and FAH stay as they stood (DESIGN CHOICE, notes/assumptions/62: R122 rewrites CS.CAUSE alone). -/
def State.tailEnter (s : State) (e : Eng) (t : Thr) (f : FrameSlot) (q : Tail) (ev : Event) : State :=
  (s.rewriteCause f.addr (ev.cause.setWidth 12)).tailLane e t f q ev

/-! ### The return (R121) -/

/-- The words of a frame as the home bank holds them. -/
def State.frameAt (s : State) (addr : Nat) (k : Nat) : Word := s.memWord (addr + k)

/-- RETURN FROM AN EXCEPTION (R121, R128, R130): the frame's words restore the thread and the frame is freed. TM takes the frame's
word as it stands, its reserved bits too, and a resumed block operation starts with HIT, LT and FLT clear (DESIGN CHOICE,
notes/assumptions/58: R22, R83 and R130 do not say). A load of the handler that is still outstanding stays so, and writes LSU.Q and QH of
the restored code when it completes (DESIGN CHOICE, notes/assumptions/62: R121 waits for the posted stores alone). -/
def State.restoreWith (s : State) (e : Eng) (t : Thr) (f : FrameSlot) (w : Nat → Word) : State :=
  let pch := w 1
  let ldd := pch.getLsbD 11
  let blka := pch.getLsbD 10
  let pc : PAddr := BitVec.ofNat 17 (bitsAt pch 0 5 * 4096 + (w 0).toNat)
  let cs := w 3
  let bctl := w 18
  let glit := bctl.getLsbD 3
  s.updEng e fun y =>
    let y := (y.markFrame t f false).updThr t fun x =>
      { x with
        pc := pc
        tm := w 2
        shadow := none
        alu := { x.alu with n := cs.getLsbD 11, z := cs.getLsbD 10, c := cs.getLsbD 9, v := cs.getLsbD 8 }
        g := (x.g.set 1 (w 8)).set 2 (w 9)
        thi := w 10
        cnd := w 11
        lsu := { x.lsu with
          seg := w 7, d := w 12, dh := w 13, q := w 14, qh := w 15
          delay := ldd
          newQ := if ldd then some (w 16, some (w 17)) else none }
        apri := BitVec.ofNat 4 (bitsAt pch 5 4)
        ret := false
        blk :=
          if blka then
            { x.blk with
              live := { src := w 19, sseg := w 20, dst := w 21, dseg := w 22, cnt := w 23, pat := w 24, ign := w 25 }
              op := bctl.setWidth 2, sne := bctl.getLsbD 2, glit := glit
              goPc := pc - (if glit then 2 else 1)
              done := w 23 = 0, hit := false, lt := false, flt := false, ended := false, tries := 0
              active := w 23 ≠ 0 }
          else x.blk }
    if blka && w 23 ≠ 0 && y.blkOwner = none then { y with blkOwner := some t } else y

/-- The return with the words that the home bank holds. -/
def State.restore (s : State) (e : Eng) (t : Thr) (f : FrameSlot) : State := s.restoreWith e t f (s.frameAt f.addr)

end Sys2Proof.Machine
end

