-- ==== Sys2Proof/Machine/Operands.lean ====
section
/-! DEFINITION. Every source a move can read (R44, R61 to R101), when it is readable (R28), address formation (R74), translation
and the checks of an access (R171, R177, R179, R198 to R205). -/

namespace Sys2Proof.Machine

/-! ### The level a move runs under -/

/-- What a trigger takes from its move: level and key rights in force (R129), and the move's length in words (R18). -/
structure Force where
  machine : Bool
  kr : Vector Word 3
  len : Nat
deriving DecidableEq, Repr

/-- Length in words of the move at PC (R18). -/
def State.moveLen (s : State) (e : Eng) (t : Thr) : Nat :=
  let x := s.thr e t
  if isLit (x.tmNow.getLsbD 10) (s.fetchWord e t x.pc) then 2 else 1

/-- What the thread's next move runs under. -/
def State.force (s : State) (e : Eng) (t : Thr) : Force :=
  let x := s.thr e t
  ⟨x.machine, x.krNow, s.moveLen e t⟩

/-! ### Watchdog windows, as WDC.ST and WDG.ST show them (R342) -/

/-- P_t: ticks of a period with the parameters in force. -/
def State.wdgPt (s : State) : Nat := (if s.regB wdgBase 11 then 4 else 1) * s.wdg.now.per.toNat
/-- K: the closed window's ticks. -/
def State.wdgK (s : State) : Nat := s.wdg.now.c.toNat * s.wdgPt / 8
/-- The current tick lies in the open window (R342). -/
def State.wdgOpen (s : State) : Bool :=
  s.wdg.running && !s.wdg.held && !s.wdg.restart && s.wdgK ≤ s.wdg.i.toNat && s.wdg.i.toNat < s.wdgPt

/-! ### Agreed inputs (R93) -/

/-- The four INP words of a set of agreed levels. -/
def inpWords (x : BitVec 42) : Vector Word 4 :=
  #v[x.setWidth 12, (x >>> 12).setWidth 12,
     flag 8 (x.getLsbD 0x1C) ||| flag 7 (x.getLsbD 0x1B) ||| flag 6 (x.getLsbD 0x1A) ||| flag 5 (x.getLsbD 0x19) |||
       flag 4 (x.getLsbD 0x18) ||| flag 3 (x.getLsbD 0x1E) ||| flag 2 (x.getLsbD 0x1D) ||| flag 1 (x.getLsbD 0x20) |||
       flag 0 (x.getLsbD 0x1F),
     (x >>> 0x21).setWidth 8 |>.setWidth 12]

/-- The thread's INP words: frozen by INP.SNAP, or live. -/
def State.inp (s : State) (e : Eng) (t : Thr) : Vector Word 4 :=
  (s.thr e t).inp.getD (inpWords (s.eng e).inputs)

/-! ### Status words -/

/-- ALU.F (R67). -/
def AluState.f (x : AluState) : Word := flag 3 x.n ||| flag 2 x.z ||| flag 1 x.c ||| flag 0 x.v

/-- Posted stores of a thread (LSU.ST.PEND, R79). -/
def Engine.posted (x : Engine) (t : Thr) : Nat := (x.sbuf.filter fun q => q.t = t).length

/-- LSU.ST (R79). -/
def State.lsuSt (s : State) (e : Eng) (t : Thr) : Word :=
  let x := (s.thr e t).lsu
  flag 11 x.part ||| flag 10 x.split ||| flag 9 x.busy ||| flag 8 x.rpl ||| fld 0 (min 4 ((s.eng e).posted t))

/-- BLK.ST (R83). -/
def BlkState.st (x : BlkState) : Word :=
  flag 11 x.done ||| flag 10 x.hit ||| flag 9 x.lt ||| flag 8 x.flt ||| x.op.setWidth 12

/-- SMP.ST (R91). -/
def State.smpSt (s : State) (e : Eng) (t : Thr) : Word :=
  let x := (s.thr e t).smp
  flag 11 x.ovr |||
    match x.chan with
    | some n => flag 10 true ||| flag 8 (s.bobBlock n) ||| BitVec.ofNat 12 (min 255 (s.cursorAvl e x))
    | none => 0

/-- The mailbox MSG.SEL names. -/
def Thread.mbSel (x : Thread) : Fin 4 := ⟨bitsAt x.msg.sel 0 2 % 4, by omega⟩

/-- MSG.ST (R92). -/
def State.msgSt (s : State) (e : Eng) (t : Thr) : Word :=
  let y := s.eng e
  let full := fun (b : Nat) => flag (8 + b) (((y.mbox.toList[b]?).getD []).length ≠ 0)
  full 0 ||| full 1 ||| full 2 ||| full 3 ||| BitVec.ofNat 12 (min 16 (y.mbox[(y.thr t).mbSel.val]).length)

/-- TMR.ST (R94). -/
def TmrState.st (x : TmrState) : Word := flag 11 x.exp ||| flag 10 x.run ||| x.ovf.setWidth 12

/-- WDC.ST as the thread's last verdict left it (R34, R100). -/
def State.wdcSt (s : State) (e : Eng) (t : Thr) : Word := (s.thr e t).wdc

/-- SVP.ST as the thread's last operation left it; 0 before the first (R34, R101). -/
def State.svpSt (s : State) (e : Eng) (t : Thr) : Word := (s.thr e t).svp.st

/-- THR (R48). -/
def State.thrWord (s : State) (e : Eng) (t : Thr) : Word := fld 6 e.val ||| fld 4 (s.shape e) ||| fld 0 t.val

/-- The KR word that THI[1:0] selects; 0b11 reads 0 (R86). -/
def Thread.krWord (x : Thread) : Word :=
  match bitsAt x.thi 0 2 with
  | 0 => x.kr[0]
  | 1 => x.kr[1]
  | 2 => x.kr[2]
  | _ => 0

/-! ### Reading a source (R44, R61) -/

/-- The value a source gives, without side effect (R108). -/
def State.srcValue (s : State) (e : Eng) (t : Thr) (i : Nat) (lit : Word) : Word :=
  let x := s.thr e t
  if i ≤ 0xF then BitVec.ofNat 12 i
  else if i = 0x20 then s.thrWord e t
  else if h : i ≤ 0x3F ∧ 0x21 ≤ i then x.g[i - 0x20]'(by omega)
  else match i with
  | 0x10 => 0xFFF
  | 0x11 => 0x800
  | 0x12 => 0x7FF
  | 0x18 => lit
  | 0x40 => x.alu.r
  | 0x41 => x.alu.f
  | 0x42 => flag 0 (x.alu.n ≠ x.alu.v)
  | 0x43 => flag 0 (!x.alu.c)
  | 0x44 => wordOf x.mul.p.toNat 0
  | 0x45 => wordOf x.mul.p.toNat 1
  | 0x46 => wordOf x.mul.p.toNat 2
  | 0x47 => wordOf x.mul.p.toNat 3
  | 0x48 => wordOf x.mac.acc.toNat 0
  | 0x49 => wordOf x.mac.acc.toNat 1
  | 0x4A => wordOf x.mac.acc.toNat 2
  | 0x4B => wordOf x.mac.acc.toNat 3
  | 0x4C => x.apx.r
  | 0x4D => x.apx.rh
  | 0x4E => x.apx.e
  | 0x4F => x.apx.rem
  | 0x50 => x.lsu.q
  | 0x51 => x.lsu.qh
  | 0x52 => x.lsu.p
  | 0x53 => s.lsuSt e t
  | 0x54 => x.blk.live.src
  | 0x55 => x.blk.live.sseg
  | 0x56 => x.blk.live.dst
  | 0x57 => x.blk.live.dseg
  | 0x58 => x.blk.live.cnt
  | 0x59 => x.blk.st
  | 0x5A => x.lk.setWidth 12
  | 0x5B => (x.lk >>> 12).setWidth 12
  | 0x5C => x.tm
  | 0x5D => x.krWord
  | 0x5F => x.ist
  | 0x60 => match x.smp.chan with
    | some n => if x.smp.pos < s.bobAvail n e.cluster then loW (s.popValue n e.cluster x.smp.pos) else 0
    | none => 0
  | 0x61 => x.smp.qh
  | 0x62 => s.smpSt e t
  | 0x63 => x.smp.seq
  | 0x64 => (((s.eng e).mbox[x.mbSel.val]).head?.map MailWord.v).getD 0
  | 0x65 => x.msg.from_
  | 0x66 => s.msgSt e t
  | 0x67 => x.msg.tx
  | 0x68 => (s.inp e t)[0]
  | 0x69 => (s.inp e t)[1]
  | 0x6A => (s.inp e t)[2]
  | 0x6B => (s.inp e t)[3]
  | 0x6C => loW x.tmr.count
  | 0x6D => hiW x.tmr.count
  | 0x6E => x.tmr.st
  | 0x6F => BitVec.ofNat 12 (s.eng e).free
  | 0x70 => x.mmu.fa
  | 0x71 => x.mmu.fah
  | 0x72 => x.mmu.fs
  | 0x74 => x.exc.ea
  | 0x75 => x.exc.eah
  | 0x76 => x.exc.cs
  | 0x77 => x.exc.port
  | 0x78 => ((s.eng e).trq).setWidth 12
  | 0x79 => ((s.eng e).trq >>> 12).setWidth 12
  | 0x7A => s.wdcSt e t
  | 0x7C => x.svp.q
  | 0x7D => s.svpSt e t
  | 0x7E => x.svp.a
  | _ => 0

/-- A pop port has an entry, and a result port is not pending (R28, R34); LSU.Q and LSU.QH are readable in the load-delay
move (R75). -/
def State.srcReady (s : State) (e : Eng) (t : Thr) (i : Nat) : Bool :=
  let x := s.thr e t
  if rng i 0x48 0x4B then x.mac.pend.isNone
  else if rng i 0x4C 0x4F then (s.eng e).apxOwner ≠ some t
  else match i with
  | 0x50 | 0x51 => x.lsu.delay || x.lsu.load.isNone
  | 0x53 => x.lsu.load.isNone && !x.lsu.fence
  | 0x5F => !x.pinPend
  | 0x60 => s.cursorAvl e x.smp ≠ 0
  | 0x64 => !((s.eng e).mbox[x.mbSel.val]).isEmpty
  | 0x67 => !x.msg.pend
  | 0x7A => !x.wdcPend
  | 0x7C | 0x7D => !x.svp.pend
  | _ => true

/-- Reading MSG.Q removes the oldest word of the selected mailbox and latches FROM (R92). -/
def State.popMsg (s : State) (e : Eng) (t : Thr) : State :=
  let b := (s.thr e t).mbSel
  match (s.eng e).mbox[b.val] with
  | [] => s
  | w :: r =>
    s.updEng e fun y =>
      { y.updThr t fun x => { x with msg := { x.msg with from_ := w.origin } } with mbox := upd y.mbox b fun _ => r }

/-- Reading SMP.Q removes the next sample and latches QH and SEQ (R89); a word of it that fails its parity at every replay is counted
(R183, R185; DESIGN CHOICE, notes/assumptions/58: what the pop returns then). -/
def State.popSmp (s : State) (e : Eng) (t : Thr) : State :=
  let y := s.thr e t
  let x := y.smp
  match x.chan with
  | some n =>
    if x.pos < s.bobAvail n e.cluster then
      let q := s.popValue n e.cluster x.pos
      let s := match s.popBad n e.cluster x.pos with
        | some a => (s.memEvent e.cluster 9 (.master (.engine e t y.machine)) 1 0x02 (BitVec.ofNat 24 a) false).takeFree
        | none => s
      s.updThr e t fun y => { y with smp := { y.smp with pos := x.pos + 1, qh := hiW q, seq := BitVec.ofNat 12 x.pos } }
    else s
  | none => s

/-- The side effect of reading a source (R12). -/
def State.srcPop (s : State) (e : Eng) (t : Thr) (i : Nat) : State :=
  match i with
  | 0x60 => s.popSmp e t
  | 0x64 => s.popMsg e t
  | _ => s

/-- A deferred load fault that reading this source takes (R80); the load-delay move is excluded. -/
def Thread.srcFault (x : Thread) (i : Nat) : Option PFault :=
  match x.lsu.fault with
  | some f => if (i = 0x50 || i = 0x51 || i = 0x53) && !x.lsu.delay then some { cause := f.1, fa := f.2 } else none
  | none => none

/-- Machine-only source ids (R44). -/
def srcMachine (i : Nat) : Bool := rng i 0x70 0x77 || rng i 0x7C 0x7F
/-- Machine-only destination ids (R45, R100). -/
def dstMachine (d : Nat) : Bool := rng d 0x6C 0x6F || d = 0x75 || rng d 0x76 0x7F
/-- Ids of the selvedge port and WDC.SERVE, as source or destination (R46). -/
def srcSvp (i : Nat) : Bool := rng i 0x7C 0x7F
def dstSvp (d : Nat) : Bool := d = 0x75 || rng d 0x78 0x7F

/-! ### Translation (R198 to R205) -/

/-- Root number of a thread: CLU.TSELk / CLU.TSELHk (R199, R213). -/
def State.rootOf (s : State) (e : Eng) (t : Thr) : Nat :=
  let base := cluBase e.cluster + 0x10 + 2 * (e.val % 8)
  if t.val < 6 then bitsAt (s.reg base) (2 * t.val) 2 else bitsAt (s.reg (base + 1)) (2 * (t.val - 6)) 2

def rootReg (e : Eng) (r : Nat) : Nat := cluBase e.cluster + 0x40 + 8 * (e.val % 8) + 2 * r

/-- The root's level-1 table address, when valid (R199, R213). -/
def State.rootAddr (s : State) (e : Eng) (r : Nat) : Option Nat :=
  let h := s.reg (rootReg e r + 1)
  if h.getLsbD 11 then some ((bitsAt h 0 5 * 4096 + s.regN (rootReg e r)) * 128) else none

/-- Fields of a table entry (R201). -/
def entType (e : DWord) : Nat := bitsAt e 22 2
def entKey (e : DWord) : Nat := bitsAt e 18 4
def entW (e : DWord) : Bool := e.getLsbD 17
def entNw (e : DWord) : Bool := e.getLsbD 16
def entHalf (e : DWord) : Nat := bitsAt e 15 1
def entPpn (e : DWord) : Nat := bitsAt e 0 14

/-- The code of key k (R24). -/
def krCode (kr : Vector Word 3) (k : Nat) : Nat :=
  if k < 6 then bitsAt kr[0] (2 * k) 2 else if k < 12 then bitsAt kr[1] (2 * (k - 6)) 2 else bitsAt kr[2] (2 * (k - 12)) 2

/-- MMU.FS (R97). -/
def fsWord (kind key : Nat) (write half2 level2 blk : Bool) : Word :=
  fld 8 kind ||| fld 4 key ||| flag 3 write ||| flag 2 half2 ||| flag 1 level2 ||| flag 0 blk

/-- A bank is in retention or waking. -/
def State.asleep (s : State) (a : Addr) : Bool :=
  match (regionOf a).bank with
  | some (c, b) => (s.clu c).banks[b.val] ≠ .active
  | none => false

/-- The TLB entry of a page (R205). -/
def Engine.tlbFind (x : Engine) (root : BitVec 2) (vpn : BitVec 14) : Option DWord :=
  x.tlb.toList.findSome? fun o => o.bind fun q => if q.root = root && q.vpn = vpn then some q.entry else none

/-- The walk cache's table address (R205). -/
def Engine.wcFind (x : Engine) (root : BitVec 2) (idx : BitVec 6) : Option Addr :=
  x.wcache.toList.findSome? fun o => o.bind fun q => if q.root = root && q.idx = idx then some q.table else none

/-- A translation: the physical address, a fault with its cause and MMU.FS, or a TLB miss. -/
inductive Xl where
  | pa (a : Addr)
  | fault (cause : BitVec 6) (fs : Word)
  | miss
deriving DecidableEq, Repr

/-- A virtual access checked in the order of R204 up to the no-wake check. -/
def State.translate (s : State) (e : Eng) (t : Thr) (f : Force) (va : Addr) (write half2 blk : Bool) : Xl :=
  if f.machine then .pa va
  else
    let r := s.rootOf e t
    match s.rootAddr e r with
    | none => .fault 0x10 (fsWord 0 0 write half2 false blk)
    | some _ =>
      match (s.eng e).tlbFind (BitVec.ofNat 2 r) ((va >>> 10).setWidth 14) with
      | none => .miss
      | some ent =>
        let k := entKey ent
        let code := krCode f.kr k
        let pa : Addr := BitVec.ofNat 24 (entPpn ent * 1024 + va.toNat % 1024)
        if k = 0 || !(code = 3 || (code = 1 && !write)) then .fault 0x11 (fsWord 1 k write half2 true blk)
        else if write && !entW ent then .fault 0x12 (fsWord 2 k write half2 true blk)
        else if entNw ent && s.asleep pa then .fault 0x13 (fsWord 3 k write half2 true blk)
        else .pa pa

/-- Code of a master at a flex bank's ports (R175). -/
def flexCode (c : Clu) : Master → Option Nat
  | .engine e _ _ | .svp e _ => if e.val / 8 = c.val then some (e.val % 8) else none
  | .shuttle => some 8
  | _ => none

/-- The flex bank serves a master (R176, R177): in SHARED, one of its ports names the master or any other. -/
def State.flexServes (s : State) (c : Clu) (m : Master) : Bool :=
  let r := s.reg (cluBase c)
  let x := bitsAt r 4 4
  let y := bitsAt r 0 4
  bitsAt r 10 2 ≠ 1 || x = 9 || y = 9 ||
    match flexCode c m with
    | some k => x = k || y = k
    | none => false

/-- The address is reserved for the master, or refuses the access (R171, R177, R260). -/
def State.refuses (s : State) (m : Master) (a : Addr) (write : Bool) : Bool :=
  match regionOf a with
  | .reserved => true
  | .flex c => !s.flexServes c m
  | .regs => (regInfo a.toNat).isNone
  | .companion => write && a.toNat % 0x800 < 0x100
  | .recorder => write
  | _ => false

/-! ### LSU addresses (R74) -/

/-- Offset, whether double, and the new P of an LSU access trigger; `none` for the reserved scale (R74). -/
def lsuAddr (x : LsuState) (d : Nat) (v : Word) : Option (Word × Bool × Word) :=
  let w2 := x.ctl.getLsbD 3
  match d with
  | 0x43 => some (v, true, v + 2)
  | 0x44 => some (v, false, v + 1)
  | 0x45 => some (v - 2, true, v - 2)
  | 0x46 => some (v - 1, false, v - 1)
  | 0x47 | 0x48 =>
    match bitsAt x.ctl 0 2 with
    | 0 => some (v + x.x, w2, v + x.x)
    | 1 => some (v + x.x * 2, w2, v + x.x * 2)
    | 2 => some (v + x.x * 4, w2, v + x.x * 4)
    | _ => none
  | _ => some (v + x.x, w2, v + x.x)

/-- The virtual (or physical) addresses of an access: one, or two with offsets modulo 4,096 (R74, R76). -/
def lsuVas (seg off : Word) (double : Bool) : List Addr :=
  if double then [joinW seg off, joinW seg (off + 1)] else [joinW seg off]

/-- What an access may do: its physical addresses, a fault of one half, or a TLB miss. -/
inductive Checked where
  | go (pas : List Addr)
  | fault (f : PFault)
  | miss (va : Addr) (half2 : Bool)
deriving DecidableEq, Repr

/-- Every word of an access translated and checked, the first half first (R76, R204). -/
def State.check (s : State) (e : Eng) (t : Thr) (f : Force) (write split blk : Bool) (val : Word) : List Addr → Bool → Checked
  | [], _ => .go []
  | va :: r, second =>
    match s.translate e t f va write (split && second) blk with
    | .miss => .miss va (split && second)
    | .fault c fs => .fault { cause := c, val := val, fa := va, fs := fs }
    | .pa a =>
      if s.refuses (.engine e t f.machine) a write then .fault { cause := 0x16, val := val, fa := va }
      else match s.check e t f write split blk val r true with
        | .go pas => .go (a :: pas)
        | q => q

/-- A walk is started for a missing translation, unless the engine is walking (R77, R205). -/
def State.startWalk (s : State) (e : Eng) (t : Thr) (va : Addr) (write half2 blk : Bool) (val : Word) : State :=
  s.updEng e fun y =>
    match y.walk with
    | some _ => y
    | none => { y with walk := some { t := t, va := va, write := write, half2 := half2, blk := blk, val := val } }

/-- A store to the program window is well formed: an aligned double whose high word has [11:2] = 0 (R179). -/
def progStoreOk (pas : List Addr) (hi : Word) : Bool :=
  match pas with
  | [a, b] => !a.getLsbD 0 && b = a + 1 && hi.toNat < 4
  | _ => false

/-- The cluster whose program window holds an address. -/
def progOf (a : Addr) : Option Clu :=
  match regionOf a with
  | .program c => some c
  | _ => none

end Sys2Proof.Machine
end

