-- ==== Sys2Proof/Machine/Shared.lean ====
section
/-! DEFINITION. Effects that several blocks share: MODE records and the entry to SAFE (R333, R359, R452), waveform triggers (R372),
gauge snapshots (R380), the watchdog hold's end (R352). -/

namespace Sys2Proof.Machine

/-! ### Records and waveforms -/

/-- A MODE record: code 1 SAFE, 2 DEGRADED, 3 SEALED, 4 TETHERED, with the new state in SRC (R359). -/
def State.modeRec (s : State) (code : Nat) (on : Bool) : State :=
  s.logRec 6 (BitVec.ofNat 7 code) (BitVec.ofNat 12 (bit1 on)) 0

/-- A trigger of the waveform capture (R372): WHDR is written and the capture waits for its last sample; during a capture the
trigger is ignored and noted. -/
def State.waveTrigger (s : State) : State :=
  match s.rcd.wave with
  | some _ => s.updRcd fun r => { r with miss := true }
  | none =>
    let cfg := s.reg (recBase + 0x10)
    let ch := bitsAt cfg 0 6
    let c : Clu := ⟨bitsAt cfg 6 3 % 8, by omega⟩
    let n : Chan := ⟨ch % 48, Nat.mod_lt _ (by decide)⟩
    let len := bitsAt (s.reg (recBase + 0x11)) 0 11
    let a := bitsAt (s.reg (recBase + 0x12)) 0 10
    let ok := ch < 48 && s.bobFeeds n c
    let t := if ok then s.bobAvail n c else 0
    let first : Nat := (2 ^ 24 + t + a - len) % 2 ^ 24
    let s := s.logRec 0x0C (BitVec.ofNat 7 (bitsAt cfg 9 3)) (cfg &&& 0x1FF)
      (BitVec.ofNat 48 (len * 2 ^ 36 + a * 2 ^ 24 + first))
    s.updRcd fun r => { r with wave := some ⟨c, n, bitsAt cfg 9 3, len, a, t, ok⟩ }

/-! ### Gauges -/

def monReg (g : Fin 32) (k : Nat) : Nat := monBase g + k
def State.gauge (s : State) (g : Fin 32) : Gauge := s.mon[g.val]'g.isLt
def State.updGauge (s : State) (g : Fin 32) (f : Gauge → Gauge) : State := { s with mon := upd s.mon g f }

/-- The engine a gauge's source names, when its KIND measures one (R378). -/
def State.gaugeEng (s : State) (g : Fin 32) : List Eng :=
  let src := s.reg (monReg g 1)
  let k := bitsAt src 8 4
  if k = 1 || k = 2 || k = 3 || k = 5 || k = 6 || k = 7 then engList.filter fun e => e.val = bitsAt src 0 8
  else s.selEngines

/-- Line 29 on the engines that MON.CFGn.ITGT names (R381). -/
def State.gaugeLine (s : State) (g : Fin 32) : State :=
  s.setLines (s.targets (bitsAt (s.reg (monReg g 0)) 4 2) (s.gaugeEng g)) 29

/-- Signed gauge values: results and temperatures (R378). -/
def gaugeSigned (kind : Nat) : Bool := kind = 9 || kind = 0xA || kind = 0xC

/-- The value as a number. -/
def gaugeNum (kind : Nat) (v : DWord) : Int := if gaugeSigned kind then v.toInt else v.toNat

/-- The bin of d (R379). -/
def gaugeBin (log2 : Bool) (sc : Nat) (d : Int) : Fin 16 :=
  if d < 2 ^ sc then 0
  else if log2 then
    let b := d.toNat.log2 + 1 - sc
    ⟨min b 15, by omega⟩
  else ⟨min (d.toNat / 2 ^ sc) 15, by omega⟩

/-- The 36-bit total with v added, saturating (R379). -/
def gaugeTot (signed : Bool) (t : BitVec 36) (v : Int) : BitVec 36 × Bool :=
  if signed then
    let n := t.toInt + v
    (BitVec.ofInt 36 (clampInt 36 n), n ≠ clampInt 36 n)
  else
    let n := t.toNat + v.toNat
    (BitVec.ofNat 36 (min n (2 ^ 36 - 1)), decide (2 ^ 36 - 1 < n))

/-- A value of a gauge's source, taken while the gauge is armed (R379, R381). -/
def State.gaugeTake (s : State) (g : Fin 32) (v : DWord) : State :=
  let kind := bitsAt (s.reg (monReg g 1)) 8 4
  if !(s.gauge g).armed || kind = 0 then s
  else
    let cfg := s.reg (monReg g 0)
    let x := gaugeNum kind v
    let lo : Int := (s.reg2 (monReg g 3)).toInt
    let al := gaugeNum kind (s.reg2 (monReg g 5))
    let b := gaugeBin (cfg.getLsbD 11) (bitsAt cfg 6 5) (x - lo)
    let alarm := cfg.getLsbD 3 && decide (al < x)
    let s := s.updGauge g fun y =>
      let r := y.run
      let t := gaugeTot (gaugeSigned kind) r.tot x
      let full := r.bins[b.val] = 0xFFFFFF
      { y with
        alm := y.alm || alarm
        sat := y.sat || t.2 || full
        run := {
          count := r.count + 1
          min := if r.count = 0 || decide (x < gaugeNum kind r.min) then v else r.min
          max := if r.count = 0 || decide (gaugeNum kind r.max < x) then v else r.max
          tot := t.1
          bins := upd r.bins b fun c => if full then c else c + 1 } }
    if alarm then s.gaugeLine g else s

/-- A value of a source that the device itself has: every gauge of this KIND and IDX takes it, and, where the KIND uses XSEL, of this XSEL
(R378). -/
def State.gaugeFeed (s : State) (kind idx : Nat) (xsel : Option Nat) (v : DWord) : State :=
  (List.finRange 32).foldl (fun (s : State) g =>
    let r := s.reg (monReg g 1)
    if (s.gauge g).armed && bitsAt r 8 4 = kind && bitsAt r 0 8 = idx &&
        (xsel.map fun x => decide (bitsAt (s.reg (monReg g 2)) 0 6 = x)).getD true then s.gaugeTake g v
    else s) s

/-- An armed gauge takes its snapshot (R380, R381). -/
def State.gaugeSnap (s : State) (g : Fin 32) : State :=
  if (s.gauge g).armed then
    (s.updGauge g fun x => { x with snap := x.run, armed := false, valid := true }).gaugeLine g
  else s

/-- The gauges with SSNAP take their snapshot at SAFE entry (R380). -/
def State.gaugesAtSafe (s : State) : State :=
  (List.finRange 32).foldl (fun (s : State) g => if s.regB (monReg g 0) 2 then s.gaugeSnap g else s) s

/-! ### Modes -/

/-- SAFE is set (R333). Setting it when it is set changes nothing but that a release of the same fabric clock does not clear it (R334). -/
def State.setSafe (s : State) : State :=
  if s.dev.safe then s.updDev fun d => { d with safeNow := true }
  else
    let s := ((s.updDev fun d => { d with safe := true, safeNow := true }).modeRec 1 true).gaugesAtSafe
    let s := if s.regB (recBase + 0x11) 11 then s.waveTrigger else s
    s.hirq

/-- DEGRADED is set (R159, R454). -/
def State.setDegraded (s : State) : State :=
  if s.dev.degraded then s else (s.updDev fun d => { d with degraded := true }).modeRec 2 true

/-- A hold of the watchdog ends: a new normal period starts in the next tick with every count at 0 (R352). -/
def State.endHold (s : State) : State :=
  if s.wdg.held then
    s.updWdg fun w => { w with held := false, restart := true, grace := false, cnt := Vector.replicate 16 0, judged := false }
  else s

/-- TETHERED clears: every breakpoint is removed and a hold ends (R352, R461). -/
def State.clearTether (s : State) : State :=
  if s.dev.tethered then
    (((s.updDev fun d => { d with tethered := false }).updBoot fun b => { b with breakpoints := [] }).modeRec 4 false).endHold
  else s

/-- SAFE is released (R334), unless an event sets it in the same fabric clock. -/
def State.releaseSafe (s : State) : State :=
  if s.dev.safeNow then s
  else (((s.updDev fun d => { d with safe := false }).modeRec 1 false).endHold).hirq

/-! ### The collector's view (R281, R331, R338) -/

/-- coll_trip: a TRIP reaction is in force (R281). -/
def State.collTrip (s : State) : Bool := s.col.src.toList.any Source.trp
/-- ALIVE is frozen: some SEV is 1, or a self-fault is present (R331). -/
def State.frozen (s : State) : Bool := s.col.self || s.col.src.toList.any Source.sev
/-- SOLO (R471). -/
def State.solo (s : State) : Bool := s.regB modBase 0

end Sys2Proof.Machine
end

