-- ==== Sys2Proof/Machine/Detect.lean ====
section
/-! DEFINITION. Detections of a lane (R145, R156 to R160): reports, retirement, the start of a re-threading, engine stop, and the
vote over requests that are no commits (R144, R145). -/

namespace Sys2Proof.Machine

def State.heddle (s : State) (e : Eng) : Heddle := (s.eng e).heddle
def State.updHeddle (s : State) (e : Eng) (f : Heddle → Heddle) : State :=
  s.updEng e fun x => { x with heddle := f x.heddle }

/-- A heddle event (R162): ENG.HLAST, the engine's fault source, and line 31 for 0x42 to 0x44. -/
def State.heddleReport (s : State) (e : Eng) (code : BitVec 7) (lane : Nat) : State :=
  let s := (s.updHeddle e fun h => { h with last := fld 10 lane ||| code.setWidth 12 }).raise (engSrc e) code
    (BitVec.ofNat 24 lane)
  if rng code.toNat 0x42 0x44 then s.setLine e 31 else s

/-- The words of which every lane holds a copy: the ENG registers below 0x043, the last of them ENG.HIAG (R133, R163). -/
def State.engCopies (s : State) (e : Eng) : Vector Word 67 := tab 67 fun k => s.reg (engBase e + k)

/-- A lane stands still from now on: what it holds is its own (R156, R159). -/
def Engine.freeze (x : Engine) (l : Lane) (cfg : Vector Word 67) : Engine :=
  { x with stray := upd x.stray (laneIdx l) fun o => some { o.getD x.toEngineCore with cfg := some cfg } }

/-- A lane is retired (R159): 0x44, and DEGRADED from the first retirement on. -/
def State.retireLane (s : State) (e : Eng) (l : Lane) : State :=
  let s := s.updEng e fun x =>
    Engine.settle { x.freeze l (s.engCopies e) with heddle := { x.heddle with
      retired := upd x.heddle.retired (laneIdx l) fun _ => true, odd := none, phase := .none } }
  (s.heddleReport e 0x44 (laneCode l)).setDegraded

/-- An engine stop (R160): the effects of a lockup with cause 0x3E, counted with the heddle's code. -/
def State.engineStop (s : State) (e : Eng) (t : Thr) (code : BitVec 7) : State :=
  let s := s.updHeddle e fun h => { h with last := code.setWidth 12, stopped := true }
  s.lockWith e t 0x3E code 0

/-- Counted detections of a lane within RTWIN ms, the one of now among them (R158). -/
def State.recentDetections (s : State) (e : Eng) (l : Lane) : Nat :=
  let win := s.regN (engBase e + 0x41) * 300000
  (((s.heddle e).times[(laneIdx l).val]).filter fun t => s.fk ≤ t + win).length

/-- A detection of lane `l` (R156 step 1, R158): counted unless injected, it retires the lane or starts its re-threading; `code`
is reported unless the RETHREAD reaction started it. -/
def State.detect (s : State) (e : Eng) (l : Lane) (code : Option (BitVec 7)) (counted : Bool) : State :=
  let i := laneIdx l
  let s := if counted then
      s.updHeddle e fun h =>
        { h with cnt := upd h.cnt i fun c => sat12 (c.toNat + 1), times := upd h.times i fun ts => (s.fk :: ts).take 15 }
    else s
  if counted && decide (bitsAt (s.reg (engBase e + 0x40)) 8 4 ≤ s.recentDetections e l) then s.retireLane e l
  else
    let s := s.updEng e fun x =>
      Engine.settle { x.freeze l (s.engCopies e) with
        heddle := { x.heddle with odd := some l, phase := .bulk, since := x.free, gatedEk := 0 } }
    match code with
    | some c => s.heddleReport e c (laneCode l)
    | none => s

/-- The RETHREAD reaction (R158, R324). -/
def State.rethread (s : State) (e : Eng) (l : Lane) : State :=
  if (s.heddle e).state = 0 then s.detect e l none true else s

/-- The open pick closes: the signatures, with what a fault made of each lane's, await their verdict, and the next pick opens
(R140, R141). -/
def Heddle.close (h : Heddle) (t : Thr) (xa xb xc : DWord) : Heddle :=
  { h with
    closed := h.closed ++ [⟨#v[h.sig[0] ^^^ xa, h.sig[1] ^^^ xb, h.sig[2] ^^^ xc], h.phase = .inStep, t, h.injPick⟩]
    sig := Vector.replicate 3 0x5A5A5A
    injPick := Vector.replicate 3 false
    count := vmap (fun i n => if ((laneList[i]?).map h.commits?).getD false then 0 else n) h.count
    picks := h.picks + 1 }

/-- What follows a vote at which the lanes of `odd` among the voting lanes differ from the voted request (R145, R147): `go` lets the
voted requests out, in the engine clock in which a minority lane has become odd. With two lanes voting, any difference stops the
engine; once it has locked up, what its last commits had sent is still voted, and no lane is found odd any more (R123, R157). No pick
closes at an engine stop: ENG.LOCK.THD is then the thread of the voted request (DESIGN CHOICE, notes/assumptions/62: R160
names the commit that closed the pick). -/
def State.voteEnd (s : State) (e : Eng) (t : Thr) (odd : List Lane) (go : State → State) : State :=
  let three := decide ((s.heddle e).good.length = 3)
  match odd with
  | [] => go s
  | [l] =>
    if (s.eng e).locked then (if three then go s else s)
    else if three then go ((s.updHeddle e fun h => h.close t 0 0 0).detect e l (some 0x41) true)
    else s.engineStop e t 0x47
  | _ => if (s.eng e).locked then s else s.engineStop e t (if three then 0x46 else 0x47)

/-- What a lane asks for, by its own state (R135). -/
def State.askOf {α : Type} (s : State) (e : Eng) (req : State → α) (l : Lane) : α := if (s.eng e).apart l then req (s.asLane e l) else req s

/-- What the first of the voting lanes that ask for something asks for; with no lane left to vote, what the engine's state asks for, as in
`voteNow`. -/
def State.firstAsk {α : Type} (s : State) (e : Eng) (req : State → Option α) : Option α :=
  match (s.heddle e).good with
  | [] => req s
  | ls => ls.findSome? (s.askOf e req)

/-- The vote of a request that is no commit and is answered in the same command: a fill, a table-walk read, a block element, the
frame writer's words, the read of a return (R144, R145). `req` is what a lane asks for, by its own state, or none. What two of three
lanes ask for is the bitwise majority; where all three differ, it differs from at least two of them. What is voted goes out once, and
`go` brings its answer to the lanes (R136). Each such request has an engine clock of its own (DESIGN CHOICE, notes/assumptions/62:
commands are not joined into one clock). -/
def State.voteNow {α : Type} [DecidableEq α] (s : State) (e : Eng) (t : Thr) (req : State → Option α) (go : α → State → State) : State :=
  let r := s.askOf e req
  let voted := match (s.heddle e).good with
    | [x, y, z] => if r x = r y || r x = r z then r x else r y
    | x :: _ => r x
    | [] => req s
  s.voteEnd e t ((s.heddle e).good.filter fun l => decide (r l ≠ voted)) (match voted with
    | some a => go a
    | none => fun s => s)

end Sys2Proof.Machine
end

