-- ==== Sys2Proof/Machine/Flags.lean ====
section
/-! DEFINITION. Results and flags of the arithmetic units: ALU (R67, R68), MUL and MAC (R69, R70), APX (R71 to R73). Operands are
taken as integers, computed exactly and narrowed at the end. -/

namespace Sys2Proof.Machine

/-! ### ALU -/

/-- Whether an exact signed result leaves the 12-bit range. -/
def overflows12 (r : Int) : Bool := r < -2048 || 2047 < r

/-- ADD and ADC with carry-in `c`: result, carry out of bit 11, signed overflow (R68). -/
def addWord (a v : Word) (c : Bool) : Word × Bool × Bool :=
  let n := a.toNat + v.toNat + bit1 c
  (BitVec.ofNat 12 n, 4096 ≤ n, overflows12 (a.toInt + v.toInt + bit1 c))

/-- SUB, CMP and SBC with borrow-in `b`: result, carry (1 when no borrow occurs), signed overflow (R68). -/
def subWord (a v : Word) (b : Bool) : Word × Bool × Bool :=
  (BitVec.ofInt 12 ((a.toNat : Int) - v.toNat - bit1 b), v.toNat + bit1 b ≤ a.toNat, overflows12 (a.toInt - v.toInt - bit1 b))

/-- Result and all flags, N and Z of the result (R68). -/
def AluState.put (x : AluState) (r : Word) (c v : Bool) : AluState :=
  { x with r := r, n := r.getLsbD 11, z := r = 0, c := c, v := v }

/-- ALU.ADD (R67, R68). -/
def AluState.add (x : AluState) (v : Word) : AluState :=
  let q := addWord x.a v false
  x.put q.1 q.2.1 q.2.2

/-- ALU.ADC: Z only stays set (R68). N is R[11], as for ADD (DESIGN CHOICE, notes/assumptions/58: R68 gives no N for ADC and SBC; the
same in `AluState.sbc`). -/
def AluState.adc (x : AluState) (v : Word) : AluState :=
  let q := addWord x.a v x.c
  { x.put q.1 q.2.1 q.2.2 with z := x.z && q.1 = 0 }

/-- ALU.SUB (R67, R68). -/
def AluState.sub (x : AluState) (v : Word) : AluState :=
  let q := subWord x.a v false
  x.put q.1 q.2.1 q.2.2

/-- ALU.SBC: subtracts 1 − C too; Z only stays set (R68). -/
def AluState.sbc (x : AluState) (v : Word) : AluState :=
  let q := subWord x.a v (!x.c)
  { x.put q.1 q.2.1 q.2.2 with z := x.z && q.1 = 0 }

/-- ALU.CMP: the flags of A − v, R unchanged (R67, R68). -/
def AluState.cmp (x : AluState) (v : Word) : AluState := { x.sub v with r := x.r }

/-- A logic operation leaves C and V (R68). -/
def AluState.logic (x : AluState) (r : Word) : AluState := x.put r x.c x.v

/-- ALU.SHL by n = v[3:0]: C is the last bit shifted out, A[12 − n] (R68). -/
def AluState.shl (x : AluState) (v : Word) : AluState :=
  let n := bitsAt v 0 4
  x.put (x.a <<< n) (1 ≤ n && n ≤ 12 && x.a.getLsbD (12 - n)) x.v

/-- ALU.SHR by n = v[3:0]: C is A[n − 1] (R68). -/
def AluState.shr (x : AluState) (v : Word) : AluState :=
  let n := bitsAt v 0 4
  x.put (x.a >>> n) (1 ≤ n && n ≤ 12 && x.a.getLsbD (n - 1)) x.v

/-- ALU.SAR by n = v[3:0]: C is A[n − 1], and A[11] when n ≥ 13 (R68). -/
def AluState.sar (x : AluState) (v : Word) : AluState :=
  let n := bitsAt v 0 4
  x.put (x.a.sshiftRight n) (1 ≤ n && x.a.getLsbD (min (n - 1) 11)) x.v

/-! ### MUL and MAC -/

/-- The signed 48-bit product of AH:A and BH:v (R69). -/
def product (ah a bh v : Word) : Quad := BitVec.ofInt 48 ((joinW ah a).toInt * (joinW bh v).toInt)

/-- An exact accumulator value outside the 48-bit range (R70). -/
def overflows48 (r : Int) : Bool := r < -(2 ^ 47) || 2 ^ 47 ≤ r

/-- ACC after a MAC operation, and whether a MAC overflow arises (R69, R70). -/
def macResult (op : MacOp) (acc arg : Quad) : Quad × Bool :=
  match op with
  | .mac => (BitVec.ofInt 48 (acc.toInt + arg.toInt), overflows48 (acc.toInt + arg.toInt))
  | .msu => (BitVec.ofInt 48 (acc.toInt - arg.toInt), overflows48 (acc.toInt - arg.toInt))
  | .mul => (arg, false)
  | .shr => (acc.sshiftRight arg.toNat, false)

/-! ### APX -/

/-- The square M² × 2^(2E) scaled by 2^4096, for exponents of 12 bits. -/
def sqScaled (m : DWord) (e : Word) : Nat := m.toNat ^ 2 * 2 ^ (2 * (e.toInt + 2048).toNat)

/-- The bound on an RCP result M, E at X ≥ 1: relative error at most 2^−22 (R72). -/
def rcpOk (x m : DWord) (e : Word) : Bool :=
  m.getLsbD 23 && e.toInt ≤ 23 &&
    (let k := (23 - e.toInt).toNat
     let p := m.toNat * x.toNat
     (if 2 ^ k ≤ p then p - 2 ^ k else 2 ^ k - p) * 2 ^ 22 ≤ 2 ^ k)

/-- The bound on a √X result at X ≥ 1: relative error at most 2^−22, squared (R72). -/
def sqrtOk (x m : DWord) (e : Word) : Bool :=
  m.getLsbD 23 &&
    (let y2 := sqScaled m e * 2 ^ 44
     let x2 := x.toNat * 2 ^ (46 + 4096)
     (2 ^ 22 - 1) ^ 2 * x2 ≤ y2 && y2 ≤ (2 ^ 22 + 1) ^ 2 * x2)

/-- The bound on a 1/√X result at X ≥ 1: relative error at most 2^−21, squared (R72). -/
def rsqrtOk (x m : DWord) (e : Word) : Bool :=
  m.getLsbD 23 &&
    (let y2 := sqScaled m e * x.toNat * 2 ^ 42
     let one := 2 ^ (46 + 4096)
     (2 ^ 21 - 1) ^ 2 * one ≤ y2 && y2 ≤ (2 ^ 21 + 1) ^ 2 * one)

/-- The bound on a log₂ X result Q in Q5.19: absolute error at most 2^−18 (R72). -/
def log2Ok (x q : DWord) : Bool :=
  2 ^ (q.toNat - 2) ≤ x.toNat ^ 2 ^ 19 && x.toNat ^ 2 ^ 19 ≤ 2 ^ (q.toNat + 2)

/-- The bound on a 2^y result with y = s / 2^17: relative error at most 2^−20 (R72). -/
def exp2Ok (s : Int) (m : DWord) (e : Word) : Bool :=
  m.getLsbD 23 && -70 ≤ e.toInt && e.toInt ≤ 70 &&
    (let n := 2 ^ 17
     let d := (e.toInt - 3) * 2 ^ 17 - s
     let y := m.toNat ^ n * 2 ^ d.toNat
     let u := 2 ^ (-d).toNat
     (2 ^ 20 - 1) ^ n * u ≤ y && y ≤ (2 ^ 20 + 1) ^ n * u)

/-- The largest natural number below 2^24 that meets `p`, bit by bit from bit `k − 1` downwards. -/
def largest (p : Nat → Bool) : Nat → Nat → Nat
  | 0, acc => acc
  | k + 1, acc => largest p k (if p (acc + 2 ^ k) then acc + 2 ^ k else acc)

/-- A result within each bound, used only where `Config.apxChoice` is not: it makes the constrained value total. -/
def apxWithin (op : Nat) (x : DWord) : DWord × Word :=
  let n := x.toNat
  let l := n.log2
  match op with
  | 0 =>
    if n = 2 ^ l then (0x800000, BitVec.ofInt 12 (-l))
    else (BitVec.ofNat 24 (2 ^ (24 + l) / n), BitVec.ofInt 12 (-(l + 1 : Nat)))
  | 1 =>
    let e := l / 2
    (BitVec.ofNat 24 (largest (fun m => m * m ≤ n * 2 ^ (46 - 2 * e)) 24 0), BitVec.ofNat 12 e)
  | 2 =>
    let e := if n = 2 ^ l then (l + 1) / 2 else l / 2 + 1
    (BitVec.ofNat 24 (largest (fun m => m * m * n ≤ 2 ^ (46 + 2 * e)) 24 0), BitVec.ofInt 12 (-e))
  | 3 => (BitVec.ofNat 24 (n ^ 2 ^ 19).log2, 0)
  | _ =>
    let s := x.toInt
    let e := s.fdiv (2 ^ 17)
    let f := (s - e * 2 ^ 17).toNat
    (BitVec.ofNat 24 (largest (fun m => m ^ 2 ^ 17 ≤ 2 ^ (23 * 2 ^ 17 + f)) 24 0), BitVec.ofInt 12 e)

/-- The bound of R72 of an operation (0 RCP, 1 √X, 2 1/√X, 3 log₂, 4 2^y). -/
def apxOk (op : Nat) (x : DWord) (r : DWord × Word) : Bool :=
  match op with
  | 0 => rcpOk x r.1 r.2
  | 1 => sqrtOk x r.1 r.2
  | 2 => rsqrtOk x r.1 r.2
  | 3 => log2Ok x r.1 && r.2 = 0
  | _ => exp2Ok x.toInt r.1 r.2

/-- The result of RCP, SQ or L2: a fixed function of operation and input, open within its bound (R72). -/
def apxValue (op : Nat) (x : DWord) : DWord × Word :=
  if apxOk op x (Config.apxChoice op x) then Config.apxChoice op x else apxWithin op x

/-- What an APX operation leaves: RH:R, E, REM and the exception cause it raises (R71 to R73). -/
structure ApxOut where
  m : DWord
  e : Word := 0
  rem : Word := 0
  cause : Option (BitVec 6) := none
deriving DecidableEq, Repr

/-- RCP, SQ with Y[0] = 1 and log₂ at X = 0 (R73). -/
def apxDomain : ApxOut := { m := 0xFFFFFF, e := 0x7FF, cause := some 0x1C }

/-- The result of an APX operation (R71 to R73). -/
def apxResult (op : ApxOp) (x : DWord) (y : Word) : ApxOut :=
  match op with
  | .rcp => if x = 0 then apxDomain else { m := (apxValue 0 x).1, e := (apxValue 0 x).2 }
  | .sq =>
    if y.getLsbD 0 then (if x = 0 then apxDomain else { m := (apxValue 2 x).1, e := (apxValue 2 x).2 })
    else if x = 0 then { m := 0 } else { m := (apxValue 1 x).1, e := (apxValue 1 x).2 }
  | .l2 =>
    if y.getLsbD 0 then { m := (apxValue 4 x).1, e := (apxValue 4 x).2 }
    else if x = 0 then apxDomain else { m := (apxValue 3 x).1 }
  | .div =>
    if y = 0 then { m := 0xFFFFFF, rem := loW x, cause := some 0x1B }
    else { m := BitVec.ofNat 24 (x.toNat / y.toNat), rem := BitVec.ofNat 12 (x.toNat % y.toNat) }

end Sys2Proof.Machine
end

