-- ==== Sys2Proof/Machine/Ports.lean ====
section
/-! DEFINITION. Every destination a move can write (R45, R61 to R101): one operation per port, shared by MOVE and by the command
of the port's own row. -/

namespace Sys2Proof.Machine

/-- What a write to a destination port does (R15, R16, R77). -/
inductive PortOut where
  /-- It commits: the new state, its requests, and a jump target. -/
  | ok (s : State) (reqs : List Request) (jump : Option PAddr)
  /-- It raises a precise fault; a malformed program-window store also counts at its cluster (R179). -/
  | fault (f : PFault) (bad : Option (Clu × Addr))
  /-- It missed the TLB at this address and is not committed (R77). -/
  | miss (va : Addr) (write half2 : Bool)
deriving DecidableEq, Repr

/-- A port write that sends nothing and does not jump. -/
def PortOut.plain (s : State) : PortOut := .ok s [] none

/-- A unit-argument fault (R64). -/
def argFault (v : Word) : PortOut := .fault { cause := 0x07, val := v } none

/-! ### Arithmetic (R67 to R73) -/

def State.updAlu (s : State) (e : Eng) (t : Thr) (f : AluState → AluState) : State :=
  s.updThr e t fun x => { x with alu := f x.alu }

def portAluAdd (s : State) (e : Eng) (t : Thr) (v : Word) : PortOut := .plain (s.updAlu e t fun a => a.add v)
def portAluAdc (s : State) (e : Eng) (t : Thr) (v : Word) : PortOut := .plain (s.updAlu e t fun a => a.adc v)
def portAluSub (s : State) (e : Eng) (t : Thr) (v : Word) : PortOut := .plain (s.updAlu e t fun a => a.sub v)
def portAluSbc (s : State) (e : Eng) (t : Thr) (v : Word) : PortOut := .plain (s.updAlu e t fun a => a.sbc v)
def portAluAnd (s : State) (e : Eng) (t : Thr) (v : Word) : PortOut := .plain (s.updAlu e t fun a => a.logic (a.a &&& v))
def portAluOr (s : State) (e : Eng) (t : Thr) (v : Word) : PortOut := .plain (s.updAlu e t fun a => a.logic (a.a ||| v))
def portAluXor (s : State) (e : Eng) (t : Thr) (v : Word) : PortOut := .plain (s.updAlu e t fun a => a.logic (a.a ^^^ v))
def portAluShl (s : State) (e : Eng) (t : Thr) (v : Word) : PortOut := .plain (s.updAlu e t fun a => a.shl v)
def portAluShr (s : State) (e : Eng) (t : Thr) (v : Word) : PortOut := .plain (s.updAlu e t fun a => a.shr v)
def portAluSar (s : State) (e : Eng) (t : Thr) (v : Word) : PortOut := .plain (s.updAlu e t fun a => a.sar v)
def portAluCmp (s : State) (e : Eng) (t : Thr) (v : Word) : PortOut := .plain (s.updAlu e t fun a => a.cmp v)

/-- MUL.GO (R69). -/
def portMulGo (s : State) (e : Eng) (t : Thr) (v : Word) : PortOut :=
  .plain (s.updThr e t fun x => { x with mul := { x.mul with p := product x.mul.ah x.mul.a x.mul.bh v } })

/-- A MAC trigger starts an operation that completes later (R66, R69): the pending product or distance is what the trigger's
operands give at its C state (R33). -/
def State.macStart (s : State) (e : Eng) (t : Thr) (op : MacOp) (arg : Quad) (d : BitVec 7) : State :=
  s.updThr e t fun x => { x with mac := { x.mac with pend := some ⟨op, arg, x.pc, d, s.precise⟩ } }

def Thread.macProduct (x : Thread) (v : Word) : Quad := product x.mac.ah x.mac.a x.mac.bh v

def portMacMac (s : State) (e : Eng) (t : Thr) (v : Word) : PortOut := .plain (s.macStart e t .mac ((s.thr e t).macProduct v) 0x33)
def portMacMsu (s : State) (e : Eng) (t : Thr) (v : Word) : PortOut := .plain (s.macStart e t .msu ((s.thr e t).macProduct v) 0x34)
def portMacMul (s : State) (e : Eng) (t : Thr) (v : Word) : PortOut := .plain (s.macStart e t .mul ((s.thr e t).macProduct v) 0x35)
/-- MAC.CLR completes within the slot (R66, R69). -/
def portMacClr (s : State) (e : Eng) (t : Thr) : PortOut :=
  .plain (s.updThr e t fun x => { x with mac := { x.mac with acc := 0 } })
def portMacShr (s : State) (e : Eng) (t : Thr) (v : Word) : PortOut :=
  .plain (s.macStart e t .shr (BitVec.ofNat 48 (bitsAt v 0 6)) 0x37)

/-- An APX trigger takes the shared datapath (R66, R71). -/
def portApx (s : State) (e : Eng) (t : Thr) (op : ApxOp) (v : Word) (d : BitVec 7) : PortOut :=
  .plain (s.updEng e fun y =>
    { y.updThr t fun x => { x with apx := { x.apx with pend := some ⟨op, joinW x.apx.xh v, x.apx.y, x.pc, d, s.precise⟩ } } with
      apxOwner := some t })
def portApxRcp (s : State) (e : Eng) (t : Thr) (v : Word) : PortOut := portApx s e t .rcp v 0x3A
def portApxSq (s : State) (e : Eng) (t : Thr) (v : Word) : PortOut := portApx s e t .sq v 0x3B
def portApxL2 (s : State) (e : Eng) (t : Thr) (v : Word) : PortOut := portApx s e t .l2 v 0x3C
def portApxDiv (s : State) (e : Eng) (t : Thr) (v : Word) : PortOut := portApx s e t .div v 0x3D

/-! ### LSU (R74 to R80) -/

/-- The request of one word access (R137, R138): a load's data is 0. -/
def access (pa : Addr) (store : Bool) (d : Word) : Request := if store then request pa 2 d else request pa 1 0

/-- The thread's last load has ended its delay: what it loaded is in LSU.Q and LSU.QH (R75). -/
def LsuState.settle (x : LsuState) : LsuState :=
  match x.newQ with
  | some q => { x with q := q.1, qh := q.2.getD x.qh, newQ := none, delay := false }
  | none => { x with delay := false }

/-- A load leaves the engine: P is written, the next move is the load-delay move, and a bank in retention will be woken when the
load is performed (R74, R75). A deferred fault of an earlier load that is still untaken is dropped: 'a later load starts afresh' (R80;
DESIGN CHOICE, notes/assumptions/58: it arises only for a load triggered in that load's delay slot). -/
def State.startLoad (s : State) (e : Eng) (t : Thr) (l : Load) (p : Word) : State :=
  let l := { l with older := if regionOf l.pa = .host then ((s.eng e).sbuf.filter fun q => regionOf q.pa = .host).length else 0 }
  s.updThr e t fun x =>
    { x with lsu := { x.lsu.settle with
        p := p, part := false, split := l.split, busy := false, rpl := false, load := some l, delay := true, fault := none } }

/-- A load trigger (R74, R76, R77). -/
def portLoad (s : State) (e : Eng) (t : Thr) (f : Force) (d : Nat) (v : Word) : PortOut :=
  let x := (s.thr e t).lsu
  match lsuAddr x d v with
  | none => argFault v
  | some (off, double, p) =>
    let split := double && off.getLsbD 0
    let vas := lsuVas x.seg off double
    match s.check e t f false split false v vas false with
    | .fault q => .fault q none
    | .miss va h => .miss va false h
    | .go pas =>
      match pas, vas with
      | [a], _ => .ok (s.startLoad e t { pa := a, va := joinW x.seg off, second := none, split := false, machine := f.machine } p) [access a false 0] none
      | [a, b], [va, vb] =>
        .ok (s.startLoad e t { pa := a, va := va, second := some (b, vb), split := split, machine := f.machine } p) [access a false 0, access b false 0] none
      | _, _ => .plain s

/-- A store trigger posts one entry, or two when it is split (R74, R76, R78). A store to the program window that is not well formed, in
either half, is not posted (R179). -/
def portStore (s : State) (e : Eng) (t : Thr) (f : Force) (d : Nat) (v : Word) : PortOut :=
  let y := s.thr e t
  let x := y.lsu
  match lsuAddr x d v with
  | none => argFault v
  | some (off, double, p) =>
    let split := double && off.getLsbD 0
    let vas := lsuVas x.seg off double
    match s.check e t f true split false v vas false with
    | .fault q => .fault q none
    | .miss va h => .miss va true h
    | .go pas =>
      match (if progStoreOk pas x.dh then none else (pas.zip vas).findSome? fun q => (progOf q.1).map fun c => (c, q)) with
      | some (c, a, va) => .fault { cause := 0x16, val := v, fa := va } (some (c, a))
      | none => post y x pas vas split p
where
  post (y : Thread) (x : LsuState) (pas vas : List Addr) (split : Bool) (p : Word) : PortOut :=
    let entry := fun (a va : Addr) (w : Word) (w2 : Option Word) (h : Bool) =>
      ({ t := t, pa := a, va := va, data := w, data2 := w2, half2 := h, machine := f.machine, pc := y.pc,
         dest := BitVec.ofNat 7 d } : StoreEntry)
    let new := match pas, vas with
      | [a], [va] => [entry a va x.d none false]
      | [a, b], [va, vb] =>
        if split then [entry a va x.d none false, entry b vb x.dh none true] else [entry a va x.d (some x.dh) false]
      | _, _ => []
    let reqs := match pas with
      | [a] => [access a true x.d]
      | [a, b] => [access a true x.d, access b true x.dh]
      | _ => []
    .ok (s.updEng e fun z =>
      { z.updThr t fun q =>
          { q with lsu := { q.lsu with p := p, part := false, split := split, busy := false, rpl := false } } with
        sbuf := z.sbuf ++ new }) reqs none

def portLsuLdpi (s : State) (e : Eng) (t : Thr) (f : Force) (v : Word) : PortOut := portLoad s e t f 0x43 v
def portLsuLd1pi (s : State) (e : Eng) (t : Thr) (f : Force) (v : Word) : PortOut := portLoad s e t f 0x44 v
def portLsuStpd (s : State) (e : Eng) (t : Thr) (f : Force) (v : Word) : PortOut := portStore s e t f 0x45 v
def portLsuSt1pd (s : State) (e : Eng) (t : Thr) (f : Force) (v : Word) : PortOut := portStore s e t f 0x46 v
def portLsuLdx (s : State) (e : Eng) (t : Thr) (f : Force) (v : Word) : PortOut := portLoad s e t f 0x47 v
def portLsuStx (s : State) (e : Eng) (t : Thr) (f : Force) (v : Word) : PortOut := portStore s e t f 0x48 v
def portLsuLdb (s : State) (e : Eng) (t : Thr) (f : Force) (v : Word) : PortOut := portLoad s e t f 0x49 v
def portLsuStb (s : State) (e : Eng) (t : Thr) (f : Force) (v : Word) : PortOut := portStore s e t f 0x4A v

/-- LSU.FNC (R74): the fence waits for the thread's posted stores. -/
def portLsuFnc (s : State) (e : Eng) (t : Thr) (v : Word) : PortOut :=
  .ok (s.updThr e t fun x =>
    { x with lsu := { x.lsu with fence := true, part := false, split := false, busy := false, rpl := false } })
    [portRequest 0x4B 7 v] none

/-! ### BLK (R81, R82) -/

/-- BLK.GO (R81, R82): the operand ports become the live state; CNT = 0 examines no element. -/
def portBlkGo (s : State) (e : Eng) (t : Thr) (f : Force) (v : Word) : PortOut :=
  if bitsAt v 3 9 ≠ 0 then argFault v
  else
    .plain (s.updEng e fun y =>
      { y.updThr t fun x =>
          { x with blk := { x.blk with
              live := x.blk.opnd, op := v.setWidth 2, sne := v.getLsbD 2, done := false, hit := false, lt := false, flt := false
              active := true, ended := x.blk.opnd.cnt = 0, glit := f.len = 2, goPc := x.pc, tries := 0 } } with
        blkOwner := some t })

/-! ### Program control (R86) -/

/-- The jump target THI:v. -/
def Thread.target (x : Thread) (v : Word) : PAddr := BitVec.ofNat 17 (bitsAt x.thi 0 5 * 4096 + v.toNat)

/-- A taken jump other than JAL (R86, R121): at the return gate, a return at machine level and a privilege fault at task
level. -/
def State.jump (s : State) (e : Eng) (t : Thr) (f : Force) (a : PAddr) (v : Word) : PortOut :=
  if a = s.gate e then
    if !f.machine then .fault { cause := 0x05, val := v } none
    else match s.currentFrame e t with
      | none => argFault v
      | some _ => .ok (s.updThr e t fun x => { x with ret := true }) [] (some a)
  else .ok s [] (some a)

def portPcuJmp (s : State) (e : Eng) (t : Thr) (f : Force) (v : Word) : PortOut := s.jump e t f ((s.thr e t).target v) v

/-- PCU.JAL (R86): LK takes the next move's address; the return gate is no target of it (R121). -/
def portPcuJal (s : State) (e : Eng) (t : Thr) (f : Force) (v : Word) : PortOut :=
  let a := (s.thr e t).target v
  if a = s.gate e then (if f.machine then argFault v else .fault { cause := 0x05, val := v } none)
  else .ok (s.updThr e t fun x => { x with lk := x.pc + BitVec.ofNat 17 f.len }) [] (some a)

def portPcuRet (s : State) (e : Eng) (t : Thr) (f : Force) (v : Word) : PortOut := s.jump e t f (s.thr e t).lk v

def portPcuJnz (s : State) (e : Eng) (t : Thr) (f : Force) (v : Word) : PortOut :=
  let x := s.thr e t
  if x.cnd = 0 then .plain s else s.jump e t f (x.target v) v

/-- PCU.TM (R23, R127, R129): the next move still runs under TM and KR as they stood. TM's reserved bits read 0 (R22). -/
def portPcuTm (s : State) (e : Eng) (t : Thr) (f : Force) (v : Word) : PortOut :=
  .plain (s.updThr e t fun x =>
    { x with
      tm := if f.machine then v &&& 0xE00 else (x.tm &&& ~~~0x400) ||| (v &&& 0x400)
      shadow := some (x.tm, x.kr) })

/-- PCU.KR (R24, R86, R105): a service call at task level. -/
def portPcuKr (s : State) (e : Eng) (t : Thr) (f : Force) (v : Word) : PortOut :=
  if !f.machine then .fault { cause := 0x06, val := v } none
  else
    let k := bitsAt (s.thr e t).thi 0 2
    if h : k < 3 then
      .plain (s.updThr e t fun x =>
        { x with kr := x.kr.set k (if k = 2 then v &&& 0x0FF else v) h, shadow := some (x.tm, x.kr) })
    else argFault v

/-! ### ICU (R40, R41, R87, R88) -/

/-- The line ICU.AH:v names. -/
def Thread.icuLine (x : Thread) (v : Word) : BitVec 14 := lineOf (BitVec.ofNat 17 (bitsAt x.icuAh 0 5 * 4096 + v.toNat))

/-- ICU.INV (R87). -/
def portIcuInv (s : State) (e : Eng) (t : Thr) (v : Word) : PortOut :=
  let l := (s.thr e t).icuLine v
  let hit := ((s.eng e).cached l).isSome
  .plain (s.updEng e fun y =>
    (y.updSet l fun c => c.drop l).updThr t fun x => { x with ist := (x.ist &&& 0xA00) ||| flag 10 hit })

/-- ICU.PIN (R40, R87): a set with three pinned ways refuses it; an absent line is filled first. -/
def portIcuPin (s : State) (e : Eng) (t : Thr) (v : Word) : PortOut :=
  let l := (s.thr e t).icuLine v
  let hit := ((s.eng e).cached l).isSome
  if 3 ≤ ((s.eng e).set l).pins then
    .plain (s.updThr e t fun x => { x with ist := flag 11 true ||| flag 10 hit })
  else if hit then
    .plain (s.updEng e fun y => (y.updSet l fun c => c.pinLine l).updThr t fun x => { x with ist := flag 10 true })
  else
    .plain (s.updEng e fun y => (y.request t l .pin).updThr t fun x => { x with ist := 0, pinPend := true })

/-- ICU.SYNC (R87): every line buffer of the engine is discarded and, with v[0], every line and pin of the cache. -/
def portIcuSync (s : State) (e : Eng) (v : Word) : PortOut :=
  .plain (s.updEng e fun y =>
    { y with
      threads := vmap (fun _ (x : Thread) => { x with lb := none }) y.threads
      sets := if v.getLsbD 0 then vmap (fun _ (c : CacheSet) => { c with ways := Vector.replicate 4 none }) y.sets else y.sets })

/-! ### Samples, messages, inputs, timers (R89 to R95) -/

/-- SMP.OPEN (R89, R90, R249). -/
def portSmpOpen (s : State) (e : Eng) (t : Thr) (v : Word) : PortOut :=
  let ch := bitsAt (s.thr e t).smp.sel 0 6
  if h : ch < 48 then
    let n : Chan := ⟨ch, h⟩
    if !s.bobFeeds n e.cluster then argFault v
    else
      let a := s.bobAvail n e.cluster
      let held := min a (s.bobCap n)
      let pos := a - min v.toNat held
      let s := s.updThr e t fun x => { x with smp := { x.smp with chan := some n, pos := pos, ovr := held < v.toNat } }
      .plain (if s.bobWm n ≠ 0 && s.bobWm n ≤ a - pos then s.setLine e 12 else s)
  else argFault v

/-- SMP.SKIP (R89); on a cursor that is not attached it does nothing (DESIGN CHOICE, notes/assumptions/62: R89 does not say). -/
def portSmpSkip (s : State) (e : Eng) (t : Thr) (v : Word) : PortOut :=
  match (s.thr e t).smp.chan with
  | none => .plain s
  | some n => .plain (s.updThr e t fun x => { x with smp := { x.smp with pos := min (x.smp.pos + v.toNat) (s.bobAvail n e.cluster) } })

/-- MSG.SND (R92): v goes to the mailbox that MSG.DST names as it stands (R33). -/
def portMsgSnd (s : State) (e : Eng) (t : Thr) (v : Word) : PortOut :=
  .ok (s.updThr e t fun x => { x with msg := { x.msg with pend := true } })
    [{ portRequest 0x65 3 v with target := ((s.thr e t).msg.dst &&& 0x0FF).setWidth 24 }] none

/-- MSG.FLUSH (R92). -/
def portMsgFlush (s : State) (e : Eng) (t : Thr) : PortOut :=
  let b := (s.thr e t).mbSel
  .plain (s.updEng e fun y => { y with mbox := upd y.mbox b fun _ => [] })

/-- INP.SNAP (R93). -/
def portInpSnap (s : State) (e : Eng) (t : Thr) (v : Word) : PortOut :=
  .plain (s.updThr e t fun x => { x with inp := if v.getLsbD 0 then some (inpWords (s.eng e).inputs) else none })

/-- Fabric clocks of a timer tick (R94). -/
def tickLen (cfg : Word) : Nat :=
  match bitsAt cfg 0 2 with
  | 0 => 1
  | 1 => 16
  | 2 => 256
  | _ => 4096

/-- TMR.START (R94, R95). -/
def portTmrStart (s : State) (e : Eng) (t : Thr) (v : Word) : PortOut :=
  .plain (s.updThr e t fun x =>
    { x with tmr := { x.tmr with
        count := joinW x.tmr.ldh v, reload := joinW x.tmr.ldh v, cfgNow := x.tmr.cfg, run := true, exp := false, ovf := 0
        pre := tickLen x.tmr.cfg, due := 0 } })

/-- TMR.STOP (R94). -/
def portTmrStop (s : State) (e : Eng) (t : Thr) : PortOut :=
  .plain (s.updThr e t fun x => { x with tmr := { x.tmr with run := false, exp := false, ovf := 0, due := 0 } })

/-! ### MMU (R96, R209) -/

/-- Invalidation marks a walk in progress: its result will be discarded (R209). -/
def Engine.discardWalk (x : Engine) : Engine := { x with walk := x.walk.map fun w => { w with discard := true } }

/-- Every TLB entry that meets `p` is invalidated. -/
def Engine.tlbDrop (x : Engine) (p : TlbEntry → Bool) : Engine :=
  { x with tlb := vmap (fun _ o => match o with | some q => if p q then none else some q | none => none) x.tlb }

def portMmuInvp (s : State) (e : Eng) (t : Thr) (v : Word) : PortOut :=
  let page : BitVec 14 := BitVec.ofNat 14 ((s.thr e t).mmu.vah.toNat * 4 + bitsAt v 10 2)
  .plain (s.updEng e fun y => (y.tlbDrop fun q => q.vpn = page).discardWalk)

def portMmuInvk (s : State) (e : Eng) (v : Word) : PortOut :=
  .plain (s.updEng e fun y => (y.tlbDrop fun q => entKey q.entry = bitsAt v 0 4).discardWalk)

def portMmuInva (s : State) (e : Eng) (v : Word) : PortOut :=
  .plain (s.updEng e fun y =>
    { (if v.getLsbD 0 then y else y.tlbDrop fun _ => true).discardWalk with wcache := Vector.replicate 8 none })

/-! ### Trips, watchdog, selvedge port (R99 to R101) -/

/-- A change of the engine's trip request bits (R99, R137): what TRP.RQ shows; the trip fabric takes the voted change (R144). -/
def tripPort (s : State) (e : Eng) (d : Nat) (v : Word) (f : BitVec 24 → BitVec 24) : PortOut :=
  .ok (s.updEng e fun y => { y with trq := f y.trq }) [portRequest d 4 v] none

def portTrpSet (s : State) (e : Eng) (v : Word) : PortOut :=
  if 23 < v.toNat then argFault v else tripPort s e 0x70 v fun q => q ||| BitVec.ofNat 24 (2 ^ v.toNat)

def portTrpClr (s : State) (e : Eng) (v : Word) : PortOut :=
  if v = 31 then tripPort s e 0x71 v fun _ => 0
  else if 23 < v.toNat then argFault v
  else tripPort s e 0x71 v fun q => q &&& ~~~BitVec.ofNat 24 (2 ^ v.toNat)

def portTrpSetm (s : State) (e : Eng) (v : Word) : PortOut := tripPort s e 0x72 v fun q => q ||| v.setWidth 24
def portTrpSetmh (s : State) (e : Eng) (v : Word) : PortOut := tripPort s e 0x73 v fun q => q ||| (v.setWidth 24 <<< 12)

/-- WDC.CHECK (R100): the check-in leaves the engine. -/
def portWdcCheck (s : State) (v : Word) : PortOut :=
  if bitsAt v 4 8 ≠ 0 then argFault v else .ok s [portRequest 0x74 5 v] none

/-- WDC.SERVE (R100): a read of WDC.ST holds the thread until the verdict returns. -/
def portWdcServe (s : State) (e : Eng) (t : Thr) (v : Word) : PortOut :=
  .ok (s.updThr e t fun x => { x with wdcPend := true }) [portRequest 0x75 5 v] none

/-- An SVP operation leaves for the selvedge (R101). -/
def svpPort (s : State) (e : Eng) (t : Thr) (d : Nat) (v : Word) (write : Option Word) (fence inc : Bool) : PortOut :=
  let x := (s.thr e t).svp
  if x.b.getLsbD 4 && bitsAt x.b 1 3 ≠ 0 then argFault v
  else
    .ok (s.updEng e fun y =>
      { y.updThr t fun z => { z with svp := { x with a := if inc then x.a + 1 else x.a, pend := true } } with
        svpq := y.svpq ++ [{ t := t, a := x.a, b := x.b, write := write, fence := fence }] })
      [{ portRequest d (if fence then 7 else 6) v with target := joinW x.b x.a }] none

def portSvpWr (s : State) (e : Eng) (t : Thr) (v : Word) : PortOut := svpPort s e t 0x7A v (some v) false false
def portSvpWri (s : State) (e : Eng) (t : Thr) (v : Word) : PortOut := svpPort s e t 0x7B v (some v) false true
def portSvpRd (s : State) (e : Eng) (t : Thr) (v : Word) : PortOut := svpPort s e t 0x7C v none false false
def portSvpRdi (s : State) (e : Eng) (t : Thr) (v : Word) : PortOut := svpPort s e t 0x7D v none false true
/-- SVP.FNC (R101). -/
def portSvpFnc (s : State) (e : Eng) (t : Thr) (v : Word) : PortOut := svpPort s e t 0x7E v none true false

/-! ### Operand ports and the dispatch of destinations -/

/-- A write to an operand port (R32, R61); other ids change nothing here. -/
def Thread.operand (x : Thread) (d : Nat) (v : Word) : Thread :=
  match d with
  | 0x20 => { x with alu := { x.alu with a := v } }
  | 0x2C => { x with mul := { x.mul with a := v } }
  | 0x2D => { x with mul := { x.mul with ah := v } }
  | 0x2E => { x with mul := { x.mul with bh := v } }
  | 0x30 => { x with mac := { x.mac with a := v } }
  | 0x31 => { x with mac := { x.mac with ah := v } }
  | 0x32 => { x with mac := { x.mac with bh := v } }
  | 0x38 => { x with apx := { x.apx with xh := v } }
  | 0x39 => { x with apx := { x.apx with y := v } }
  | 0x3E => { x with lsu := { x.lsu with seg := v } }
  | 0x3F => { x with lsu := { x.lsu with d := v } }
  | 0x40 => { x with lsu := { x.lsu with dh := v } }
  | 0x41 => { x with lsu := { x.lsu with x := v } }
  | 0x42 => { x with lsu := { x.lsu with ctl := v } }
  | 0x4C => { x with blk := { x.blk with opnd := { x.blk.opnd with src := v } } }
  | 0x4D => { x with blk := { x.blk with opnd := { x.blk.opnd with sseg := v } } }
  | 0x4E => { x with blk := { x.blk with opnd := { x.blk.opnd with dst := v } } }
  | 0x4F => { x with blk := { x.blk with opnd := { x.blk.opnd with dseg := v } } }
  | 0x50 => { x with blk := { x.blk with opnd := { x.blk.opnd with cnt := v } } }
  | 0x51 => { x with blk := { x.blk with opnd := { x.blk.opnd with pat := v } } }
  | 0x53 => { x with blk := { x.blk with opnd := { x.blk.opnd with ign := v } } }
  | 0x54 => { x with thi := v }
  | 0x55 => { x with cnd := v }
  | 0x5C => { x with icuAh := v }
  | 0x60 => { x with smp := { x.smp with sel := v } }
  | 0x64 => { x with msg := { x.msg with dst := v } }
  | 0x66 => { x with msg := { x.msg with sel := v } }
  | 0x68 => { x with tmr := { x.tmr with ldh := v } }
  | 0x6A => { x with tmr := { x.tmr with cfg := v } }
  | 0x6C => { x with mmu := { x.mmu with vah := v } }
  | 0x76 => { x with exc := { x.exc with amask := v } }
  | 0x78 => { x with svp := { x.svp with a := v } }
  | 0x79 => { x with svp := { x.svp with b := v } }
  | _ => x

/-- The write of a move to destination id `d`. -/
def State.portWrite (s : State) (e : Eng) (t : Thr) (f : Force) (d : Nat) (v : Word) : PortOut :=
  match d with
  | 0x21 => portAluAdd s e t v
  | 0x22 => portAluAdc s e t v
  | 0x23 => portAluSub s e t v
  | 0x24 => portAluSbc s e t v
  | 0x25 => portAluAnd s e t v
  | 0x26 => portAluOr s e t v
  | 0x27 => portAluXor s e t v
  | 0x28 => portAluShl s e t v
  | 0x29 => portAluShr s e t v
  | 0x2A => portAluSar s e t v
  | 0x2B => portAluCmp s e t v
  | 0x2F => portMulGo s e t v
  | 0x33 => portMacMac s e t v
  | 0x34 => portMacMsu s e t v
  | 0x35 => portMacMul s e t v
  | 0x36 => portMacClr s e t
  | 0x37 => portMacShr s e t v
  | 0x3A => portApxRcp s e t v
  | 0x3B => portApxSq s e t v
  | 0x3C => portApxL2 s e t v
  | 0x3D => portApxDiv s e t v
  | 0x43 => portLsuLdpi s e t f v
  | 0x44 => portLsuLd1pi s e t f v
  | 0x45 => portLsuStpd s e t f v
  | 0x46 => portLsuSt1pd s e t f v
  | 0x47 => portLsuLdx s e t f v
  | 0x48 => portLsuStx s e t f v
  | 0x49 => portLsuLdb s e t f v
  | 0x4A => portLsuStb s e t f v
  | 0x4B => portLsuFnc s e t v
  | 0x52 => portBlkGo s e t f v
  | 0x56 => portPcuJmp s e t f v
  | 0x57 => portPcuJal s e t f v
  | 0x58 => portPcuRet s e t f v
  | 0x59 => portPcuJnz s e t f v
  | 0x5A => portPcuTm s e t f v
  | 0x5B => portPcuKr s e t f v
  | 0x5D => portIcuInv s e t v
  | 0x5E => portIcuPin s e t v
  | 0x5F => portIcuSync s e v
  | 0x61 => portSmpOpen s e t v
  | 0x62 => portSmpSkip s e t v
  | 0x65 => portMsgSnd s e t v
  | 0x67 => portMsgFlush s e t
  | 0x69 => portTmrStart s e t v
  | 0x6B => portTmrStop s e t
  | 0x6D => portMmuInvp s e t v
  | 0x6E => portMmuInvk s e v
  | 0x6F => portMmuInva s e v
  | 0x70 => portTrpSet s e v
  | 0x71 => portTrpClr s e v
  | 0x72 => portTrpSetm s e v
  | 0x73 => portTrpSetmh s e v
  | 0x74 => portWdcCheck s v
  | 0x75 => portWdcServe s e t v
  | 0x77 => portInpSnap s e t v
  | 0x7A => portSvpWr s e t v
  | 0x7B => portSvpWri s e t v
  | 0x7C => portSvpRd s e t v
  | 0x7D => portSvpRdi s e t v
  | 0x7E => portSvpFnc s e t v
  | _ =>
    if h : d < 32 then
      if d = 0 then .plain s else .plain (s.updThr e t fun x => { x with g := x.g.set d v h })
    else .plain (s.updThr e t fun x => x.operand d v)

/-! ### When a trigger is accepted (R28, R34, R35, R66, R222, R223) -/

/-- Loads outstanding in the engine. -/
def Engine.loads (x : Engine) : Nat := (x.threads.toList.filter fun t => t.lsu.load.isSome).length

/-- Load triggers. -/
def isLoadPort (d : Nat) : Bool := d = 0x43 || d = 0x44 || d = 0x47 || d = 0x49
/-- Store triggers. -/
def isStorePort (d : Nat) : Bool := d = 0x45 || d = 0x46 || d = 0x48 || d = 0x4A

/-- Store-buffer entries a store trigger takes (R78): two when it is split. -/
def storeEntries (x : LsuState) (d : Nat) (v : Word) : Nat :=
  match lsuAddr x d v with
  | some (off, true, _) => if off.getLsbD 0 then 2 else 1
  | _ => 1

/-- The unit accepts the trigger. -/
def State.dstReady (s : State) (e : Eng) (t : Thr) (d : Nat) (v : Word) : Bool :=
  let y := s.eng e
  let x := y.thr t
  if rng d 0x33 0x37 then x.mac.pend.isNone
  else if rng d 0x3A 0x3D then y.apxOwner.isNone
  else if isLoadPort d then x.lsu.load.isNone && !x.lsu.fence && y.loads < 4 && y.sbuf.length < 4
  else if isStorePort d then
    x.lsu.load.isNone && !x.lsu.fence && y.sbuf.length + storeEntries x.lsu d v ≤ 4
  else match d with
  | 0x4B => x.lsu.load.isNone && !x.lsu.fence
  | 0x52 => y.blkOwner.isNone && !x.blk.active
  | 0x5D | 0x5E | 0x5F => !x.pinPend
  | 0x65 | 0x67 => !x.msg.pend
  | 0x74 | 0x75 => !x.wdcPend
  | 0x7A | 0x7B | 0x7E => !x.svp.pend
  | 0x7C | 0x7D => !x.svp.pend && !(y.svpq.any fun q => q.write.isNone && !q.fence)
  | _ => true

/-- A deferred load fault that an LSU trigger takes (R80, R108). -/
def Thread.dstFault (x : Thread) (d : Nat) (v : Word) : Option PFault :=
  match x.lsu.fault with
  | some f => if rng d 0x43 0x4B && !x.lsu.delay then some { cause := f.1, val := v, fa := f.2 } else none
  | none => none

/-! ### A trigger by itself -/

/-- PRECISE holds a thread until the result of a MAC.MAC, MAC.MSU, MAC.MUL or APX operation that it triggered under PRECISE is
valid (R126, R455). -/
def State.preciseHold (s : State) (e : Eng) (t : Thr) : Bool :=
  ((s.thr e t).mac.pend.map fun p => p.precise && decide (p.op ≠ .shr)).getD false ||
    ((s.eng e).apxOwner = some t && ((s.thr e t).apx.pend.map ApxPend.precise).getD false)

/-- The engine's slots run: RUN, enabled, clocked, not locked up (R26, R157, R457). -/
def State.engRuns (s : State) (e : Eng) : Bool :=
  s.inRun && s.engEn e && !(s.eng e).locked && !(s.clu e.cluster).gated && !s.paused e

/-- The thread is running (R28, condition 1): it exists in the shape, is started, and does not wait in PRECISE mode. -/
def State.threadRuns (s : State) (e : Eng) (t : Thr) : Bool :=
  s.engRuns e && t.val < s.nThreads e && (s.thr e t).run = .running && !s.preciseHold e t

/-- The thread can move now: it runs, and waits for no entry, return or block operation (R28, R84). -/
def State.canMove (s : State) (e : Eng) (t : Thr) : Bool :=
  let x := s.thr e t
  s.threadRuns e t && x.pfault.isNone && x.tail.isNone && !x.ret && !x.blk.active

/-- The event of the thread's next boundary when the thread is ready for it, but for its vector's line (R117, R127, R128). -/
def State.eventNow (s : State) (e : Eng) (t : Thr) : Option Event :=
  let x := s.thr e t
  if !s.threadRuns e t then none
  else if x.lsu.load.isSome || x.ret then none
  else match x.pfault with
  | some f => some (.precise f)
  | none =>
    match x.tail with
    | some q =>
      if (s.currentFrame e t).isNone then none
      else match s.pickEvent e t q.ien q.apri true with
        | some ev => some ev
        | none => some (if q.cause.toNat < 0x20 then .imprecise q.cause 0 else .line ⟨q.cause.toNat % 32, by omega⟩)
    | none =>
      if x.deferred || x.begun then none
      else s.pickEvent e t (x.tm.getLsbD 9) x.apri (s.allocFrame e t).isSome

/-- The thread's next slot is a move: it can move, and nothing is to be entered before it (R106). -/
def State.mayMove (s : State) (e : Eng) (t : Thr) : Bool := s.canMove e t && (s.eventNow e t).isNone

/-- A destination id that the thread may not use, and the fault it raises (R45, R46, R100, R103). -/
def State.dstFaultOf (s : State) (e : Eng) (f : Force) (d : Nat) (v : Word) : Option PFault :=
  if dstSvp d && !s.isSel e then some { cause := 0x03 }
  else if dstMachine d && !f.machine then some { cause := 0x04, val := v }
  else none

/-- A write that faults: the malformed program-window store counts (R179), and the precise fault arises. -/
def State.refuse (s : State) (e : Eng) (t : Thr) (q : PFault) (bad : Option (Clu × Addr)) : State :=
  match bad with
  | some (c, a) => (s.raiseOf (.engine e t (s.thr e t).machine) (progSrc c) 0x03 a).preciseFault e t q
  | none => s.preciseFault e t q

/-- What a trigger by itself does in one lane: one that cannot be made now, or that its unit cannot accept, changes nothing
(R28, R106), refused ids fault, a jump sets PC, and its requests leave for the vote. -/
def State.fireIn (s : State) (e : Eng) (t : Thr) (d : Nat) (v : Word) (op : State → Force → PortOut) : State :=
  if !(s.mayMove e t && s.dstReady e t d v) then s
  else
    let f := s.force e t
    match s.dstFaultOf e f d v with
    | some q => s.preciseFault e t q
    | none =>
      match (s.thr e t).dstFault d v with
      | some q => s.preciseFault e t q
      | none =>
        match op s f with
        | .ok s' reqs (some a) => (s'.updThr e t fun x => { x with pc := a }).send e t reqs
        | .ok s' reqs none => s'.send e t reqs
        | .fault q bad => s.refuse e t q bad
        | .miss va w h => s.startWalk e t va w h false v

/-- A trigger of one thread by itself, as its row commands it, in every lane. -/
def State.fire (s : State) (e : Eng) (t : Thr) (d : Nat) (v : Word) (op : State → Force → PortOut) :
    Host.Outcome State Fault Refusal :=
  .next (s.inLanes e fun s => s.fireIn e t d v op)

/-- What a pop of a source port by itself does in one lane. -/
def State.popIn (s : State) (e : Eng) (t : Thr) (i : Nat) : State :=
  if s.mayMove e t && s.srcReady e t i then s.srcPop e t i else s

/-- A pop of a source port by itself, as its row commands it, in every lane. -/
def State.firePop (s : State) (e : Eng) (t : Thr) (i : Nat) : Host.Outcome State Fault Refusal :=
  .next (s.inLanes e fun s => s.popIn e t i)

end Sys2Proof.Machine
end

