-- ==== Sys2Proof/Machine/Memory.lean ====
section
/-! DEFINITION. How an access to memory ends physically and what is counted for it (R182 to R189, R191 to R194, R326), and the
commands of retention. -/

namespace Sys2Proof.Machine

/-- The flex bank and the companion RAM are dual-port (R180, R187). -/
def dualPort (a : Addr) : Bool :=
  match regionOf a with
  | .flex _ | .companion => true
  | _ => false

/-- The access crosses the weft (R182): a master reaches memory of its own cluster without it. -/
def crossesWeft (m : Master) (a : Addr) : Bool :=
  match memClu a with
  | some c => !masterInside c m
  | none => true

/-- The word carries stored parity (R180, R181). -/
def hasParity (a : Addr) : Bool :=
  match regionOf a with
  | .home _ _ | .flex _ | .bobbin _ | .program _ | .companion | .recorder => true
  | _ => false

/-- The read returns data. -/
def readGood : ReadOutcome → Bool
  | .ok | .replayed | .replayedAt _ | .resent | .metRead | .metReplayed _ | .collided | .collidedReplayed => true
  | _ => false

/-- The read's data came from a parity replay that counts as one (R79, R189). -/
def readAgain : ReadOutcome → Bool
  | .replayed | .replayedAt _ | .metReplayed _ => true
  | _ => false

/-- The read collided with a write (R187, R189). -/
def readCollides : ReadOutcome → Bool
  | .collided | .collidedReplayed | .persistentCollided | .persistentCollidedAt _ => true
  | _ => false

/-- The word of an access that an outcome names. -/
def outcomeWord (ws : List Addr) : ReadOutcome → Addr
  | .replayedAt k | .persistentAt k | .metReplayed k | .metPersistent k | .persistentCollidedAt k => ((ws[k.val]?).or ws.head?).getD 0
  | _ => ws.headD 0

/-- The outcome of a read of the words `ws` as it can arise there: an isolated cluster refuses (R326), only a dual-port word collides
(R187), only stored words have parity (R181), only a transfer over the weft meets its errors (R182), and a stored word that is wrong
fails every replay until a write replaces it (R186). -/
def State.effRead (s : State) (m : Master) (ws : List Addr) (o : ReadOutcome) : ReadOutcome :=
  let a := ws.headD 0
  let p := hasParity a
  let bad := p && ws.any fun w => !s.wordGood w
  let k : Fin 32 := ⟨(ws.findIdx fun w => !s.wordGood w) % 32, Nat.mod_lt _ (by decide)⟩
  let stuck : ReadOutcome := .persistentAt k
  let met : ReadOutcome := if dualPort a then .metPersistent k else stuck
  if s.cutOff m a then .errorResponse
  else match o with
    | .errorResponse => .errorResponse
    | .weftFail => if crossesWeft m a then .weftFail else if bad then stuck else .ok
    | .timeout => if crossesWeft m a && regionOf a ≠ .host then .timeout else if bad then stuck else .ok
    | .metRead => if bad then met else if dualPort a then .metRead else .ok
    | .metReplayed k => if bad then met else if dualPort a then .metReplayed k else if p then .replayedAt k else .ok
    | .metPersistent k => if bad then met else if dualPort a then .metPersistent k else if p then .persistentAt k else .ok
    | .collided => if dualPort a then .collided else if bad then stuck else .ok
    | .collidedReplayed => if bad then (if dualPort a then .persistentCollided else stuck) else if dualPort a then .collidedReplayed else .ok
    | .persistentCollided => if dualPort a then .persistentCollided else if p then .persistent else .ok
    | .persistentCollidedAt k => if dualPort a then .persistentCollidedAt k else if p then .persistentAt k else .ok
    | .persistent => if bad then stuck else if p then .persistent else .ok
    | .persistentAt k => if bad then stuck else if p then .persistentAt k else .ok
    | .replayed => if bad then stuck else if p then .replayed else .ok
    | .replayedAt k => if bad then stuck else if p then .replayedAt k else .ok
    | .resent => if bad then stuck else if crossesWeft m a then .resent else .ok
    | .ok => if bad then stuck else .ok

/-- The same for a write: a bank checks its writes (R184), and only a dual-port word collides (R187). -/
def State.effWrite (s : State) (m : Master) (a : Addr) (o : WriteOutcome) : WriteOutcome :=
  if s.cutOff m a then .errorResponse
  else match o with
    | .resentBank => if (memClu a).isSome then .resentBank else .ok
    | .resentBankAt k => if (memClu a).isSome then .resentBankAt k else .ok
    | .bankFail => if (memClu a).isSome then .bankFail else .ok
    | .bankFailAt k => if (memClu a).isSome then .bankFailAt k else .ok
    | .resentWeft => if crossesWeft m a then .resentWeft else .ok
    | .weftFail => if crossesWeft m a then .weftFail else .ok
    | .timeout => if crossesWeft m a then .timeout else .ok
    | .collided => if dualPort a then .collided else .ok
    | .metRead => if dualPort a then .metRead else .ok
    | o => o

/-- The write is performed. -/
def writeGood : WriteOutcome → Bool
  | .ok | .resentBank | .resentBankAt _ | .resentWeft | .collided | .metRead => true
  | _ => false

/-- Cause of a failed read at its reader (R80, R85). -/
def readCause : ReadOutcome → BitVec 6
  | .weftFail => 0x18
  | .errorResponse | .timeout => 0x19
  | _ => 0x17

/-- The master reaches the flex bank at port Y, the later port of a collision (R176, R177, R188): in CONTIG every master but the owner,
in SHARED the one CLU.FLEX.Y names, or any other. -/
def State.atPortY (s : State) (m : Master) (a : Addr) : Bool :=
  match regionOf a with
  | .flex c =>
    let r := s.reg (cluBase c)
    let x := bitsAt r 4 4
    let y := bitsAt r 0 4
    match flexCode c m with
    | some k => if bitsAt r 10 2 = 1 then y = k || (y = 9 && x ≠ k) else x ≠ k
    | none => bitsAt r 10 2 ≠ 1 || y = 9
  | _ => false

/-- A flex-bank collision is counted (R188): once, at its later access, the one at port Y. -/
def State.countCollision (s : State) (m : Master) (a : Addr) : State :=
  match regionOf a with
  | .flex c => if s.atPortY m a then s.updClu c fun x => { x with ccnt := sat12 (x.ccnt.toNat + 1) } else s
  | _ => s

/-- The master is warned of a collision (R188): the companion RAM's internal port always, the flex bank's port Y. -/
def State.warned (s : State) (m : Master) (a : Addr) : Bool := regionOf a = .companion || s.atPortY m a

/-- What a read's outcome counts (R182, R183, R185, R189, R364), at the word that failed; a walk's persistent failure has cause 0x05
(R207). A word that fails persistently stays wrong (R186). The events name the requester `q`. -/
def State.countRead (s : State) (m : Master) (ws : List Addr) (o : ReadOutcome) (walk : Bool) (q : Requester := .master m) : State :=
  let a := outcomeWord ws o
  let bank := fun (s : State) (kind : Nat) (cause : BitVec 7) =>
    match (regionOf a).bank with
    | some (c, b) => s.memEvent c b q kind cause a false
    | none => if regionOf a = .recorder then s.raise 113 cause a else s
  match o with
  | .ok => s
  | .errorResponse => s.errorTo m a q
  | .replayed | .replayedAt _ => bank s 0 0x01
  | .resent => s.raiseBy (some q) 80 0x01 a
  | .metRead | .collided | .collidedReplayed => s.countCollision m a
  | .metReplayed _ => (bank s 0 0x01).countCollision m a
  | .metPersistent _ => (bank (s.spoil a) 1 (if walk then 0x05 else 0x02)).countCollision m a
  | .persistent | .persistentAt _ => bank (s.spoil a) 1 (if walk then 0x05 else 0x02)
  | .persistentCollided | .persistentCollidedAt _ => (bank s 2 (if walk then 0x05 else 0x03)).countCollision m a
  | .weftFail => s.raiseBy (some q) 81 0x02 a
  | .timeout => s.raiseBy (some q) 83 0x01 a

/-- The word that the bank's check names, of `n` words written from `a` on. -/
def writtenWord (a : Addr) (n : Nat) : WriteOutcome → Addr
  | .resentBankAt k | .bankFailAt k => a + BitVec.ofNat 24 (k.val % n)
  | _ => a

/-- What the outcome of a write of `n` words counts (R182, R184, R185, R188), at the word that failed the bank's check. -/
def State.countWrite (s : State) (m : Master) (a : Addr) (o : WriteOutcome) (n : Nat := 1) : State :=
  let bank := fun (kind : Nat) (cause : BitVec 7) =>
    match (regionOf a).bank with
    | some (c, b) => s.memEvent c b (.master m) kind cause (writtenWord a n o) true
    | none => s
  match o with
  | .ok => s
  | .errorResponse => s.errorTo m a
  | .resentBank | .resentBankAt _ => bank 0 0x01
  | .resentWeft => s.raiseOf m 80 0x01 a
  | .collided | .metRead => s.countCollision m a
  | .bankFail | .bankFailAt _ => bank 3 0x04
  | .weftFail => s.raiseOf m 81 0x02 a
  | .timeout => s.raiseOf m 83 0x01 a

/-- An access starts the wake of a bank in retention (R192). -/
def State.wake (s : State) (a : Addr) : State :=
  match (regionOf a).bank with
  | some (c, b) =>
    s.updClu c fun x =>
      if x.banks[b.val] = .retained then { x with banks := upd x.banks b fun _ => .waking } else x
  | none => s

/-- A fresh value when the read collided, else the stored word (R187). -/
def State.memRead (s : State) (a : Addr) (o : ReadOutcome) : Word × State :=
  if o = .collided then (Config.collidedWord s.free, s.takeFree)
  else
    match regionOf a with
    | .program c => (s.windowRead c a, s)
    | _ => (s.memWord a.toNat, s)

/-- A word stored, unless the write collided with another and the other's value is what stands (R187). -/
def State.storeWord (s : State) (a : Addr) (v : Word) (o : WriteOutcome) : State :=
  if o = .collided then (if Config.secondWins s.free then s.setMem a.toNat v else s).takeFree else s.setMem a.toNat v

/-- A bank enters retention at all (R191). -/
def State.retainable (s : State) (c : Clu) (b : Bank) : Bool :=
  !((c = 0 && b.val < 8 && s.regB selBase b.val) || (c = 0 && b = 10) ||
    (b = 9 && (List.finRange 48).any fun n => s.bobFeeds n c && (s.pathEn n (s.bobFast n))))

/-- RETENTION_ENTER (R191): an idle bank of a gated cluster enters retention. -/
def execRetentionEnter (c : Clu) (b : Bank) (s : State) : Host.Outcome State Fault Refusal :=
  let x := s.clu c
  if s.doze && s.regB (cluBase c + 1) b.val && x.gated && x.banks[b.val] = .active && s.retainable c b then
    .next (s.updClu c fun x => { x with banks := upd x.banks b fun _ => .retained })
  else .next s

/-- BANK_WAKE (R192): the wake of a bank ends. -/
def execBankWake (c : Clu) (b : Bank) (s : State) : Host.Outcome State Fault Refusal :=
  if (s.clu c).banks[b.val] = .waking then
    .next (s.updClu c fun x => { x with banks := upd x.banks b fun _ => .active })
  else .next s

/-- Base address of a bank. -/
def bankBase (c : Clu) (b : Bank) : Nat :=
  c.val * 0x100000 + (if b.val < 8 then b.val * 0x8000 else if b = 8 then 0x40000 else if b = 9 then 0x48000 else 0x80000)

/-- RETENTION_LOSS (R194): the bank's contents become unreliable, CLU.RLOST shows it and source 64 + c counts it, with
the bank's base address and no requester (DESIGN CHOICE, notes/assumptions/62: R185 and R194 give a whole bank no address). -/
def execRetentionLoss (c : Clu) (b : Bank) (s : State) : Host.Outcome State Fault Refusal :=
  if (s.clu c).banks[b.val] = .active then .next s
  else
    let s := s.loseBank c b
    let s := s.updClu c fun x => { x with rlost := x.rlost ||| BitVec.ofNat 12 (2 ^ b.val), rlostNow := x.rlostNow ||| BitVec.ofNat 12 (2 ^ b.val) }
    .next (s.raise (dataSrc c) 0x06 (BitVec.ofNat 24 (bankBase c b)))

end Sys2Proof.Machine
end

