-- ==== Sys2Proof/Machine/Engine.lean ====
section
/-! DEFINITION. The move cycle: readiness and selection (R28 to R30), one move (R14 to R18), operations that complete later, table
walks (R200), entry slots (R117) and returns (R121). Each command acts in every lane of its engine (R135). -/

namespace Sys2Proof.Machine

/-! ### Which event a thread would enter now (R106, R107, R117) -/

/-- The cause an entry of the event would have (R124). -/
def State.entryCause (s : State) (e : Eng) (t : Thr) (ev : Event) : BitVec 6 :=
  if (s.thr e t).tail.isSome then ev.cause
  else if ((s.allocFrame e t).map FrameSlot.ovr).getD false then 0x1E else ev.cause

/-- The line of the event's vector. -/
def State.vectorLine (s : State) (e : Eng) (t : Thr) (ev : Event) : BitVec 14 := lineOf (s.vector e (s.entryCause e t ev))

/-! ### Readiness of a move (R28) -/

/-- The next move as fetched. -/
structure Fetched where
  word : PWord
  lit : PWord
  ids : Ids
  len : Nat
deriving DecidableEq, Repr

/-- The word at PC and, for a LIT move, its literal word (R15, R44). -/
def State.fetched (s : State) (e : Eng) (t : Thr) : Fetched :=
  let x := s.thr e t
  let w := s.fetchWord e t x.pc
  let ids := decodeWord (x.tmNow.getLsbD 10) w
  if ids.src = 0x18 then ⟨w, s.fetchWord e t (x.pc + 1), ids, 2⟩ else ⟨w, 0, ids, 1⟩

/-- The move's word, and its literal word, is in the line buffer or hits in the cache (R28). -/
def State.present (s : State) (e : Eng) (t : Thr) : Bool :=
  let x := s.thr e t
  ((s.eng e).line t x.pc).isSome && ((s.fetched e t).len = 1 || ((s.eng e).line t (x.pc + 1)).isSome)

/-- The line the thread's move misses. -/
def State.missingLine (s : State) (e : Eng) (t : Thr) : Option (BitVec 14) :=
  let x := s.thr e t
  if ((s.eng e).line t x.pc).isNone then some (lineOf x.pc)
  else if (s.fetched e t).len = 2 && ((s.eng e).line t (x.pc + 1)).isNone then some (lineOf (x.pc + 1))
  else none

/-- The fault of a move found before its port write: a breakpoint (R487), its encoding (R46, R49, R62), the level of its source
and destination (R45, R46). Of several illegal-instruction causes the first found is raised: a reserved id 0x01, then the literal's
[13:12] 0x02, then the selvedge ports 0x03; ids that no table names, 0x7F among them, are reserved on every engine (DESIGN CHOICE,
notes/assumptions/58). -/
def State.moveFault (s : State) (e : Eng) (t : Thr) (f : Force) (m : Fetched) : Option PFault :=
  let lit := m.lit.setWidth 12
  if s.boot.breakpoints.any fun b => b.1 = e && b.2 = (s.thr e t).pc then some { cause := 0x09 }
  else match m.ids.bad with
  | some c => some { cause := c }
  | none =>
    if m.len = 2 && bitsAt m.lit 12 2 ≠ 0 then some { cause := 0x02 }
    else if (srcSvp m.ids.src || dstSvp m.ids.dst) && !s.isSel e then some { cause := 0x03 }
    else if !f.machine && srcMachine m.ids.src then some { cause := 0x04 }
    else if !f.machine && dstMachine m.ids.dst then some { cause := 0x04, val := s.srcValue e t m.ids.src lit }
    else (s.thr e t).srcFault m.ids.src

/-- The thread is ready for a move (R28): its words are present, and the source and destination that its ids name can be used,
whether the move will fault or not. A thread that misses the TLB while a walk runs is not ready (R205). -/
def State.moveReady (s : State) (e : Eng) (t : Thr) : Bool :=
  s.canMove e t && s.present e t &&
    (let f := s.force e t
     let m := s.fetched e t
     let v := s.srcValue e t m.ids.src (m.lit.setWidth 12)
     s.srcReady e t m.ids.src && s.dstReady e t m.ids.dst v &&
       ((s.moveFault e t f m).isSome || (s.eng e).walk.isNone ||
         match s.portWrite e t f m.ids.dst v with
         | .miss _ _ _ => false
         | _ => true))

/-- The thread is ready: for an entry slot, or else for a move (R28, R117). -/
def State.ready (s : State) (e : Eng) (t : Thr) : Bool :=
  match s.eventNow e t with
  | some ev => ((s.eng e).cached (s.vectorLine e t ev)).isSome
  | none => s.moveReady e t

/-! ### Selection (R29, R30) -/

/-- Threads rr + 1, rr + 2, … modulo n. -/
def ringFrom (rr n : Nat) : List Thr := (List.range n).map fun k => ⟨(rr + 1 + k) % n % 8, by omega⟩

/-- The procedure of R29: the thread selected, with the new `last` and `rr`. -/
def State.choose (s : State) (e : Eng) : Option Thr × Option Thr × Thr :=
  let x := s.eng e
  let n := s.nThreads e
  let rsv := s.rsv e
  let other := (ringFrom x.rr.val n).find? fun t => rsv ≠ some t.val && s.ready e t
  let res := (thrList.find? fun t => rsv = some t.val && s.ready e t)
  match res with
  | some r =>
    if x.last ≠ some r || other.isNone then (some r, some r, x.rr)
    else match other with
      | some t => (some t, some t, t)
      | none => (none, x.last, x.rr)
  | none =>
    match other with
    | some t => (some t, some t, t)
    | none => (none, x.last, x.rr)

/-- Fills that the waiting threads' fetches and vectors request (R37, R117). -/
def State.requestFills (s : State) (e : Eng) : State :=
  thrList.foldl (fun (s : State) t =>
    match s.eventNow e t with
    | some ev =>
      let l := s.vectorLine e t ev
      if ((s.eng e).cached l).isSome then s else s.updEng e fun y => y.request t l .vector
    | none =>
      if s.canMove e t then
        match s.missingLine e t with
        | some l => s.updEng e fun y => y.request t l .fetch
        | none => s
      else s) s

/-- Halts take effect at a slot boundary (R27). -/
def Engine.applyHalts (x : Engine) : Engine :=
  { x with threads := vmap (fun _ (y : Thread) => if y.haltReq then { y with run := .halted, haltReq := false } else y) x.threads }

/-- Each thread's entry that has begun: of the first interrupt or NMI that it can take, until it is entered (R118). -/
def State.beginEntries (s : State) (e : Eng) : State :=
  thrList.foldl (fun (s : State) t =>
    let c : Option (BitVec 6) := match s.eventNow e t with
      | some .nmi => some 0
      | some (.line n) => some (BitVec.ofNat 6 (0x20 + n.val))
      | _ => none
    s.updThr e t fun x => { x with entering := c.bind fun c => x.entering.or (some c) }) s

/-- The slot boundary in a lane: halts, entries that begin, fill requests and the selection of the next thread (R27, R29, R37). -/
def State.boundary (s : State) (e : Eng) : State :=
  let s := ((s.updEng e Engine.applyHalts).beginEntries e).requestFills e
  let c := s.choose e
  s.updEng e fun x => { x with cur := c.1, last := c.2.1, rr := c.2.2 }

/-- The selection repeated in a lane. -/
def State.selectIn (s : State) (e : Eng) : State :=
  if s.engRuns e && !(((s.eng e).cur.map fun t => s.ready e t).getD false) then s.boundary e else s

/-- IDLE_SELECT (R29): with no thread selected, or the selected one ready no longer, the selection is made again. -/
def execIdleSelect (e : Eng) (s : State) : Host.Outcome State Fault Refusal := .next (s.inLanes e fun s => s.selectIn e)

/-! ### One move (R14 to R18) -/

/-- After the F state: the line buffer holds the line of the last word read (R37), and the move has had its turn. -/
def State.bufferLine (s : State) (e : Eng) (t : Thr) (a : PAddr) : State :=
  s.updEng e fun y => y.updThr t fun x => { x with lb := (y.line t a).or x.lb, begun := false }

/-- After a commit: the load delay and the shadow of the move before are over, unless this move began new ones (R75, R127). -/
def Thread.afterMove (x : Thread) (d : Nat) : Thread :=
  if isLoadPort d then { x with shadow := none, begun := false }
  else if d = 0x5A || d = 0x5B then { x with lsu := x.lsu.settle, begun := false }
  else { x with shadow := none, lsu := x.lsu.settle, begun := false }

/-- The words of the move pass the parity check of the F state (R15, R42). -/
def State.wordsGood (s : State) (e : Eng) (t : Thr) (len : Nat) : Bool :=
  let pc := (s.thr e t).pc
  let good := fun (a : PAddr) => (((s.eng e).line t a).map fun l => l.good a).getD true
  good pc && (len = 1 || good (pc + 1))

/-- The move of a thread that is ready for it (R15, R16, R18, R77, R137): a word that fails its parity check stops the lane from
committing (R42); else the move faults, misses the TLB, or commits, advances PC and is folded. `x` is what a lane fault makes of the
value it reads. -/
def State.performMove (s : State) (e : Eng) (t : Thr) (x : Word) : State :=
  let f := s.force e t
  let m := s.fetched e t
  if !s.wordsGood e t m.len then s
  else
    let s := s.bufferLine e t ((s.thr e t).pc + BitVec.ofNat 17 (m.len - 1))
    match s.moveFault e t f m with
    | some q => s.preciseFault e t q
    | none =>
      let v := s.srcValue e t m.ids.src (m.lit.setWidth 12) ^^^ x
      let d := m.ids.dst
      match (s.thr e t).dstFault d v with
      | some q => s.preciseFault e t { q with val := if m.ids.src = 0x50 || m.ids.src = 0x51 || m.ids.src = 0x53 then 0 else v }
      | none =>
        match (s.srcPop e t m.ids.src).portWrite e t f d v with
        | .fault q bad => s.refuse e t q bad
        | .miss va w h => s.startWalk e t va w h false v
        | .ok s' reqs j =>
          (s'.updThr e t fun x => { x.afterMove d with pc := j.getD (x.pc + BitVec.ofNat 17 m.len) }).commit e t (w0Move d t v) reqs

/-- The selected thread's slot in a lane, when it is a move. -/
def State.moveIn (s : State) (e : Eng) (x : Word) : State :=
  match (s.eng e).cur with
  | some t => if s.engRuns e && (s.eventNow e t).isNone && s.moveReady e t then (s.performMove e t x).boundary e else s
  | none => s

/-- The word that the selected thread's fetch reads in a lane has its parity bit inverted (R42). -/
def State.upsetFetch (s : State) (e : Eng) : State :=
  match (s.eng e).cur with
  | some t => s.updEng e fun y => y.upsetWord t (s.thr e t).pc
  | none => s

/-- MOVE (R14): the selected thread's slot, in every lane; a fault may strike one of them. -/
def execMove (e : Eng) (fault : Option (Lane × LaneFault)) (s : State) : Host.Outcome State Fault Refusal :=
  let f := fun (s : State) => s.moveIn e 0
  match fault with
  | none => .next (s.inLanes e f)
  | some (l, .value x) => .next (s.inLanesWith e (some l) (fun s => s.moveIn e x) f)
  | some (l, .parity) => .next (s.inLanesWith e (some l) (fun s => (s.upsetFetch e).moveIn e 0) f)

/-- A breakpoint of the monitor at the thread's PC (R487). -/
def State.breakAt (s : State) (e : Eng) (t : Thr) : Bool := s.boot.breakpoints.any fun b => b.1 = e && b.2 = (s.thr e t).pc

/-- NOP in a lane: a move, which a breakpoint stops (R487). -/
def State.nopIn (s : State) (e : Eng) (t : Thr) : State :=
  if !s.mayMove e t then s
  else if s.breakAt e t then s.preciseFault e t { cause := 0x09 }
  else
    (s.updThr e t fun x => { x.afterMove 0 with pc := x.pc + 1 }).foldCommit e t [w0Move 0 t 0]

/-- NOP (R43): the word 0x0000 of the thread commits and is folded. -/
def execNop (e : Eng) (t : Thr) (s : State) : Host.Outcome State Fault Refusal := .next (s.inLanes e fun s => s.nopIn e t)

/-! ### Operations that complete later -/

/-- The engine's clocks stand still: in a re-threading pause, or gated with its cluster (R156, R157, R227, R457). -/
def State.still (s : State) (e : Eng) : Bool := s.paused e || (s.clu e.cluster).gated

/-- An exception arises as an operation of `s` completes. When `late`, the thread's next move, which waited for this operation alone,
was selected before it: it goes first, and the entry follows it (R28, R106, R125; notes/assumptions/56). -/
def State.waiterFirst (u s : State) (e : Eng) (t : Thr) (late : Bool) : State :=
  if late && (s.thr e t).pexc.isNone && (u.thr e t).pexc.isSome && (s.eventNow e t).isNone && !s.preciseHold e t &&
      !s.moveReady e t && u.moveReady e t then
    u.updThr e t fun x => { x with begun := true }
  else u

/-- A MAC operation's end in a lane. -/
def State.macIn (s : State) (e : Eng) (t : Thr) (late : Bool) : State :=
  match (if s.still e then none else (s.thr e t).mac.pend) with
  | none => s
  | some p =>
    let r := macResult p.op (s.thr e t).mac.acc p.arg
    let u := s.updThr e t fun x => { x with mac := { x.mac with acc := r.1, pend := none } }
    if r.2 then (u.imprecise e t 0x1D p.pc p.dest 0).waiterFirst s e t late else u

/-- MAC_COMPLETE (R69, R70): the pending operation's result enters ACC, and an overflow raises its exception. -/
def execMacComplete (e : Eng) (t : Thr) (late : Bool) (s : State) : Host.Outcome State Fault Refusal :=
  .next (s.inLanes e fun s => s.macIn e t late)

/-- An APX operation's end in a lane. -/
def State.apxIn (s : State) (e : Eng) (late : Bool) : State :=
  match (if s.still e then none else (s.eng e).apxOwner) with
  | none => s
  | some t =>
    match (s.thr e t).apx.pend with
    | none => s.updEng e fun y => { y with apxOwner := none }
    | some p =>
      let r := apxResult p.op p.x p.y
      let u := s.updEng e fun y =>
        { y.updThr t fun x => { x with apx := { x.apx with r := loW r.m, rh := hiW r.m, e := r.e, rem := r.rem, pend := none } } with
          apxOwner := none }
      match r.cause with
      | some c => (u.imprecise e t c p.pc p.dest 0).waiterFirst s e t late
      | none => u

/-- APX_COMPLETE (R71 to R73): the running operation's results are valid and the datapath is free. -/
def execApxComplete (e : Eng) (late : Bool) (s : State) : Host.Outcome State Fault Refusal :=
  .next (s.inLanes e fun s => s.apxIn e late)

/-- A fence's end in a lane: its request has gone out, and no posted store of the thread is left. -/
def State.fenceIn (s : State) (e : Eng) (t : Thr) : State :=
  if (s.thr e t).lsu.fence && (s.eng e).posted t = 0 && !(s.eng e).unvoted t && !s.still e then
    s.updThr e t fun x => { x with lsu := { x.lsu with fence := false } }
  else s

/-- FENCE_COMPLETE (R78). -/
def execFenceComplete (e : Eng) (t : Thr) (s : State) : Host.Outcome State Fault Refusal :=
  .next (s.inLanes e fun s => s.fenceIn e t)

/-- A timer's expiry in a lane. -/
def State.expireIn (s : State) (e : Eng) (t : Thr) : State :=
  let x := (s.thr e t).tmr
  if !(x.run && decide (x.due ≠ 0)) || s.paused e then s
  else
    let per := x.cfgNow.getLsbD 2
    s.updEng e fun z =>
      let z := z.updThr t fun y =>
        { y with tmr := { x with
            due := x.due - 1, exp := true
            ovf := if x.exp then (if x.ovf = 15 then 15 else x.ovf + 1) else x.ovf
            run := per } }
      if x.cfgNow.getLsbD 3 then z.pend t.val else z

/-- TIMER_EXPIRY (R94, R95, R115): the expiry that is due. -/
def execTimerExpiry (e : Eng) (t : Thr) (s : State) : Host.Outcome State Fault Refusal :=
  .next (s.inLanes e fun s => s.expireIn e t)

/-! ### Table walks (R200 to R207) -/

/-- The walk ends with a fault of its thread; a block operation's walk suspends the operation (R85, R200). A thread that has been
entered, started or halted meanwhile, or that another event is due to enter first, takes the fault when it executes its missing move, or
element, again (R77, R106). -/
def State.walkFault (s : State) (e : Eng) (w : Walk) (cause : BitVec 6) (kind : Nat) (level2 : Bool) : State :=
  let s := s.updEng e fun y => { y with walk := none }
  let q : PFault := { cause := cause, val := w.val, fa := w.va, fs := fsWord kind 0 w.write w.half2 level2 w.blk }
  if w.orphan || decide ((s.thr e w.t).run ≠ .running) || (s.eventNow e w.t).isSome then s
  else if w.blk then (s.updThr e w.t fun x => { x with blk := { x.blk with flt := true } }).preciseFault e w.t q
  else s.preciseFault e w.t q

/-- A page of the entry's type lies where R202 allows it. -/
def targetOk (ent : DWord) : Bool :=
  let a : Addr := BitVec.ofNat 24 (entPpn ent * 1024)
  match regionOf a with
  | .home _ _ | .flex _ | .bobbin _ | .program _ => entType ent = 2
  | .regs | .companion | .recorder | .host => entType ent = 3
  | .reserved => false

/-- A posted store of the engine to the word at an address (R78, R200). -/
def Engine.storesTo (x : Engine) (a : Addr) : Bool :=
  x.sbuf.any fun q => q.pa = a || (q.data2.isSome && q.pa + 1 = a)

/-- How a read of a walk ends: with the pair at its address, an integrity failure, or a region fault. -/
inductive WalkEnd where
  | pair (v : DWord)
  | integrity
  | region
deriving DecidableEq, Repr

/-- The voted read of a walk (R144, R183, R192, R200, R207): its end, or none while it waits for a posted store or a sleeping bank. -/
def State.walkRead (s : State) (e : Eng) (t : Thr) (a : Addr) (o : ReadOutcome) : Option WalkEnd × State :=
  let m : Master := .engine e t true
  if !(regionOf a).isData then (some .region, s)
  else if s.refuses m a false then (some .region, s)
  else if (s.eng e).storesTo a || (s.eng e).storesTo (a + 1) then (none, s)
  else if s.asleep a then (none, s.wake a)
  else
    let o := s.effRead m [a, a + 1] o
    let s := s.countRead m [a, a + 1] o true
    if readGood o then
      let p := s.memRead a o
      let q := p.2.memRead (a + 1) o
      (some (.pair (joinW q.1 p.1)), q.2)
    else (some (if o = .errorResponse then .region else .integrity), s)

/-- The address that the engine's walk reads next, and whether it is a level-2 entry (R200, R205); an invalidation that has overtaken the
walk ends it (R209). -/
def State.walkAddr (s : State) (e : Eng) : Option (Addr × Bool) :=
  (s.eng e).walk.bind fun w =>
    let r := s.rootOf e w.t
    let idx : BitVec 6 := BitVec.ofNat 6 (bitsAt w.va 18 6)
    if w.discard then none
    else match (s.eng e).wcFind (BitVec.ofNat 2 r) idx with
      | some tbl => some (BitVec.ofNat 24 (tbl.toNat + 2 * bitsAt w.va 10 8), true)
      | none => (s.rootAddr e r).map fun b => (BitVec.ofNat 24 (b + 2 * idx.toNat), false)

/-- A walk that reads nothing more ends in its lane: it has been overtaken by an invalidation (R209), or its root is no longer valid
(R204). -/
def State.walkIdle (s : State) (e : Eng) : State :=
  match (s.eng e).walk with
  | none => s
  | some w =>
    if w.discard then s.updEng e fun y => { y with walk := none }
    else if (s.walkAddr e).isNone || (s.rootAddr e (s.rootOf e w.t)).isNone then s.walkFault e w 0x10 0 false
    else s

/-- The answer to a walk's read reaches a lane (R136, R200): a level-1 entry puts its table into the walk cache, and a level-2 entry its
translation into the TLB. -/
def State.walkTake (s : State) (e : Eng) (r : WalkEnd) : State :=
  match (s.eng e).walk, s.walkAddr e with
  | some w, some (_, second) =>
    let root : BitVec 2 := BitVec.ofNat 2 (s.rootOf e w.t)
    match r with
    | .region => s.walkFault e w 0x15 5 second
    | .integrity => s.walkFault e w 0x14 4 second
    | .pair ent =>
      if second then
        if entType ent = 0 || entType ent = 1 || !targetOk ent then s.walkFault e w 0x10 0 true
        else s.updEng e fun y =>
          { y with walk := none, tlb := upd y.tlb y.tlbPtr fun _ => some ⟨root, (w.va >>> 10).setWidth 14, ent⟩, tlbPtr := y.tlbPtr + 1 }
      else if entType ent ≠ 1 then s.walkFault e w 0x10 0 false
      else
        let tbl : Addr := BitVec.ofNat 24 (entPpn ent * 1024 + entHalf ent * 512)
        s.updEng e fun y =>
          { y with wcache := upd y.wcache y.wcPtr fun _ => some ⟨root, BitVec.ofNat 6 (bitsAt w.va 18 6), tbl⟩, wcPtr := y.wcPtr + 1 }
  | _, _ => s

/-- The next read of the engine's walk, as its voting lanes ask for it, with the walking thread. -/
def State.walkAsk (s : State) (e : Eng) : Option (Thr × Addr × Bool) :=
  s.firstAsk e fun s => (s.eng e).walk.bind fun w => (s.walkAddr e).map fun a => (w.t, a)

/-- One read of the walk: voted, made once, and its answer brought to every lane (R136, R144). -/
def State.walkStep (s : State) (e : Eng) (o : ReadOutcome) : State :=
  match s.walkAsk e with
  | none => s
  | some q => s.voteNow e q.1 (fun s => (s.walkAddr e).map Prod.fst) fun a s =>
      let r := s.walkRead e q.1 a o
      match r.1 with
      | none => r.2
      | some w => r.2.inLanes e fun s => s.walkTake e w

/-- The next read of the engine's walk is of level 2. -/
def State.atLevel2 (s : State) (e : Eng) : Bool := ((s.walkAsk e).map fun q => q.2.2).getD false

/-- TABLE_WALK (R144, R200): the reads of the walk in progress, the second at once after the first; `o1` and `o2` are how they end. -/
def execTableWalk (e : Eng) (o1 o2 : ReadOutcome) (s : State) : Host.Outcome State Fault Refusal :=
  if s.still e then .next s
  else
    let s := s.inLanes e fun s => s.walkIdle e
    if s.atLevel2 e then .next (s.walkStep e o2)
    else
      let u := s.walkStep e o1
      .next (if u.atLevel2 e then u.walkStep e o2 else u)

/-! ### Entry slots and returns -/

/-- A frame writer's request: where its frame lies, whether it rewrites CS.CAUSE alone, and the words (R110, R114, R122). -/
abbrev FrameAsk := Nat × Bool × List (Nat × Word)

/-- What the frame writer of a lane asks for in the selected thread's entry slot (R110, R114, R122): it is voted (R144). -/
def State.frameRequest (s : State) (e : Eng) : Option FrameAsk :=
  (s.eng e).cur.bind fun t => (s.eventNow e t).bind fun ev =>
    let x := s.thr e t
    if !(s.engRuns e && ((s.eng e).cached (s.vectorLine e t ev)).isSome) then none
    else if x.tail.isSome then (s.currentFrame e t).map fun f => (f.addr, true, [(3, ev.cause.setWidth 12)])
    else (s.allocFrame e t).map fun f => (f.addr, false, s.frameOf e t f ev.cause ev.val ev.fa)

/-- The voted words of the frame writer reach the home bank. -/
def State.writeAsked (s : State) (r : FrameAsk) : State :=
  if r.2.1 then r.2.2.foldl (fun (s : State) p => s.rewriteCause r.1 p.2) s else s.writeFrame r.1 r.2.2

/-- The selected thread's entry slot in a lane (R114, R117, R122). -/
def State.entryIn (s : State) (e : Eng) : State :=
  match (s.eng e).cur with
  | none => s
  | some t =>
    match s.eventNow e t with
    | none => s
    | some ev =>
      if !(s.engRuns e && ((s.eng e).cached (s.vectorLine e t ev)).isSome) then s
      else match (s.thr e t).tail, s.currentFrame e t with
        | some q, some f => (s.tailLane e t f q ev).boundary e
        | some _, none => s
        | none, _ => (s.enterLane e t ev).boundary e

/-- ENTRY_SLOT (R114, R117, R122): the selected thread's slot captures its frame; `o` is how the frame writer's words reach the
bank: a persistent failure locks up the engine with cause 0x3F (R123, R133). -/
def execEntrySlot (e : Eng) (o : WriteOutcome) (s : State) : Host.Outcome State Fault Refusal :=
  match s.firstAsk e (fun s => s.frameRequest e), (s.firstAsk e fun s => (s.frameRequest e).bind fun _ => (s.eng e).cur) with
  | some _, some t => .next (s.voteNow e t (fun s => s.frameRequest e) fun r s =>
      let m : Master := .engine e t true
      let a : Addr := BitVec.ofNat 24 r.1
      let o := if o = .errorResponse then .ok else s.effWrite m a o
      let s := (s.countWrite m a o 26).wake a
      if writeGood o then (s.writeAsked r).inLanes e fun s => s.entryIn e else s.lockup e t 0x3F)
  | _, _ => .next (s.inLanes e fun s => s.entryIn e)

/-- The words of a frame that a return reads (R110, R121). -/
def State.frameReads (s : State) (addr : Nat) : List Addr :=
  let w := s.memWord (addr + 1)
  (List.range 16 ++ (if w.getLsbD 11 then [16, 17] else []) ++ (if w.getLsbD 10 then [18, 19, 20, 21, 22, 23, 24, 25] else [])).map
    fun k => BitVec.ofNat 24 (addr + k)

/-- The frame that a lane's return asks for: with the thread's stores committed, its current one (R121). -/
def State.returnAsk (s : State) (e : Eng) (t : Thr) : Option Nat :=
  if (s.thr e t).ret && (s.eng e).posted t = 0 && s.engRuns e then (s.currentFrame e t).map FrameSlot.addr else none

/-- The event that replaces a lane's return by a tail entry, by the frame's words `w` (R122). -/
def State.tailEvent (s : State) (e : Eng) (t : Thr) (w : Nat → Word) : Option Event :=
  if (w 1).getLsbD 11 then none else s.pickEvent e t ((w 2).getLsbD 9) (BitVec.ofNat 4 (bitsAt (w 1) 5 4)) true

/-- The frame's words reach a lane that returns: they restore the thread, or a tail entry replaces the return (R121, R122, R136). -/
def State.returnIn (s : State) (e : Eng) (t : Thr) (w : Nat → Word) : State :=
  if !(s.thr e t).ret then s
  else match s.currentFrame e t with
    | none => s
    | some f =>
      match s.tailEvent e t w with
      | some ev => s.updThr e t fun x =>
          { x with ret := false, tail := some ⟨ev.cause, (w 2).getLsbD 9, BitVec.ofNat 4 (bitsAt (w 1) 5 4)⟩ }
      | none => s.restoreWith e t f w

/-- RETURN (R121, R122): the frame read, which is voted, ends and restores the thread, or a tail entry replaces the return and the frame
is not read; a frame read that fails persistently locks up the engine (R123). -/
def execReturnGate (e : Eng) (t : Thr) (o : ReadOutcome) (s : State) : Host.Outcome State Fault Refusal :=
  .next (s.voteNow e t (fun s => s.returnAsk e t) fun addr s =>
    let a : Addr := BitVec.ofNat 24 addr
    if s.asleep a then s.wake a
    else if (s.tailEvent e t (s.frameAt addr)).isSome then s.inLanes e fun u => u.returnIn e t (s.frameAt addr)
    else
      let m : Master := .engine e t true
      let o := s.effRead m (s.frameReads addr) o
      let s := s.countRead m (s.frameReads addr) o false
      if readGood o then s.inLanes e fun u => u.returnIn e t (s.frameAt addr) else s.lockup e t 0x3F)

end Sys2Proof.Machine
end

