-- ==== Sys2Proof/Machine/Deliver.lean ====
section
/-! DEFINITION. The delivery point (R136, R157): what reaches an engine from outside is written into its lanes in one engine clock, or
waits while they stand still. Line fills (R37 to R42), mailbox words and sends (R92), and released inputs (R148 to R153). -/

namespace Sys2Proof.Machine

/-! ### Loads (R75, R79, R80) -/

/-- A load's data reaches its thread; the load-delay move still reads the old values (R75, R79). -/
def LsuState.loaded (x : LsuState) (rpl busy : Bool) (q : Word) (qh : Option Word) : LsuState :=
  let x := { x with load := none, rpl := rpl, busy := busy }
  if x.delay then { x with newQ := some (q, qh) } else { x with q := q, qh := qh.getD x.qh }

/-- A load fails: the fault is deferred with the address of the failing half, and LSU.Q and QH keep their values (R80, R108); a
first half that was replayed shows in LSU.ST (R79). -/
def LsuState.loadFailed (x : LsuState) (rpl busy : Bool) (cause : BitVec 6) (va : Addr) : LsuState :=
  { x with load := none, rpl := rpl, busy := busy, fault := some (cause, va) }

/-- A load that awaits its response takes it. -/
def Thread.takeLoad (x : Thread) (f : LsuState → LsuState) : Thread := if x.lsu.load.isSome then { x with lsu := f x.lsu } else x

/-! ### Line fills (R37 to R42) -/

/-- Physical word address of a program line in its cluster's window (R179). -/
def lineAddr (c : Clu) (l : BitVec 14) : Addr := BitVec.ofNat 24 (c.val * 0x100000 + 0x80000 + 16 * l.toNat)

/-- A filled line enters the cache, unless it is there already; a pin needs a free pin (R39, R40). Two threads that miss one line make
one request each: the line that returns second is dropped and moves no victim pointer (DESIGN CHOICE, notes/assumptions/58). -/
def Engine.takeLine (x : Engine) (l : Line) (pin : Bool) : Engine :=
  x.updSet l.num fun c =>
    if (c.find l.num).isSome then (if pin then c.pinLine l.num else c) else c.install l pin

/-- A fill that ends persistently (R42, R117). A fetch whose thread has been halted, started or entered elsewhere meanwhile, or that no
longer misses the line, raises no fault (DESIGN CHOICE, notes/assumptions/62: R42 says nothing of it); the move that needs the line
requests it again. -/
def State.fillFails (s : State) (e : Eng) (f : Fill) : State :=
  match f.kind with
  | .pin => s.updThr e f.t fun x => { x with ist := flag 9 true, pinPend := false }
  | .vector => s.lockup e f.t 0x08
  | .fetch =>
    if (s.thr e f.t).run = .running && (s.thr e f.t).pfault.isNone && s.missingLine e f.t = some f.num then
      let pc := (s.thr e f.t).pc
      s.preciseFault e f.t { cause := 0x08, fa := (if lineOf pc = f.num then pc else pc + 1).setWidth 24 }
    else s

/-- A fill that returns its line (R39, R40, R88). A pin whose set has come to hold three pinned ways while its fill ran is refused,
and its line enters unpinned (DESIGN CHOICE, notes/assumptions/58: R40 speaks of the request). -/
def Engine.filled (x : Engine) (f : Fill) (l : Line) : Engine :=
  match f.kind with
  | .pin =>
    if 3 ≤ (x.set f.num).pins then (x.takeLine l false).updThr f.t fun x => { x with ist := flag 11 true, pinPend := false }
    else (x.takeLine l true).updThr f.t fun x => { x with ist := 0, pinPend := false }
  | _ => x.takeLine l false

/-- The outstanding fill `f` is over. -/
def Engine.endFill (x : Engine) (f : Fill) : Engine := { x with fills := x.fills.erase f }

/-- The oldest outstanding fill of a line. -/
def Engine.fillOf (x : Engine) (n : BitVec 14) : Option Fill := x.fills.find? fun f => decide (f.num = n)

/-- A returned line reaches a lane (R38, R136): the oldest fill of it is over, and a lane that asked for none takes the line too. -/
def State.takeFill (s : State) (e : Eng) (n : BitVec 14) (l : Option Line) : State :=
  match (s.eng e).fillOf n, l with
  | some f, some l => s.updEng e fun x => (x.endFill f).filled f l
  | some f, none => (s.updEng e fun x => x.endFill f).fillFails e f
  | none, some l => s.updEng e fun x => x.takeLine l false
  | none, none => s

/-! ### Mailboxes and sends (R92, R115) -/

/-- A word enters a mailbox. -/
def Engine.takeMail (x : Engine) (b : Fin 4) (w : MailWord) : Engine :=
  ({ x with mbox := upd x.mbox b fun q => q ++ [w] }).pend (8 + b.val)

/-- MSG.TXST of an outcome (R92). -/
def txStatus : SendEnd → Word
  | .delivered => 0x800
  | .full => 0xC00
  | .dead => 0xA00

/-! ### Inputs (R93, R120, R148, R149) -/

/-- The released value of an input changes in a lane: an event line's toggle makes its line pending; a falling NMI_N on a selvedge
engine makes the NMI pending. -/
def Engine.takeInput (x : Engine) (i : Input) (level nmiOn : Bool) : Engine :=
  match i with
  | .line n => x.pend n.val
  | .tick => { x with tickOff := false }
  | .pin p =>
    let m : BitVec 42 := BitVec.ofNat 42 (2 ^ p.val)
    let fall := nmiOn && p.val = 41 && x.inputs.getLsbD 41 && !level
    { x with
      inputs := if level then x.inputs ||| m else x.inputs &&& ~~~m
      nmi := x.nmi || fall
      agreed := if fall && !x.nmi then x.agreed.set 32 x.free else x.agreed }

/-! ### The delivery point -/

/-- A delivery in one lane. -/
def State.take (s : State) (e : Eng) (d : Delivery) : State :=
  match d with
  | .load t rpl busy q qh => s.updThr e t fun x => x.takeLoad fun y => y.loaded rpl busy q qh
  | .loadFail t rpl busy cause va => s.updThr e t fun x => x.takeLoad fun y => y.loadFailed rpl busy cause va
  | .line n l => s.takeFill e n l
  | .mail b w => s.updEng e fun x => x.takeMail b w
  | .sent t r => s.updThr e t fun x => { x with msg := { x.msg with pend := false, tx := txStatus r } }
  | .verdict t st =>
    s.updEng e fun y => { y with threads := vmap (fun i (x : Thread) =>
      if i = t.val then { x with wdc := st, wdcPend := false } else { x with wdc := (x.wdc &&& 0xDFF) ||| (st &&& 0x200) }) y.threads }
  | .svp t err q =>
    s.updThr e t fun x =>
      let n := ((s.eng e).svpq.filter fun q => q.write.isSome).length
      { x with svp := { x.svp with pend := false, st := flag 11 err ||| BitVec.ofNat 12 (min 15 n), q := q.getD x.svp.q } }
  | .input i level _ => s.updEng e fun x => x.takeInput i level (s.inRun && s.isSel e)

/-- What an input is to a lane that does not release it: nothing, but for the tick, without which its timers stand still (R148, R152). -/
def State.unreleased (s : State) (e : Eng) (i : Input) : State :=
  match i with
  | .tick => s.updEng e fun x => { x with tickOff := true }
  | _ => s

/-- A delivery in all lanes in one engine clock (R136); an input whose view differs between the lanes reaches those it names (R152).
The event line's toggle is used up when the lanes agree on it. -/
def State.deliverNow (s : State) (e : Eng) (d : Delivery) : State :=
  let f := fun (s : State) => s.take e d
  match d with
  | .input i _ v =>
    let g := fun (s : State) => s.unreleased e i
    let t := match v with
      | .all => s.inLanes e f
      | .allBut l => s.inLanesWith e (some l) g f
      | .only l => s.inLanesWith e (some l) f g
    match i, v with
    | .pin _, _ | .tick, _ | _, .only _ => t
    | .line n, _ => t.updEng e fun x => { x with lineIn := x.lineIn &&& ~~~BitVec.ofNat 32 (2 ^ n.val) }
  | _ => s.inLanes e f

/-- WHAT REACHES AN ENGINE (R136, R157, R457): written into its lanes, or held at the delivery point while they stand still. -/
def State.deliver (s : State) (e : Eng) (d : Delivery) : State :=
  if s.still e then s.updEng e fun x => { x with held := x.held ++ [d] } else s.deliverNow e d

/-- What waited at the delivery point is written into the lanes (R157, R457). -/
def State.flush (s : State) (e : Eng) : State :=
  if s.still e then s
  else (s.eng e).held.foldl (fun (s : State) d => s.deliverNow e d) (s.updEng e fun x => { x with held := [] })

/-! ### Commands -/

/-- The oldest fill whose line does not wait at the delivery point. -/
def Engine.nextFill (x : Engine) : Option Fill :=
  x.fills.find? fun f => !x.held.any fun d => match d with
    | .line n _ => decide (n = f.num)
    | _ => false

/-- The voted read of a program line (R38, R42). From program memory in retention it starts its wake and waits (R192). -/
def State.fillRead (s : State) (e : Eng) (t : Thr) (n : BitVec 14) (o : ReadOutcome) : State :=
  let a := lineAddr e.cluster n
  let ws := (List.range 8).map fun k => a + BitVec.ofNat 24 (2 * k)
  let m : Master := .engine e t true
  if s.asleep a then s.wake a
  else
    let o := s.effRead m ws o
    (s.countRead m ws o false).deliver e (.line n (if readGood o then some (s.memLine e.cluster n) else none))

/-- FILL_COMPLETE (R38, R42, R144): the oldest fill of the engine is voted, read and delivered. -/
def execFillComplete (e : Eng) (o : ReadOutcome) (s : State) : Host.Outcome State Fault Refusal :=
  match s.firstAsk e fun s => (s.eng e).nextFill with
  | none => .next s
  | some f => .next (s.voteNow e f.t (fun s => ((s.eng e).nextFill).map Fill.num) fun n s => s.fillRead e f.t n o)

/-- Words of a mailbox, with those that wait at the delivery point. -/
def Engine.mailCount (x : Engine) (b : Fin 4) : Nat :=
  (x.mbox[b.val]).length + (x.held.filter fun d => match d with
    | .mail c _ => decide (c = b)
    | _ => false).length

/-- What a mailbox answers to a word (R92); `out`: the word comes over the weft from outside its cluster, whose isolation answers with an
error (R326), which the sender sees as a target that is disabled (DEDUCED, notes/assumptions/43). -/
def State.mailEnd (s : State) (e : Eng) (b : Fin 4) (out : Bool) : SendEnd :=
  if !(s.inRun && s.engEn e) || (s.eng e).locked || (out && (s.clu e.cluster).iso) then .dead
  else if 16 ≤ (s.eng e).mailCount b then .full
  else .delivered

/-- A mailbox takes a word, or refuses it because it is full or its engine is disabled, locked up or cut off. -/
def State.mailWord (s : State) (e : Eng) (b : Fin 4) (out : Bool) (v origin : Word) : Option State :=
  if s.mailEnd e b out = .delivered then some (s.deliver e (.mail b ⟨v, origin⟩)) else none

/-- A word in flight of a thread, and whether its outcome is known. -/
def Flight.of (e : Eng) (t : Thr) (done : Bool) (f : Flight) : Bool := f.src = e && f.t = t && f.done.isSome = done

/-- The first flight that `p` admits, changed. -/
def updFlight (p : Flight → Bool) (g : Flight → Flight) : List Flight → List Flight
  | [] => []
  | f :: r => if p f then g f :: r else f :: updFlight p g r

/-- MAILBOX_WORD_ARRIVE (R92, R115): the word that thread `t` of engine `e` has sent reaches its target's mailbox, which keeps or
refuses it; its outcome starts back. -/
def execMailboxWordArrive (e : Eng) (t : Thr) (s : State) : Host.Outcome State Fault Refusal :=
  match s.flights.find? (Flight.of e t false) with
  | none => .next s
  | some f =>
    let out := decide (e.cluster ≠ f.dst.cluster)
    let r := s.mailEnd f.dst f.box out
    let s := (s.mailWord f.dst f.box out f.v (BitVec.ofNat 12 e.val)).getD s
    .next { s with flights := updFlight (Flight.of e t false) (fun f => { f with done := some r }) s.flights }

/-- MSG_SND_COMPLETE (R92): the outcome of the thread's send returns. -/
def execMsgSndComplete (e : Eng) (t : Thr) (s : State) : Host.Outcome State Fault Refusal :=
  match s.flights.find? (Flight.of e t true) with
  | none => .next s
  | some f =>
    .next ({ s with flights := s.flights.erase f }.deliver e (.sent t (f.done.getD .dead)))

/-- The synchronisers of every lane take the level (R148). -/
def Engine.sample (x : Engine) (i : Input) (level : Bool) : Engine :=
  match i with
  | .pin p =>
    let m : BitVec 42 := BitVec.ofNat 42 (2 ^ p.val)
    { x with sync := if level then x.sync ||| m else x.sync &&& ~~~m }
  | _ => x

/-- INPUT_AGREED (R120, R148, R149): the released value of a pin, an event line's toggle or the fabric tick changes in the lanes of the
view; ticks are agreed in every lane from then on, and those of a lane outside the view are not (notes/assumptions/6). Pins and ticks are
not agreed while the cluster is gated (R457), and the pins of VIO_A, which are all but NMI_N, are ignored without it or VCORE (R304, R520).
A toggle that still awaits agreement when the cluster is gated is taken by the pending bits, which keep running (R456). -/
def execInputAgreed (e : Eng) (i : Input) (level : Bool) (v : InputView) (s : State) : Host.Outcome State Fault Refusal :=
  let due := match i with
    | .pin p => p.val = 41 || s.inputsOk
    | .line n => (s.eng e).lineIn.getLsbD n.val
    | .tick => true
  if !due then .next s
  else if (s.clu e.cluster).gated then
    match i with
    | .line _ => .next (s.deliverNow e (.input i level v))
    | _ => .next s
  else .next ((s.updLanes e fun x => x.sample i level).deliver e (.input i level v))

end Sys2Proof.Machine
end

