-- ==== Sys2Proof/Machine/Fabric.lean ====
section
/-! DEFINITION. The trip fabric: comparator sources, trip lines, the safe state of the outputs, and what one fabric clock makes of
the inputs as they stand (R274 to R305), with the chain signals of local lines (R285, R434). -/

namespace Sys2Proof.Machine

/-! ### Registers -/

def tcReg (n : Nat) (k : Nat) : Nat := trfBase + 8 * n + k
def lineReg (n : Nat) (k : Nat) : Nat := trfBase + 0x200 + 16 * n + k
def mapReg (j : Nat) : Nat := trfBase + 0x400 + 2 * j
def trf (k : Nat) : Nat := trfBase + k

/-! ### Words that fail their check (R303) -/

/-- Some failing word lies at these offsets of page 0. -/
def State.badIn (s : State) (lo hi : Nat) : Bool := s.trip.badCfg.any fun o => rng o lo hi
/-- A word of comparator n fails. -/
def State.badCmp (s : State) (n : Nat) : Bool := s.badIn (8 * n) (8 * n + 7)
/-- config_fault(line n). -/
def State.badLine (s : State) (n : Nat) : Bool := s.badIn (0x200 + 16 * n) (0x200 + 16 * n + 15)
/-- config_fault(output j). -/
def State.badMap (s : State) (j : Nat) : Bool := s.badIn (0x400 + 2 * j) (0x401 + 2 * j)
/-- An enable, polarity, filter, lock, pilot or computed-value word fails, or TRF.ESTOP, which R303 names in none of its cases and which
acts as the last of them (DESIGN CHOICE, notes/assumptions/58). -/
def State.badOther (s : State) : Bool := s.badIn 0x440 0x46F

/-! ### Pins (R275, R276, R292, R293) -/

/-- Filtered level of a pin in one copy. -/
def State.filtAt (s : State) (copy : Nat) (p : Nat) : Bool := ((s.trip.filt.toList[p]?).getD 0).getLsbD copy
/-- The level that at least two copies have taken. -/
def State.filtered (s : State) (p : Nat) : Bool :=
  let v := (s.trip.filt.toList[p]?).getD 0
  (v.getLsbD 0 && v.getLsbD 1) || (v.getLsbD 0 && v.getLsbD 2) || (v.getLsbD 1 && v.getLsbD 2)

/-- GPIO input n is active in a copy. -/
def State.gpioActive (s : State) (copy n : Nat) : Bool :=
  s.filtAt copy n ≠ s.regB (trf (0x443 + n / 12)) (n % 12)
/-- XTRIP input k is active in a copy. -/
def State.xtripActive (s : State) (copy k : Nat) : Bool := s.filtAt copy (0x21 + k) ≠ s.regB (trf 0x445) k

/-- ESTOP_A or ESTOP_B shows pressed (R292). -/
def State.pressedA (s : State) : Bool := !s.filtered 0x1F
def State.pressedB (s : State) : Bool := s.filtered 0x20
/-- door_open in a copy (R293). -/
def State.doorAt (s : State) (copy : Nat) : Bool := !s.filtAt copy 0x1A || s.filtAt copy 0x1B
/-- LOCK_FB1:LOCK_FB0, filtered (R295). -/
def State.lockPos (s : State) : Nat := 2 * bit1 (s.filtered 0x1E) + bit1 (s.filtered 0x1D)

/-! ### Comparator sources (R277, R279) -/

def State.tc (s : State) (n : Fin 64) : Comparator := s.trip.tc[n.val]'n.isLt
def State.updTc (s : State) (n : Fin 64) (f : Comparator → Comparator) : State :=
  s.updTrip fun x => { x with tc := upd x.tc n f }

def State.tcKind (s : State) (n : Nat) : Nat := bitsAt (s.reg (tcReg n 0)) 9 3
def State.tcIdx (s : State) (n : Nat) : Nat := bitsAt (s.reg (tcReg n 0)) 3 6

/-- V of the source (R277). -/
def State.tcValue (s : State) (n : Nat) : Int :=
  let i := s.tcIdx n
  match s.tcKind n with
  | 1 => if h : i < 48 then (s.chan ⟨i, h⟩).fast.value.toInt * 2 ^ 12 else 0
  | 2 => if h : i < 48 then (s.chan ⟨i, h⟩).precise.value.toInt else 0
  | 3 => ((s.adc.ra.toList[i]?).getD 0).toNat * 2 ^ 11
  | 4 => ((s.adc.rb.toList[i]?).getD 0).toNat * 2 ^ 11
  | 5 => (BitVec.ofNat 24 ((((s.mtr.m.toList[i]?).map Meter.p).getD 0).toNat / 2 ^ 24)).toInt
  | 6 => (s.reg2 (trf (0x460 + 2 * i))).toInt
  | _ => 0

/-- The source gives values that can grow old (R279): every KIND but off and computed. -/
def State.tcAges (s : State) (n : Nat) : Bool := rng (s.tcKind n) 1 5

/-- The source is invalid (R279). -/
def State.tcInvalid (s : State) (n : Fin 64) : Bool :=
  let i := s.tcIdx n.val
  (s.tcAges n.val && (s.tc n).stale) ||
    match s.tcKind n.val with
    | 1 => if h : i < 48 then !s.pathValid ⟨i, h⟩ true else true
    | 2 => if h : i < 48 then !s.pathValid ⟨i, h⟩ false else true
    | 3 => ((s.adc.badA.toList[i]?).getD true) || s.adc.isoA
    | 4 => ((s.adc.badB.toList[i]?).getD true) || s.adc.isoB
    | 5 => if i = 0 then s.meterGap 0 || (s.meter 0).halted else s.meterGap 1 || (s.meter 1).halted
    | _ => false

/-- A comparator as its configuration and the validity of its source hold it (R279, R280, R303). The count of one that a failing word holds
stands, and evaluation goes on from it (DESIGN CHOICE, notes/assumptions/58: R303 says nothing of it). -/
def State.tcHeld (s : State) (n : Fin 64) : Comparator :=
  let c := s.tc n
  if s.badCmp n.val then { c with act := true }
  else if s.tcKind n.val = 0 then { c with act := false }
  else if s.regB (tcReg n.val 0) 0 && s.tcInvalid n then { c with act := true, cnt := 0 }
  else c

/-- Every comparator so held. -/
def State.holdComparators (s : State) : State :=
  s.updTrip fun x => { x with tc := tab 64 fun i => s.tcHeld ⟨i % 64, Nat.mod_lt _ (by decide)⟩ }

/-- The evaluation of R278 with value v: the comparator after it. -/
def tcEval (c : Comparator) (v hi lo h : Int) (hien loen : Bool) (p : Nat) : Comparator :=
  let ovr := (hien && decide (hi < v)) || (loen && decide (v < lo))
  let back := (!hien || decide (v ≤ hi - h)) && (!loen || decide (lo + h ≤ v))
  let hit := if c.act then back else ovr
  let n := if hit then c.cnt + 1 else 0
  if p ≤ n && 0 < n then { c with act := !c.act, cnt := 0 } else { c with cnt := n }

/-! ### Trip lines (R281, R282) -/

/-- The port takes part (R428). -/
def State.portEn (s : State) (p : Nat) : Bool := s.regB (jsnBase + 1) (7 + p)
def State.jport (s : State) (p : Port) : JPort := s.jsn.port[p.val]'p.isLt
def State.updPort (s : State) (p : Port) (f : JPort → JPort) : State := s.updJsn fun x => { x with port := upd x.port p f }

/-- A port with LTRIP is out of sync or isolated (R444). -/
def State.linkLost (s : State) : Bool :=
  (List.finRange 3).any fun p => s.portEn p.val && s.regB (jsnBase + 1) (4 + p.val) && (!(s.jport p).sync || (s.jport p).iso)

/-- chain_trip of every line (R281, R436, R444, R445). -/
def State.chainTrip (s : State) : BitVec 24 :=
  if s.solo then 0 else s.jsn.held ||| (if s.linkLost then s.reg2 (jsnBase + 4) else 0)

/-- pilot_trip (R298). -/
def State.pilotTrip (s : State) : Bool :=
  let m := s.reg (trf 0x454)
  let p := s.trip.pilot
  (p.state.toNat < 6 && m.getLsbD p.state.toNat) || (p.state = 6 && m.getLsbD 7) || (p.diode && m.getLsbD 6)

/-- Some comparator that line n selects has the property. -/
def State.lineTc (s : State) (n : Nat) (q : Comparator → Bool) : Bool :=
  (List.range 6).any fun k =>
    let r := s.reg (lineReg n k)
    r ≠ 0 && (List.range 12).any fun i => r.getLsbD i && ((s.trip.tc.toList[12 * k + i]?).map q).getD false

/-- lock_fault (R295). -/
def State.lockFaultOn (s : State) : Bool := s.trip.lockFault ≠ 0

/-- raw(n) of one copy without chain_trip and without config_fault (R281, R434). -/
def State.rawOwn (s : State) (copy n : Nat) : Bool :=
  let cfg := s.reg (lineReg n 9)
  cfg.getLsbD 11 &&
    (let x := s.reg (lineReg n 8)
     let g := s.reg2 (lineReg n 6)
     s.lineTc n Comparator.act ||
       (g ≠ 0 && (List.range 24).any fun i => g.getLsbD i && s.gpioActive copy i) ||
       (List.range 8).any (fun k => x.getLsbD k && s.xtripActive copy k) ||
       (x.getLsbD 8 && s.trip.estopTrip) || (x.getLsbD 9 && s.pilotTrip) || (x.getLsbD 11 && s.collTrip) ||
       (cfg.getLsbD 7 && s.trip.req.toList.any fun q => q.getLsbD n) ||
       (cfg.getLsbD 6 && s.doorAt copy) || (cfg.getLsbD 5 && s.lockFaultOn))

/-- raw(n) of one copy (R281). -/
def State.rawCopy (s : State) (copy n : Nat) : Bool :=
  s.badLine n || s.rawOwn copy n ||
    ((s.reg (lineReg n 9)).getLsbD 11 && (s.reg (lineReg n 8)).getLsbD 10 && s.chainTrip.getLsbD n)

/-- Two of three. -/
def vote3 (f : Nat → Bool) : Bool := (f 0 && f 1) || (f 0 && f 2) || (f 1 && f 2)

/-- A bit by two of three. -/
def maj {w : Nat} (a b c : BitVec w) : BitVec w := (a &&& b) ||| (a &&& c) ||| (b &&& c)

/-- The voted lines of three copies (R283). -/
def votedLines (x : Vector (BitVec 24) 3) : BitVec 24 := maj x[0] x[1] x[2]

/-- A set of lines as bits. -/
def lineBits (f : Nat → Bool) : BitVec 24 := BitVec.ofNat 24 (((List.range 24).map fun n => if f n then 2 ^ n else 0).sum)

/-- A line sets SAFE when it becomes asserted: its SAFE bit, or a word of it that fails (R281, R284). -/
def State.lineSafe (s : State) (n : Nat) : Bool := s.badLine n || s.regB (lineReg n 9) 9

/-! ### Outputs (R286 to R289, R330, R351) -/

/-- An asserted line is selected in map j. -/
def State.mapped (s : State) (j : Nat) : Bool := s.trip.asserted &&& s.reg2 (mapReg j) ≠ 0

/-- Output j, 0 to 21, is safe (R286, R289), or held so without VCORE (R304). -/
def State.outSafe (s : State) (j : Nat) : Bool :=
  !s.vcoreOk || s.dev.safe || !s.inRun || s.dev.inReset.isSome || s.col.self || s.trip.forced || s.badOther || s.badMap j || s.mapped j

/-- The lock hold, output 22, is active (R286), or held so without VCORE (R304). -/
def State.lockHold (s : State) : Bool :=
  !s.vcoreOk || !s.inRun || s.dev.inReset.isSome || s.col.self || s.trip.forced || s.badOther || s.badMap 22 || s.mapped 22 || s.trip.hold

/-- A GD or KD output's enable bit. -/
def State.outEn (s : State) (j : Nat) : Bool :=
  if j < 12 then s.regB (trf 0x440) j else if j < 16 then s.regB (trf 0x441) (j - 12)
  else if j < 20 then s.regB (trf 0x442) (j - 16) else true

/-- Output j is at its safe level (TRF.OST, TRF.OSTH). -/
def State.outAtSafe (s : State) (j : Nat) : Bool :=
  if j = 22 then s.lockHold else if j = 21 then s.trip.pilot.ovr else s.outSafe j || !s.outEn j

/-- KD output i may run (R287). -/
def State.kdMay (s : State) (i : Nat) : Bool := !s.outAtSafe (16 + i)

/-- The level the pilot generator asks for (R296). -/
def Pilot.gen (p : Pilot) : Bool :=
  match bitsAt p.cfg 10 2 with
  | 1 => true
  | 2 => p.high
  | _ => false

/-! ### Pin events (R301) -/

/-- PIO event selections that name a code: line 16 + k of every engine, at an edge that EDGE selects. -/
def State.pioFire (s : State) (code : Nat) (rising : Bool) (ignoreEdge : Bool) : State :=
  (List.range 8).foldl (fun (s : State) k =>
    let r := s.reg (pioBase + 0x10 + k)
    if bitsAt r 0 6 = code && (ignoreEdge || (if rising then r.getLsbD 10 else r.getLsbD 11)) then
      s.setLines engList (16 + k)
    else s) s

/-- The output register of CP_PWM follows the generator, or the override (R287, R288). -/
def State.drivePilot (s : State) : State :=
  let p := s.trip.pilot
  let ovr := p.ovr || s.outSafe 21
  let lvl := if ovr then s.regB (trf 0x44C) 11 else p.gen
  let s := s.updTrip fun x => { x with pilot := { x.pilot with ovr := ovr } }
  if lvl = p.level then s
  else
    let s := s.updTrip fun x =>
      { x with pilot := { x.pilot with level := lvl, changes := s.fk :: x.pilot.changes.filter fun t => decide (s.fk < t + 3300) } }
    if lvl then s.pioFire 0x32 true false else s

/-- The output registers follow the map: a KD output or the SAFE pair that becomes safe stops, the SAFE pair that may run starts
with SAFE_A high (R288). -/
def State.driveOutputs (s : State) : State :=
  let pair := !s.outSafe 20
  let run := s.trip.kdRun &&& BitVec.ofNat 4 (((List.range 4).map fun i => if s.kdMay i then 2 ^ i else 0).sum)
  let s := s.updTrip fun x =>
    { x with
      kdRun := run
      safePhase := if pair && !x.safeRun then true else x.safePhase && pair
      safeRun := pair }
  s.drivePilot

/-! ### Chain signals of local lines (R285, R430, R434) -/

/-- The five symbols of one copy of a trip frame, K28.1 first; and the three copies (R429, R430). -/
def tripSymbols (f : TripCopy) : List Symbol :=
  [.ctrl 0x3C, .data (f.kind ++ ((0 : BitVec 1) ++ f.line)), .data (f.origin.setWidth 8),
    .data (f.seq.setWidth 4 ++ ((f.origin >>> 8).setWidth 4 : BitVec 4)), .data ((f.seq >>> 4).setWidth 8)]
def tripFrame (f : TripCopy) : List Symbol := tripSymbols f ++ (tripSymbols f ++ tripSymbols f)

/-- A trip frame leaves through every enabled port that is in sync and not isolated, except the port of arrival (R433, R435). -/
def State.floodTrip (s : State) (f : TripCopy) (arrival : Option Port) : State :=
  (List.finRange 3).foldl (fun (s : State) p =>
    if s.portEn p.val && (s.jport p).sync && !(s.jport p).iso && arrival ≠ some p then
      s.updPort p fun x => { x with trips := x.trips ++ [f], sent := x.sent ++ [tripFrame f] }
    else s) s

def State.local_ (s : State) (n : Fin 24) : Local := s.jsn.loc[n.val]'n.isLt
def State.updLocal (s : State) (n : Fin 24) (f : Local → Local) : State := s.updJsn fun x => { x with loc := upd x.loc n f }
/-- JSN.ID (R427). -/
def State.jsnId (s : State) : Word := s.reg jsnBase

/-- Kinds of a trip frame (R430). -/
def kAdv : BitVec 2 := 1
def kCfm : BitVec 2 := 2
def kCxl : BitVec 2 := 3

/-- A new event of this device: its SEQ (R430). -/
def State.newSeq (s : State) : Word × State := (s.jsn.seq + 1, s.updJsn fun x => { x with seq := x.seq + 1 })

/-- The signals of one line: `was` and `now` asserted, `own` its raw value without chain trip and failed words. The repeats of a confirm
stop
only when the line does not stay asserted (R435). -/
def State.lineSignal (s : State) (n : Fin 24) (was now own : Bool) : State :=
  let l := s.local_ n
  let on := s.regB (lineReg n.val 9) 8 && !s.solo && !s.badLine n.val
  let pend := s.lineTc n.val fun c => !c.act && decide (0 < c.cnt)
  let frame := fun (k : BitVec 2) (q : Word) => (⟨k, BitVec.ofNat 5 n.val, s.jsnId, q⟩ : TripCopy)
  if !on then s.updLocal n fun x => { x with adv := false, cfm := x.cfm && now }
  else if now && !was then
    if own then
      let q := if l.adv then (l.seq, s) else s.newSeq
      (q.2.floodTrip (frame kCfm q.1) none).updLocal n fun x => { x with seq := q.1, adv := false, cfm := true }
    else s.updLocal n fun x => { x with adv := false }
  else if now then s
  else
    let s := s.updLocal n fun x => { x with cfm := false }
    if pend && !l.adv && decide (l.holdTo ≤ s.fk) then
      let q := s.newSeq
      (q.2.floodTrip (frame kAdv q.1) none).updLocal n fun x => { x with seq := q.1, adv := true }
    else if !pend && l.adv then
      (s.floodTrip (frame kCxl l.seq) none).updLocal n fun x => { x with adv := false, holdTo := s.fk + 300 }
    else s

/-! ### One fabric clock over the inputs as they stand -/

/-- |x| > TH, or an invalid path, of a channel of the 60 V rule (R294); numbers above 47 name no channel. -/
def State.live60 (s : State) (i : Nat) : Bool :=
  if h : i < 48 then
    !s.pathValid ⟨i, h⟩ false || decide ((s.reg2 (trf 0x449)).toNat < ((s.chan ⟨i, h⟩).precise.value.toInt).natAbs)
  else true

/-- Some channel of the 60 V rule keeps the lock. -/
def State.holds60 (s : State) : Bool :=
  s.live60 (bitsAt (s.reg (trf 0x448)) 0 6) || s.live60 (bitsAt (s.reg (trf 0x448)) 6 6)

/-- Travel, and the hold without the locked feedback: the causes of lock_fault as they stand (R295). -/
def State.lockCauses (s : State) : BitVec 2 :=
  BitVec.ofNat 2 (bit1 (s.lockPos = 0 || s.lockPos = 3) + 2 * bit1 (s.trip.lockOut && s.lockPos ≠ 1))

/-- The emergency stop, door and lock inputs (R292 to R295). -/
def State.vehicleInputs (s : State) : State :=
  let a := s.pressedA
  let b := s.pressedB
  s.updTrip fun x =>
    let both := x.edisc && (x.bothPressed || (a && b))
    let edisc := x.edisc && !(both && !a && !b)
    { x with
      bothPressed := both && edisc
      edisc := edisc
      estopTrip := a || b || (x.estopTrip && edisc)
      door := vote3 s.doorAt
      hold := x.hold || s.holds60 }

/-- What line 15 watches (R301). -/
def State.watched (s : State) : BitVec 24 × Bool × Bool × Bool × Bool × Bool × Nat :=
  let x := s.trip
  (x.asserted, x.estopTrip, x.edisc, x.door, x.lockOut, s.lockFaultOn,
    x.pilot.state.toNat + 8 * bit1 x.pilot.diode + 16 * bit1 x.pilot.stale)

/-- raw(n) of every line in a copy (R281). -/
def State.rawLines (s : State) (copy : Nat) : BitVec 24 := lineBits (s.rawCopy copy)

/-- One evaluation of every line (R281 to R285, R295): the copies latch their own raw values, the vote over them drives SAFE, the chain
signals and the lock hold, and a lock fault whose cause has ended clears. -/
def State.evalLines (s : State) : State :=
  let was := s.trip.asserted
  let raw := tab 3 s.rawLines
  let own := lineBits fun n => vote3 fun k => s.rawOwn k n
  let latch := lineBits fun n => s.regB (lineReg n 9) 10
  let copies := vmap (fun k c => (raw.toList[k]?).getD 0 ||| (c &&& latch)) s.trip.copies
  let now := votedLines copies
  let s := s.updTrip fun x => { x with raw := votedLines raw, copies := copies, asserted := now }
  let s := (List.finRange 24).foldl (fun (s : State) n =>
    s.lineSignal n (was.getLsbD n.val) (now.getLsbD n.val) (own.getLsbD n.val)) s
  let s := if (List.range 24).any fun n => now.getLsbD n && !was.getLsbD n && s.lineSafe n then s.setSafe else s
  let s := s.updTrip fun x => { x with lockOut := s.lockHold }
  s.updTrip fun x => { x with lockFault := x.lockFault &&& s.lockCauses }

/-- The trip fabric takes the inputs as they stand (R281 to R288): comparators, pins, lines, SAFE, chain signals and outputs. The lines are
evaluated again when a lock fault has ended with the hold. `before` is the state whose changes line 15 reports (R301). -/
def State.fabricFrom (s before : State) : State :=
  let s := s.holdComparators.vehicleInputs
  let s := s.updTrip fun x => { x with lockFault := x.lockFault &&& s.lockCauses }
  let fault := s.trip.lockFault
  let s := s.evalLines
  let s := if s.trip.lockFault = fault then s else s.evalLines
  let s := s.driveOutputs
  let s := if s.watched = before.watched then s else s.setLines engList 15
  if s.trip.pilot.state = before.trip.pilot.state && s.trip.pilot.diode = before.trip.pilot.diode &&
      s.trip.pilot.stale = before.trip.pilot.stale then s
  else s.pioFire 0x30 true true

/-- The fabric after a command that changed its inputs. -/
def State.fabric (s : State) : State := s.fabricFrom s

/-- SAFE is set by something outside the fabric, and the outputs follow (R286, R333). -/
def State.enterSafe (s : State) : State := s.setSafe.fabric

end Sys2Proof.Machine
end

