-- ==== Sys2Proof/Machine/Recorder.lean ====
section
/-! DEFINITION. The event recorder: the RAM ring, the nonvolatile commit, fetches, waveforms and clearing (R358 to R377); and the
commands of the gauges (R378 to R381). -/

namespace Sys2Proof.Machine

/-! ### The NV memory (R366, R367) -/

/-- The bytes of packed words, two words in three bytes (R367, R396). -/
def packBytes : List Word → List Byte
  | w :: v :: rest =>
    w.setWidth 8 :: (((v.setWidth 4) ++ ((w >>> 8).setWidth 4 : BitVec 4) : BitVec 8)) :: (v >>> 4).setWidth 8 :: packBytes rest
  | _ => []

/-- The words of packed bytes. -/
def unpackBytes : List Byte → List Word
  | a :: b :: c :: rest => ((b.setWidth 4) ++ a) :: (c ++ (b >>> 4).setWidth 4) :: unpackBytes rest
  | _ => []

/-- A slot that holds a record: its bytes, the commit marker, and 0xFF (R367). -/
def slotOf (w : Vector Word 16) : Slot :=
  let bs := packBytes w.toList ++ [0x5A, 0x3C]
  tab 32 fun k => bs.getD k 0xFF

/-- The record in a slot, and whether its marker is there (R367, R368). -/
def Slot.record (b : Slot) : Vector Word 16 :=
  let ws := unpackBytes b.toList
  tab 16 fun k => ws.getD k 0
def Slot.marked (b : Slot) : Bool := b[24] = 0x5A && b[25] = 0x3C

/-- Committed records of a list of slots. -/
def markedRecords (l : List (Nat × Slot)) : List (Vector Word 16) := (l.filter fun p => Slot.marked p.2).map fun p => Slot.record p.2

/-- A slot of the CLEAR log (`true`) or of the ring, and the byte at which it lies (R366). -/
def slotByte (p : Bool × Nat) : Nat := if p.1 then 32 * p.2 else 4096 + 32 * p.2

def Recorder.slot (r : Recorder) (p : Bool × Nat) : Slot :=
  (((if p.1 then r.clog else r.nv).find? fun x => x.1 = p.2).map Prod.snd).getD (Vector.replicate 32 0xFF)

def Recorder.putSlot (r : Recorder) (p : Bool × Nat) (b : Slot) : Recorder :=
  let put := fun (l : List (Nat × Slot)) => (l.filter fun x => x.1 ≠ p.2) ++ [(p.2, b)]
  if p.1 then { r with clog := put r.clog } else { r with nv := put r.nv }

/-- A command with its address, most significant byte first (R366). -/
def spiAt (code : Byte) (a : Nat) : List Byte := [code, BitVec.ofNat 8 (a / 65536), BitVec.ofNat 8 (a / 256), BitVec.ofNat 8 a]

/-- The commands of a sector's erase, of a slot's write and of its read-back (R366, R368). -/
def spiErase (a : Nat) : List (List Byte) := [[0x06], spiAt 0x20 a, [0x05]]
def spiWrite (a : Nat) (b : Slot) : List (List Byte) := [[0x06], spiAt 0x02 a ++ b.toList, [0x05]]
def spiRead (a : Nat) : List (List Byte) := [spiAt 0x03 a]

/-- SEQ of a stored record. -/
def recSeq (w : Vector Word 16) : BitVec 36 := w[9] ++ (w[8] ++ w[7])

/-! ### The RAM ring (R358 to R364) -/

/-- Word address of the RAM slot of a SEQ (R364). -/
def slotAddr (q : BitVec 36) : Nat := 0x910000 + 16 * (q.toNat % 512)

/-- The sixteen words of a record (R358, R360). -/
def Recorder.words (r : Recorder) (x : Record) : List Word × DWord :=
  let ws := [BitVec.ofNat 12 (x.code.toNat * 32 + x.typ.toNat), x.src] ++ wordsOf r.ops.toNat 3 ++ wordsOf r.pcc.toNat 2 ++
    wordsOf r.nseq.toNat 3 ++ wordsOf x.pay.toNat 4
  let c := ws.foldl crcWord r.chk
  (ws ++ wordsOf c.toNat 2, c)

/-- A descriptor in execution takes its completion (R412, R413). -/
def State.finishDesc (s : State) (n : Fin 8) (status : BitVec 16) (result : BitVec 32) : State :=
  s.updSht fun x =>
    { x with sq := upd x.sq n fun q => { q with exec := q.exec.map fun d => { d with status := some (status, result) } } }

/-- The descriptor of a clear takes its completion, unless it has been abandoned (R376, R391). -/
def State.finishClear (s : State) (sq : Option (Fin 8)) (status : BitVec 16) (result : BitVec 32) : State :=
  match sq with
  | some n => s.finishDesc n status result
  | none => s

/-- The SQ of the armed clear, unless its descriptor has been abandoned (R375, R391). -/
def Recorder.armedSq (r : Recorder) : Option (Fin 8) := if r.armedLive then r.armed else none

/-- The descriptor of SQ n has armed a clear that is not over (R375, R377). -/
def Recorder.clearingFor (r : Recorder) (n : Fin 8) : Bool :=
  r.armedSq = some n || r.confirmed.contains (some n) || r.clears.any fun c => c.sq = some n

/-- No descriptor awaits a clear any more: all have been abandoned (R391). -/
def Recorder.orphan (r : Recorder) : Recorder :=
  { r with armedLive := false, confirmed := r.confirmed.map fun _ => none, clears := r.clears.map fun c => { c with sq := none } }

/-- The commit of the oldest CLEAR record that awaits it is over: its descriptor completes and the NV ring is erased (R377). -/
def State.clearDone (s : State) (c : ClearDue) : State :=
  (s.finishClear c.sq 0 ((c.seq.setWidth 24).setWidth 32)).updRcd fun r =>
    { r with clears := r.clears.drop 1, erase := true, tries := 2 }

/-- One more record is lost (R370). -/
def Recorder.lose (r : Recorder) : Recorder := { r with lost := sat12 (r.lost.toNat + 1), lossSince := r.lossSince + 1 }

/-- The next record becomes the oldest uncommitted one. -/
def Recorder.pass (r : Recorder) : Recorder := { r with next := r.next + 1, tries := 2 }

/-- A record takes its SEQ and check and is written into the RAM ring; an uncommitted record whose slot it takes is lost (R360, R362,
R370), a CLEAR record too, whose commit is then over. -/
def State.writeRecord (s : State) (x : Record) : State :=
  let r := s.rcd
  let w := r.words x
  let s := (w.1.zipIdx).foldl (fun (s : State) p => s.setMem (slotAddr r.nseq + p.2) p.1) s
  let ovr := decide (r.next.toNat + 512 ≤ r.nseq.toNat)
  let s := s.updRcd fun r =>
    let r := { r with nseq := r.nseq + 1, chk := w.2 }
    if ovr then { r.lose.pass with next := r.next + 1 } else r
  match r.clears with
  | c :: _ => if c.seq.toNat + 512 ≤ r.nseq.toNat then (s.updRcd Recorder.lose).clearDone c else s
  | [] => s

/-- REC.CFG.EN and TYPE. -/
def State.nvOn (s : State) : Bool := s.regB recBase 11
def State.nvNor (s : State) : Bool := s.regB recBase 10

/-- The CLEAR record of a confirmed clear is written (R377): it counts what it erases, every older record's RAM slot is empty, so that none
of them is lost by what follows, and its commit is due. -/
def State.writeClear (s : State) (sq : Option (Fin 8)) : State :=
  let r := s.rcd
  let q := r.nseq
  let ram := max (r.nseq.toNat - 512) r.ramFrom.toNat
  let oldest := ((markedRecords r.nv).map fun w => (recSeq w).toNat).foldl min (max ram r.floor.toNat)
  let n := min (q.toNat - oldest) (2 ^ 24 - 1)
  let last := q.toNat - 1
  let x : Record := ⟨8, 0, BitVec.ofNat 12 (last / 2 ^ 24), BitVec.ofNat 48 (n * 2 ^ 24 + last % 2 ^ 24), s.fk⟩
  let ws := (r.words x).1
  let s := { s with mem := s.mem.filter (fun p => !inRecorder p.1), upset := s.upset.filter fun p => !inRecorder p.1 }.updRcd fun r =>
    { r with ramLost := none, next := q }
  let s := (s.writeRecord x).updRcd fun r =>
    { r.pass with floor := q, next := q + 1, clears := r.clears ++ [⟨q, tab 16 fun k => ws.getD k 0, sq⟩] }
  if s.nvOn then s
  else
    match s.rcd.clears with
    | c :: _ => (s.clearDone c).updRcd fun r => { r with erase := false }
    | [] => s

/-- The oldest queued record is written, unless a restore is pending or TEST_EN is high (R362, R371, R523). -/
def State.writeOne (s : State) : State :=
  match (if s.rcd.held || s.dev.testEn then [] else s.rcd.queue) with
  | [] => s
  | x :: rest =>
    let t := s.updRcd fun r => { r with queue := rest }
    if x.typ = 8 then (t.updRcd fun r => { r with confirmed := r.confirmed.drop 1 }).writeClear (s.rcd.confirmed.headD none)
    else t.writeRecord x

/-- The queue down to the last confirmed clear's record is written, at most `n` records. -/
def State.writeClears (s : State) : Nat → State
  | 0 => s
  | n + 1 => if s.rcd.confirmed.isEmpty then s else State.writeClears s.writeOne n

/-- RECORD_WRITE (R362). -/
def execRecordWrite (s : State) : Host.Outcome State Fault Refusal := .next s.writeOne

/-- A waveform record: it enters the queue, whose oldest record is written meanwhile (R362). -/
def State.logWrite (s : State) (typ : BitVec 5) (code : BitVec 7) (src : Word) (pay : Quad) : State :=
  (s.logRec typ code src pay).writeOne

/-! ### Finding a record (R364, R365, R377) -/

/-- The record lies in the RAM ring (R364, R365). -/
def State.inRing (s : State) (q : BitVec 36) : Bool :=
  let r := s.rcd
  decide (r.floor.toNat ≤ q.toNat) && decide (q.toNat < r.nseq.toNat) && decide (r.nseq.toNat ≤ q.toNat + 512) &&
    decide (r.ramFrom.toNat ≤ q.toNat)

/-- Q of the selected capacity (R366). -/
def State.nvQ (s : State) : Nat := (65536 * 2 ^ bitsAt (s.reg recBase) 6 4 - 4096) / 32

/-- The record with SEQ q is one that a fetch may find at all, and no longer in the RAM ring: it is sought in the NV memory (R365, R377). -/
def State.inNv (s : State) (q : BitVec 36) : Bool :=
  s.nvOn && !s.inRing q && decide (s.rcd.floor.toNat ≤ q.toNat) && decide (q.toNat < s.rcd.nseq.toNat)

/-- The NV memory's slots that a search for SEQ q reads: s mod Q of the ring, and, where that holds another record, the CLEAR log's (R366,
R377). -/
def State.nvSlots (s : State) (q : BitVec 36) : List (Bool × Nat) :=
  let p := (false, q.toNat % s.nvQ)
  let b := s.rcd.slot p
  p :: (if b.marked && recSeq b.record = q then [] else (List.range s.rcd.clogUsed).map fun k => (true, k))

/-- The READ commands of that search (R366). -/
def State.nvReads (s : State) (q : BitVec 36) : List (List Byte) :=
  if s.inNv q then (s.nvSlots q).flatMap fun p => spiRead (slotByte p) else []

/-- The READ commands of a search are the last at the recorder SPI port, when there are any. -/
def Recorder.sent (r : Recorder) (cs : List (List Byte)) : Recorder := if cs.isEmpty then r else { r with spi := cs }

/-- A record by SEQ: from the RAM ring, else from the NV ring or the CLEAR log when the NV memory is in use. -/
def State.findRecord (s : State) (q : BitVec 36) : Option (Vector Word 16) :=
  if q.toNat < s.rcd.floor.toNat || s.rcd.nseq.toNat ≤ q.toNat then none
  else if s.inRing q then some (tab 16 fun k => s.memWord (slotAddr q + k))
  else if s.nvOn then
    ((s.nvSlots q).map s.rcd.slot).findSome? fun b => if b.marked && recSeq b.record = q then some b.record else none
  else none

/-- The recorder reads a record's slot of its RAM ring (R183, R364): a word that fails every replay is counted at source 113, and no rule
gives what is taken for it. -/
def State.readSlot (s : State) (q : BitVec 36) : Vector Word 16 × State :=
  let bad := (List.range 16).filter fun k => !s.memGood (slotAddr q + k)
  (tab 16 fun k => if bad.contains k then Config.unreadWord s.free (slotAddr q + k) else s.memWord (slotAddr q + k),
    bad.foldl (fun (s : State) k => s.raise 113 0x02 (BitVec.ofNat 24 (slotAddr q + k))) { s with free := s.free + bad.length })

/-- REC.FSEQ. -/
def State.fseq (s : State) : BitVec 36 := s.reg (recBase + 0x22) ++ (s.reg (recBase + 0x21) ++ s.reg (recBase + 0x20))

/-- FETCH_COMPLETE (R365). -/
def execFetchComplete (s : State) : Host.Outcome State Fault Refusal :=
  if !s.rcd.fetching then .next s
  else
    match s.findRecord s.fseq with
    | some w =>
      let p := if s.inRing s.fseq then s.readSlot s.fseq else (w, s)
      .next (p.2.updRcd fun r => { (r.sent (s.nvReads s.fseq)) with fetching := false, fbuf := p.1, fst := flag 10 true })
    | none => .next (s.updRcd fun r => { (r.sent (s.nvReads s.fseq)) with fetching := false, fst := flag 9 true })

/-! ### Nonvolatile commit (R366 to R371) -/

/-- The record to commit next: a CLEAR record ahead of every other (R368, R377). -/
def Recorder.due (r : Recorder) : Option (BitVec 36) :=
  match r.clears with
  | c :: _ => some c.seq
  | [] => if r.erase || decide (r.nseq.toNat ≤ r.next.toNat) then none else some r.next

/-- Slot of the record that is due: the next free one of the CLEAR log, or s mod Q of the ring (R366, R377). -/
def State.nvPlace (s : State) (q : BitVec 36) : Bool × Nat :=
  if !s.rcd.clears.isEmpty then (true, s.rcd.clogUsed) else (false, q.toNat % s.nvQ)

/-- The write begins a sector of a NOR memory's ring, which is erased first (R368). -/
def State.nvErases (s : State) (p : Bool × Nat) : Bool := s.nvNor && !p.1 && p.2 % 128 = 0

/-- The sector of a ring slot erased (R368). -/
def Recorder.eraseSector (r : Recorder) (slot : Nat) : Recorder := { r with nv := r.nv.filter fun p => p.1 / 128 ≠ slot / 128 }

/-- The due record's commit is over, whether it succeeded or is given up: a CLEAR record's slot is used (R368, R369, R377). -/
def State.nvPass (s : State) : State :=
  match s.rcd.clears with
  | c :: _ => (s.updRcd fun r => { r with clogUsed := r.clogUsed + 1 }).clearDone c
  | [] => s.updRcd Recorder.pass

/-- The record's commit is given up and counted (R369). -/
def State.nvGiveUp (s : State) : State :=
  (s.updRcd fun r => { r with nvlost := sat12 (r.nvlost.toNat + 1) }).nvPass

/-- The words of the record that is due: a CLEAR record's own, or those of its RAM slot (R368, R377). -/
def State.dueWords (s : State) (q : BitVec 36) : Vector Word 16 × State :=
  match s.rcd.clears with
  | c :: _ => (c.words, s)
  | [] => s.readSlot q

/-- The commands of one commit attempt, as far as it goes (R366, R368). -/
def nvCommands (erases : Bool) (a : Nat) (b : Slot) : NvOutcome → List (List Byte)
  | .matched | .differs _ => (if erases then spiErase a else []) ++ spiWrite a b ++ spiRead a
  | .silentErase => spiErase a
  | .silentWrite _ | .cutOff _ => (if erases then spiErase a else []) ++ spiWrite a b

/-- One commit attempt of the record with SEQ `q` into its slot (R368 to R370). A memory that does not respond after an erase can only do
so where one was sent. -/
def State.nvAttempt (s : State) (q : BitVec 36) (o : NvOutcome) : State :=
  let p := s.nvPlace q
  let erases := s.nvErases p
  let ws := s.dueWords q
  let b := slotOf ws.1
  let s := ws.2.updRcd fun r =>
    { (if erases then r.eraseSector p.2 else r) with spi := nvCommands erases (slotByte p) b o }
  let first := fun (s : State) (k : Nat) =>
    s.updRcd fun r => r.putSlot p (tab 32 fun j => if j < k then b.toList.getD j 0 else (r.slot p).toList.getD j 0)
  let silent := fun (s : State) => (s.updRcd fun r => { r with silent := true, nvFail := true }).raise 114 0x02 0
  let stored := fun (s : State) =>
    let loss := s.rcd.lossSince
    let t := (s.updRcd fun r => { (r.putSlot p b) with cseq := q, committed := true, nvFail := false, lossSince := 0 }).nvPass
    if loss = 0 then t else t.logRec 0x0A 0 0 (BitVec.ofNat 48 (loss % 2 ^ 24))
  match o with
  | .matched => stored s
  | .differs flips =>
    if flips = 0 then stored s
    else
      let got : Slot := tab 32 fun j => b.toList.getD j 0 ^^^ (if j < 26 then (flips >>> (8 * j)).setWidth 8 else 0)
      let s := (s.updRcd fun r => { (r.putSlot p got) with nvFail := true }).raise 114 0x01 0
      if !s.nvNor && decide (0 < s.rcd.tries) then s.updRcd fun r => { r with tries := r.tries - 1 }
      else if s.nvNor then
        (s.updRcd fun r =>
          { (r.putSlot p ((got.set 24 0).set 25 0)) with spi := r.spi ++ [[0x06], spiAt 0x02 (slotByte p + 24) ++ [0, 0], [0x05]] }).nvGiveUp
      else s.nvGiveUp
  | .silentErase => if erases then silent s else silent (first s 0)
  | .silentWrite k => silent (first s k.val)
  | .cutOff k => first s k.val

/-- NV_COMMIT (R368 to R370, R377): one commit attempt of the record that is due, unless commits are isolated, a retry waits or a restore
is pending; none during a reset, nor with TEST_EN high (R523). -/
def execNvCommit (o : NvOutcome) (s : State) : Host.Outcome State Fault Refusal :=
  match (if s.nvOn && s.up && !s.dev.testEn && !s.rcd.iso && !s.rcd.silent && !s.rcd.held then s.rcd.due else none) with
  | none => .next s
  | some q => .next (s.nvAttempt q o)

/-- NV_RETRY (R369): 100 ms after the memory did not respond, the same record is tried again. -/
def execNvRetry (s : State) : Host.Outcome State Fault Refusal :=
  .next (s.updRcd fun r => { r with silent := false })

/-- 24 bits, saturating (R361). -/
def sat24 (n : Nat) : DWord := BitVec.ofNat 24 (min n 0xFFFFFF)

/-- The newest committed record of the NV memory (R371); DEDUCED, notes/assumptions/59: a record of the CLEAR log counts, so that no SEQ
is used again after a clear (R360). -/
def Recorder.newest (r : Recorder) : Option (Vector Word 16) :=
  (markedRecords r.nv ++ markedRecords r.clog).foldl (fun (b : Option (Vector Word 16)) w => match b with
    | some v => if (recSeq v).toNat < (recSeq w).toNat then some w else some v
    | none => some w) none

/-- What the CLEAR log shows of a recorder that starts again: its slots used, and the SEQ below which a clear has erased (R377, R384). -/
def Recorder.readClog (r : Recorder) : Recorder :=
  { r with clogUsed := r.clog.foldl (fun n p => max n (p.1 + 1)) 0
           floor := (markedRecords r.clog).foldl (fun (q : BitVec 36) w => if q.toNat < (recSeq w).toNat then recSeq w else q) 0 }

/-- The READs that show the CLEAR log: of its used slots in order, and of the first that is empty (R366, R377; DEDUCED,
notes/assumptions/62: the recorder has no other way to know it). -/
def Recorder.clogReads (r : Recorder) : List (List Byte) :=
  (List.range (min 128 (r.clogUsed + 1))).flatMap fun k => spiRead (slotByte (true, k))

/-- The READ that finds the newest committed record: of its slot of the ring, or of the CLEAR log (R366, R371). Which slots the search
probes before it, no rule says (notes/assumptions/62). -/
def State.newestReads (s : State) (q : BitVec 36) : List (List Byte) :=
  (s.nvSlots q).flatMap fun p => spiRead (slotByte p)

/-- The restore of R371 with the NV memory, or from nothing. -/
def State.restoreRecorder (s : State) (nv : Bool) : State :=
  if !s.rcd.held then s
  else
    match (if nv then s.rcd.newest else none) with
    | some w =>
      let q := recSeq w
      let s := s.updRcd Recorder.readClog
      let s := s.updRcd fun r =>
        { (r.sent (r.clogReads ++ s.newestReads q)) with
          held := false, nseq := q + 1, next := q + 1, ramFrom := q + 1, cseq := q, committed := true, chk := joinW w[15] w[14]
          ops := w[4] ++ (w[3] ++ w[2]), pcc := sat24 ((joinW w[6] w[5]).toNat + 1) }
      s.writeRecord ⟨7, 0, 0, q.setWidth 48, s.fk⟩
    | none =>
      let s := s.updRcd fun r =>
        { r with held := false, nseq := 0, next := 0, ramFrom := 0, floor := 0, cseq := 0, committed := false, chk := 0xB704CE, ops := 0
                 pcc := 1 }
      if nv then s.writeRecord ⟨7, 0, 0, 0xFFFFFFFFF, s.fk⟩ else s

/-- What the loss of VKEEP leaves of the recorder (R371): everything kept on it is at its reset value and incoming records wait; `n`
numbers what the RAM ring then holds. The NV memory keeps its slots. -/
def Recorder.loseKeep (r : Recorder) (n : Nat) : Recorder :=
  { nv := r.nv, clog := r.clog, held := true, vkl := true, ramLost := some n }

/-- A power-up with VKEEP intact (R371): the commit resumes after REC.CSEQ, at the oldest record the RAM ring still holds. The last CLEAR
record, at the floor, has its commit in the CLEAR log alone (R377). -/
def Recorder.resume (r : Recorder) : Recorder :=
  let oldest := max (r.nseq.toNat - 512) (max r.ramFrom.toNat (if r.floor = 0 then 0 else r.floor.toNat + 1))
  let n := max oldest (if r.committed then r.cseq.toNat + 1 else 0)
  { r with next := BitVec.ofNat 36 n }

/-- Cycles of an operating second (R361): of the crystal, or of the RC oscillator while the crystal is lost. -/
def crystalSecond : Nat := 32768
def rcSecond : Nat := 4000000

/-- The running second is full (R361): its count of the clock that OPS goes by has come to a whole second. -/
def State.secondFull (s : State) : Bool := if s.clk.kOk then crystalSecond ≤ s.rcd.sub else rcSecond ≤ s.rcd.subRc

/-- OPS_INCREMENT (R361): a full second is counted while VCORE is good, saturating; the cycles beyond it are of the next. -/
def execOpsIncrement (s : State) : Host.Outcome State Fault Refusal :=
  if !s.vcoreOk || !s.secondFull then .next s
  else
    .next (s.updRcd fun r =>
      { r with
        ops := if r.ops = BitVec.allOnes 36 then r.ops else r.ops + 1
        sub := if s.clk.kOk then r.sub - crystalSecond else r.sub
        subRc := if s.clk.kOk then r.subRc else r.subRc - rcSecond })

/-- Fabric clocks of one cycle that OPS counts: of the crystal (9,155.27 fk), or, while it is lost, of the always-on RC oscillator
(R361, R489). -/
def State.subCycle (s : State) : Nat :=
  if s.clk.kOk then 9155 + bit1 (Config.crystalLate s.free) else rcCycle s.free

/-- One fabric clock of the running second, which VCORE and each reset leave as it stands (R361). -/
def State.subClock (s : State) : State :=
  if !s.clk.sup.getLsbD 5 then s
  else if 1 < s.rcd.subLeft then s.updRcd fun r => { r with subLeft := r.subLeft - 1 }
  else
    (s.updRcd fun r =>
      { r with
        sub := if s.clk.kOk then r.sub + 1 else r.sub
        subRc := if s.clk.kOk then r.subRc else r.subRc + 1
        subLeft := s.subCycle }).takeFree

/-! ### Waveforms (R372 to R374) -/

/-- A value in w bits, most significant first. -/
def bitsMsb (w v : Nat) : List Bool := (List.range w).map fun i => v.testBit (w - 1 - i)

/-- The Rice code of u with parameter r (R373). -/
def riceBits (r u : Nat) : List Bool :=
  if u / 2 ^ r < 24 then List.replicate (u / 2 ^ r) true ++ [false] ++ bitsMsb r (u % 2 ^ r)
  else List.replicate 24 true ++ bitsMsb 25 u

/-- Length of that code. -/
def riceLen (r u : Nat) : Nat := if u / 2 ^ r < 24 then u / 2 ^ r + 1 + r else 49

/-- The parameter of a block: fewest bits, the smallest on a tie (R373). -/
def riceParam (us : List Nat) : Nat :=
  ((List.range 25).foldl (fun (b : Nat × Nat) r =>
    let n := (us.map (riceLen r)).sum
    if n < b.2 then (r, n) else b) (0, (us.map (riceLen 0)).sum)).1

/-- u of a difference (R373). -/
def zigzag (d : Int) : Nat := if 0 ≤ d then (2 * d).toNat else (-2 * d - 1).toNat

/-- The stream of a waveform, one piece for each sample (R373). -/
def wavePieces (ys : List Int) : List (List Bool) :=
  match ys with
  | [] => []
  | y :: _ =>
    let us := (ys.zip (ys.drop 1)).map fun p => zigzag (p.2 - p.1)
    (BitVec.ofInt 25 y |>.toNat |> bitsMsb 25) ::
      us.zipIdx.map fun p =>
        let r := riceParam ((us.drop (p.2 / 16 * 16)).take 16)
        (if p.2 % 16 = 0 then bitsMsb 5 r else []) ++ riceBits r p.1

/-- The pieces that fit in 255 WDATA records (R374). -/
def fitPieces (ps : List (List Bool)) : List (List Bool) :=
  (ps.foldl (fun (a : List (List Bool) × Nat × Bool) p =>
    if a.2.2 && decide (a.2.1 + p.length ≤ 15300) then (a.1 ++ [p], a.2.1 + p.length, true) else (a.1, a.2.1, false)) ([], 0, true)).1

/-- A number from bits, most significant first. -/
def natOfBits (bs : List Bool) : Nat := bs.foldl (fun n b => 2 * n + bit1 b) 0

/-- The WDATA records of a stream: SRC and PAY of each (R374). -/
def waveRecords (bs : List Bool) : List (Word × Quad) :=
  (List.range ((bs.length + 59) / 60)).map fun i =>
    let g := (bs.drop (60 * i)).take 60
    let g := g ++ List.replicate (60 - g.length) false
    (BitVec.ofNat 12 (natOfBits (g.drop 48)), BitVec.ofNat 48 (natOfBits (g.take 48)))

/-- The recorder reads one sample: whether the read gives it, and what the read counts (R183, R185, R326). The recorder has no requester code
of its own: it is one of the masters of code 0xF (R175). -/
def State.waveRead (s : State) (w : Wave) (i : Nat) (o : ReadOutcome) : Bool × State :=
  let place := (s.bobPlace w.ch w.cl i).map fun a => (BitVec.ofNat 24 a : Addr)
  let o := s.effRead .monitor place o
  (readGood o, s.countRead .monitor place o false .recorder)

/-- The samples `start` to `stop` read in order, `o` ending the read of the one numbered `j` among them: those that failed (R372). -/
def State.waveReads (s : State) (w : Wave) (start stop j : Nat) (o : ReadOutcome) : List Nat × State :=
  (List.range (stop - start)).foldl (fun (b : List Nat × State) i =>
    let r := b.2.waveRead w (start + i) (if i = j then o else .ok)
    (if r.1 then b.1 else b.1 ++ [i], r.2)) ([], s)

/-- The samples `start` to `stop` of a capture as the recorder takes them; one whose read fails is one that no rule gives (R183, R372). -/
def State.waveSamples (s : State) (w : Wave) (start stop : Nat) (bad : List Nat) : List Int :=
  (List.range (stop - start)).map fun i =>
    let x := if bad.contains i then Config.badSample (s.free + i) else s.bobSample w.ch w.cl (start + i)
    if w.k = 0 then x.toInt else roundEven x.toInt w.k

/-- WAVEFORM_CAPTURE (R183, R185, R372 to R374): the last sample is there, and the waveform is read, coded and recorded; `o` is how the read
of its sample `j` ends, and the others end as the stored words and the cluster's isolation have it. -/
def execWaveformCapture (o : ReadOutcome) (j : Fin 1024) (s : State) : Host.Outcome State Fault Refusal :=
  match s.rcd.wave with
  | none => .next s
  | some w =>
    let done := fun (s : State) => s.updRcd fun r => { r with wave := none }
    if !w.ok || !s.pathValid w.ch (s.bobFast w.ch) then .next (done (s.logWrite 0x0E 0x03 0 0))
    else if s.bobAvail w.ch w.cl < w.t + w.a then .next s
    else
      let first := w.t + w.a - w.n
      let held := s.bobAvail w.ch w.cl - s.bobCap w.ch
      let start := max first held
      let stop := w.t + w.a
      let r := s.waveReads w start stop (j.val % (stop - start)) o
      let s := r.2
      let ys := s.waveSamples w start stop r.1
      let s := { s with free := s.free + 1024 }
      let ps := wavePieces ys
      let fit := fitPieces ps
      let recs := waveRecords fit.flatten
      let s := recs.foldl (fun (s : State) p => s.logWrite 0x0D 0 p.1 p.2) s
      let code : BitVec 7 := if fit.length < ps.length then 2 else if first < held || w.t + w.a < w.n then 1 else 0
      .next (done (s.logWrite 0x0E code 0 (BitVec.ofNat 48 (fit.length * 2 ^ 36 + recs.length * 2 ^ 24 + start % 2 ^ 24))))

/-! ### Clearing (R375 to R377) -/

/-- SEAL_OPEN_N reads low at its synchronised level (R300). -/
def State.sealOpen (s : State) : Bool := !s.trip.pio.getLsbD 0x1C

/-- A clear is refused for a reason: CLRREF, and the descriptor's completion (R376, R413). -/
def State.refuseClear (s : State) (n : Fin 8) (reason : Nat) : State :=
  (s.logRec 9 (BitVec.ofNat 7 reason) (BitVec.ofNat 12 n.val) 0).finishDesc n 9 (BitVec.ofNat 32 reason)

/-- An armed clear is refused and disarmed. -/
def State.disarm (s : State) (reason : Nat) : State :=
  match s.rcd.armed with
  | some n =>
    ((s.logRec 9 (BitVec.ofNat 7 reason) (BitVec.ofNat 12 n.val) 0).finishClear s.rcd.armedSq 9 (BitVec.ofNat 32 reason)).updRcd fun r =>
      { r with armed := none, armedLive := false }
  | none => s

/-- A clear is armed, until it is confirmed, refused or lapses (R375, R376). -/
def State.clearArmed (s : State) : Bool := s.rcd.armed.isSome

/-- A REC_CLEAR descriptor arms a clear, or is refused (R375, R376); a CLEAR record on its way to the CLEAR log has its slot there. -/
def State.armClear (s : State) (n : Fin 8) : State :=
  if s.dev.sealed then s.refuseClear n 1
  else if !s.sealOpen then s.refuseClear n 2
  else if s.rcd.armed.isSome || s.rcd.erase then s.refuseClear n 5
  else if 128 ≤ s.rcd.clogUsed + s.rcd.clears.length + s.rcd.confirmed.length then s.refuseClear n 6
  else s.updRcd fun r => { r with armed := some n, armedLive := true }

/-- The accepted confirmation of a clear (R362, R377): no clear is armed any more, and its CLEAR record takes its place among those of its
fabric clock, which are all written in it, unless the recorder holds its records back. -/
def State.confirmClear (s : State) : State :=
  let s := s.updRcd fun r =>
    { r with
      queue := insertRec ⟨8, 0, 0, 0, s.fk⟩ r.queue
      confirmed := r.confirmed ++ [r.armedSq], armed := none, armedLive := false }
  s.writeClears s.rcd.queue.length

/-- CLEAR_LAPSE (R376): 10 s without a confirmation. -/
def execClearLapse (s : State) : Host.Outcome State Fault Refusal := .next (s.disarm 4)

/-- The commands that erase the whole ring (R366, R377): every sector of a NOR memory, or 0xFF written to every slot of a FRAM. -/
def State.ringErase (s : State) : List (List Byte) :=
  if s.nvNor then (List.range (s.nvQ / 128)).flatMap fun k => spiErase (slotByte (false, 128 * k))
  else (List.range s.nvQ).flatMap fun k => spiWrite (slotByte (false, k)) (Vector.replicate 32 0xFF)

/-- NV_ERASE_COMPLETE (R377). -/
def execNvEraseComplete (s : State) : Host.Outcome State Fault Refusal :=
  if s.rcd.erase then .next (s.updRcd fun r => { r with erase := false, nv := [], spi := s.ringErase }) else .next s

/-! ### Gauges (R378 to R380) -/

/-- GAUGE_VALUE (R378, R379, R381): a latency that an armed gauge of KIND 1 to 4, 7 or 8 measures for its IDX and XSEL; above 0xFFF_FFF it
is recorded as 0xFFF_FFF. The
values of the other kinds reach their gauges as they arise (notes/assumptions/62). -/
def execGaugeValue (g : Fin 32) (v : BitVec 36) (s : State) : Host.Outcome State Fault Refusal :=
  let k := bitsAt (s.reg (monReg g 1)) 8 4
  if rng k 1 4 || k = 7 || k = 8 then .next (s.gaugeTake g (BitVec.ofNat 24 (min v.toNat 0xFFFFFF))) else .next s

/-- MON.CMDn.ARM (R380). -/
def State.gaugeArm (s : State) (g : Fin 32) : State := s.updGauge g fun _ => { armed := true }

end Sys2Proof.Machine
end

