-- ==== Sys2Proof/Machine/ShuttleOps.lean ====
section
/-! DEFINITION. Grants (R397 to R401), rings (R402 to R406), mailboxes as every sender reaches them (R92), moderation (R416), and what
the shuttle counts (R419). -/

namespace Sys2Proof.Machine

/-! ### Counting (R418, R419, R423) -/

/-- Interrupt lines 24 to 27 on the engines of SHT.EVTGT (R418). -/
def State.shtLine (s : State) (n : Nat) : State :=
  s.setLines (s.targets (bitsAt (s.reg (shtBase + 2)) 0 2) s.selEngines) n

/-- An event of source 107 with its origin code and offending value (R419). -/
def State.protocolFault (s : State) (cause : BitVec 7) (origin : Nat) (v : Nat) : State :=
  (s.updSht fun x => { x with pecnt := sat12 (x.pecnt.toNat + 1) }).raise 107 cause
    (BitVec.ofNat 24 (origin * 2 ^ 19 + v % 4096))

/-- An event of source 105 (R419). -/
def State.hostFault (s : State) (cause : BitVec 7) (origin : Nat) : State :=
  s.raise 105 cause (BitVec.ofNat 24 (origin * 2 ^ 19))

/-! ### Grants -/

/-- Fields of a handle (R397). -/
def hIndex (h : BitVec 36) : Nat := bitsAt h 27 9
def hGen (h : BitVec 36) : Nat := bitsAt h 20 7
def hCheck (h : BitVec 36) : Nat := bitsAt h 0 20

/-- A handle from three words, low word first. -/
def handleOf (w0 w1 w2 : Word) : BitVec 36 := w2 ++ (w1 ++ w0)

def State.grant (s : State) (i : Nat) : Grant := (s.sht.grants.toList[i]?).getD {}

/-- The handle of an entry (R397, R398). -/
def State.handle (s : State) (i : Nat) (gen : Nat) : BitVec 36 :=
  BitVec.ofNat 36 (i * 2 ^ 27 + gen * 2 ^ 20 + (Config.grantCheck s.sht.key i gen).toNat)

/-- Steps 3 and 4 of R410: `some 1` a check mismatch, `some 2` a generation mismatch. -/
def State.checkHandle (s : State) (h : BitVec 36) : Option Nat :=
  if hCheck h ≠ (Config.grantCheck s.sht.key (hIndex h) (hGen h)).toNat then some 1
  else
    let g := s.grant (hIndex h)
    if g.v && g.gen.toNat = hGen h then none else some 2

/-- A failed grant counts at source 106 (R419, R423). -/
def State.grantFault (s : State) (origin cause : Nat) (h : BitVec 36) : State :=
  (s.updSht fun x =>
    { x with gfcnt := sat12 (x.gfcnt.toNat + 1), gfh := h, gfsq := fld 4 origin ||| fld 0 cause }).raise 106 (BitVec.ofNat 7 cause)
    (BitVec.ofNat 24 (origin * 2 ^ 19 + hIndex h))

/-- Kinds of rights (R399): 0 memory, 1 mailbox, 2 gauge, 3 range-free. -/
def rightKind (bit : Nat) : Nat := if bit = 7 || bit = 6 then 0 else if bit = 4 || bit = 0 then 1 else if bit = 1 then 2 else 3

/-- The kind of a set of rights, when it has one. -/
def rightsKind (r : BitVec 8) : Option Nat :=
  let ks := ((List.range 8).filter fun i => r.getLsbD i).map rightKind
  match ks with
  | [] => none
  | k :: rest => if rest.all fun j => j = k then some k else none

/-- Limit of BASE + LEN by kind (R400). -/
def kindLimit (k : Nat) : Nat := match k with
  | 0 => 2 ^ 24
  | 1 => 256
  | _ => 32

def gpReg (e : Eng) (k : Nat) : Nat := shtBase + 0x400 + 16 * e.val + k

/-- The free entry CREATE takes (R400). -/
def State.freeGrant (s : State) : Option (Fin 512) :=
  (List.finRange 512).find? fun i => let g := s.sht.grants[i.val]; !g.v && !g.ret

def State.gpOutcome (s : State) (e : Eng) (w : Word) : State :=
  s.updSht fun x => { x with gpst := x.gpst.set e.val w e.isLt }

/-- A refused grant command: its reason (R400). -/
def State.gpRefuse (s : State) (e : Eng) (reason : Nat) : State := s.gpOutcome e (0xC00 ||| BitVec.ofNat 12 reason)

/-- SHT.GPCMDe.CREATE (R400). -/
def State.gpCreate (s : State) (e : Eng) : State :=
  let rights : BitVec 8 := (s.reg (gpReg e 4)).setWidth 8
  let base := s.reg2 (gpReg e 0)
  let len := s.reg2 (gpReg e 2)
  if rights = 0 then s.gpRefuse e 1
  else match rightsKind rights with
  | none => s.gpRefuse e 2
  | some k =>
    if rights.getLsbD 2 && !s.isSel e then s.gpRefuse e 3
    else if k ≠ 3 && (len = 0 || decide (kindLimit k < base.toNat + len.toNat)) then s.gpRefuse e 4
    else match s.freeGrant with
    | none => s.gpRefuse e 5
    | some i =>
      let gen := (s.sht.grants[i.val]).gen
      let s := s.updSht fun x =>
        { x with
          grants := upd x.grants i fun g =>
            { g with v := true, rights := rights, owner := BitVec.ofNat 6 e.val
                     base := if k = 3 then 0 else base, len := if k = 3 then 0 else len }
          gph := x.gph.set e.val (s.handle i.val gen.toNat) e.isLt }
      s.gpOutcome e (0x800 ||| BitVec.ofNat 12 i.val)

/-- SHT.GPCMDe.REVOKE (R401). -/
def State.gpRevoke (s : State) (e : Eng) : State :=
  let i : Fin 512 := ⟨bitsAt (s.reg (gpReg e 5)) 0 9 % 512, by omega⟩
  if !(s.sht.grants[i.val]).v then s.gpRefuse e 6
  else
    let s := s.updSht fun x =>
      { x with grants := upd x.grants i fun g =>
          if g.gen = 127 then { g with v := false, ret := true } else { g with v := false, gen := g.gen + 1 } }
    s.gpOutcome e (0x800 ||| BitVec.ofNat 12 i.val)

/-- A grant command with both bits, one, or none (R400). -/
def State.gpCommand (s : State) (e : Eng) (v : Word) : State :=
  if v.getLsbD 0 && v.getLsbD 1 then s.gpRefuse e 7
  else if v.getLsbD 0 then s.gpCreate e
  else if v.getLsbD 1 then s.gpRevoke e
  else s

/-- The entry's range covers [lo, lo + n) and it holds the right (R410 step 6). -/
def Grant.covers (g : Grant) (right lo n : Nat) : Bool :=
  g.rights.getLsbD right &&
    (rightKind right = 3 || (decide (g.base.toNat ≤ lo) && decide (lo + n ≤ g.base.toNat + g.len.toNat)))

/-! ### Rings -/

/-- A 64-bit base in five registers from `r`: address [23:12], [35:24], [47:36], [59:48] and [63:60] (R423, R424). -/
def State.base64 (s : State) (r : Nat) : Nat :=
  s.regN r * 2 ^ 12 + s.regN (r + 1) * 2 ^ 24 + s.regN (r + 2) * 2 ^ 36 + s.regN (r + 3) * 2 ^ 48 + s.regN (r + 4) * 2 ^ 60

/-- The shuttle sends a memory read to the host. -/
def State.askHost (s : State) (a n : Nat) : State := s.updSht fun x => { x with hostIn := [(a, n)] }

def sqReg (n : Fin 8) (k : Nat) : Nat := shtBase + 0x100 + 32 * n.val + k
def cqReg (n : Fin 8) (k : Nat) : Nat := shtBase + 0x200 + 32 * n.val + k
/-- Host byte address of entry i of a submission and of a completion ring (R402). -/
def State.sqEntry (s : State) (n : Fin 8) (i : Nat) : Nat := s.base64 (sqReg n 0) + 64 * i
def State.cqEntry (s : State) (n : Fin 8) (i : Nat) : Nat := s.base64 (cqReg n 0) + 16 * i
def State.sq (s : State) (n : Fin 8) : Sq := s.sht.sq[n.val]
def State.cq (s : State) (n : Fin 8) : Cq := s.sht.cq[n.val]
def State.updSq (s : State) (n : Fin 8) (f : Sq → Sq) : State := s.updSht fun x => { x with sq := upd x.sq n f }
def State.updCq (s : State) (n : Fin 8) (f : Cq → Cq) : State := s.updSht fun x => { x with cq := upd x.cq n f }
def State.sqSize (s : State) (n : Fin 8) : Nat := s.regN (sqReg n 5) + 1
def State.cqSize (s : State) (n : Fin 8) : Nat := s.regN (cqReg n 5) + 1
/-- The CQ an SQ is bound to. -/
def State.sqCq (s : State) (n : Fin 8) : Fin 8 := ⟨bitsAt (s.reg (sqReg n 6)) 0 3 % 8, by omega⟩
/-- The ring grant of an SQ. -/
def State.sqGrant (s : State) (n : Fin 8) : BitVec 36 := handleOf (s.reg (sqReg n 7)) (s.reg (sqReg n 8)) (s.reg (sqReg n 9))
/-- The ring grant passes its checks and holds RING (R403, R405). -/
def State.sqGrantOk (s : State) (n : Fin 8) : Bool :=
  s.checkHandle (s.sqGrant n) = none && (s.grant (hIndex (s.sqGrant n))).rights.getLsbD 5
/-- SQST.RUN: fetching or executing. -/
def State.sqRun (s : State) (n : Fin 8) : Bool :=
  let q := s.sq n
  q.exec.isSome || (q.en && !q.quar && !q.stopped && !(s.cq (s.sqCq n)).err && !s.sht.iso)

/-- Entries of a CQ written and not yet released, and reserved (R405). -/
def State.cqUsed (s : State) (c : Fin 8) : Nat :=
  let q := s.cq c
  let n := s.cqSize c
  (q.tail.toNat + n - q.head.toNat % n) % n +
    ((List.finRange 8).filter fun m => s.sqCq m = c && (s.sq m).exec.isSome).length
/-- An unreserved free slot (R405). -/
def State.cqFree (s : State) (c : Fin 8) : Bool := s.cqUsed c < s.cqSize c - 1

/-- Enabling an SQ (R403). -/
def State.sqEnableOp (s : State) (n : Fin 8) : State :=
  if (s.sq n).en then s
  else if !(s.cq (s.sqCq n)).en then s.updSq n fun q => { q with cqoff := true, rge := false }
  else match s.checkHandle (s.sqGrant n) with
  | some c => (s.updSq n fun q => { q with rge := true, cqoff := false }).grantFault n.val c (s.sqGrant n)
  | none =>
    if !s.sqGrantOk n then s.updSq n fun q => { q with rge := true, cqoff := false }
    else
      (s.updSq n fun q =>
        { q with en := true, head := 0, tail := 0, qc := 0, quar := false, rge := false, cqoff := false, stopped := false }).shtLine 26

/-- Disabling an SQ (R403). -/
def State.sqDisableOp (s : State) (n : Fin 8) : State :=
  if (s.sq n).en then (s.updSq n fun q => { q with en := false }).shtLine 26 else s

/-- Lifting a quarantine (R421). -/
def State.sqUnq (s : State) (n : Fin 8) : State := s.updSq n fun q => { q with quar := false, qc := 0 }

/-- SHT.CQMODn.CTHR. -/
def State.cqThr (s : State) (n : Fin 8) : Nat := bitsAt (s.reg (cqReg n 7)) 0 8

/-- Enabling a CQ (R403). -/
def State.cqEnableOp (s : State) (n : Fin 8) : State :=
  if (s.cq n).en then s
  else (s.updCq n fun _ => { en := true, phase := true, thr := BitVec.ofNat 8 (s.cqThr n) }).shtLine 26

/-- A CQ may be disabled (R403). -/
def State.cqIdle (s : State) (n : Fin 8) : Bool := (List.finRange 8).all fun m => !(s.sqCq m = n && (s.sq m).en)
def State.cqDisableOp (s : State) (n : Fin 8) : State :=
  if (s.cq n).en then (s.updCq n fun q => { q with en := false, timer := false }).shtLine 26 else s

/-- The message of a CQ (R416): PD and the timer start again. -/
def State.cqMessage (s : State) (n : Fin 8) : State :=
  (s.updCq n fun q => { q with pd := 0, timer := false }).msix ((s.reg (cqReg n 6)).setWidth 5)
def State.cqIen (s : State) (n : Fin 8) : Bool := s.regB (cqReg n 6) 11

/-- The function can send requests: in L0, out of D3hot, with Bus Master Enable (R389, R420). -/
def State.canSend (s : State) : Bool := s.sht.lup && s.sht.bme && !s.sht.d3 && !s.sht.prst

/-- BAR requests reach the shuttle (R390). -/
def State.hostOk (s : State) : Bool := s.sht.ready && !s.sht.prst

/-- The host window works (R395). -/
def State.windowOk (s : State) : Bool := s.regB (shtBase + 0x15) 0 && s.sht.bme && !s.sht.d3 && !s.sht.prst

/-! ### Mailboxes (R92) -/

/-- Engine and mailbox of an index 4e + b. -/
def mailEng (i : BitVec 8) : Eng := ⟨i.toNat / 4, by omega⟩
def mailBox (i : BitVec 8) : Fin 4 := ⟨i.toNat % 4, by omega⟩

/-! ### Resets of the rings (R390, R391) -/

/-- A descriptor in execution is abandoned: its TAG and progress remain (R391, R424). -/
def Sq.abandon (q : Sq) : Sq :=
  match q.exec with
  | some x => { abt := true, at_ := x.d.tag.setWidth 12, ap := BitVec.ofNat 24 x.prog }
  | none => {}

/-- Ring registers, SHT.HWBA and SHT.HWCTL return to their reset values and every ring is disabled; a clear that an abandoned descriptor
armed
stays armed, with no completion to come (R375, R390, R391). -/
def State.resetRings (s : State) : State :=
  let s := { s with regs := s.regs.filter fun p => !rng p.1 (shtBase + 0x10) (shtBase + 0x2FF) }
  (s.updSht fun x => { x with sq := vmap (fun _ q => q.abandon) x.sq, cq := Vector.replicate 8 {}, served := 7 }).updRcd
    Recorder.orphan

end Sys2Proof.Machine
end

