-- ==== Sys2Proof/Machine/Chain.lean ====
section
/-! DEFINITION. The Jarsyn ports (R427 to R446): trip frames and their vote, the dedupe cache, arm records, confirms and their hold,
and the other frames with their acknowledgement. -/

namespace Sys2Proof.Machine

/-- Source 110 + p (R444). -/
def portSrc (p : Port) : Fin 160 := ⟨110 + p.val, by have := p.isLt; omega⟩

/-- Line 28 on the engines of JSN.CFG.ITGT (R436). -/
def State.chainLine (s : State) : State := s.setLines (s.targets (bitsAt (s.reg (jsnBase + 1)) 2 2) s.selEngines) 28

/-- The port receives: enabled, in sync, not isolated, and SOLO is clear (R428, R429, R444, R445). -/
def State.receives (s : State) (p : Port) : Bool := s.portEn p.val && (s.jport p).sync && !(s.jport p).iso && !s.solo

/-! ### The dedupe cache (R433) -/

/-- The cache holds the key. -/
def State.seen (s : State) (d : Dedupe) : Bool :=
  s.jsn.dedupe.any fun k => k.trip = d.trip && k.kind = d.kind && k.origin = d.origin && k.line = d.line && k.seq = d.seq

/-- A key enters the cache; a full cache replaces its oldest entry. -/
def State.enterCache (s : State) (d : Dedupe) : State :=
  s.updJsn fun x => { x with dedupe := (if 32 ≤ x.dedupe.length then x.dedupe.drop 1 else x.dedupe) ++ [d] }

/-- DEDUPE_EXPIRY (R433): the oldest entry expires. -/
def execDedupeExpiry (s : State) : Host.Outcome State Fault Refusal :=
  .next (s.updJsn fun x => { x with dedupe := x.dedupe.drop 1 })

/-! ### Trip frames (R432 to R436) -/

/-- The vote over the copies received (R432): the accepted copy, and whether a copy was outvoted. -/
def tripVote (c1 c2 c3 : Option TripCopy) : Option (TripCopy × Bool) :=
  match c1, c2, c3 with
  | some a, some b, c =>
    if a = b then some (a, false)
    else match c with
      | some d => if d = a || d = b then some (d, true) else none
      | none => none
  | some a, none, some d => if a = d then some (a, true) else none
  | none, some b, some d => if b = d then some (b, true) else none
  | _, _, _ => none

/-- The arm record of a frame. -/
def Jarsyn.armOf (x : Jarsyn) (f : TripCopy) : Bool := x.arms.any fun a => a.origin = f.origin && a.line = f.line && a.seq = f.seq
def Jarsyn.closeArm (x : Jarsyn) (f : TripCopy) : Jarsyn :=
  { x with arms := x.arms.filter fun a => !(a.origin = f.origin && a.line = f.line && a.seq = f.seq) }

/-- A line as a bit. -/
def lineBit (n : Nat) : BitVec 24 := BitVec.ofNat 24 (2 ^ n)

/-- What an accepted frame does here (R436). A confirm with no open record is a fresh trip, but for the repeat of one that holds its line
already (R435). -/
def State.tripAct (s : State) (p : Port) (f : TripCopy) : State :=
  if f.kind = kAdv then
    s.updJsn fun x =>
      let full := decide (8 ≤ x.arms.length)
      { x with arms := (if full then x.arms.drop 1 else x.arms) ++ [⟨p, f.origin, f.line, f.seq⟩]
               adrop := if full then sat12 (x.adrop.toNat + 1) else x.adrop }
  else if f.kind = kCfm then
    s.updJsn fun x =>
      let again := x.confirms.contains (f.origin, f.line, f.seq)
      let fresh := !x.armOf f && !again
      { x.closeArm f with held := x.held ||| lineBit f.line.toNat
                          confirms := if again then x.confirms else x.confirms ++ [(f.origin, f.line, f.seq)]
                          fresh := if fresh then sat12 (x.fresh.toNat + 1) else x.fresh }
  else s.updJsn fun x => x.closeArm f

/-- A trip frame of one kind arrives as up to three copies (R432, R433). A cancel without an arm record is only forwarded (R436). -/
def State.receiveTrip (s : State) (kind : BitVec 2) (p : Port) (c1 c2 c3 : Option TripCopy) : State :=
  if !s.receives p then s
  else match tripVote c1 c2 c3 with
  | none => s.raise (portSrc p) 0x02 0
  | some (f, outvoted) =>
    let s := if outvoted then s.raise (portSrc p) 0x03 0 else s
    let d : Dedupe := ⟨true, f.kind.setWidth 4, f.origin, f.line, f.seq, s.fk⟩
    if f.kind ≠ kind || decide (23 < f.line.toNat) || f.origin = s.jsnId || s.seen d then s
    else
      let t := (s.enterCache d).tripAct p f
      let t := if f.kind = kCxl && !s.jsn.armOf f then t else t.chainLine
      (t.floodTrip f (some p)).fabric

/-- TRIP_ADV (R436). -/
def execTripAdv (p : Port) (c1 c2 c3 : Option TripCopy) (s : State) : Host.Outcome State Fault Refusal :=
  .next (s.receiveTrip kAdv p c1 c2 c3)

/-- TRIP_CFM (R436). -/
def execTripCfm (p : Port) (c1 c2 c3 : Option TripCopy) (s : State) : Host.Outcome State Fault Refusal :=
  .next (s.receiveTrip kCfm p c1 c2 c3)

/-- TRIP_CXL (R436). -/
def execTripCxl (p : Port) (c1 c2 c3 : Option TripCopy) (s : State) : Host.Outcome State Fault Refusal :=
  .next (s.receiveTrip kCxl p c1 c2 c3)

/-- CONFIRM_REPEAT (R435): the origin's line is still asserted. -/
def execConfirmRepeat (n : Fin 24) (s : State) : Host.Outcome State Fault Refusal :=
  let l := s.local_ n
  if l.cfm && s.trip.asserted.getLsbD n.val && s.regB (lineReg n.val 9) 8 && !s.solo then
    .next (s.floodTrip ⟨kCfm, BitVec.ofNat 5 n.val, s.jsnId, l.seq⟩ none)
  else .next s

/-- ARM_LAPSE (R436): the timer of an arm record ends. -/
def execArmLapse (i : Fin 8) (s : State) : Host.Outcome State Fault Refusal :=
  match s.jsn.arms[i.val]? with
  | none => .next s
  | some a =>
    let s := s.updJsn fun x => { x with arms := x.arms.eraseIdx i.val }
    .next (s.chainLine.raise (portSrc a.port) 0x04 (BitVec.ofNat 24 (a.origin.toNat * 2 ^ 12 + a.line.toNat)))

/-- CHAIN_HOLD_EXPIRY (R436): CHOLD ms without a confirm of the line. -/
def execChainHoldExpiry (n : Fin 24) (s : State) : Host.Outcome State Fault Refusal :=
  if s.jsn.held.getLsbD n.val then
    .next (s.updJsn fun x =>
      { x with held := x.held &&& ~~~lineBit n.val, confirms := x.confirms.filter fun c => c.2.1.toNat ≠ n.val }).fabric
  else .next s

/-! ### Synchronisation (R429, R444) -/

/-- SYNC_ACQUIRE (R429). -/
def execSyncAcquire (p : Port) (s : State) : Host.Outcome State Fault Refusal :=
  if s.portEn p.val then .next (s.updPort p fun x => { x with sync := true }).fabric else .next s

/-- SYNC_LOSS (R428, R429, R444): counted as a ring break on J0 and J1 of a ring. -/
def execSyncLoss (p : Port) (s : State) : Host.Outcome State Fault Refusal :=
  if s.portEn p.val && (s.jport p).sync then
    let ring := bitsAt (s.reg (jsnBase + 1)) 10 2 = 1 && decide (p.val < 2)
    .next (((s.updPort p fun x => { x with sync := false }).raise (portSrc p) (if ring then 0x05 else 0x01) 0).fabric)
  else .next s

/-! ### Other frames (R438 to R441) -/

/-- One bit of the CRC-16 (R438), and a byte, most significant bit first. -/
def crc16Bit (c : BitVec 16) (b : Bool) : BitVec 16 := if Bool.xor (c.getLsbD 15) b then (c <<< 1) ^^^ 0x1021 else c <<< 1
def crc16Byte (c : BitVec 16) (b : Byte) : BitVec 16 := (List.range 8).foldl (fun c i => crc16Bit c (b.getLsbD (7 - i))) c
def crc16 (bs : List Byte) : BitVec 16 := bs.foldl crc16Byte 0xFFFF

/-- The two bytes of a device id or a count, [15:12] = 0 (R438; low byte first: DEDUCED, notes/assumptions/62). -/
def wordBytes (v : Word) : List Byte := [v.setWidth 8, (v >>> 8).setWidth 8]

/-- Payload words as bytes, with a zero word added when their number is odd (R367, R438). -/
def payloadBytes (ws : List Word) : List Byte := packBytes (if ws.length % 2 = 1 then ws ++ [0] else ws)

/-- Bytes 1 up to the last payload byte of a frame; an ACK has byte 1 alone (R438). -/
def frameBytes (typ lseq : BitVec 4) (src fseq : Word) (ws : List Word) : List Byte :=
  (typ ++ lseq) :: (wordBytes src ++ wordBytes fseq ++ [BitVec.ofNat 8 ws.length] ++ payloadBytes ws)
def ackBytes (lseq : BitVec 4) : List Byte := [(7 : BitVec 4) ++ lseq]

/-- The symbols of a frame with these bytes: K27.7, the bytes, the CRC-16 high byte first, and K29.7 (R429, R438). -/
def frameSymbols (bs : List Byte) : List Symbol :=
  let c := crc16 bs
  .ctrl 0xFB :: (bs.map Symbol.data ++ [.data ((c >>> 8).setWidth 8), .data (c.setWidth 8), .ctrl 0xFD])

/-- The CRC of a received frame is good (R438, R439). -/
def frameGood (typ : BitVec 4) (f : Frame) : Bool := f.crc = crc16 (frameBytes typ f.lseq f.src f.fseq f.words)

/-- The frame at the head of the port's queue goes out, with the port's LSEQ (R439). -/
def JPort.sendHead (x : JPort) : JPort :=
  match x.txq with
  | f :: _ => { x with sent := x.sent ++ [frameSymbols (frameBytes f.typ x.lseq f.src f.fseq f.words)] }
  | [] => x

/-- A frame joins the port's queue, and goes out at once when no other does. -/
def JPort.queue (x : JPort) (f : TxFrame) : JPort :=
  let y := { x with txq := x.txq ++ [f] }
  if x.txq.isEmpty then y.sendHead else y

/-- Every frame of the port is dropped; the one in transmission has used its LSEQ (R439). -/
def JPort.dropAll (x : JPort) : JPort :=
  { x with txq := [], resends := 0, lseq := if x.txq.isEmpty then x.lseq else x.lseq + 1 }

/-- A frame waits at every enabled port that is in sync and not isolated, except the port of arrival (R440). -/
def State.floodFrame (s : State) (f : TxFrame) (arrival : Option Port) : State :=
  (List.finRange 3).foldl (fun (s : State) p =>
    if s.portEn p.val && (s.jport p).sync && !(s.jport p).iso && arrival ≠ some p then
      s.updPort p fun x => x.queue f
    else s) s

/-- TXST.BUSY as the ports stand (R441). -/
def Jarsyn.settle (x : Jarsyn) : Jarsyn := { x with busy := x.port.toList.any fun p => p.txq.any TxFrame.own }

/-- A received frame up to its acknowledgement and the cache (R439, R440): `none` when it goes no further. -/
def State.receiveFrame (s : State) (p : Port) (typ : BitVec 4) (f : Frame) : State × Bool :=
  if !s.receives p || !frameGood typ f then (s, false)
  else
    let again := (s.jport p).rxSeq = some f.lseq
    let s := s.updPort p fun x =>
      { x with rxSeq := some f.lseq, acked := some f.lseq, sent := x.sent ++ [frameSymbols (ackBytes f.lseq)] }
    let d : Dedupe := ⟨false, typ, f.src, 0, f.fseq, s.fk⟩
    if again || f.src = s.jsnId || s.seen d then (s, false) else (s.enterCache d, true)

/-- The first four words of a payload. -/
def four (ws : List Word) : Vector Word 4 := tab 4 fun i => (ws[i]?).getD 0

/-- BUDGET (R440). -/
def execBudget (p : Port) (f : Frame) (s : State) : Host.Outcome State Fault Refusal :=
  let r := s.receiveFrame p 4 f
  if r.2 && f.words.length = 4 then
    .next ((r.1.updJsn fun x => { x with rbud := four f.words, rbsrc := f.src }).chainLine.floodFrame
      ⟨4, f.src, f.fseq, f.words, false⟩ (some p))
  else .next r.1

/-- EPOCH (R440). -/
def execEpoch (p : Port) (f : Frame) (s : State) : Host.Outcome State Fault Refusal :=
  let r := s.receiveFrame p 5 f
  if r.2 && f.words.length = 4 then
    .next ((r.1.updJsn fun x => { x with repo := four f.words, resrc := f.src }).chainLine.floodFrame
      ⟨5, f.src, f.fseq, f.words, false⟩ (some p))
  else .next r.1

/-- Mail at its destination (R440): the grant, the CHAIN right over the mailbox, then the words in order. -/
def State.takeMail (s : State) (p : Port) (ws : List Word) : State :=
  let w := fun (k : Nat) => (ws[k]?).getD 0
  let h := handleOf (w 0) (w 1) (w 2)
  let i : BitVec 8 := (w 4).setWidth 8
  match s.checkHandle h with
  | some c => s.grantFault 0x11 c h
  | none =>
    if !(s.grant (hIndex h)).covers 0 i.toNat 1 then s.grantFault 0x11 3 h
    else
      (ws.drop 5).foldl (fun (s : State) v =>
        match s.mailWord (mailEng i) (mailBox i) true v (fld 10 2 ||| BitVec.ofNat 12 p.val) with
        | some s => s
        | none => s.updJsn fun x => { x with mdrop := sat12 (x.mdrop.toNat + 1) }) s

/-- The frame being sent leaves the port's queue (R439). -/
def JPort.endFrame (x : JPort) : JPort := { x with txq := x.txq.drop 1, resends := 0, lseq := x.lseq + 1 }

/-- The frame being sent leaves the port's queue, and the next goes out (R439). -/
def JPort.popFrame (x : JPort) : JPort := JPort.sendHead x.endFrame

/-- The port sends more than idle: enabled, in sync and not isolated (R428, R429, R444). -/
def State.sends (s : State) (p : Port) : Bool := s.portEn p.val && (s.jport p).sync && !(s.jport p).iso

/-- ACK (R439): an ACK frame with a good CRC that names the frame being sent. -/
def execAck (p : Port) (lseq : BitVec 4) (crc : BitVec 16) (s : State) : Host.Outcome State Fault Refusal :=
  if s.receives p && decide (crc = crc16 (ackBytes lseq)) && (s.jport p).lseq = lseq && !(s.jport p).txq.isEmpty then
    .next ((s.updPort p JPort.popFrame).updJsn Jarsyn.settle)
  else .next s

/-- ACK_TIMEOUT (R428, R429, R439, R444): 600 fk without an ACK at a port that takes part. At one that is out of sync or isolated a resend is
used up and nothing is sent, for it sends idle (DESIGN CHOICE, notes/assumptions/58: R439 does not say whether its timeouts count). -/
def execAckTimeout (p : Port) (s : State) : Host.Outcome State Fault Refusal :=
  match (if s.portEn p.val then (s.jport p).txq else []) with
  | [] => .next s
  | f :: _ =>
    let go := fun (x : JPort) => if s.sends p then x.sendHead else x
    if (s.jport p).resends < 3 then .next (s.updPort p fun x => go { x with resends := x.resends + 1 })
    else
      let s := (s.updPort p fun x => go x.endFrame).updJsn fun x =>
        { x with dropped := if f.own then x.dropped ||| BitVec.ofNat 3 (2 ^ p.val) else x.dropped }
      .next ((s.updJsn Jarsyn.settle).raise (portSrc p) 0x02 0)

/-- N of a frame type (R440). -/
def frameLenOk (typ n : Nat) : Bool := if typ = 6 then rng n 6 21 else (typ = 4 || typ = 5) && n = 4

/-- JSN.TXCTL (R441): the device's own frame, with its SRC and FSEQ; nothing leaves in SOLO (R445). -/
def State.sendFrame (s : State) (typ n : Nat) : State :=
  let ws := (List.range n).map fun k => s.reg (jsnBase + 0x10 + k)
  let f : TxFrame := ⟨BitVec.ofNat 4 typ, s.jsnId, s.jsn.fseq, ws, true⟩
  let s := s.updJsn fun x => { x with fseq := x.fseq + 1, dropped := 0 }
  (if s.solo then s else s.floodFrame f none).updJsn Jarsyn.settle

/-- SOLO becomes set: chain trips end, arm records close without counting, and no frame that waits is sent, then or later (R445, R460). -/
def State.enterSolo (s : State) : State :=
  s.updJsn fun x =>
    Jarsyn.settle { x with held := 0, confirms := [], arms := [], port := vmap (fun _ (p : JPort) => p.dropAll) x.port }

/-- Ports that JSN.CFG has disabled take no part (R428): they are out of sync, and what they had to send is dropped. -/
def State.leavePorts (s : State) : State :=
  s.updJsn fun x =>
    Jarsyn.settle { x with port := vmap (fun i (p : JPort) => if s.portEn i then p else { p.dropAll with sync := false }) x.port }

end Sys2Proof.Machine
end

