-- ==== Sys2Proof/Machine/FrontEnd.lean ====
section
/-! DEFINITION. The commands of the sensing front end, the converters, the metering core and the companion port (R232 to R266), with
the pilot decoder's view of a conversion (R297, R298). -/

namespace Sys2Proof.Machine

/-- The class of a pilot sample (R297): a high or static-low class, a low sample of MODE 0b10, or none. -/
inductive PilotClass where
  | state (k : BitVec 3)
  | low (good : Bool)
  | none
deriving DecidableEq, Repr

/-- The level that CP_PWM's output register held from 10 µs before a sample window to its end, the window having begun 300 fk ago and
lasted 60 fk; none where it changed in that time (R242, R297). -/
def State.pilotSteady (s : State) : Option Bool :=
  let p := s.trip.pilot
  let after := p.changes.filter fun t => decide (s.fk ≤ t + 240)
  if p.changes.all fun t => decide (s.fk ≤ t + 240) || decide (t + 3300 ≤ s.fk) then
    some (if after.length % 2 = 0 then p.level else !p.level)
  else none

/-- The class of a code whose sample window began 300 fk ago (R297). -/
def State.pilotClass (s : State) (code : Word) : PilotClass :=
  let p := s.trip.pilot
  let c := code.toNat
  let th := fun k => s.regN (trf (0x44D + k))
  let inLow := decide (th 5 ≤ c) && decide (c ≤ th 6)
  match s.pilotSteady with
  | none => .none
  | some true =>
    .state (if th 0 ≤ c then 0 else if th 1 ≤ c then 1 else if th 2 ≤ c then 2 else if th 3 ≤ c then 3
      else if th 4 ≤ c then 4 else 6)
  | some false =>
    match bitsAt p.cfg 10 2 with
    | 0 => .state (if inLow then 5 else 6)
    | 2 => .low inLow
    | _ => .none

/-- The decoder takes a class (R298): low-bad samples are counted through changes among the states B, C and D. PDP low-good samples clear
DIODE in every state, also where the diode check is not made (DESIGN CHOICE, notes/assumptions/58: R298 leaves it open). -/
def Pilot.take (p : Pilot) (pdp : Nat) : PilotClass → Pilot
  | .none => p
  | .state k =>
    let n := if k = p.state then 0 else if k = p.cand then p.candCnt + 1 else 1
    let p := { p with stale := false, cand := k, candCnt := n }
    if pdp ≤ n then { p with state := k, candCnt := 0, badCnt := if rng k.toNat 1 3 then p.badCnt else 0 } else p
  | .low good =>
    if good then
      let n := p.goodCnt + 1
      { p with stale := false, badCnt := 0, goodCnt := n, diode := p.diode && decide (n < pdp) }
    else
      let n := if rng p.state.toNat 1 3 then p.badCnt + 1 else 0
      { p with stale := false, goodCnt := 0, badCnt := n, diode := p.diode || (decide (pdp ≤ n) && decide (0 < n)) }

/-- A conversion of AIN0 by the decoder's converter is classified (R297, R298). -/
def State.pilotSample (s : State) (adb : Bool) (inp : Nat) (code : Word) : State :=
  let cfg := s.reg (trf 0x44C)
  if inp = 0 && cfg.getLsbD 8 = adb then
    let k := s.pilotClass code
    s.updTrip fun x => { x with pilot := x.pilot.take (bitsAt cfg 0 8) k }
  else s

/-- A valid path delivers a result of its interval number `num`: to its bobbin, to the meters, to the gauges, and to the over-range check
(R239,
R240, R245, R253, R378). -/
def State.deliverResult (s : State) (n : Chan) (fast : Bool) (num : Nat) (x : DWord) : State :=
  let s := s.updChan n fun c => c.setPath fast { c.path fast with value := x, fresh := true }
  let s :=
    if fast then s
    else
      let ovr := s.overRange n x
      let was := (s.chan n).ovr
      let s := s.updChan n fun c => { c with ovr := ovr }
      if ovr && !was then s.raise (groupSrc (groupOf n)) (BitVec.ofNat 7 (0x20 + n.val % 4)) 0 else s
  let v := if fast then x <<< 12 else x
  let s := s.gaugeFeed (if fast then 0xA else 9) n.val none v
  let s := if s.bobFast n = fast then s.bobDeliver n v else s
  if fast then s else (s.meterResult 0 n num x).meterResult 1 n num x

/-- DECIMATION_INTERVAL_END (R229, R234 to R240, R245, R253, R256): the interval's bits of one channel and path enter its filter; a
valid path delivers the result, and after a precise interval the meters' copies are voted. -/
def execDecimationIntervalEnd (n : Chan) (fast : Bool) (bits : List Bool) (f0 f1 : CopyFault) (s : State) :
    Host.Outcome State Fault Refusal :=
  let g := groupOf n
  let k := s.pathK n fast
  let p := (s.chan n).path fast
  if !(s.inRun && s.pathEn n fast && s.regB (groupReg g.val) 11 && !(s.groupAt g).lost && p.bitsOk k bits && s.endDue n fast) then .next s
  else
    let r := p.interval fast k bits
    let m0 := s.meter 0
    let m1 := s.meter 1
    let s := (s.updChan n fun c => c.setPath fast r.1).refreshGaps
    let s := match (if s.pathValid n fast then r.2 else none) with
      | some x => s.deliverResult n fast r.1.ends x
      | none => s
    .next (if fast then s else (s.meterVote 0 n m0 f0).meterVote 1 n m1 f1).fabric

/-- METER_GAP_MS (R255): a whole millisecond of fabric time ends. -/
def execMeterGapMs (s : State) : Host.Outcome State Fault Refusal :=
  if s.inRun then .next ((s.meterMs 0).meterMs 1) else .next s

/-- GROUP_CLOCK_LOST (R240): the group's channels become invalid, counted once. -/
def execGroupClockLost (g : Fin 12) (s : State) : Host.Outcome State Fault Refusal :=
  if s.inRun && s.regB (groupReg g.val) 11 && !(s.groupAt g).lost then
    let s := { s with groups := upd s.groups g fun x => { x with lost := true } }
    .next (s.refreshGaps.raise (groupSrc g) 0x01 0).fabric
  else .next s

/-- The edge count of a device-driven group whose clock resumes: that of the groups with which its edges coincide (R233; DESIGN CHOICE,
notes/assumptions/58: the edges of a lost clock are not seen, and the spec does not say whether they count). Another group's count
stands. -/
def State.resumeCount (s : State) (g : Fin 12) : Nat :=
  let same := fun (h : Fin 12) => s.sdcDriven h && bitsAt (s.reg (groupReg h.val)) 0 6 = bitsAt (s.reg (groupReg g.val)) 0 6
  if s.sdcDriven g then ((List.finRange 12).filter same).foldl (fun m h => max m (s.groupEdges h)) 0 else 0

/-- GROUP_CLOCK_RESUME (R234, R240): the filters of the group's channels restart. -/
def execGroupClockResume (g : Fin 12) (s : State) : Host.Outcome State Fault Refusal :=
  if s.inRun && (s.groupAt g).lost then
    let count := s.resumeCount g
    let at_ := fun (i : Nat) (c : Channel) (fast : Bool) =>
      c.setPath fast { c.path fast with ends := max (c.path fast).ends (count / 2 ^ s.pathK ⟨i % 48, Nat.mod_lt _ (by decide)⟩ fast) }
    let s := { s with
      groups := upd s.groups g fun x => { x with lost := false }
      chans := vmap (fun i (c : Channel) => if i / 4 = g.val then (at_ i (at_ i c false) true).restart else c) s.chans }
    .next s.refreshGaps.fabric
  else .next s

/-- STUCK_BITSTREAM (R240): the channel becomes invalid, counted once. -/
def execStuckBitstream (n : Chan) (s : State) : Host.Outcome State Fault Refusal :=
  let g := groupOf n
  if s.inRun && s.regB (groupReg g.val) 11 && !(s.groupAt g).lost && !(s.chan n).stuck then
    let s := s.updChan n fun c => { c with stuck := true }
    .next (s.refreshGaps.raise (groupSrc g) (BitVec.ofNat 7 (0x10 + n.val % 4)) 0).fabric
  else .next s

/-- BITSTREAM_TRANSITION (R234, R240): a stuck channel restarts. -/
def execBitstreamTransition (n : Chan) (s : State) : Host.Outcome State Fault Refusal :=
  if (s.chan n).stuck then .next (s.updChan n fun (c : Channel) => { Channel.restart c with stuck := false }).refreshGaps.fabric else .next s

/-- CONVERSION_SLOT_END (R242 to R244, R378): the code of ADA's or ADB's slot, or a conversion that did not complete. ADA's slot of
a common tick ends first, and each converter counts its own slots (DESIGN CHOICE, notes/assumptions/62: R243 aligns them no further). A
converter whose enable is cleared and set again goes on at the slot where it stood (DESIGN CHOICE, notes/assumptions/58: R242 does not say).
A pair is two codes of one slot of the sequence (R243). -/
def execConversionSlotEnd (adb : Bool) (code : Word) (done : Bool) (s : State) : Host.Outcome State Fault Refusal :=
  let a := s.adc
  let on := if adb then s.regB adcBase 10 && !a.isoB else s.regB adcBase 11 && !a.isoA
  if !on then .next s
  else
    let k := if adb then a.slotB else a.slotA
    let q := s.adcSlot adb k
    let src : Fin 160 := if adb then 97 else 96
    let next := if k + 1 < q.2.2 then k + 1 else 0
    let inp : Fin 16 := ⟨q.2.1 % 16, by omega⟩
    let isRef := q.2.1 = 16
    let s := s.updAdc fun a =>
      if adb then { a with slotB := next, badB := if isRef then a.badB else upd a.badB inp fun _ => !done }
      else { a with slotA := next, badA := (if isRef then a.badA else upd a.badA inp fun _ => !done),
                    pairA := if q.1 && done then some (k, code) else none }
    if !done then .next (s.raise src 0x01 0).fabric
    else
      let s := s.updAdc fun a =>
        if adb then
          { a with cntB := a.cntB + 1
                   rb := if isRef then a.rb else upd a.rb inp fun _ => code
                   rrefB := if isRef then code else a.rrefB }
        else
          { a with cntA := a.cntA + 1
                   ra := if isRef then a.ra else upd a.ra inp fun _ => code
                   rrefA := if isRef then code else a.rrefA }
      let s := s.gaugeFeed 0xB q.2.1 (some (bit1 adb)) (code.setWidth 24)
      let s := if isRef && (code.toNat < 2032 || 2064 < code.toNat) then s.raise src 0x02 0 else s
      let s := if isRef then s else (s.pilotSample adb q.2.1 code).fabricFrom s
      if adb && q.1 then
        match a.pairA with
        | some (j, c) =>
          if j ≠ k then .next s else
          let diff := if c.toNat ≤ code.toNat then code.toNat - c.toNat else c.toNat - code.toNat
          let s := s.updAdc fun a => { a with pairA := none }
          .next (if bitsAt (s.reg (adcBase + 1)) 0 8 < diff then s.raise 96 0x03 0 else s)
        | none => .next s
      else .next s

/-- The write that waits for one copy of a bobbin is the next of its group to reach the cluster (R229). -/
def State.bobTurn (s : State) (n : Chan) (second : Bool) (w : BobWrite) : Bool :=
  (List.finRange 48).all fun m => decide (groupOf m ≠ groupOf n) || [false, true].all fun k =>
    decide (s.bobCluster m k ≠ s.bobCluster n second) ||
      (((if k then (s.chan m).queue1 else (s.chan m).queue0).head?).map fun u => decide (w.issue ≤ u.issue)).getD true

/-- A bobbin write to a channel that a cursor of a gated cluster is attached to is a wake event (R457). -/
def State.wokenBy (s : State) (n : Chan) (c : Clu) : State :=
  if (s.clu c).gated && engList.any fun e => e.cluster = c && thrList.any fun t => (s.thr e t).smp.chan = some n then
    s.updClu c fun x => { x with woken := true }
  else s

/-- BOBBIN_WRITE (R229, R246, R248): the next write of one copy ends: an aligned double in FULL; in BLOCK8 nine words that cross the weft as
one transfer and are checked one by one at the bank, of which the outcome of a bank's check names word `k`. Where one fails, the slot keeps
its previous contents, its header among them, and the bobbin advances all the same (R248). -/
def execBobbinWrite (n : Chan) (second : Bool) (o : WriteOutcome) (k : Fin 9) (s : State) : Host.Outcome State Fault Refusal :=
  match s.bobCluster n second, (if second then (s.chan n).queue1 else (s.chan n).queue0) with
  | some c, w :: rest =>
    if !s.bobTurn n second w then .next s
    else
      let before := s.bobAvail n c
      let o := if (s.clu c).iso then .errorResponse else o
      let j := k.val % w.words.length
      let at_ := fun (j : Nat) => (BitVec.ofNat 24 (bobAddr c (((w.words[j]?).map Prod.fst).getD 0)) : Addr)
      let store := fun (s : State) (ws : List (Nat × Word)) => ws.foldl (fun s p => s.setMem (bobAddr c (p.1 % 0x4000)) p.2) s
      let fail := fun (s : State) => s.updChan n fun x => { x with berr := true, berrNow := true }
      let s := match o with
        | .ok | .collided | .metRead => store s w.words
        | .resentBank | .resentBankAt _ => (store s w.words).memEvent c 9 .frontEnd 0 0x01 (at_ j) true
        | .resentWeft => (store s w.words).raiseBy (some .frontEnd) 80 0x01 (at_ 0)
        | .bankFail | .bankFailAt _ =>
          (fail s).memEvent c 9 .frontEnd 3 0x04 (at_ j) true
        | .weftFail => (fail s).raiseBy (some .frontEnd) 81 0x02 (at_ 0)
        | .timeout => (fail s).raiseBy (some .frontEnd) 83 0x01 (at_ 0)
        | .errorResponse => (fail s).raiseBy (some .frontEnd) 82 0x01 (at_ 0)
      let s := s.updChan n fun x =>
        if second then { x with queue1 := rest, avail1 := x.avail1 + w.samples }
        else { x with queue0 := rest, avail0 := x.avail0 + w.samples }
      .next ((s.bobAdvance n c before).wokenBy n c)
  | _, _ => .next s

/-- A word of a snapshot is written, unless its transfer is the one that fails. -/
def State.snapStore (s : State) (o : SnapOutcome) (k i : Nat) (v : Word) : State :=
  match o with
  | .failed j => if j.val = k then s else s.setMem (exRam i) v
  | _ => s.setMem (exRam i) v

/-- What the transfers of a snapshot count (R182). -/
def State.snapCount (s : State) (o : SnapOutcome) (buf : Nat) : State :=
  match o with
  | .ok => s
  | .resent => s.raiseBy (some .frontEnd) 80 0x01 (BitVec.ofNat 24 (exRam (0x40 + 0x40 * buf)))
  | .failed k => s.raiseBy (some .frontEnd) 81 0x02 (BitVec.ofNat 24 (exRam (if k.val = 64 then 0 else 0x40 + 0x40 * buf + k.val)))

/-- SNAPSHOT (R182, R261 to R263, R267): SEQ advances and the shadow is committed, the buffer DIR does not name is written with its CHK, DIR
names it, and INT_N goes low. A word whose transfer fails after its resends is not written, and the rest is done all the same (DESIGN
CHOICE, notes/assumptions/58: R263 does not say). -/
def execSnapshot (s : State) (o : SnapOutcome := .ok) : Host.Outcome State Fault Refusal :=
  if !s.inRun then .next s
  else
    let s := s.updMtr fun x =>
      { x with shadow := { x.shadow with seq := x.shadow.seq + 1, acc := vmap (fun _ y => y.acc) x.m } }
    let ws := s.snapshotWords
    let ws := ws ++ wordsOf (crc24 ws).toNat 2
    let buf := if (s.memWord (exRam 0)).getLsbD 11 then 0 else 1
    let s := (ws.zipIdx).foldl (fun (s : State) p => s.snapStore o p.2 (0x40 + 0x40 * buf + p.2) p.1) s
    let s := s.snapStore o 64 0 (flag 11 (buf = 1) ||| BitVec.ofNat 12 (s.mtr.shadow.seq.toNat % 2048))
    .next ((s.snapCount o buf).updMtr fun x =>
      { x with intLow := true, intNow := true
               m := vmap (fun _ y => { y with xSnap := false, gapSnap := y.gap && !y.halted }) x.m })

/-- A companion access begins: it is in progress in this fabric clock, with BUSY_N low where it meets the internal port and one of the two
writes (R188, R273). -/
def State.companionAct (s : State) (c : Collision) (write : Bool) : State :=
  s.updMtr fun x => { x with act := true, reading := !write, busyLow := x.busyLow || c = .withWrite || (write && c = .withRead) }

/-- COMPANION_READ (R187, R188, R260, R265, R266): the word at the port with its parity: of the exchange RAM, the word and its parity bit as
they are stored, counted where they fail, or undefined where the read meets a write of the word. -/
def execCompanionRead (a : BitVec 13) (badParity : Bool) (c : Collision) (s : State) : Host.Outcome State Fault Refusal :=
  let drive := fun (s : State) (v : Word) => s.updMtr fun x => { x with driven := some (v, foldedParity a.toNat v) }
  if !s.cmpOn then .next s
  else
    let i := bitsAt a 0 11
    let s := s.companionAct (if bitsAt a 11 2 = 0 then c else .none) false
    match bitsAt a 11 2 with
    | 0 =>
      if c = .withWrite then
        .next (s.updMtr fun x =>
          { x with driven := some (Config.collidedWord s.free, (Config.collidedWord (s.free + 1)).getLsbD 0) }).takeFree.takeFree
      else
        let s := if badParity then s.spoil (BitVec.ofNat 24 (exRam i)) else s
        let t := s.updMtr fun x => { x with driven := some (s.memWord (exRam i), s.memP (exRam i)) }
        .next (if s.memGood (exRam i) then t else t.companionEvent 132 0x02 a)
    | 1 =>
      match i with
      | 0 => .next (drive s (flag 11 s.intIsLow ||| flag 10 s.dev.sealed ||| flag 9 (s.meter 0).halted ||| flag 8 (s.meter 1).halted))
      | 1 => .next (drive s 0)
      | _ => .next ((drive s 0).companionEvent 133 0x01 a)
    | _ => .next ((drive s 0).companionEvent 133 0x01 a)

/-- INT_N is released, unless a publication falls in the same fabric clock (R265). -/
def State.releaseInt (s : State) : State := s.updMtr fun x => { x with intLow := x.intNow }

/-- COMPANION_WRITE (R187, R188, R260, R265, R266): `both` is OE_N and WE_N low together, `parity` the bit driven with the word. Where
several cases of R266 meet, both low counts before the parity and the parity before the address, and one alone (DESIGN CHOICE,
notes/assumptions/58: R266 gives no order). -/
def execCompanionWrite (a : BitVec 13) (v : Word) (parity both : Bool) (c : Collision) (s : State) : Host.Outcome State Fault Refusal :=
  if !s.cmpOn then .next s
  else
    let i := bitsAt a 0 11
    let ram := bitsAt a 11 2 = 0
    let s := s.companionAct (if ram then c else .none) true
    if both then .next (s.companionEvent 133 0x03 a)
    else if parity ≠ foldedParity a.toNat v then .next (s.companionEvent 132 0x01 a)
    else match bitsAt a 11 2 with
    | 0 =>
      if i < 0x100 then .next (s.companionEvent 133 0x02 a)
      else if c = .withWrite then .next (if Config.secondWins s.free then s.setMem (exRam i) v else s).takeFree
      else .next (s.setMem (exRam i) v)
    | 1 => if i = 1 then .next (if v.getLsbD 0 then s.releaseInt else s) else .next (s.companionEvent 133 0x01 a)
    | _ => .next (s.companionEvent 133 0x01 a)

/-- CACK (R265): a companion write of the control word with bit 0 = 1 releases INT_N. -/
def execCack (v : Word) (parity : Bool) (s : State) : Host.Outcome State Fault Refusal :=
  let a : BitVec 13 := 0x801
  if !s.cmpOn then .next s
  else
    let s := s.companionAct .none true
    if parity ≠ foldedParity a.toNat v then .next (s.companionEvent 132 0x01 a)
    else .next (if v.getLsbD 0 then s.releaseInt else s)

end Sys2Proof.Machine
end

