-- ==== Sys2Proof/Machine/Lanes.lean ====
section
/-! DEFINITION. The lanes of an engine: picks and their verdicts (R140, R141), output voting (R144 to R147), re-threading (R154 to
R157) and input agreement's timeout (R152). -/

namespace Sys2Proof.Machine

/-! ### Picks -/

/-- PICK_CLOSE (R140): after W commits and entry slots, or after W × 3 ek of running. -/
def execPickClose (e : Eng) (timed : Bool) (xa xb xc : DWord) (s : State) : Host.Outcome State Fault Refusal :=
  let h := s.heddle e
  if s.engRuns e && (timed || decide (s.pickW e ≤ h.commits)) then
    .next (s.updHeddle e fun h => h.close (if timed then 0 else h.lastThr) xa xb xc)
  else .next s

/-- A rejoin (R156 step 7): ENG.HMAXR counts the engine clocks since the detection, those of the pause among them (R164), and
the gauges of KIND 5 take them (R378). -/
def State.rejoin (s : State) (e : Eng) (l : Lane) : State :=
  let n := (s.eng e).free - (s.heddle e).since + (s.heddle e).gatedEk
  let s := s.updHeddle e fun h => { h with odd := none, phase := .none, maxr := if h.maxr.toNat < n then sat12 n else h.maxr }
  (s.heddleReport e 0x42 (laneCode l)).gaugeFeed 5 e.val none (BitVec.ofNat 24 (min n 0xFFFFFF))

/-- The verdict over one closed pick (R141, R156, R165). -/
def State.verdict (s : State) (e : Eng) (p : ClosedPick) : State :=
  let h := s.heddle e
  let sig := fun (l : Lane) => p.sigs[(laneIdx l).val]
  match h.good with
  | [x, y, z] =>
    if sig x = sig y && sig y = sig z then s
    else if sig x ≠ sig y && sig y ≠ sig z && sig x ≠ sig z then s.engineStop e p.thr 0x45
    else
      let l := if sig x = sig y then z else if sig x = sig z then y else x
      if p.inj[(laneIdx l).val] then s.detect e l (some 0x49) false else s.detect e l (some 0x40) true
  | [x, y] =>
    if sig x ≠ sig y then s.engineStop e p.thr 0x47
    else
      match h.odd with
      | some l =>
        if p.rejoin && h.phase = .inStep then
          (if sig l = sig x then s.rejoin e l else s.detect e l (some 0x43) true)
        else s
      | none => s
  | _ => s

/-- PICK_VERDICT (R141, R146): the oldest closed pick is judged; verdict units that disagree stop the engine. -/
def execPickVerdict (e : Eng) (unitsAgree : Bool) (s : State) : Host.Outcome State Fault Refusal :=
  match (if s.engRuns e then (s.heddle e).closed else []) with
  | [] => .next s
  | p :: rest =>
    let s := s.updHeddle e fun h => { h with closed := rest }
    .next (if unitsAgree then s.verdict e p else s.engineStop e p.thr 0x48)

/-! ### Output voting -/

/-- No request, as the voter sees its lines. -/
def noRequest : Request := { addr := 0, kind := 0, data := 0, parity := false }

/-- The voted request of three lanes (R144): the bitwise majority over presence, address, target, kind, data and parity. -/
def voteRequest (a b c : Option Request) : Option Request :=
  let x := a.getD noRequest
  let y := b.getD noRequest
  let w := c.getD noRequest
  if (a.isSome && b.isSome) || (a.isSome && c.isSome) || (b.isSome && c.isSome) then
    some { addr := maj x.addr y.addr w.addr, kind := maj x.kind y.kind w.kind, data := maj x.data y.data w.data
           parity := (x.parity && y.parity) || (x.parity && w.parity) || (y.parity && w.parity)
           target := maj x.target y.target w.target }
  else none

/-- A lane's request with a fault. -/
def faultOn (f : ReqFault) (r : Option Request) : Option Request :=
  let x := r.getD noRequest
  if r.isSome = f.presence then none
  else some { addr := x.addr ^^^ f.addr, kind := x.kind ^^^ f.kind, data := x.data ^^^ f.data, parity := x.parity ^^ f.parity
              target := x.target ^^^ f.target }

/-- The two requests that a lane sends in the engine clock of a commit, with its fault, by the lane's own state (R145). -/
def Engine.batch (x : Engine) (n : Nat) (f : VoteFault) : Vector (Option Request) 2 :=
  let rs := match x.out.find? fun o => o.slot = n with
    | some o => o.reqs
    | none => []
  let b : Vector (Option Request) 2 := tab 2 fun i => rs[i]?
  match f with
  | some (i, g) => upd b i (faultOn g)
  | none => b

/-- The first commit that waits for a vote in some voting lane. -/
def Engine.oldestOut (x : Engine) : Option Out :=
  (x.heddle.good.filterMap fun l => (x.view l).out.head?).foldl (fun b o =>
    match b with
    | none => some o
    | some c => if o.slot < c.slot then some o else b) none

/-- The commit has been voted in a lane. -/
def Engine.dropOut (x : Engine) (n : Nat) : Engine := { x with out := x.out.filter fun o => o.slot ≠ n }

/-- The first entry of a list that `p` admits, changed. -/
def updFirst {α : Type} (p : α → Bool) (g : α → α) : List α → List α
  | [] => []
  | q :: r => if p q then g q :: r else q :: updFirst p g r

/-- The last entry of a list that `p` admits, changed. -/
def updLast {α : Type} (p : α → Bool) (g : α → α) (l : List α) : List α := (updFirst p g l.reverse).reverse

/-- The lanes' own record of a voted request of thread `t` that has gone out: as `i`, the first or second of its commit, it carries what
was voted (R144). -/
def Engine.gone (x : Engine) (t : Thr) (i : Nat) (r : Request) : Engine :=
  match r.kind.toNat with
  | 1 =>
    x.updThr t fun y => { y with lsu := { y.lsu with load := y.lsu.load.map fun l =>
      if i = 0 then { l with pa := r.addr, sent := true } else { l with second := l.second.map fun b => (r.addr, b.2) } } }
  | 2 =>
    let mine := fun (q : StoreEntry) => q.t = t && q.sent
    let double := ((x.sbuf.reverse.find? mine).map fun q => q.data2.isSome && q.pa + 1 = r.addr).getD false
    let sb := if i = 1 && double then updLast mine (fun q => { q with data2 := some r.data }) x.sbuf
      else updFirst (fun q => q.t = t && !q.sent) (fun q => { q with pa := r.addr, data := r.data, sent := true }) x.sbuf
    { x with sbuf := sb }
  | 6 =>
    let voted := fun (q : SvpOp) => { q with a := loW r.target, b := hiW r.target, write := q.write.map fun _ => r.data, sent := true }
    { x with svpq := updFirst (fun q => q.t = t && !q.sent) voted x.svpq }
  | 7 =>
    if r.addr.toNat % 0x1000 = 0x7E then
      { x with svpq := updFirst (fun q => q.t = t && !q.sent && q.fence) (fun q => { q with sent := true }) x.svpq }
    else x
  | _ => x

/-- The trip request bits after a change that its port names (R99). -/
def tripBits (q : BitVec 24) (port : Nat) (v : Word) : BitVec 24 :=
  match port with
  | 0x70 => q ||| BitVec.ofNat 24 (2 ^ v.toNat)
  | 0x71 => if v = 31 then 0 else q &&& ~~~BitVec.ofNat 24 (2 ^ v.toNat)
  | 0x72 => q ||| v.setWidth 24
  | _ => q ||| (v.setWidth 24 <<< 12)

/-- A voted request goes out (R144): a message starts on its way, a trip request changes what the fabric will see, a check-in or a
service starts towards the watchdog; the lanes note that it has gone. -/
def State.goOut (s : State) (e : Eng) (t : Thr) (i : Nat) (r : Request) : State :=
  let port := r.addr.toNat % 0x1000
  let s := s.updLanes e fun x => x.gone t i r
  match r.kind.toNat with
  | 3 =>
    let d := r.target.toNat
    { s with flights := s.flights ++ [{ src := e, t := t, dst := ⟨d / 4 % 64, by omega⟩, box := ⟨d % 4, by omega⟩, v := r.data }] }
  | 4 => s.updEng e fun x => { x with trqOut := tripBits x.trqOut port r.data }
  | 5 =>
    s.updWdg fun w => { w with inbox := w.inbox ++
      [if port = 0x74 then .check ⟨r.data.toNat % 16, by omega⟩ else .serve e t] }
  | _ => s

/-- The engine has locked up (R123), and what its last commits sent has not been voted yet. -/
def State.lastWords (s : State) (e : Eng) : Bool :=
  let x := s.eng e
  s.inRun && x.locked && !x.heddle.stopped && !(s.clu e.cluster).gated && x.oldestOut.isSome

/-- OUTPUT_VOTE (R144 to R147): the requests of the oldest commit that waits are voted, each lane's by its own state with the fault that
strikes it; what is voted goes out, also from an engine that has locked up since (R123). -/
def execOutputVote (e : Eng) (a b c : VoteFault) (copiesAgree : Bool) (s : State) : Host.Outcome State Fault Refusal :=
  if !(s.engRuns e || s.lastWords e) then .next s
  else
    let x := s.eng e
    let o := x.oldestOut.getD ⟨x.slot, x.heddle.lastThr, []⟩
    let fault := fun (l : Lane) => match l with
      | .a => a
      | .b => b
      | .c => c
    let req := fun (l : Lane) => (x.view l).batch o.slot (fault l)
    if !copiesAgree then .next (if x.locked then s.updLanes e fun x => x.dropOut o.slot else s.engineStop e o.t 0x48)
    else match x.heddle.good with
    | [] => .next s
    | good@(p :: _) =>
      let v : Vector (Option Request) 2 := match good with
        | [p, q, r] => tab 2 fun i => voteRequest ((req p).toList[i]?.bind id) ((req q).toList[i]?.bind id) ((req r).toList[i]?.bind id)
        | _ => req p
      .next (s.voteEnd e o.t (good.filter fun l => req l ≠ v) fun s =>
        let s := s.updLanes e fun x => x.dropOut o.slot
        let s := v.toList.zipIdx.foldl (fun (s : State) q => match q.1 with
          | some r => s.goOut e o.t q.2 r
          | none => s) s
        s.updEng e fun y => { y with sent := v.toList.filterMap id })

/-! ### Re-threading (R154 to R157) -/

/-- A thread's rows 10 to 12 of R154: its operations in flight, its frame-writer staging and its timer. -/
def Thread.keepFlight (x y : Thread) : Thread :=
  { x with
    mac := { x.mac with pend := y.mac.pend }
    apx := { x.apx with pend := y.apx.pend }
    lsu := { x.lsu with load := y.lsu.load, delay := y.lsu.delay, newQ := y.lsu.newQ, fault := y.lsu.fault, fence := y.lsu.fence }
    blk := { y.blk with opnd := x.blk.opnd }
    staged := y.staged
    tmr := y.tmr }

/-- The bulk set, rows 1 to 9 of R154, copied from the source lane's state `x`, with its configuration copies, into the odd lane's own
state `y`. -/
def EngineCore.bulkCopy (x : EngineCore) (cfg : Vector Word 67) (y : EngineCore) : EngineCore :=
  { x with
    threads := vmap (fun i (z : Thread) => ((y.threads.toList[i]?).map z.keepFlight).getD z) x.threads
    sbuf := y.sbuf, walk := y.walk, svpq := y.svpq, out := y.out, apxOwner := y.apxOwner, blkOwner := y.blkOwner
    free := y.free, sync := y.sync, inputs := y.inputs, tickOff := y.tickOff, cfg := some cfg }

/-- The engine's cluster is clock-gated: its lanes, its heddle and their transfer path have no clock (R227, R456). -/
def State.gatedEng (s : State) (e : Eng) : Bool := (s.clu e.cluster).gated

/-- The source lane of a re-threading: the lowest-lettered good lane (R155). -/
def Heddle.source (h : Heddle) : Lane := (h.good.head?).getD .a

/-- BULK_COPY_END (R155, R156 step 4): rows 1 to 9 of the source lane have been copied; what it has written since differs, and is the
dirty queue's to bring in the pause. -/
def execBulkCopyEnd (e : Eng) (s : State) : Host.Outcome State Fault Refusal :=
  match (if (s.heddle e).phase = .bulk && !s.gatedEng e then (s.heddle e).odd else none) with
  | none => .next s
  | some l =>
    .next (s.updEng e fun x =>
      { x with stray := upd x.stray (laneIdx l) fun o => o.map fun y => (x.view x.heddle.source).bulkCopy (s.engCopies e) y
               heddle := { x.heddle with phase := .copied } })

/-- PAUSE_START (R156 step 5). -/
def execPauseStart (e : Eng) (s : State) : Host.Outcome State Fault Refusal :=
  if (s.heddle e).phase = .copied && !s.gatedEng e then .next (s.updHeddle e fun h => { h with phase := .paused }) else .next s

/-- PAUSE_END (R155, R156 step 6, R157): the dirty items, which are those of rows 1 to 9 in which the lanes differ, and the pause set,
rows 10 to 14, have been copied, so that the odd lane holds what the source lane holds; it runs in step, and what waited at the delivery
point reaches the lanes. `ek` is how long the pause lasted; the gauges of KIND 5 take it (R378). -/
def execPauseEnd (e : Eng) (ek : Word) (s : State) : Host.Outcome State Fault Refusal :=
  let h := s.heddle e
  match (if h.phase = .paused && !s.gatedEng e then h.odd else none) with
  | none => .next s
  | some l =>
    let src := laneIdx h.source
    .next ((s.updEng e fun x =>
      { x with
        stray := upd x.stray (laneIdx l) fun _ => x.stray[src.val]
        heddle := { x.heddle with
          phase := .inStep, gatedEk := x.heddle.gatedEk + ek.toNat
          sig := upd x.heddle.sig (laneIdx l) fun _ => x.heddle.sig[src.val]
          count := upd x.heddle.count (laneIdx l) fun _ => x.heddle.count[src.val]
          maxp := if x.heddle.maxp.toNat < ek.toNat then ek else x.heddle.maxp } }).flush e |>.gaugeFeed 6 e.val none (ek.setWidth 24))

/-- The DEGRADE reaction (R159, R324): the lane is retired while the engine runs three lanes. Where it was the odd lane in its pause, the
pause is over, and what waited at the delivery point reaches the lanes (R157). -/
def State.degradeLane (s : State) (e : Eng) (l : Lane) : State :=
  let h := s.heddle e
  if h.stopped || h.retired.toList.any id || !(h.odd = none || h.odd = some l) then s else (s.retireLane e l).flush e

/-! ### Input agreement -/

/-- INPUT_AGREEMENT_TIMEOUT (R152): a lane's view stayed unequal for ENG.HIAG.TO × 16 ek. -/
def execInputAgreementTimeout (e : Eng) (l : Lane) (s : State) : Host.Outcome State Fault Refusal :=
  if (s.heddle e).votes l && !s.gatedEng e then
    .next (s.raise 135 (BitVec.ofNat 7 (laneCode l)) (BitVec.ofNat 24 (e.val * 64)))
  else .next s

end Sys2Proof.Machine
end

