-- ==== Sys2Proof/Machine/Collector.lean ====
section
/-! DEFINITION. The fault collector: classification (R318, R322), reactions (R324 to R327), self-check (R329, R330) and ALIVE
(R331). -/

namespace Sys2Proof.Machine

def fclReg (n : Fin 160) (k : Nat) : Nat := fclCfgBase + 4 * n.val + k
/-- One of the three copies of the configuration word at a page-1 offset, and whether its parity passes (R329). -/
def State.cfgCopy (s : State) (o : Nat) (k : Fin 3) : Word × Bool :=
  match s.col.strays.find? fun p => decide (p.1 = o) && decide (p.2.copy = k) with
  | some p => (p.2.word, p.2.parity)
  | none => (s.reg (fclCfgBase + o), true)

/-- The word that two of the three copies hold, bit by bit (R330). -/
def State.cfgVoted (s : State) (o : Nat) : Word :=
  let w := fun k => (s.cfgCopy o k).1
  (w 0 &&& w 1) ||| (w 0 &&& w 2) ||| (w 1 &&& w 2)

/-- Two copies differ, or one fails its parity (R330). -/
def State.cfgFails (s : State) (o : Nat) : Bool :=
  let c := s.cfgCopy o
  !((c 0).2 && (c 1).2 && (c 2).2 && decide ((c 0).1 = (c 1).1) && decide ((c 1).1 = (c 2).1))

/-- A fault strikes a copy of the word at a page-1 offset. -/
def Collector.struck (k : Collector) (o : Nat) : Option CfgHit → Collector
  | none => k
  | some h => { k with strays := (k.strays.filter fun p => decide (p.1 ≠ o) || decide (p.2.copy ≠ h.copy)) ++ [(o, h)] }

/-- A configuration word of a source as it is in force: one written in the running fabric clock takes effect in the next (R323), and the
collector goes by the voted copies (R330). -/
def State.fclWord (s : State) (n : Fin 160) (k : Nat) : Word :=
  (s.col.olds.lookup (4 * n.val + k)).getD (s.cfgVoted (4 * n.val + k))
/-- N of a source (R339). -/
def State.fclN (s : State) (n : Fin 160) : Nat := bitsAt (s.fclWord n 0) 0 8
/-- W of a source in ms (R339). -/
def State.fclW (s : State) (n : Fin 160) : Nat := bitsAt (s.fclWord n 0) 8 4 * 4096 + (s.fclWord n 1).toNat
/-- The minor or severe set (R339). -/
def State.fclSet (s : State) (n : Fin 160) (severe : Bool) : Nat := bitsAt (s.fclWord n (if severe then 3 else 2)) 0 7
/-- FCL.MINn.ITGT. -/
def State.fclTgt (s : State) (n : Fin 160) : Nat := bitsAt (s.fclWord n 2) 10 2

/-- A notice (R318, R320). -/
def isNotice (n : Fin 160) (c : BitVec 7) : Bool :=
  (n.val ≤ 63 && (c = 0x42 || c = 0x49)) || ((n.val = 98 || n.val = 99) && c = 0x01)
/-- An always-severe cause (R318, R320). -/
def alwaysSevere (n : Fin 160) (c : BitVec 7) : Bool := n.val ≤ 63 && (rng c.toNat 0x45 0x48 || c = 0x50)

/-- ISOLATE of a source's block (R326). A clear of the source takes its ISO bit back, and leaves the block cut off. -/
def State.isolate (s : State) (n : Fin 160) : State :=
  let s := s.updSrc n fun x => { x with iso := true }
  let k := n.val
  if h : k < 64 then
    s.updLanes ⟨k, h⟩ fun x =>
      { x with threads := vmap (fun _ (y : Thread) => if y.run = .running then { y with haltReq := true } else y) x.threads }
  else if k < 80 then s.updClu ⟨k % 8, by omega⟩ fun x => { x with iso := true }
  else if h : 84 ≤ k ∧ k < 96 then
    { s with groups := upd s.groups ⟨k - 84, by omega⟩ fun x => { x with iso := true } }.refreshGaps
  else if k = 96 then s.updAdc fun x => { x with isoA := true }
  else if k = 97 then s.updAdc fun x => { x with isoB := true }
  else if k = 98 then s.updMeter 0 fun x => { x with halted := true }
  else if k = 99 then s.updMeter 1 fun x => { x with halted := true }
  else if k = 114 then s.updRcd fun r => { r with iso := true }
  else if rng k 104 109 then s.updSht fun x => { x with iso := true }
  else if h : 110 ≤ k ∧ k < 113 then s.updPort ⟨k - 110, by omega⟩ fun x => { x with iso := true }
  else if k = 132 || k = 133 then s.updMtr fun x => { x with cmpIso := true }
  else s

/-- A RESET reaction (R327): those of one fabric clock are joined under their lowest source, and one of a later clock finds the reset due
already. The waiting events are emptied when the clock ends, behind the events of other sources that decide in it. -/
def Collector.dueReset (k : Collector) (n : Fin 160) : Collector :=
  match k.resetDue with
  | none => { k with resetDue := some n, resetNow := true }
  | some m => if k.resetNow && decide (n.val < m.val) then { k with resetDue := some n } else k

/-- One fabric clock of the collector: a RESET reaction of the clock before has emptied every waiting queue (R327), and the configuration
written in it is in force (R323). -/
def Collector.clock (k : Collector) : Collector :=
  { k with
    src := vmap (fun _ (x : Source) => { x with nowEvs := [], waiting := if k.resetNow then [] else x.waiting }) k.src
    resetNow := false
    lastNow := false
    olds := [] }

/-- The reactions of a set to an event (R324, R327). -/
def State.react (s : State) (n : Fin 160) (ev : FaultEvent) (severe : Bool) (set : Nat) : State :=
  let bit := fun (i : Nat) => set.testBit i
  let lane := laneOf (bitsAt ev.payload 0 2)
  let heddle := n.val < 64 && rng ev.cause.toNat 0x40 0x49
  let s := if bit 5 then (s.updSrc n fun x => { x with trp := true }).setSafe else s
  let s := if bit 2 then s.isolate n else s
  let s := match (if heddle && bit 4 then lane else none) with
    | some l => s.degradeLane ⟨n.val % 64, Nat.mod_lt _ (by decide)⟩ l
    | none => s
  let s := match (if heddle && bit 3 then lane else none) with
    | some l => s.rethread ⟨n.val % 64, Nat.mod_lt _ (by decide)⟩ l
    | none => s
  let own := if h : n.val < 64 then [(⟨n.val, h⟩ : Eng)] else s.selEngines
  let s := if bit 1 then s.setLines (s.targets (s.fclTgt n) own) 14 else s
  let s := if bit 0 then
      s.logRec 1 ev.cause (flag 11 severe ||| BitVec.ofNat 12 n.val) (BitVec.ofNat 48 (set * 2 ^ 24 + ev.payload.toNat))
    else s
  if bit 6 then s.updCol fun k => k.dueReset n else s

/-- The window and severity of a counted event (R322): the source after it, and whether it is severe. -/
def countEvent (x : Source) (n w t : Nat) (always : Bool) : Source × Bool :=
  if x.sev then (x, true)
  else
    let x := if !x.open_ || decide (x.tOpen + w * 300000 < t) then { x with open_ := true, tOpen := t, cnt := 0 } else x
    let c := x.cnt.toNat + 1
    if n ≤ c || always then ({ x with sev := true, open_ := false, cnt := 0 }, true)
    else ({ x with cnt := BitVec.ofNat 8 c }, false)

/-- FCL.LSRC, LCS and LPL name the last event classified, and of those of one fabric clock the highest-numbered source's (R340). -/
def Collector.lastEvent (k : Collector) (n : Fin 160) (ev : FaultEvent) (severe minor : Bool) : Collector :=
  if k.lastNow && decide (n.val < bitsAt k.lsrc 0 8) then k
  else { k with lsrc := flag 11 severe ||| flag 10 minor ||| BitVec.ofNat 12 n.val
                lcs := ev.cause.setWidth 12, lpl := ev.payload, lastNow := true }

/-- One event of a source classified (R322), with its reactions. -/
def State.classify (s : State) (n : Fin 160) (ev : FaultEvent) : State :=
  let was := s.frozen
  let note := isNotice n ev.cause
  let r := if note then (s.src n, false) else countEvent (s.src n) (s.fclN n) (s.fclW n) s.fk (alwaysSevere n ev.cause)
  let s := s.updSrc n fun _ =>
    { r.1 with tot := sat12 (r.1.tot.toNat + 1), nowEvs := if note then r.1.nowEvs else r.1.nowEvs ++ [alwaysSevere n ev.cause] }
  let s := s.updCol fun k => k.lastEvent n ev r.2 (!note && !r.2)
  let set := if note then s.fclSet n false % 4 else s.fclSet n r.2
  let s := s.react n ev r.2 set
  if !was && s.frozen then s.hirq else s

/-- FAULT_EVENT (R317, R319, R328): an event arrives, but in POWER-UP and in reset; sources from 136 have none (R320). A
companion event is counted in CMP.PECNT or XECNT, and its address is A[12:0] of the access (R266, R273). -/
def execFaultEvent (src : Fin 160) (cause : BitVec 7) (payload : DWord) (s : State) : Host.Outcome State Fault Refusal :=
  if !s.up then .next s
  else if src = 132 || src = 133 then .next (s.companionEvent src cause (payload.setWidth 13))
  else if src.val < 136 then .next (s.raise src cause payload) else .next s

/-- A collector self-fault (R330): the first is recorded, and holds until a reset. -/
def State.selfFault (s : State) (cfg : Bool) (a : Word) : State :=
  if s.col.self then s
  else
    let s := s.updCol fun k => { k with self := true, selfCfg := cfg, selfA := a }
    let s := s.logRec 4 0 (flag 11 true ||| flag 10 cfg) (a.setWidth 48)
    s.hirq.setSafe.fabric

/-- The collector compares the copies of the configuration word at a page-1 offset and checks their parity (R329, R330). A copy that a
fault has struck stays so until the word is written. -/
def State.checkCfg (s : State) (o : Nat) : State := if s.cfgFails o then s.selfFault true (BitVec.ofNat 12 o) else s

/-- The collector's clock runs: not in POWER-UP, nor in reset, nor with the fabric clock stopped (R328, R493). -/
def State.colRuns (s : State) : Bool := s.up && s.clk.fabOk

/-- FAULT_CLASSIFY (R322 to R329): the oldest waiting event of the source, whose four configuration words are checked at this use; `bad`, a
fault has struck a copy of one of them. -/
def execFaultClassify (src : Fin 160) (bad : Option (Fin 4 × CfgHit)) (s : State) : Host.Outcome State Fault Refusal :=
  match (if s.colRuns then (s.src src).waiting else []) with
  | [] => .next s
  | ev :: rest =>
    let t := match bad with
      | some (k, h) => s.updCol fun c => c.struck (4 * src.val + k.val) (some h)
      | none => s
    let t := [0, 1, 2, 3].foldl (fun (s : State) k => s.checkCfg (4 * src.val + k)) t
    .next (((t.updSrc src fun x => { x with waiting := rest }).classify src ev).fabricFrom s)

/-- SELF_CHECK_SCAN (R329, R330): the scan visits a configuration word of the collector, a copy of which a fault may have struck. -/
def execSelfCheckScan (off : Word) (bad : Option CfgHit) (s : State) : Host.Outcome State Fault Refusal :=
  if s.colRuns && decide (off.toNat < 0x220) then .next ((s.updCol fun k => k.struck off.toNat bad).checkCfg off.toNat) else .next s

/-- COLLECTOR_STATE_MISMATCH (R329, R330): the three copies of a source's state or decisions differ. -/
def execCollectorStateMismatch (src : Fin 160) (s : State) : Host.Outcome State Fault Refusal :=
  if s.colRuns then .next (s.selfFault false (BitVec.ofNat 12 (0x800 + src.val))) else .next s

/-- ALIVE's next half-period begins, at SEL.ALIVE.FREQ as it stands (R331). -/
def State.nextHalf (s : State) : State :=
  s.updCol fun k => { k with alive := !k.alive, freq := BitVec.ofNat 6 (bitsAt (s.reg (selBase + 3)) 0 6) }

/-- ALIVE_HALF_PERIOD (R331). -/
def execAliveHalfPeriod (s : State) : Host.Outcome State Fault Refusal :=
  if s.inRun && !s.frozen then .next s.nextHalf else .next s

/-- A source cleared (R322): SEV, TRP, ISO and its window. -/
def Source.clear (x : Source) : Source := { x with sev := false, trp := false, iso := false, open_ := false, cnt := 0 }

/-- A source cleared by FCL.SCLRk: the clear acts first, and the events of the same fabric clock are classified after it (R322). Reactions
that they have taken before the write stand (DESIGN CHOICE, notes/assumptions/58). -/
def State.clearSource (s : State) (n : Fin 160) (x : Source) : Source :=
  x.nowEvs.foldl (fun y always =>
    let r := countEvent y (s.fclN n) (s.fclW n) s.fk always
    let set := s.fclSet n r.2
    { r.1 with trp := y.trp || set.testBit 5, iso := y.iso || set.testBit 2 }) x.clear

/-- FCL.LSRC after a clear: of a last event that the clear has classified anew (R322, R340). -/
def Collector.lastCleared (c : Collector) (k : Nat) (v : Word) : Collector :=
  let n := bitsAt c.lsrc 0 8
  if c.lastNow && decide (bitsAt c.lsrc 10 2 ≠ 0) && decide (n / 12 = k) && v.getLsbD (n % 12) then
    let sev := ((c.src.toList[n]?).map Source.sev).getD false
    { c with lsrc := flag 11 sev ||| flag 10 (!sev) ||| BitVec.ofNat 12 n }
  else c

/-- FCL.SCLRk (R322, R331): the named sources' SEV, TRP, ISO and windows are cleared, and ALIVE resumes when nothing freezes it. -/
def State.sclr (s : State) (k : Nat) (v : Word) : State :=
  let was := s.frozen
  let s' := s.updCol fun c =>
    { c with src := vmap (fun i (x : Source) =>
        if i / 12 = k && v.getLsbD (i % 12) then s.clearSource ⟨i % 160, Nat.mod_lt _ (by decide)⟩ x else x) c.src }
  let s' := s'.updCol fun c => c.lastCleared k v
  let s' := if was && !s'.frozen then (if s'.inRun then s'.nextHalf else s').hirq else s'
  s'.fabricFrom s

end Sys2Proof.Machine
end

