-- ==== Sys2Proof/Machine/Watchdog.lean ====
section
/-! DEFINITION. The watchdog (R341 to R354). -/

namespace Sys2Proof.Machine

/-- WDG.LEV (R357): the last watchdog event. -/
def lev (src cause task : Nat) : Word := fld 8 task ||| fld 4 (src - 114) ||| fld 0 cause

/-- A watchdog event at source 115, 116 or 117. -/
def State.wdgEvent (s : State) (src : Fin 160) (cause : Nat) (payload : DWord) (task : Nat) : State :=
  (s.updWdg fun w => { w with lev := lev src.val cause task }).raise src (BitVec.ofNat 7 cause) payload

/-- A pending commit takes effect (R350). -/
def Watchdog.apply (w : Watchdog) : Watchdog :=
  match w.pend with
  | some p => { w with now := p, pend := none }
  | none => w

/-- The first message that `m` equals leaves the inbox. -/
def Watchdog.receive (w : Watchdog) (m : WdgMsg) : Watchdog := { w with inbox := w.inbox.erase m }

/-- CHECK_IN (R100, R344, R345): a check-in of the task that an engine has sent arrives; the task's count rises, saturating at 7. One that
arrives in the fabric clock of an expiry belongs to the period that expired. -/
def execCheckIn (task : Fin 16) (s : State) : Host.Outcome State Fault Refusal :=
  if s.wdg.inbox.contains (.check task) then
    .next (s.updWdg fun w =>
      let w := w.receive (.check task)
      if w.running && !w.expired then { w with cnt := upd w.cnt task fun c => if c = 7 then 7 else c + 1 } else w)
  else .next s

/-- Required tasks whose count is above, or below, what is expected (R345). -/
def Watchdog.wrong (w : Watchdog) : List (Fin 16 × Bool) :=
  (List.finRange 16).filterMap fun (t : Fin 16) =>
    let e : Nat := (w.now.exp[t.val]).toNat
    let c : Nat := (w.cnt[t.val]).toNat
    if e = 0 || c = e then none else some (t, decide (e < c))

/-- The verdict of a service returns to its thread (R100, R346): LAST is the verdict, OPEN and GRACE the windows that run after it. -/
def State.wdgVerdict (s : State) (e : Eng) (t : Thr) (valid : Bool) : State :=
  s.deliver e (.verdict t (flag 11 s.wdgOpen ||| flag 10 s.wdg.grace ||| flag 9 valid))

/-- The tick index has reached P_t (R342). A stopped clock freezes it, and no expiry follows (R351). -/
def State.wdgExpired (s : State) : Bool :=
  s.wdg.running && !s.wdg.held && !s.wdg.restart && !s.wdg.cstop && decide (s.wdgPt ≤ s.wdg.i.toNat)

/-- WDX1 and WDX2 (R348, R359). -/
def State.wdgRecords (s : State) : State :=
  let pack := fun (k : Nat) (xs : List Nat) => BitVec.ofNat 48 ((xs.zipIdx.map fun p => p.1 * 2 ^ (k * p.2)).sum)
  (s.logRec 2 0 0 (pack 3 (s.wdg.cnt.toList.map BitVec.toNat))).logRec 3 0 0 (pack 2 (s.wdg.now.exp.toList.map BitVec.toNat))

/-- A normal period expires without a valid service (R347): the grace period starts in this tick. -/
def State.periodExpiry (s : State) : State :=
  if s.wdgExpired && !s.wdg.grace then
    let s := s.wdgEvent 115 1 0 0
    let s := s.setLines s.selEngines 13
    s.updWdg fun w => { w.apply with cnt := Vector.replicate 16 0, i := 0, grace := true, expired := true }
  else s

/-- The grace period expires (R348): SAFE, the expiry records, and a watchdog reset that is due. -/
def State.graceExpiry (s : State) : State :=
  if s.wdgExpired && s.wdg.grace && !s.wdg.resetDue then
    let s := (s.wdgEvent 115 2 0 0).setSafe
    (s.wdgRecords.updWdg fun w => { w with resetDue := true }).fabric
  else s

/-- An expiry that is due precedes a commit and the services of its fabric clock (R345). -/
def State.expireFirst (s : State) : State := if s.wdg.grace then s.graceExpiry else s.periodExpiry

/-- WDG_PERIOD_EXPIRY (R347). -/
def execWdgPeriodExpiry (s : State) : Host.Outcome State Fault Refusal := .next s.periodExpiry

/-- WDG_GRACE_EXPIRY (R348). -/
def execWdgGraceExpiry (s : State) : Host.Outcome State Fault Refusal := .next s.graceExpiry

/-- A service is judged (R345, R346). -/
def State.judge (s : State) (e : Eng) (t : Thr) : State :=
  let early := s.wdg.held || s.wdg.restart || decide (s.wdg.i.toNat < s.wdgK) || s.wdg.judged
  let bad := s.wdg.wrong
  let s := s.updWdg fun w => { w with judged := true }
  if early then (s.wdgEvent 116 1 (BitVec.ofNat 24 (e.val % 8 * 16)) 0).wdgVerdict e t false
  else if bad.isEmpty then
    (s.updWdg fun w =>
      { w.apply with i := 0, grace := false, cnt := Vector.replicate 16 0, svcnt := w.svcnt + 1 }).wdgVerdict e t true
  else
    (bad.foldl (fun (s : State) p =>
      s.wdgEvent 116 (if p.2 then 2 else 3) (BitVec.ofNat 24 p.1.val) p.1.val) s).wdgVerdict e t false

/-- SERVICE (R100, R345): the service that a thread has sent arrives, and waits for the check-ins, the expiry and the commit of its fabric
clock. -/
def execService (e : Eng) (t : Thr) (s : State) : Host.Outcome State Fault Refusal :=
  if s.wdg.inbox.contains (.serve e t) then
    .next (s.updWdg fun w =>
      let w := w.receive (.serve e t)
      if w.running then { w with served := w.served ++ [(e, t)] } else w)
  else .next s

/-- The services of a fabric clock in the order in which they are judged: by ascending engine (R345). -/
def Watchdog.inOrder (w : Watchdog) : List (Eng × Thr) := engList.flatMap fun e => w.served.filter fun p => p.1 = e

/-- The end of a fabric clock: its services are judged, after an expiry that is due (R345). -/
def State.serveDue (s : State) : State :=
  match s.wdg.inOrder with
  | [] => s
  | ps => ps.foldl (fun (s : State) p => s.judge p.1 p.2) (s.updWdg fun w => { w with served := [] }).expireFirst

/-- WDG_CLOCK_STOP (R351): the watchdog clock, or its monitoring clock, has stopped. -/
def execWdgClockStop (monitoring : Bool) (s : State) : Host.Outcome State Fault Refusal :=
  if !s.inRun || (if monitoring then s.wdg.mstop else s.wdg.cstop) then .next s
  else
    let s := s.updWdg fun w => if monitoring then { w with mstop := true } else { w with cstop := true }
    let s := (s.updTrip fun x => { x with forced := true }).wdgEvent 117 (if monitoring then 2 else 1) 0 0
    .next s.setSafe.fabric

/-- The staged set of WDG.NPER, NWIN and NEXP (R349, R357). -/
def State.wdgStaged (s : State) : WdgSet :=
  ⟨s.reg2 (wdgBase + 1), BitVec.ofNat 3 (bitsAt (s.reg (wdgBase + 3)) 0 3),
    tab 16 fun t => BitVec.ofNat 2 (bitsAt (s.reg (wdgBase + 4 + t / 6)) (2 * (t % 6)) 2)⟩

/-- WDG.COMMIT.GO (R350), after an expiry of its fabric clock: `none` is a refusal. -/
def State.wdgCommitGo (s : State) : Option State × State :=
  let s := s.expireFirst
  let p := s.wdgStaged
  if p.per = 0 || decide (4000000 < p.per.toNat) then (none, s)
  else if !s.inRun then (some (s.updWdg fun w => { w with now := p }), s)
  else if !s.wdgOpen || s.wdg.grace || s.wdg.pend.isSome then (none, s.wdgEvent 116 4 0 0)
  else (some (s.updWdg fun w => { w with pend := some p }), s)

/-- A tick of the watchdog clock (R342, R352). -/
def Watchdog.tick (w : Watchdog) : Watchdog :=
  if w.restart then { w with i := 0, restart := false, judged := false, cnt := Vector.replicate 16 0 }
  else if w.held then { w with judged := false }
  else { w with i := w.i + 1, judged := false }

/-- Fabric clocks of the running tick (R341, R489): 300 of the divided 1 MHz clock, or a period of the RC oscillator, 4 MHz ± 5 %, that
is 71 to 79. -/
def State.tickClocks (s : State) : Nat := if s.regB wdgBase 11 then rcCycle s.fk else 300

/-- Fabric clocks of the first tick after entry to RUN (R342): the divider restarts, and the RC oscillator is somewhere in its period. -/
def State.firstTick (s : State) : Nat := if s.regB wdgBase 11 then 1 + (Config.rcPeriod s.fk).toNat % 79 else 300

/-- The selected clock of the watchdog stands still (R341, R351): it has been found stopped, or the RC oscillator is lost. -/
def State.wdgStill (s : State) : Bool := s.wdg.cstop || (s.regB wdgBase 11 && !s.clk.rcOk)

/-- One fabric clock of the watchdog (R341, R342): a period whose tick P_t has begun expires in the first fabric clock of that tick, after
the check-ins of that clock (R345). -/
def State.wdgClock (s : State) : State :=
  if !s.wdg.running then s
  else
    let s := s.expireFirst.updWdg fun w => { w with expired := false }
    if s.wdgStill then s
    else if 1 < s.wdg.left then s.updWdg fun w => { w with left := w.left - 1 }
    else s.updWdg fun w => { w.tick with left := s.tickClocks }

end Sys2Proof.Machine
end

