-- ==== Sys2Proof/Machine/Modes.lean ====
section
/-! DEFINITION. Phases, modes and resets (R448 to R468): entry to RUN, sealing, SOLO, clock gating, the six resets and their end. -/

namespace Sys2Proof.Machine

/-! ### Entry to RUN (R26, R247, R253, R255, R257, R313, R451) -/

/-- A thread as entry to RUN leaves it (R25, R26). -/
def State.runThread (s : State) (e : Eng) (t : Nat) : Thread :=
  { pc := s.entryPc e
    run := if s.engEn e && decide (t < s.nThreads e) && s.regB (engBase e + 1) t then .running else .halted }

/-- An engine as entry to RUN leaves it: its threads start, its caches and line buffers are empty, and round robin starts at the
shape's highest thread (R25, R26, R29, R472). -/
def State.runEngine (s : State) (e : Eng) : State :=
  s.updEng e fun x =>
    { x with
      threads := tab 8 fun t => s.runThread e t
      last := none
      rr := ⟨(s.nThreads e - 1) % 8, by omega⟩
      cur := none
      sets := Vector.replicate 64 {}
      fills := []
      fsp := #v[s.reg (engBase e + 0x12), s.reg (engBase e + 0x13)]
      agreed := Vector.replicate 33 0
      free := 0 }

/-- Words of a bobbin's ring (R245). -/
def State.bobRing (s : State) (n : Chan) : Nat := if s.bobBlock n then 9 * s.bobCap n / 8 else 2 * s.bobCap n

/-- A bobbin that feeds a cluster meets a condition of R247. -/
def State.bobBad (s : State) (n : Chan) : Bool :=
  let r := s.reg (chanReg n.val 2)
  (r.getLsbD 11 || r.getLsbD 10) &&
    (!rng (bitsAt (s.reg (chanReg n.val 3)) 0 4) 3 13 || decide (16384 < s.bobB n + s.bobRing n) ||
      (r.getLsbD 11 && r.getLsbD 10 && bitsAt r 7 3 = bitsAt r 4 3) || !s.pathEn n (s.bobFast n))

/-- Bobbins are checked, and the channels start (R234, R247). -/
def State.startChannels (s : State) : State :=
  let s := { s with
    chans := tab 48 fun i => { disabled := s.bobBad ⟨i % 48, Nat.mod_lt _ (by decide)⟩ }
    groups := vmap (fun _ (g : Group) => { g with lost := false }) s.groups }
  (List.finRange 48).foldl (fun (s : State) n => if (s.chan n).disabled then s.raise (groupSrc (groupOf n)) 0x02 0 else s) s

/-- Two channel numbers may be combined: one group, or device-driven groups with equal DIV, and equal precise ratios (R253). -/
def State.combinable (s : State) (a b : Nat) : Bool :=
  let ga := s.reg (groupReg (a / 4))
  let gb := s.reg (groupReg (b / 4))
  decide (a < 48) && decide (b < 48) &&
    (a / 4 = b / 4 || (ga.getLsbD 10 && gb.getLsbD 10 && bitsAt ga 0 6 = bitsAt gb 0 6)) &&
    bitsAt (s.reg (chanReg a 0)) 8 3 = bitsAt (s.reg (chanReg b 0)) 8 3

/-- A meter at entry to RUN (R253, R255, R257): its configuration is checked and it resumes from the shadow.
CE is set only with EN, XCE only with EN and a good main pair (DESIGN CHOICE, notes/assumptions/62: R272 does not say). -/
def State.startMeter (s : State) (m : Fin 2) : State :=
  let en := s.regB mtrBase (11 - m.val)
  let ok := s.combinable (s.vch m) (s.ich m)
  let x := s.xch m
  let xok := s.combinable (s.vch m) x && s.regB (chanReg x 0) 11
  let ce := en && !ok
  let xce := en && ok && s.regB (meterReg m 3) 11 && !xok
  let s := s.updMeter m fun _ => { acc := s.mtr.shadow.acc[m.val], on := en && ok, halted := (s.meter m).halted, ce := ce, xce := xce }
  if ce || xce then s.raise (meterSrc m) 0x07 0 else s

/-- Entry to RUN (R451): the lock sequence as one effect. -/
def State.runEntry (s : State) : State :=
  let s := (s.setReg (selBase + 1) 1).updDev fun d => { d with phase := .run }
  let s := { s.stage with runFk := s.fk }
  let s := s.updCol fun k => { k with nosel := !selValid (s.reg selBase) }
  let s := engList.foldl State.runEngine s
  let s := ((s.startChannels.startMeter 0).startMeter 1).refreshGaps
  let s := s.updWdg fun w => { w with running := true, grace := false, restart := false, i := 0, left := s.firstTick, inbox := [], served := [], judged := false,
                                      cnt := Vector.replicate 16 0 }
  let s := s.updCol fun k => { k with alive := !s.frozen, freq := BitVec.ofNat 6 (bitsAt (s.reg (selBase + 3)) 0 6) }
  let s := (s.updTrip fun x => { x with kdPhase := true }).updBoot fun b => { b with records := [], loading := false }
  ((s.restoreRecorder false).setSafe).fabric

/-! ### Sealing and SOLO (R458, R460) -/

/-- SEALED is set or cleared, and the change is counted (R458, R471). -/
def State.setSealed (s : State) (on : Bool) : State :=
  if s.dev.sealed = on then s
  else (s.updDev fun d => { d with sealed := on, scnt := sat12 (d.scnt.toNat + 1) }).modeRec 3 on

/-- An accepted MOD.SEAL.SEAL = 1 (R376, R458). -/
def State.sealOp (s : State) : State := ((s.setSealed true).clearTether).disarm 1

/-- An accepted MOD.SEAL.UNSEAL = 1 (R458). -/
def State.unsealOp (s : State) : State := s.setSealed false

/-! ### Clock gating (R456, R457) -/

/-- An engine has nothing to do: no ready thread, no outstanding load or fill, no posted store, no walk, no block operation, no
re-threading (R456). After 64 engine clocks without a ready thread, no MAC, APX or fence operation is under way, and no request awaits its
vote. -/
def State.engQuiet (s : State) (e : Eng) : Bool :=
  let y := s.eng e
  !s.engEn e ||
    (thrList.all (fun t => !s.ready e t && (y.thr t).lsu.load.isNone && !(y.thr t).blk.active && (y.thr t).mac.pend.isNone &&
        !(y.thr t).lsu.fence) &&
      y.fills.isEmpty && y.sbuf.isEmpty && y.walk.isNone && y.apxOwner.isNone && y.out.isEmpty && y.heddle.odd.isNone)

/-- CLUSTER_GATE (R456): the cluster has been idle for 64 engine clocks. -/
def execClusterGate (c : Clu) (s : State) : Host.Outcome State Fault Refusal :=
  if s.inRun && s.doze && c ≠ 0 && s.regB (devBase + 5) c.val && !(s.clu c).gated &&
      (engList.all fun e => e.cluster ≠ c || s.engQuiet e) then
    .next (s.updClu c fun x =>
      { x with gated := true, pendAt := tab 8 fun i => (((s.engines.toList[8 * c.val + i]?).map fun (y : Engine) => y.ipend).getD 0) })
  else .next s

/-- A cluster's clocks restart (R457). -/
def State.ungate (s : State) (c : Clu) : State :=
  if (s.clu c).gated then
    (engList.filter fun e => e.cluster = c).foldl State.flush (s.updClu c fun x => { x with gated := false, woken := false })
  else s

/-- Pending bits of the engine set since its cluster was gated, and those that will be set when their events are agreed (R148, R457). -/
def State.pendNew (s : State) (e : Eng) : BitVec 32 :=
  ((s.eng e).ipend ||| (s.eng e).lineIn) &&& ~~~(((s.clu e.cluster).pendAt.toList[e.val % 8]?).getD 0)

/-- A pending bit has been set on a line of the engine that is enabled and routed to a running thread (R457). -/
def State.lineWakes (s : State) (e : Eng) : Bool :=
  (List.range 32).any fun n =>
    (s.pendNew e).getLsbD n && (s.irt e n).getLsbD 6 &&
      thrList.any fun t => decide (bitsAt (s.irt e n) 0 3 = t.val) && s.engEn e && decide ((s.thr e t).run = .running)

/-- An event that wakes a gated cluster has come (R457): something waits at a delivery point, a line asks for a running thread, or a
bobbin has been written for a cursor. A write of its registers and a change of DEV.MCTL wake it at once (`wakeFor`, `dozeChanged`). -/
def State.wakeDue (s : State) (c : Clu) : Bool :=
  (s.clu c).woken || engList.any fun e => e.cluster = c && (!(s.eng e).held.isEmpty || s.lineWakes e)

/-- CLUSTER_WAKE (R457). -/
def execClusterWake (c : Clu) (s : State) : Host.Outcome State Fault Refusal := .next (if s.wakeDue c then s.ungate c else s)

/-- Clusters that DEV.MCTL no longer lets doze restart (R457). -/
def State.dozeChanged (s : State) : State :=
  (List.finRange 8).foldl (fun (u : State) c => if s.doze && s.regB (devBase + 5) c.val then u else u.ungate c) s

/-! ### Resets (R466 to R468) -/

/-- Registers that a reset keeps: REC.CFG (R371, R383). -/
def keptReg (a : Nat) : Bool := a = recBase

/-- What a reset leaves of a cluster's memory state: banks out of retention, their contents' epochs kept (R186, R467). -/
def Cluster.reset (x : Cluster) : Cluster := { epoch := x.epoch }

/-- What a reset leaves of an engine: its agreed inputs (R467). -/
def Engine.reset (x : Engine) : Engine := { inputs := x.inputs, sync := x.sync }

/-- What a reset leaves of the metering core: the shadow; a cold reset leaves the companion RAM undefined (R257, R467). -/
def Metering.reset (x : Metering) (cold : Bool) : Metering := { shadow := x.shadow, exEpoch := if cold then x.exEpoch + 1 else x.exEpoch }

/-- What a reset leaves of the trip fabric: the levels at its pins, but for the lock's feedback, which the fabric takes anew (R307, R308,
R467). -/
def Trip.reset (x : Trip) : Trip := { filt := vmap (fun p v => if p = 0x1D || p = 0x1E then 0 else v) x.filt, pio := x.pio }

/-- What a reset leaves of the recorder (R371, R467): everything held on VKEEP and the records waiting. -/
def Recorder.reset (r : Recorder) : Recorder :=
  { r.orphan with
    lost := 0, nvlost := 0, qdrop := 0, miss := false, wave := none, armed := none, fetching := false, fst := 0
    fbuf := Vector.replicate 16 0, nvFail := false, silent := false, tries := 2, erase := false, vkl := false, iso := false }

/-- What a reset leaves of the shuttle (R390, R391, R467): the PCIe core's state, unless the reset is cold. -/
def Shuttle.reset (x : Shuttle) (cold : Bool) : Shuttle :=
  let sq := vmap (fun _ (q : Sq) => q.abandon) x.sq
  if cold then { sq := sq, key := x.key, prst := x.prst }
  else
    { sq := sq, key := x.key, lup := x.lup, prst := x.prst, d3 := x.d3, bme := x.bme, spd := x.spd, wid := x.wid
      coreUp := x.coreUp, retry := x.retry, ssvid := x.ssvid, ssid := x.ssid, bar0 := x.bar0, bar2 := x.bar2
      msixAddr := x.msixAddr, msixData := x.msixData, mask := x.mask, pba := x.pba
      lastMsg := x.lastMsg, cfgAnswer := x.cfgAnswer, lastUr := x.lastUr }

/-- What a reset leaves of the clocks: whether they and the supplies are good (R514, R515). -/
def Clk.reset (x : Clk) : Clk :=
  { pllOk := x.pllOk, fsOk := x.fsOk, xOk := x.xOk, rcOk := x.rcOk, kOk := x.kOk, refOk := x.refOk, fabOk := x.fabOk, sup := x.sup }

/-- Rank of a reset kind by its RESET code: cold, warm, test access, watchdog, collector, commanded (R468). -/
def resetRank (k : BitVec 3) : Nat :=
  match k.toNat with
  | 1 => 0
  | 2 => 1
  | 6 => 2
  | 3 => 3
  | 4 => 4
  | _ => 5

/-- The contents of every bank and of the companion RAM become undefined (R467). -/
def State.loseAll (s : State) : State :=
  let s := { s with mem := s.mem.filter fun p => regionOf (BitVec.ofNat 24 p.1) ≠ .companion
                    upset := s.upset.filter fun p => 0x1000000 ≤ p.1 || regionOf (BitVec.ofNat 24 p.1) ≠ .companion }
  (List.finRange 8).foldl (fun (s : State) c => (List.finRange 11).foldl (fun (s : State) b => s.loseBank c b) s) s

/-- Kinds of the internal resets that are due: watchdog, collector, commanded (R327, R335, R348). -/
def State.dueKinds (s : State) : List (BitVec 3) :=
  (if s.wdg.resetDue then [3] else []) ++ (if s.col.resetDue.isSome then [4] else []) ++ (if s.col.cmdReset then [5] else [])

/-- A RESET OF A KIND STARTS (R467, R468), or joins the one that holds the device, and those that are due join it: every register returns to
its reset value, engines halt, and what R371, R459 and R467 keep is kept. -/
def State.resetDevice (s : State) (kind : BitVec 3) (src : BitVec 8) : State :=
  let cold := kind = 1
  let joined := (s.dev.inReset.toList ++ s.dueKinds).foldl (fun j k => if resetRank k ≤ resetRank j then k else j) kind
  let rsrc := if kind = 4 then src else match s.col.resetDue with
    | some n => BitVec.ofNat 8 n.val
    | none => if s.dev.inReset.isSome then s.dev.rsrc else 0
  let wasSafe := s.dev.safe
  let wasDegraded := s.dev.degraded
  let t : State :=
    { s with
      regs := s.regs.filter fun p => keptReg p.1
      engines := vmap (fun _ (x : Engine) => x.reset) s.engines
      flights := []
      clusters := vmap (fun _ (x : Cluster) => x.reset) s.clusters
      chans := Vector.replicate 48 {}
      groups := Vector.replicate 12 {}
      adc := {}
      mtr := s.mtr.reset cold
      trip := s.trip.reset
      col := {}
      wdg := {}
      rcd := s.rcd.reset
      mon := Vector.replicate 32 {}
      sht := s.sht.reset cold
      jsn := {}
      dev := { s.dev with
        phase := if s.dev.phase = .powerUp || cold then .powerUp else .boot
        safe := true, degraded := false, rkind := joined, inReset := some joined, rsrc := rsrc }
      boot := {}
      clk := s.clk.reset }
  let t := if cold then t.loseAll.updRcd fun r => { r with pcc := if r.pcc = 0xFFFFFF then r.pcc else r.pcc + 1 } else t
  let t := if wasSafe then t else t.modeRec 1 true
  if wasDegraded then t.modeRec 2 false else t

/-- A reset pin's rising edge will latch the straps (R461). -/
def State.willLatch (s : State) : State := s.updDev fun d => { d with latch := true }

/-- COLD_RESET (R466): POR_N low, or TEST_EN high, whose end latches no straps (R461). -/
def execColdReset (testEn : Bool) (s : State) : Host.Outcome State Fault Refusal :=
  .next (if testEn then (s.updDev fun d => { d with testEn := true }).resetDevice 1 0 else (s.resetDevice 1 0).willLatch)

/-- WARM_RESET (R466): RST_N low. -/
def execWarmReset (s : State) : Host.Outcome State Fault Refusal := .next (s.resetDevice 2 0).willLatch

/-- The TAP is in a state that asks for no reset: Test-Logic-Reset or Run-Test/Idle, with EXTEST not selected (R466, R512). -/
def Tap.rests (x : Tap) : Bool := (x.st = .testLogicReset || x.st = .runTestIdle) && x.ir ≠ 0

/-- WATCHDOG_RESET (R348): the reset that the grace expiry made due. -/
def execWatchdogReset (s : State) : Host.Outcome State Fault Refusal :=
  if s.wdg.resetDue then .next (s.resetDevice 3 0) else .next s

/-- COLLECTOR_RESET (R327): the reset that a RESET reaction made due. -/
def execCollectorReset (s : State) : Host.Outcome State Fault Refusal :=
  match s.col.resetDue with
  | some n => .next (s.resetDevice 4 (BitVec.ofNat 8 n.val))
  | none => .next s

/-- COMMANDED_RESET (R335). -/
def execCommandedReset (s : State) : Host.Outcome State Fault Refusal :=
  if s.col.cmdReset then .next (s.resetDevice 5 0) else .next s

/-! ### The end of a reset, and BOOT (R448, R461, R467, R474) -/

/-- BOOT begins: the RESET record, TETHERED, a new secret, and the subsystem ids (R359, R398, R461, R474). For the QSPI source the
shuttle waits for the header. -/
def State.enterBoot (s : State) : State :=
  let d := s.dev
  let s := s.logRec 5 (d.rkind.setWidth 7) (if d.rkind = 4 then d.rsrc.setWidth 12 else 0) 0
  let teth := d.devl && !d.sealed
  let s := s.updDev fun d => { d with phase := .boot, tethered := teth }
  let s := if d.tethered = teth then s else s.modeRec 4 teth
  let qspi := decide (d.boot = 0)
  s.updSht fun x => { x with key := x.key + 1, ssvid := 0x1F4D, ssid := 0x6412, retry := qspi, ready := !qspi, coreUp := !x.prst }


/-- RESET_END (R461, R466, R468, R512): every cause has ended and 1,024 fk have passed; the straps are BOOT[2:0] with DEVELOP above them. A
cold reset goes on in POWER-UP. While the TAP is outside its idle states, or EXTEST selected, no reset ends. -/
def execResetEnd (straps : BitVec 4) (s : State) : Host.Outcome State Fault Refusal :=
  match s.dev.inReset with
  | none => .next s
  | some _ =>
    if !s.tap.rests then .next s else
    let s := s.updDev fun d =>
      { d with inReset := none, latch := false, testEn := false
               boot := if d.latch then straps.setWidth 3 else d.boot
               devl := if d.latch then straps.getLsbD 3 else d.devl }
    .next (if s.dev.phase = .powerUp then s else s.enterBoot)

/-- VKEEP was lost (R257, R371, R459): SEALED, MOD.SCNT, the shadow and the recorder's state are gone. -/
def State.loseVkeep (s : State) : State :=
  let was := s.dev.sealed
  let s := s.updDev fun d => { d with sealed := false, scnt := 0 }
  let s := { s with regs := s.regs.filter fun p => !keptReg p.1, mem := s.mem.filter (fun p => !inRecorder p.1),
                    upset := s.upset.filter fun p => !inRecorder p.1 }
  let s := (s.updRcd fun r => r.loseKeep s.free).takeFree
  let s := s.updMtr fun x => { x with shadow := { lost := true } }
  let s := if was then s.modeRec 3 false else s
  (s.raise 98 0x06 0).raise 99 0x06 0

/-- POWER_UP_END (R448): POR_N is high, the reference clock and the PLL are locked, and BOOT begins. -/
def execPowerUpEnd (vkeepLost : Bool) (s : State) : Host.Outcome State Fault Refusal :=
  if s.dev.phase = .powerUp && s.dev.inReset.isNone then
    let s := s.updDev fun d => { d with phase := .boot }
    .next (if vkeepLost then s.loseVkeep else s.updRcd Recorder.resume).enterBoot
  else .next s

end Sys2Proof.Machine
end

