-- ==== Sys2Proof/Machine/RegRead.lean ====
section
/-! DEFINITION. What every register reads (R10, R12): stored registers return their stored value, write-only registers 0, and the
registers that hardware maintains are computed from the state. -/

namespace Sys2Proof.Machine

/-- A word from bits 0 upwards. -/
def packBits (n : Nat) (f : Nat → Bool) : Word := BitVec.ofNat 12 (((List.range n).map fun i => if f i then 2 ^ i else 0).sum)

/-- DEV.PHASE.PHASE (R470); POWER-UP, which no master can read, is 0b00. -/
def phaseCode : Phase → Nat
  | .powerUp => 0
  | .boot => 1
  | .setup => 2
  | .run => 3

/-- DEV (R470). -/
def State.readDev (s : State) (o : Nat) : Option Word :=
  match o with
  | 2 => some (fld 10 (phaseCode s.dev.phase) ||| fld 7 s.dev.rkind.toNat ||| fld 4 s.dev.boot.toNat ||| flag 3 s.dev.devl)
  | 4 => some (flag 11 s.dev.safe ||| flag 10 s.dev.degraded ||| flag 9 s.precise ||| flag 8 s.doze ||| flag 7 s.dev.sealed |||
      flag 6 s.solo ||| flag 5 s.dev.tethered ||| flag 4 (s.clk.step ≠ 0))
  | 6 => some (packBits 8 fun i => ((s.clusters.toList[i]?).map Cluster.gated).getD false)
  | _ => none

/-- CLK (R515). -/
def State.readClk (s : State) (o : Nat) : Option Word :=
  let k := s.clk
  match o with
  | 1 => some (fld 10 k.step.toNat ||| flag 9 k.pllOk ||| flag 8 k.fsOk ||| flag 7 k.xOk ||| flag 6 k.rcOk ||| flag 5 k.kOk |||
      flag 4 k.refOk)
  | 2 => some k.temp0
  | 3 => some k.temp1
  | 4 => some k.tmax
  | 5 => some (fld 6 k.sup.toNat)
  | 6 => some k.steps
  | _ => none

/-- CLU of a cluster (R213). RST shows a bank that is still waking as in retention (DESIGN CHOICE, notes/assumptions/62: R193 tells the
two apart, R213 does not). -/
def State.readClu (s : State) (c : Clu) (o : Nat) : Option Word :=
  let x := s.clu c
  match o with
  | 3 => some (packBits 11 fun b => (x.banks.toList[b]?).map (fun m => decide (m ≠ .active)) |>.getD false)
  | 4 => some x.rlost
  | 5 => some x.ptcnt
  | 6 => some x.ppcnt
  | 7 => some x.ccnt
  | 8 => some (loW x.pea)
  | 9 => some (hiW x.pea)
  | 0xA => some x.pest
  | _ => none

/-- SDF (R268, R269). -/
def State.readSdf (s : State) (o : Nat) : Option Word :=
  let ch := fun (n : Nat) (f : Chan → Bool) => if h : n < 48 then f ⟨n, h⟩ else false
  if o = 0xC then some (packBits 12 fun g => ((s.groups.toList[g]?).map Group.lost).getD false)
  else if rng o 0xD 0x10 then some (packBits 12 fun i => ch (12 * (o - 0xD) + i) s.chanValid)
  else if rng o 0x11 0x14 then some (packBits 12 fun i => ch (12 * (o - 0x11) + i) fun n => (s.chan n).berr)
  else if rng o 0x100 0x27F then
    let n : Chan := ⟨(o - 0x100) / 8 % 48, Nat.mod_lt _ (by decide)⟩
    match o % 8 with
    | 2 => if (s.chan n).disabled then some (s.reg (sdfBase + o) &&& 0x3FF) else none
    | 6 => some (wordOf (s.chan n).count 0)
    | 7 => some (wordOf (s.chan n).count 1)
    | _ => none
  else none

/-- ADC (R270). -/
def State.readAdc (s : State) (o : Nat) : Option Word :=
  let a := s.adc
  if o = 2 then some a.cntA
  else if o = 3 then some a.cntB
  else if rng o 0x40 0x4F then a.ra.toList[o - 0x40]?
  else if rng o 0x50 0x5F then a.rb.toList[o - 0x50]?
  else if o = 0x60 then some a.rrefA
  else if o = 0x61 then some a.rrefB
  else none

/-- MTR (R271, R272). ST.Gm of a meter that is off reads 0 (DESIGN CHOICE, notes/assumptions/62). -/
def State.readMtr (s : State) (o : Nat) : Option Word :=
  let m0 := s.meter 0
  let m1 := s.meter 1
  let l0 := s.mtr.latch[0]
  let l1 := s.mtr.latch[1]
  if o = 0xE then
    some (flag 11 s.mtr.shadow.lost ||| flag 10 m0.halted ||| flag 9 m1.halted ||| flag 8 m0.x ||| flag 7 m1.x |||
      flag 6 (m0.on && s.meterGap 0) ||| flag 5 (m1.on && s.meterGap 1) ||| flag 4 m0.ce ||| flag 3 m1.ce |||
      flag 2 m0.xce ||| flag 1 m1.xce)
  else if rng o 0x10 0x17 then some (wordOf l0.imp (o - 0x10))
  else if rng o 0x18 0x1F then some (wordOf l0.exp (o - 0x18))
  else if rng o 0x20 0x27 then some (wordOf l1.imp (o - 0x20))
  else if rng o 0x28 0x2F then some (wordOf l1.exp (o - 0x28))
  else if rng o 0x30 0x32 then some (wordOf l0.n.toNat (o - 0x30))
  else if rng o 0x33 0x35 then some (wordOf l1.n.toNat (o - 0x33))
  else if rng o 0x36 0x37 then some (wordOf l0.gap.toNat (o - 0x36))
  else if rng o 0x38 0x39 then some (wordOf l1.gap.toNat (o - 0x38))
  else none

/-- CMP (R273). ACT is 1 in the fabric clock of a companion access. -/
def State.readCmp (s : State) (o : Nat) : Option Word :=
  match o with
  | 1 => some (flag 11 s.intIsLow ||| flag 10 s.mtr.act ||| flag 9 (s.mtr.lea.getLsbD 12))
  | 2 => some s.mtr.pecnt
  | 3 => some s.mtr.xecnt
  | 4 => some (s.mtr.lea.setWidth 12)
  | _ => none

/-- TRF (R307, R308). -/
def State.readTrf (s : State) (o : Nat) : Option Word :=
  let x := s.trip
  if o = 0x480 then some (loW x.asserted)
  else if o = 0x481 then some (hiW x.asserted)
  else if o = 0x482 then some (loW x.raw)
  else if o = 0x483 then some (hiW x.raw)
  else if rng o 0x484 0x489 then
    some (packBits 12 fun i => ((x.tc.toList[12 * (o - 0x484) + i]?).map Comparator.act).getD false)
  else if o = 0x48A then some (flag 4 x.pilot.stale ||| flag 3 x.pilot.diode ||| x.pilot.state.setWidth 12)
  else if o = 0x48B then
    some (flag 11 x.estopTrip ||| flag 10 x.edisc ||| flag 9 x.door ||| flag 8 x.hold ||| flag 7 s.lockFaultOn |||
      fld 5 s.lockPos ||| flag 4 s.collTrip)
  else if o = 0x48C then some (packBits 12 s.outAtSafe)
  else if o = 0x48D then
    some (flag 10 (s.outAtSafe 22) ||| flag 9 (s.outAtSafe 21) ||| flag 8 (s.outAtSafe 20) |||
      packBits 8 fun i => s.outAtSafe (12 + i))
  else if o = 0x48E then some (flag 11 (!x.badCfg.isEmpty) ||| x.cpea)
  else none

/-- MON of a gauge (R387); MIN and MAX read 0 while TOT is 0 (R380). -/
def State.readMon (s : State) (g : Fin 32) (o : Nat) : Option Word :=
  let x := s.gauge g
  let v := x.snap
  match o with
  | 8 => some (flag 11 x.valid ||| flag 10 x.armed ||| flag 9 x.alm ||| flag 8 x.sat)
  | 9 => some (if v.tot = 0 then 0 else loW v.min)
  | 0xA => some (if v.tot = 0 then 0 else hiW v.min)
  | 0xB => some (if v.tot = 0 then 0 else loW v.max)
  | 0xC => some (if v.tot = 0 then 0 else hiW v.max)
  | 0xD => some (wordOf v.tot.toNat 0)
  | 0xE => some (wordOf v.tot.toNat 1)
  | 0xF => some (wordOf v.tot.toNat 2)
  | _ => if rng o 0x10 0x2F then (v.bins.toList[(o - 0x10) / 2]?).map fun b => wordOf b.toNat (o % 2) else none

/-- The handle a descriptor carries: the low 12 bits of its three containers (R396, R407). -/
def Descriptor.handle (d : Descriptor) : BitVec 36 := handleOf (d.grant0.setWidth 12) (d.grant1.setWidth 12) (d.grant2.setWidth 12)

/-- An SQ executes a descriptor checked against entry `i` (R401). -/
def Sq.uses (q : Sq) (i : Nat) : Bool :=
  match q.exec with
  | some x => x.status.isNone && rng x.d.opc.toNat 1 7 && hIndex (Descriptor.handle x.d) = i
  | none => false

/-- SHT (R423 to R426). -/
def State.readSht (s : State) (o : Nat) : Option Word :=
  let x := s.sht
  let n : Fin 8 := ⟨o / 32 % 8, by omega⟩
  if o < 0x100 then
    match o with
    | 3 => some (flag 11 x.lup ||| flag 10 x.prst ||| flag 9 x.iso ||| flag 8 x.d3 ||| fld 6 x.spd.toNat ||| fld 4 x.wid.toNat)
    | 5 => some x.gfcnt
    | 6 => some x.pecnt
    | 7 => some (BitVec.ofNat 12 (x.grants.toList.filter fun g => !g.v && !g.ret).length)
    | 8 => some (wordOf x.gfh.toNat 0)
    | 9 => some (wordOf x.gfh.toNat 1)
    | 0xA => some (wordOf x.gfh.toNat 2)
    | 0xB => some x.gfsq
    | _ => none
  else if o < 0x200 then
    let q := s.sq n
    match o % 32 with
    | 0xA => some (flag 11 q.en)
    | 0xB => some (flag 11 (s.sqRun n) ||| flag 10 q.exec.isSome ||| flag 9 q.quar ||| flag 8 (s.sqGrantOk n) ||| flag 7 q.rge |||
        flag 6 q.cqoff ||| flag 5 q.abt)
    | 0xC => some q.head
    | 0xD => some q.tail
    | 0xE => some (q.qc.setWidth 12)
    | 0xF => some q.at_
    | 0x10 => some (loW q.ap)
    | 0x11 => some (hiW q.ap)
    | _ => none
  else if o < 0x300 then
    let q := s.cq n
    match o % 32 with
    | 9 => some (flag 11 q.en)
    | 0xA => some (flag 11 (q.en && !q.err) ||| flag 10 q.phase ||| flag 9 (q.en && !s.cqFree n) ||| flag 8 q.err)
    | 0xB => some q.head
    | 0xC => some q.tail
    | 0xD => some (q.pd.setWidth 12)
    | _ => none
  else if rng o 0x400 0x7FF then
    let e : Eng := ⟨(o - 0x400) / 16 % 64, by omega⟩
    match o % 16 with
    | 7 => some x.gpst[e.val]
    | 8 => some (wordOf (x.gph[e.val]).toNat 0)
    | 9 => some (wordOf (x.gph[e.val]).toNat 1)
    | 10 => some (wordOf (x.gph[e.val]).toNat 2)
    | _ => none
  else if rng o 0x1000 0x1FFF then
    let i := (o - 0x1000) / 8
    let g := s.grant i
    match o % 8 with
    | 0 => some (loW g.base)
    | 1 => some (hiW g.base)
    | 2 => some (loW g.len)
    | 3 => some (hiW g.len)
    | 4 => some (g.rights.setWidth 12)
    | 5 => some (flag 11 g.v ||| flag 10 g.ret ||| flag 9 (x.sq.toList.any fun q => q.uses i) ||| g.gen.setWidth 12)
    | 6 => some (g.owner.setWidth 12)
    | _ => none
  else none

/-- JSN (R447). -/
def State.readJsn (s : State) (o : Nat) : Option Word :=
  let x := s.jsn
  let armed := lineBits fun n => x.arms.any fun a => a.line.toNat = n
  if o = 6 then
    some (packBits 12 fun i =>
      match x.port.toList[i / 4]? with
      | some p => (i % 4 = 3 && p.sync) || (i % 4 = 2 && p.iso)
      | none => false)
  else if o = 7 then some (loW s.chainTrip)
  else if o = 8 then some (hiW s.chainTrip)
  else if o = 9 then some (loW armed)
  else if o = 0xA then some (hiW armed)
  else if o = 0xB then some x.fresh
  else if o = 0xC then some x.adrop
  else if o = 0xD then some x.mdrop
  else if o = 0x26 then some (flag 11 x.busy ||| fld 8 x.dropped.toNat)
  else if rng o 0x30 0x33 then x.rbud.toList[o - 0x30]?
  else if o = 0x34 then some x.rbsrc
  else if rng o 0x38 0x3B then x.repo.toList[o - 0x38]?
  else if o = 0x3C then some x.resrc
  else none

/-- SEL.RCST and REC.CLST (R384, R385). -/
def State.clearState (s : State) : Word :=
  flag 11 s.clearArmed ||| flag 10 s.rcd.erase ||| BitVec.ofNat 12 s.rcd.clogUsed

/-- REC (R383, R384). A commit runs whenever a record is due and nothing holds it back. -/
def State.readRec (s : State) (o : Nat) : Option Word :=
  let r := s.rcd
  if o = 1 then
    some (flag 11 (s.nvOn && !r.iso && !r.silent && !r.held && r.due.isSome) ||| flag 10 r.nvFail ||| flag 9 r.vkl ||| flag 8 r.iso)
  else if rng o 2 4 then some (wordOf r.nseq.toNat (o - 2))
  else if rng o 5 7 then some (wordOf r.cseq.toNat (o - 5))
  else if rng o 8 0xA then some (wordOf r.ops.toNat (o - 8))
  else if o = 0xB then some (loW r.pcc)
  else if o = 0xC then some (hiW r.pcc)
  else if o = 0xD then some r.lost
  else if o = 0xE then some r.nvlost
  else if o = 0xF then some r.qdrop
  else if o = 0x14 then some (flag 11 r.wave.isSome ||| flag 10 r.miss)
  else if o = 0x15 then some s.clearState
  else if o = 0x24 then some (flag 11 r.fetching ||| r.fst)
  else if rng o 0x30 0x3F then r.fbuf.toList[o - 0x30]?
  else none

/-- PIO (R309, R310). -/
def State.readPio (s : State) (o : Nat) : Option Word :=
  match o with
  | 4 => some (s.trip.pio.setWidth 12)
  | 5 => some ((s.trip.pio >>> 12).setWidth 12)
  | 9 => some (flag 11 s.trip.pilot.level ||| flag 10 s.trip.imd ||| flag 9 (s.regB (pioBase + 8) 0 && !s.lockHold))
  | _ => none

/-- ENG.APRI and its companions: three active priorities, lowest thread in [3:0] (R133). -/
def Engine.apriWord (x : Engine) (t : Nat) : Word :=
  let p := fun (k : Nat) => if h : t + k < 8 then (x.thr ⟨t + k, h⟩).apri.toNat else 0
  fld 8 (p 2) ||| fld 4 (p 1) ||| fld 0 (p 0)

/-- ENG of an engine (R56 to R59, R132, R133, R163, R164). TRUN shows T0 of E0 while it runs the boot ROM (R472). -/
def State.readEng (s : State) (e : Eng) (o : Nat) : Option Word :=
  let x := s.eng e
  let h := x.heddle
  match o with
  | 5 => some (packBits 8 fun t => ((x.threads.toList[t]?).map fun y => decide (y.run = .running)).getD false)
  | 6 => some (BitVec.ofNat 12 x.icpin)
  | 0x16 => some x.fsp[0]
  | 0x17 => some x.fsp[1]
  | 0x18 => some (x.fuse.setWidth 12)
  | 0x19 => some x.lock
  | 0x1A => some (x.ipend.setWidth 12)
  | 0x1B => some ((x.ipend >>> 12).setWidth 12)
  | 0x1C => some (flag 11 x.nmi ||| ((x.ipend >>> 24).setWidth 8).setWidth 12)
  | 0x1E => some (x.apriWord 0)
  | 0x80 => some (x.apriWord 3)
  | 0x81 => some (x.apriWord 6)
  | 0x43 => some (flag 11 h.retired[0] ||| flag 10 h.retired[1] ||| flag 9 h.retired[2] ||| fld 7 h.state |||
      fld 5 ((h.odd.map laneCode).getD 0))
  | 0x44 => some h.cnt[0]
  | 0x45 => some h.cnt[1]
  | 0x46 => some h.cnt[2]
  | 0x47 => some h.last
  | 0x48 => some h.maxp
  | 0x49 => some h.maxr
  | 0x4A => some h.picks
  | _ => none

/-- SEL.SBLK: what blocks a release of SAFE (R334, R338). -/
def State.sblk (s : State) : Word :=
  let line := (List.range 24).any fun n => s.trip.asserted.getLsbD n && s.lineSafe n
  flag 4 (s.wdg.cstop || s.wdg.mstop) ||| flag 3 s.col.nosel ||| flag 2 s.col.self ||| flag 1 s.collTrip ||| flag 0 line

/-- SEL pages 0 to 5 (R337 to R340, R356, R357, R385, R471). -/
def State.readSel (s : State) (page o : Nat) : Option Word :=
  let k := s.col
  match page with
  | 0 =>
    match o with
    | 2 => some (flag 11 s.dev.safe ||| flag 10 k.self ||| flag 9 s.frozen ||| flag 8 s.lockedUp ||| flag 7 k.nosel ||| flag 6 s.selLocked)
    | 6 => some s.sblk
    | 7 => some k.icnt
    | 8 => some (loW k.ia)
    | 9 => some (hiW k.ia)
    | _ => none
  | 1 => if o < 0x220 && o % 4 = 3 then some (flag 11 (srcFixed (o / 4)) ||| s.reg (fclCfgBase + o)) else none
  | 2 =>
    if o < 0xA0 then (k.src.toList[o]?).map fun x =>
      flag 11 x.sev ||| flag 10 x.trp ||| flag 9 x.iso ||| flag 8 x.open_ ||| x.cnt.setWidth 12
    else if rng o 0x100 0x19F then (k.src.toList[o - 0x100]?).map Source.tot
    else if rng o 0x200 0x20D then
      some (packBits 12 fun i => ((k.src.toList[12 * (o - 0x200) + i]?).map Source.sev).getD false)
    else if o = 0x220 then some k.lsrc
    else if o = 0x221 then some k.lcs
    else if o = 0x222 then some (loW k.lpl)
    else if o = 0x223 then some (hiW k.lpl)
    else if o = 0x224 then some k.drop
    else if o = 0x225 then some (flag 11 k.self ||| flag 10 k.selfCfg)
    else if o = 0x226 then some k.selfA
    else none
  | 3 =>
    let w := s.wdg
    let exp := fun (k : Nat) => packBits 12 fun i => ((w.now.exp.toList[6 * k + i / 2]?).map fun x => x.getLsbD (i % 2)).getD false
    if o = 8 then some (flag 0 w.held)
    else if o = 0x10 then some (loW w.now.per)
    else if o = 0x11 then some (hiW w.now.per)
    else if o = 0x12 then some (w.now.c.setWidth 12)
    else if rng o 0x13 0x15 then some (exp (o - 0x13))
    else if o = 0x16 then
      some (flag 11 w.running ||| flag 10 s.wdgOpen ||| flag 9 w.grace ||| flag 8 w.held ||| flag 7 w.pend.isSome |||
        flag 6 w.cstop ||| flag 5 w.mstop)
    else if o = 0x17 then some (loW w.i)
    else if o = 0x18 then some (hiW w.i)
    else if rng o 0x19 0x1C then
      some (packBits 12 fun i => ((w.cnt.toList[4 * (o - 0x19) + i / 3]?).map fun c => c.getLsbD (i % 3)).getD false)
    else if o = 0x1D then some w.lev
    else if o = 0x1E then some w.svcnt
    else none
  | 4 =>
    match o with
    | 2 => some (flag 11 s.dev.sealed ||| flag 10 s.sealOpen ||| flag 9 s.dev.devl ||| flag 8 s.solo)
    | 3 => some s.dev.scnt
    | _ => none
  | _ => if o = 1 then some s.clearState else none

/-- The value a register read returns; a reserved word, which no read reaches, gives 0. -/
def State.readReg (s : State) (a : Nat) : Word :=
  let o := a % 0x1000
  let v := match a / 0x1000 with
    | 0x800 => s.readDev o
    | 0x801 => s.readClk o
    | 0x804 | 0x805 => s.readClu ⟨(a - 0x804000) / 0x400 % 8, by omega⟩ (a % 0x400)
    | 0x808 => s.readSdf o
    | 0x809 => s.readAdc o
    | 0x80A => s.readMtr o
    | 0x80C => s.readTrf o
    | 0x80E => s.readMon ⟨o / 0x40 % 32, by omega⟩ (o % 0x40)
    | 0x810 => s.readSht o
    | 0x811 => s.readSht (o + 0x1000)
    | 0x812 => s.readJsn o
    | 0x814 => s.readRec o
    | 0x816 => s.readCmp o
    | 0x818 => s.readPio o
    | 0x820 | 0x821 | 0x822 | 0x823 => s.readEng ⟨(a - 0x820000) / 0x100 % 64, by omega⟩ (a % 0x100)
    | 0x840 => s.readSel 0 o
    | 0x841 => s.readSel 1 o
    | 0x842 => s.readSel 2 o
    | 0x843 => s.readSel 3 o
    | 0x844 => s.readSel 4 o
    | 0x845 => s.readSel 5 o
    | _ => none
  match v, regInfo a with
  | some w, _ => w
  | none, some r => if r.acc = .wo then 0 else s.reg a
  | none, none => 0

end Sys2Proof.Machine
end

