-- ==== Sys2Proof/Machine/RegWrite.lean ====
section
/-! DEFINITION. What a write does at every register: access codes and writers (R10, R312 to R316, R449), refused values, the effects
of fields that act, and what a refusal counts (R171, R185, R316). -/

namespace Sys2Proof.Machine

/-- A write at a register: accepted, or refused with an error response. -/
inductive WriteOut where
  | ok (s : State)
  | refused (s : State)
deriving DecidableEq, Repr

/-! ### Who writes -/

/-- A machine-level engine store. -/
def Master.machineStore : Master → Bool
  | .engine _ _ m => m
  | _ => false

/-- A machine-level store of one of the engine's own threads. -/
def ownStore (e : Eng) : Master → Bool
  | .engine e' _ m => m && decide (e' = e)
  | _ => false

/-- A machine-level store of a thread of a selvedge engine. -/
def State.selStore (s : State) : Master → Bool
  | .engine e _ m => m && s.isSel e
  | _ => false

def isMonitor : Master → Bool
  | .monitor => true
  | _ => false

def isHost : Master → Bool
  | .host => true
  | _ => false

def isSvp : Master → Bool
  | .svp _ _ => true
  | _ => false

/-- SETUP or RUN. -/
def State.setupOrRun (s : State) : Bool := s.dev.phase = .setup || s.dev.phase = .run

/-- The access code admits the writer in this phase (R10, R101, R312, R314, R449, R484). -/
def State.accOk (s : State) (m : Master) (a : Nat) (r : RegInfo) : Bool :=
  if isSelvedge a then
    match r.acc with
    | .sv => isSvp m && s.setupOrRun
    | .lk => decide (s.dev.phase = .setup) && !s.selLocked &&
        (Master.machineStore m || isSvp m || (isMonitor m && decide (a / 0x1000 = 0x840)))
    | _ => !isSvp m && !isMonitor m
  else
    match r.acc with
    | .lk => decide (s.dev.phase = .setup)
    | _ => true

/-! ### Effects shared by several registers -/

/-- The plain store of an accepted write. -/
def State.keep (s : State) (a : Nat) (v : Word) : WriteOut := .ok (s.setReg a v)

/-- Refused in a case, else as given. -/
def State.unless (s : State) (bad : Bool) (w : WriteOut) : WriteOut := if bad then .refused s else w

/-- Bits of a flag word cleared by 1s; those that hardware has set in the running fabric clock, `now`, stay set (R11). -/
def clearBits {w : Nat} (flags ones now : BitVec w) : BitVec w := flags &&& ~~~(ones &&& ~~~now)

/-! ### DEV, CLK, CLU (R213, R450, R470, R515) -/

def State.putDev (s : State) (m : Master) (o : Nat) (v : Word) : WriteOut :=
  match o with
  | 3 =>
    let own := match m with
      | .engine e _ mach => mach && e = 0
      | .monitor => true
      | _ => false
    s.unless (!(own && decide (s.dev.phase = .setup))) (.ok (if v.getLsbD 0 then s.runEntry else s))
  | _ => s.unless (!(Master.machineStore m || isMonitor m)) (.ok (s.setReg (devBase + o) v).dozeChanged)

/-- A reserved code at CLU.FLEX (R175, R178). -/
def flexBad (v : Word) : Bool :=
  let x := bitsAt v 4 4
  let y := bitsAt v 0 4
  let code := fun (k : Nat) => k ≤ 9 || k = 15
  match bitsAt v 10 2 with
  | 0 => 8 < x || !code y
  | 1 => (x = y && x ≠ 15) || !code x || !code y
  | _ => true

def State.putClu (s : State) (m : Master) (c : Clu) (o : Nat) (v : Word) : WriteOut :=
  let a := cluBase c + o
  if o = 0 then s.unless (flexBad v) (s.keep a v)
  else if o = 4 then .ok (s.updClu c fun x => { x with rlost := clearBits x.rlost v x.rlostNow })
  else if o < 0x10 then s.keep a v
  else
    let k := if o < 0x20 then (o - 0x10) / 2 else (o - 0x40) / 8
    let e : Eng := ⟨(c.val * 8 + k) % 64, by omega⟩
    s.unless (s.inRun && !(ownStore e m || isMonitor m)) (s.keep a v)

/-! ### Sensing (R268 to R273) -/

def State.putSdf (s : State) (o : Nat) (v : Word) : WriteOut :=
  let a := sdfBase + o
  if o ≤ 0xB then s.unless (v.getLsbD 10 && !rng (bitsAt v 0 6) 10 49) (s.keep a v)
  else if rng o 0x11 0x14 then
    .ok { s with chans := vmap (fun n (c : Channel) =>
      if n / 12 = o - 0x11 && v.getLsbD (n % 12) then { c with berr := c.berrNow } else c) s.chans }
  else if o % 8 = 0 then s.unless (decide (4 < bitsAt v 8 3)) (s.keep a v)
  else s.keep a v

def State.putAdc (s : State) (o : Nat) (v : Word) : WriteOut :=
  s.unless (rng o 0x10 0x2F && decide (0x10 < bitsAt v 0 5)) (s.keep (adcBase + o) v)

def State.putMtr (s : State) (o : Nat) (v : Word) : WriteOut :=
  let a := mtrBase + o
  match o with
  | 0xC => s.unless (s.dev.sealed || decide (s.dev.phase ≠ .setup)) (.ok (s.mtrClear v))
  | 0xD => .ok (if v.getLsbD 0 then s.mtrLatch else s)
  | _ =>
    let bad := s.dev.sealed ||
      (match o with
       | 1 | 2 => decide (47 < bitsAt v 0 6) || decide (47 < bitsAt v 6 6)
       | 3 | 4 => decide (47 < bitsAt v 0 6) || (v.getLsbD 11 && bitsAt v 6 5 = 0)
       | 9 => !rng (bitsAt v 0 10) 1 600
       | _ => false)
    s.unless bad (s.keep a v)

/-! ### Trip fabric and vehicle side (R276 to R282, R296, R300, R301, R303, R307 to R310) -/

/-- KIND and IDX that a comparator admits (R277). -/
def tcCfgOk (v : Word) : Bool :=
  let i := bitsAt v 3 6
  match bitsAt v 9 3 with
  | 0 => true
  | 1 | 2 => i < 48
  | 3 | 4 => i < 16
  | 5 => i < 2
  | 6 => i < 8
  | _ => false

/-- The lines a release names are released in each copy where its raw(n) is 0 (R282, R283). -/
def State.releaseLines (s : State) (high : Bool) (v : Word) : State :=
  let m : BitVec 24 := if high then v.setWidth 24 <<< 12 else v.setWidth 24
  let copies := vmap (fun k c => c &&& ~~~(m &&& ~~~s.rawLines k)) s.trip.copies
  s.updTrip fun x => { x with copies := copies, asserted := votedLines copies }

/-- A GPIO that a line's TLG selects (R276). -/
def State.gpioSelected (s : State) (n : Nat) : Bool :=
  (List.range 24).any fun l => (s.reg2 (lineReg l 6)).getLsbD n

/-- GPIOs that a line selects are inputs (R276). -/
def State.selectedInputs (s : State) : State :=
  let keep := fun (h : Nat) => packBits 12 fun i => !s.gpioSelected (12 * h + i)
  let g0 := s.reg pioBase &&& keep 0
  let g1 := s.reg (pioBase + 1) &&& keep 1
  (s.setReg pioBase g0).setReg (pioBase + 1) g1

/-- A stored TRF word is good again (R303). -/
def State.keepTrf (s : State) (o : Nat) (v : Word) : State :=
  (s.setReg (trf o) v).updTrip fun x => { x with badCfg := x.badCfg.filter fun k => k ≠ o }

/-- TRF (R277 to R282, R303): a comparator that is given another source has not waited for a value of it yet (R279). -/
def State.putTrf (s : State) (o : Nat) (v : Word) : WriteOut :=
  if o = 0x4A0 || o = 0x4A1 then .ok ((s.releaseLines (o = 0x4A1) v).fabricFrom s)
  else if o < 0x200 then
    let n : Fin 64 := ⟨o / 8 % 64, by omega⟩
    let bad := (o % 8 = 0 && !tcCfgOk v) || (o % 8 = 1 && bitsAt v 0 8 = 0)
    let t := s.keepTrf o v
    let other := o % 8 = 0 && bitsAt v 3 9 ≠ bitsAt (s.reg (trf o)) 3 9
    let t := if o % 8 ≤ 1 then t.updTc n fun c => { c with cnt := 0, stale := c.stale && !other, act := c.act && !(o % 8 = 0 && bitsAt v 9 3 = 0) } else t
    s.unless bad (.ok (t.fabricFrom s))
  else if o < 0x380 && (o % 16 = 6 || o % 16 = 7) then .ok ((s.keepTrf o v).selectedInputs.fabricFrom s)
  else
    let zero := (o = 0x447 || o = 0x44B || o = 0x44C) && bitsAt v 0 8 = 0
    s.unless zero (.ok ((s.keepTrf o v).fabricFrom s))

def State.putPio (s : State) (o : Nat) (v : Word) : WriteOut :=
  let a := pioBase + o
  let w := s.keep a v
  if !s.setupOrRun then .refused s
  else if o ≤ 1 then
    s.unless ((List.range 12).any fun i => v.getLsbD i && s.gpioSelected (12 * o + i)) w
  else if o = 6 then
    s.unless (bitsAt v 10 2 = 3 || (bitsAt v 10 2 = 2 && !rng (bitsAt v 0 10) 1 999)) w
  else if o = 7 then
    let on := v.getLsbD 11
    let was := s.regB a 11
    let t := s.setReg a v
    let t :=
      if on && !was then (t.updTrip fun x => { x with imd := true }).pioFire 0x31 true false
      else if !on && s.trip.imd then (t.updTrip fun x => { x with imd := false }).pioFire 0x31 false false
      else t
    s.unless (on && !rng (bitsAt v 0 10) 1 1000) (.ok t)
  else if 0x10 ≤ o then s.unless (!(decide (bitsAt v 0 6 ≤ 0x28) || rng (bitsAt v 0 6) 0x30 0x32)) w
  else w

/-! ### Engines (R27, R31, R57, R60, R133, R164, R165) -/

/-- A start through ENG.TCTL (R25) in a lane: the thread's frames are freed, a load delay and an imprecise exception are dropped, and all
else stays as it was, running operations too. A precise fault that still waits for its entry slot, and a return or tail entry that
waits, go with what they would have entered or restored (DESIGN CHOICE, notes/assumptions/58: R25 does not name them). Where a load has
completed and its delay is still pending, LSU.Q and QH hold the new words once the delay is dropped (DESIGN CHOICE, notes/assumptions/62).
-/
def State.startThread (s : State) (e : Eng) (t : Thr) : State :=
  let bits : BitVec 8 := match s.shape e with
    | 1 => BitVec.ofNat 8 (3 * 2 ^ (2 * (t.val % 4)))
    | _ => BitVec.ofNat 8 (2 ^ t.val)
  let deep := decide (2 ≤ s.shape e)
  let top := s.reg (engBase e + 0x12 + t.val % 2)
  let pc := s.entryPc e
  s.updEng e fun x =>
    { (x.orphanWalk t).updThr t fun y =>
        { y with
          run := .running, haltReq := false, pc := pc, tm := 0x800, shadow := none, lb := none, apri := 0xF
          lsu := { y.lsu with delay := false, newQ := none, q := (y.lsu.newQ.getD (y.lsu.q, none)).1
                              qh := ((y.lsu.newQ.bind Prod.snd).getD y.lsu.qh) }
          begun := false, entering := none, pexc := none, pfault := none, ret := false, tail := none } with
      fuse := x.fuse &&& ~~~bits
      fsp := if deep then upd x.fsp ⟨t.val % 2, Nat.mod_lt _ (by decide)⟩ fun _ => top else x.fsp }

/-- ENG.TCTL (R27, R60). -/
def State.putTctl (s : State) (m : Master) (e : Eng) (v : Word) : WriteOut :=
  let go := v.getLsbD 11
  let halt := v.getLsbD 10
  let t : Thr := ⟨bitsAt v 0 3 % 8, by omega⟩
  let run := (s.thr e t).run
  let ok := s.inRun && s.engEn e && !(s.eng e).locked && (ownStore e m || s.selStore m || isMonitor m) && !(go && halt) &&
    decide (t.val < s.nThreads e) && (!go || decide (run = .halted)) && (!halt || decide (run = .running))
  if !ok then .refused s
  else if go then .ok (s.inLanes e fun s => s.startThread e t)
  else if halt then .ok (s.updThrs e t fun y => { y with haltReq := true })
  else .ok s

/-- Threads of a shape (R20). -/
def shapeThreads (k : Nat) : Nat := 8 / 2 ^ min k 2

def State.putEng (s : State) (m : Master) (e : Eng) (o : Nat) (v : Word) : WriteOut :=
  let a := engBase e + o
  let own := ownStore e m || isMonitor m
  let clear := fun (w : BitVec 32) => WriteOut.ok (s.updLanes e fun x => { x with ipend := clearBits x.ipend w x.ipendNow })
  if o = 0 then
    s.unless (bitsAt v 10 2 = 3 || (v.getLsbD 9 && decide (shapeThreads (bitsAt v 10 2) ≤ bitsAt v 6 3))) (s.keep a v)
  else if o = 4 then s.putTctl m e v
  else if rng o 0x1A 0x1C then
    s.unless (s.inRun && !own)
      (clear (if o = 0x1A then v.setWidth 32 else if o = 0x1B then v.setWidth 32 <<< 12 else (v &&& 0x0FF).setWidth 32 <<< 24))
  else if o = 0x1D then
    let writer := match m with
      | .engine _ _ _ | .monitor => true
      | _ => false
    if !writer || (v.getLsbD 0 && v.getLsbD 1) then .refused s
    else if v.getLsbD 0 then .ok (s.setLine e 30)
    else if v.getLsbD 1 then clear 0x40000000
    else .ok s
  else if rng o 0x20 0x3F then
    let old := s.reg a
    let changed := decide ((v &&& 0x03F) ≠ (old &&& 0x03F))
    s.unless ((s.inRun && !own) || (changed && decide (s.dev.phase ≠ .setup))) (s.keep a v)
  else if o = 0x40 then s.unless (bitsAt v 8 4 = 0) (s.keep a v)
  else if o = 0x41 then s.unless (v = 0) (s.keep a v)
  else if o = 0x42 then s.unless (bitsAt v 0 8 = 0) (s.keep a v)
  else if o = 0x4B then
    match laneOf (bitsAt v 0 2) with
    | some l =>
      if (s.selStore m || isMonitor m) && (s.heddle e).state = 0 then
        .ok (s.updHeddle e fun h => { h with inject := upd h.inject (laneIdx l) fun _ => true })
      else .refused s
    | none => .refused s
  else s.keep a v

/-! ### Gauges (R378, R380, R386, R387) -/

/-- KIND and IDX that a gauge admits (R378). -/
def monSrcOk (v : Word) : Bool :=
  let i := bitsAt v 0 8
  match bitsAt v 8 4 with
  | 0 => true
  | 1 | 2 | 3 | 5 | 6 | 7 => i < 64
  | 4 => i < 8
  | 8 => i < 3
  | 9 | 0xA => i < 48
  | 0xB => i ≤ 0x10
  | 0xC => i < 2
  | _ => false

/-- XSEL that a KIND admits (R378). -/
def monXselOk (kind x : Nat) : Bool :=
  match kind with
  | 1 => x < 8
  | 2 => x ≤ 32
  | 7 => x < 48
  | 0xB => x < 2
  | _ => true

def State.putMon (s : State) (g : Fin 32) (o : Nat) (v : Word) : WriteOut :=
  let a := monBase g + o
  let armed := (s.gauge g).armed
  if !s.setupOrRun then .refused s
  else if o = 7 then
    -- bit 0 arms, bit 1 takes the snapshot
    if v.getLsbD 0 && v.getLsbD 1 then .refused s
    else if v.getLsbD 0 then .ok (s.gaugeArm g)
    else if v.getLsbD 1 then (if armed then .ok (s.gaugeSnap g) else .refused s)
    else .ok s
  else
    let bad := match o with
      | 0 => decide (23 < bitsAt v 6 5) || bitsAt v 4 2 = 3
      | 1 => !monSrcOk v || !monXselOk (bitsAt v 8 4) (bitsAt (s.reg (monReg g 2)) 0 6)
      | 2 => !monXselOk (bitsAt (s.reg (monReg g 1)) 8 4) (bitsAt v 0 6)
      | _ => false
    s.unless (armed || bad) (s.keep a v)

/-! ### Shuttle (R395, R400, R403, R416, R421, R423 to R426) -/

def State.putSht (s : State) (m : Master) (o : Nat) (v : Word) : WriteOut :=
  let a := shtBase + o
  let n : Fin 8 := ⟨o / 32 % 8, by omega⟩
  if o < 0x100 then
    match o with
    | 0 => s.unless (bitsAt v 0 8 = 0) (s.keep a v)
    | 1 => s.unless (v = 0) (s.keep a v)
    | 2 => s.unless (bitsAt v 0 2 = 3) (s.keep a v)
    | 0x10 => s.unless (!isHost m || bitsAt v 0 11 ≠ 0) (s.keep a v)
    | 0x11 | 0x12 | 0x13 | 0x14 | 0x15 => s.unless (!isHost m) (s.keep a v)
    | _ => s.keep a v
  else if o < 0x200 then
    match o % 32 with
    | 0xA =>
      if v.getLsbD 0 && !Master.machineStore m then .refused s
      else
        let t := if v.getLsbD 0 then s.sqUnq n else s
        .ok (if v.getLsbD 11 then t.sqEnableOp n else t.sqDisableOp n)
    | k => s.unless ((s.sq n).en || s.sqRun n || (k = 5 && decide (v.toNat < 15))) (s.keep a v)
  else if o < 0x300 then
    match o % 32 with
    | 6 =>
      let t := s.setReg a v
      .ok (if v.getLsbD 11 && (s.cq n).thr.toNat ≤ (s.cq n).pd.toNat then t.cqMessage n else t)
    | 7 => s.unless (bitsAt v 0 8 = 0) (s.keep a v)
    | 8 => s.keep a v
    | 9 =>
      if v.getLsbD 11 then .ok (s.cqEnableOp n)
      else s.unless (!s.cqIdle n) (.ok (s.cqDisableOp n))
    | k => s.unless ((s.cq n).en || (k = 5 && decide (v.toNat < 15))) (s.keep a v)
  else
    let e : Eng := ⟨(o - 0x400) / 16 % 64, by omega⟩
    s.unless (!ownStore e m) (if o % 16 = 6 then .ok (s.gpCommand e v) else s.keep a v)

/-! ### Jarsyn, recorder, companion (R365, R371, R372, R384, R427, R428, R441, R447) -/

def State.putJsn (s : State) (m : Master) (o : Nat) (v : Word) : WriteOut :=
  let a := jsnBase + o
  if o = 0 then s.unless (v = 0) (s.keep a v)
  else if o = 1 then s.unless (bitsAt v 10 2 = 3 || (v.getLsbD 9 && bitsAt v 10 2 ≠ 2) || bitsAt v 2 2 = 3)
    (.ok ((s.setReg a v).leavePorts.fabricFrom s))
  else if o = 2 then s.unless (v = 0) (s.keep a v)
  else if o = 3 then s.unless (decide (bitsAt v 0 8 < 2)) (s.keep a v)
  else if o < 0x10 then .ok ((s.setReg a v).fabricFrom s)
  else if o = 0x25 then
    let typ := bitsAt v 8 4
    let n := bitsAt v 0 5
    s.unless (!Master.machineStore m || s.jsn.busy || !frameLenOk typ n) (.ok (s.sendFrame typ n))
  else s.unless (!Master.machineStore m) (s.keep a v)

/-- The writing engine as a SOFT record's SRC shows it (R359, R363). -/
def masterEng : Master → Word
  | .engine e _ _ | .svp e _ => BitVec.ofNat 12 e.val
  | _ => 0

def State.putRec (s : State) (m : Master) (o : Nat) (v : Word) : WriteOut :=
  let a := recBase + o
  match o with
  | 0 =>
    let t := s.setReg a v
    s.unless (decide (8 < bitsAt v 6 4) || decide (bitsAt v 0 6 < 5)) (.ok (if v.getLsbD 11 then t.restoreRecorder true else t))
  | 0x10 => s.unless (decide (4 < bitsAt v 9 3)) (s.keep a v)
  | 0x11 => s.unless (!rng (bitsAt v 0 11) 1 1024) (s.keep a v)
  | 0x12 => s.unless (decide (bitsAt (s.reg (recBase + 0x11)) 0 11 ≤ bitsAt v 0 10)) (s.keep a v)
  | 0x13 => s.unless (!Master.machineStore m) (.ok (if v.getLsbD 0 then s.waveTrigger else s))
  | 0x23 =>
    s.unless s.rcd.fetching
      (.ok (if v.getLsbD 0 then s.updRcd fun r => { r with fetching := true, fst := 0 } else s))
  | 0x44 =>
    let p := fun (k : Nat) => s.reg (recBase + 0x40 + k)
    s.unless (!Master.machineStore m)
      (.ok (s.logRec 0x0B (v.setWidth 7) (masterEng m) ((p 3 ++ p 2) ++ (p 1 ++ p 0))))
  | _ => s.keep a v

/-! ### Selvedge (R312, R313, R322 to R325, R331, R334, R335, R350, R352, R376, R458, R471) -/

/-- FCL.CFG, WIN, MIN and SEV (R323 to R325). -/
def State.putFcl (s : State) (o : Nat) (v : Word) : WriteOut :=
  let n := o / 4
  let a := fclCfgBase + o
  let set := bitsAt v 0 7
  let bad :=
    if 136 ≤ n then true
    else match o % 4 with
      | 0 => bitsAt v 0 8 = 0 || (bitsAt v 8 4 = 0 && s.reg (a + 1) = 0) || (srcFixed n && bitsAt v 0 8 ≠ 1)
      | 1 => v = 0 && bitsAt (s.reg (a - 1)) 8 4 = 0
      | 2 => bitsAt v 10 2 = 3 || (64 ≤ n && (set.testBit 3 || set.testBit 4))
      | _ => (64 ≤ n && (set.testBit 3 || set.testBit 4)) || (srcFixed n && !(set.testBit 0 && set.testBit 5))
  s.unless bad (.ok ((s.setReg a v).updCol fun k =>
    { k with
      strays := k.strays.filter fun p => p.1 ≠ o
      olds := if (k.olds.lookup o).isSome then k.olds else k.olds ++ [(o, s.cfgVoted o)] }))

/-- SEL pages 0 to 5. -/
def State.putSel (s : State) (page o : Nat) (v : Word) : WriteOut :=
  match page, o with
  | 0, 0 => s.unless (!selValid v) (s.keep selBase v)
  | 0, 1 => s.unless (v.getLsbD 0 && !selValid (s.reg selBase)) (s.keep (selBase + 1) v)
  | 0, 3 => s.unless (!rng (bitsAt v 0 6) 1 50) (s.keep (selBase + 3) v)
  | 0, 4 =>
    if v.getLsbD 0 && v.getLsbD 1 then .refused s
    else if v.getLsbD 0 then .ok s.enterSafe
    else if v.getLsbD 1 then .ok (s.updCol fun k => { k with cmdReset := true })
    else .ok s
  | 0, _ =>
    if !v.getLsbD 0 then .ok s
    else s.unless (!s.inRun || s.sblk ≠ 0) (.ok s.releaseSafe.fabric)
  | 1, _ => s.putFcl o v
  | 2, _ => .ok (s.sclr (o - 0x210) v)
  | 3, 7 =>
    if !v.getLsbD 0 then .ok s
    else match s.wdgCommitGo with
      | (some t, _) => .ok t
      | (none, t) => .refused t
  | 3, 8 =>
    if v.getLsbD 0 then
      s.unless (!(s.dev.tethered && s.dev.safe && !s.dev.sealed)) (.ok (s.updWdg fun w => { w with held := true }))
    else .ok s.endHold
  | 3, _ => s.keep (wdgBase + o) v
  | 4, 0 =>
    let t := s.setReg modBase v
    .ok ((if v.getLsbD 0 && !s.solo then t.enterSolo else t).fabricFrom s)
  | 4, _ =>
    if v.getLsbD 0 && v.getLsbD 1 then .refused s
    else if v.getLsbD 0 then .ok s.sealOp
    else if v.getLsbD 1 then s.unless (!s.sealOpen) (.ok s.unsealOp)
    else .ok s
  | _, _ =>
    if !v.getLsbD 0 then .ok s
    else if !s.clearArmed then .refused s
    else if s.dev.sealed then .refused (s.disarm 1)
    else if !s.sealOpen then .refused (s.disarm 3)
    else .ok s.confirmClear

/-! ### The register write -/

/-- The effect of an accepted write, or a refusal by the register itself. -/
def State.put (s : State) (m : Master) (a : Nat) (v : Word) : WriteOut :=
  let o := a % 0x1000
  match a / 0x1000 with
  | 0x800 => s.putDev m o v
  | 0x804 | 0x805 => s.putClu m ⟨(a - 0x804000) / 0x400 % 8, by omega⟩ (a % 0x400) v
  | 0x808 => s.putSdf o v
  | 0x809 => s.putAdc o v
  | 0x80A => s.putMtr o v
  | 0x80C => s.putTrf o v
  | 0x80E => s.putMon ⟨o / 0x40 % 32, by omega⟩ (o % 0x40) v
  | 0x810 => s.putSht m o v
  | 0x812 => s.putJsn m o v
  | 0x814 => s.putRec m o v
  | 0x818 => s.putPio o v
  | 0x820 | 0x821 | 0x822 | 0x823 => s.putEng m ⟨(a - 0x820000) / 0x100 % 64, by omega⟩ (a % 0x100) v
  | 0x840 => s.putSel 0 o v
  | 0x841 => s.putSel 1 o v
  | 0x842 => s.putSel 2 o v
  | 0x843 => s.putSel 3 o v
  | 0x844 => s.putSel 4 o v
  | 0x845 => s.putSel 5 o v
  | _ => s.keep a v

/-- An intrusion (R316). -/
def State.intrusion (s : State) (cause : BitVec 7) (a : Nat) : State :=
  (s.updCol fun k => { k with icnt := sat12 (k.icnt.toNat + 1), ia := BitVec.ofNat 24 a }).raise 134 cause (BitVec.ofNat 24 a)

/-- R313, not R10 or R312, refuses the write: 1 to SEL.LOCK by a master that may write it, while SEL.ENG is not valid. -/
def State.lockRefused (s : State) (m : Master) (a : Nat) : Bool :=
  a = selBase + 1 && ((regInfo a).map fun r => s.accOk m a r).getD false

/-- What a refused write counts (R101, R171, R185, R316, R393, R484): every one of the monitor's that is aimed at the selvedge is an
intrusion. -/
def State.countRefusal (s : State) (m : Master) (a : Nat) : State :=
  if isSelvedge a && (m = .monitor || ((regInfo a).isSome && !s.lockRefused m a)) then
    if isSvp m then s
    else if (a = selBase || a = selBase + 1) && s.selLocked then s.intrusion 5 a
    else match m with
      | .engine _ _ _ => s.intrusion 1 a
      | .shuttle => s.intrusion 2 a
      | .host => s.intrusion 3 a
      | .monitor => s.intrusion 4 a
      | .svp _ _ => s
  else s.errorTo m (BitVec.ofNat 24 a)

/-- A write to an ENG or CLU register of a cluster restarts its clocks (R457). -/
def State.wakeFor (s : State) (a : Nat) : State :=
  if rng a 0x804000 0x805FFF then s.ungate ⟨(a - 0x804000) / 0x400 % 8, by omega⟩
  else if rng a 0x820000 0x823FFF then s.ungate ⟨(a - 0x820000) / 0x800 % 8, by omega⟩
  else s

/-- A REGISTER WRITE by a master (R10, R13): whether it was accepted, and the state after it. A read-only register ignores the
write; a reserved address, a refusing register and the registers of an isolated cluster answer with an error response (R326). -/
def State.writeReg (s : State) (m : Master) (a : Nat) (v : Word) : Bool × State :=
  let w := s.wakeFor a
  if s.cutOff m (BitVec.ofNat 24 a) then (false, s.errorTo m (BitVec.ofNat 24 a))
  else match regInfo a with
  | none => (false, w.countRefusal m a)
  | some r =>
    if !s.accOk m a r then (false, w.countRefusal m a)
    else if r.acc = .ro then (true, w)
    else match w.put m a v with
      | .ok t => (true, t)
      | .refused t => (false, t.countRefusal m a)

/-- The master can make a write now: an engine in RUN, the boot ROM's thread before it, a selvedge engine's SVP, the host while BARs
answer, the monitor while TETHERED is set. -/
def State.live (s : State) (m : Master) : Bool :=
  s.up &&
    match m with
    | .engine e t _ => if s.inRun then s.engEn e else e = 0 && t = 0
    | .svp e t => s.isSel e && (s.inRun || (e = 0 && t = 0))
    | .host => s.hostOk
    | .shuttle => s.sht.ready
    | .monitor => s.dev.tethered

/-- SVP.ST after an operation of the thread (R101). -/
def State.svpStatus (s : State) (e : Eng) (t : Thr) (err : Bool) : State :=
  s.updLanes e fun x =>
    x.updThr t fun y => { y with svp := { y.svp with st := flag 11 err ||| fld 0 (min 15 (x.svpq.filter fun q => q.write.isSome).length) } }

/-- What a refused write does at its master beside the counts: at a reserved address an engine's store meets the precise access fault
(R13, R171); elsewhere the posted-store error of R80, whose trigger the row does not name; an SVP shows SVP.ST.ERR (R101). -/
def State.refusedAt (s : State) (m : Master) (a : Nat) : State :=
  match m with
  | .engine e t mach =>
    if s.inRun then
      let c := Config.storeOrigin s.free
      let fa := if mach then BitVec.ofNat 24 a else c.2.2
      if (regInfo a).isNone then
        s.takeFree.inLanes e fun s =>
          if s.mayMove e t then s.preciseFault e t { cause := 0x16, val := loW c.2.2, fa := fa } else s
      else s.takeFree.inLanes e fun s => s.imprecise e t 0x1A c.1 c.2.1 fa
    else s
  | .svp e t => s.svpStatus e t true
  | _ => s

/-- An accepted SVP write clears the thread's ERR (R101). -/
def State.acceptedAt (s : State) (m : Master) : State :=
  match m with
  | .svp e t => s.svpStatus e t false
  | _ => s

/-- A register write as a command of its own. -/
def State.writeCommand (s : State) (m : Master) (a : Nat) (v : Word) : Host.Outcome State Fault Refusal :=
  if s.live m then
    let r := s.writeReg m a v
    .next (if r.1 then r.2.acceptedAt m else r.2.refusedAt m a)
  else .next s

end Sys2Proof.Machine
end

