-- ==== Sys2Proof/Machine/Bus.lean ====
section
/-! DEFINITION. One access of a master to a word of the device map: a read or a write of memory, of a register, of the companion or
recorder RAM, or of the host window (R170 to R190, R395). -/

namespace Sys2Proof.Machine

/-! ### Reads -/

/-- A register read by a master: SHT.GPHe shows its handle to machine-level loads of engine e only (R400). -/
def State.readRegAs (s : State) (m : Master) (a : Nat) : Word :=
  let o := a - shtBase
  if rng o 0x400 0x7FF && rng (o % 16) 8 10 && !ownStore ⟨(o - 0x400) / 16 % 64, by omega⟩ m then 0
  else s.readReg a

/-- Host byte address of a host-window word (R395). -/
def State.hostAddr (s : State) (a : Addr) : Nat := s.base64 (shtBase + 0x10) + 2 * (a.toNat - 0xC00000)

/-- How a word read ends: its value, or the cause an engine gives its failure (R80). -/
inductive Got where
  | word (v : Word)
  | failed (cause : BitVec 6)
deriving DecidableEq, Repr

/-- A host container taken by an engine's window read (R395). -/
def State.takeHost (s : State) (h : HostRead) : Got × State :=
  match h with
  | .data c => if c.toNat < 4096 then (.word (c.setWidth 12), s) else (.failed 0x19, s.protocolFault 0x02 0x10 c.toNat)
  | .poisoned => (.failed 0x19, s.hostFault 0x01 0x10)
  | .unsupported | .abort => (.failed 0x19, s.hostFault 0x02 0x10)

/-- One word read by a master: `o` is its physical end, `h` what the host returns for a host-window word, whose 2-byte read goes out
(R395). -/
def State.busRead (s : State) (m : Master) (a : Addr) (o : ReadOutcome) (h : HostRead) : Got × State :=
  if s.refuses m a false then (.failed 0x19, s.errorTo m a)
  else
  let o := s.effRead m [a] o
  let s := s.countRead m [a] o false
  if !readGood o then (.failed (readCause o), s)
  else match regionOf a with
    | .regs => (.word (s.readRegAs m a.toNat), s)
    | .host => if s.windowOk then (s.askHost (s.hostAddr a) 2).takeHost h else (.failed 0x19, s.errorTo m a)
    | _ =>
      let p := s.memRead a o
      (.word p.1, p.2)

/-- An aligned pair of a bank, read as one access (R173). -/
def State.busReadPair (s : State) (m : Master) (a : Addr) (o : ReadOutcome) : (Got × Got) × State :=
  if s.refuses m a false then ((.failed 0x19, .failed 0x19), s.errorTo m a)
  else
  let o := s.effRead m [a, a + 1] o
  let s := s.countRead m [a, a + 1] o false
  if !readGood o then ((.failed (readCause o), .failed (readCause o)), s)
  else
    let p := s.memRead a o
    let q := p.2.memRead (a + 1) o
    ((.word p.1, .word q.1), q.2)

/-- The two reads of the host window that an access makes go out one after the other (R173, R395). -/
def State.bothAsked (s : State) (first : List (Nat × Nat)) (a : Addr) : State :=
  if regionOf a = .host && s.windowOk then s.updSht fun x => { x with hostIn := first ++ x.hostIn } else s

/-! ### Writes -/

/-- A refused write counts (R171, R179). -/
def State.refusedWrite (s : State) (m : Master) (a : Addr) : State :=
  match progOf a with
  | some c => s.raiseOf m (progSrc c) 0x03 a
  | none => s.countRefusal m a.toNat

/-- The two bytes of a host-side word, little-endian (R396). -/
def hostBytes (c : Container) : List Byte := [c.setWidth 8, (c >>> 8).setWidth 8]

/-- One word written by a master: whether the write was performed, and the state after it. A single word is refused in the
program window (R179) and in the recorder window (R171). -/
def State.busWrite (s : State) (m : Master) (a : Addr) (v : Word) (o : WriteOutcome) : Bool × State :=
  let o := s.effWrite m a o
  let s := s.countWrite m a o
  if !writeGood o then (false, s)
  else match regionOf a with
    | .regs => s.writeReg m a.toNat v
    | .host =>
      if s.windowOk then (true, s.updSht fun x => { x with hostOut := [(s.hostAddr a, hostBytes (v.setWidth 16))] })
      else (false, s.errorTo m a)
    | .program _ => (false, s.refusedWrite m a)
    | _ => if s.refuses m a true then (false, s.refusedWrite m a) else (true, s.storeWord a v o)

/-- An aligned pair written to a bank as one access (R173, R179); in a collision the pair of one write stands whole (R187). -/
def State.busWritePair (s : State) (m : Master) (a : Addr) (lo hi : Word) (o : WriteOutcome) : Bool × State :=
  let o := s.effWrite m a o
  let s := s.countWrite m a o 2
  if !writeGood o then (false, s)
  else match regionOf a with
    | .program c =>
      if 4 ≤ hi.toNat then (false, s.refusedWrite m a)
      else (true, s.setProg c (windowWord a) ((hi ++ lo).setWidth 14))
    | _ =>
      if s.refuses m a true then (false, s.refusedWrite m a)
      else if o = .collided && !Config.secondWins s.free then (true, s.takeFree)
      else (true, if o = .collided then ((s.setMem a.toNat lo).setMem (a.toNat + 1) hi).takeFree
                  else (s.setMem a.toNat lo).setMem (a.toNat + 1) hi)

/-- The two words of an aligned pair lie in one bank, and so are one access (R173). -/
def bankPair (a : Addr) : Bool := (memClu a).isSome && !a.getLsbD 0

end Sys2Proof.Machine
end

