-- ==== Sys2Proof/Machine/Lsu.lean ====
section
/-! DEFINITION. What the LSU, BLK and the selvedge port complete after their triggers: loads (R75, R80, R219), posted stores (R78 to
R80), block elements (R82 to R85) and SVP operations (R101). -/

namespace Sys2Proof.Machine

/-! ### Loads -/

/-- A load fails (R80): the failure reaches the lanes. -/
def State.loadFails (s : State) (e : Eng) (t : Thr) (busy : Bool) (cause : BitVec 6) (va : Addr) : State :=
  s.deliver e (.loadFail t false busy cause va)

/-- The words of a load. -/
def Load.words (l : Load) : List Addr := match l.second with
  | none => [l.pa]
  | some b => [l.pa, b.1]

/-- The reads of a load, and what they give its thread (R76, R79, R80, R173): an aligned pair of a bank as one access, whose failure is
recorded at the load's address; any other double as two, of which the failing one is recorded. -/
def State.loadRead (s : State) (e : Eng) (t : Thr) (l : Load) (o o2 : ReadOutcome) (h h2 : HostRead) : Delivery × State :=
  let m : Master := .engine e t l.machine
  let pair := bankPair l.pa && !l.split
  let f := s.effRead m (if pair then l.words else [l.pa]) o
  let warn := fun (a : Addr) (f : ReadOutcome) => readCollides f && s.warned m a
  match l.second with
  | none =>
    let r := s.busRead m l.pa o h
    match r.1 with
    | .word v => (.load t (readAgain f) (warn l.pa f) v none, r.2)
    | .failed c => (.loadFail t false (warn l.pa f) c l.va, r.2)
  | some b =>
    if pair then
      let r := s.busReadPair m l.pa o
      match r.1 with
      | (.word v, .word w) => (.load t (readAgain f) (warn l.pa f) v (some w), r.2)
      | (.failed c, _) | (_, .failed c) => (.loadFail t false (warn l.pa f) c l.va, r.2)
    else
      let f2 := s.effRead m [b.1] o2
      let r := s.busRead m l.pa o h
      match r.1 with
      | .failed c => (.loadFail t false (warn l.pa f) c l.va, r.2)
      | .word v =>
        let q := r.2.busRead m b.1 o2 h2
        let busy := warn l.pa f || warn b.1 f2
        let u := q.2.bothAsked r.2.sht.hostIn b.1
        match q.1 with
        | .failed c => (.loadFail t (readAgain f) busy c (if l.split then b.2 else l.va), u)
        | .word w => (.load t (readAgain f || readAgain f2) busy v (some w), u)

/-- The outstanding load is performed and its result delivered (R136, R157). -/
def State.finishLoad (s : State) (e : Eng) (t : Thr) (l : Load) (o o2 : ReadOutcome) (h h2 : HostRead) : State :=
  let r := s.loadRead e t l o o2 h h2
  r.2.deliver e r.1

/-- The result of the thread's load waits at the delivery point. -/
def Engine.loadHeld (x : Engine) (t : Thr) : Bool :=
  x.held.any fun d => match d with
    | .load u _ _ _ _ | .loadFail u _ _ _ _ => decide (u = t)
    | _ => false

/-- The outstanding load of a thread whose request has gone out, and whose words no posted store of the engine awaits (R78, R144); one of
the host window waits for every older store of the engine to it, since they reach the host in issue order (R395). -/
def State.loadOf (s : State) (e : Eng) (t : Thr) : Option Load :=
  (s.thr e t).lsu.load.filter fun l => l.sent && decide (l.older = 0) && !(s.eng e).loadHeld t && !l.words.any (s.eng e).storesTo

/-- A change of the thread's outstanding load in every lane. -/
def State.updLoad (s : State) (e : Eng) (t : Thr) (f : Load → Load) : State :=
  s.updThrs e t fun x => { x with lsu := { x.lsu with load := x.lsu.load.map f } }

/-- Some presentation of a companion load's words receives BUSY (R188, R190). -/
def State.busyAt (s : State) (e : Eng) (t : Thr) (l : Load) (o o2 : ReadOutcome) : Bool :=
  let m : Master := .engine e t l.machine
  readCollides (s.effRead m [l.pa] o) || (l.second.map fun b => readCollides (s.effRead m [b.1] o2)).getD false

/-- LOAD_COMPLETE (R75, R78 to R80, R192, R219): a load waits for the engine's posted stores to its words and for a sleeping bank; a
companion-RAM read that receives BUSY is presented again first (R190). -/
def execLoadComplete (e : Eng) (t : Thr) (o o2 : ReadOutcome) (host hostH : Container) (s : State) : Host.Outcome State Fault Refusal :=
  match s.loadOf e t with
  | none => .next s
  | some l =>
    if l.words.any s.asleep then .next (l.words.foldl (fun (s : State) a => s.wake a) s)
    else if regionOf l.pa = .companion then
      match l.tries, l.result with
      | some _, _ => .next s
      | none, some r => .next (s.finishLoad e t l r.1 r.2 (.data host) (.data hostH))
      | none, none =>
        if s.busyAt e t l o o2 then .next (s.updLoad e t fun l => { l with tries := some 4, result := some (o, o2) })
        else .next (s.finishLoad e t l o o2 (.data host) (.data hostH))
    else .next (s.finishLoad e t l o o2 (.data host) (.data hostH))

/-- HOST_READ_COMPLETE (R78, R395): what the host returns for a window load. -/
def execHostReadComplete (e : Eng) (t : Thr) (o o2 : HostRead) (s : State) : Host.Outcome State Fault Refusal :=
  match s.loadOf e t with
  | none => .next s
  | some l =>
    if regionOf l.pa = .host then .next (s.finishLoad e t l .ok .ok o o2) else .next s

/-! ### Pops of SMP.Q (R89, R90) -/

/-- The words of the bobbin that hold the thread's next sample. -/
def State.popPlace (s : State) (e : Eng) (t : Thr) : List Addr :=
  let x := (s.thr e t).smp
  match x.chan with
  | some n => (s.bobPlace n e.cluster x.pos).map fun a => BitVec.ofNat 24 a
  | none => []

/-- A pop of SMP.Q (R89, R90, R183, R185): `o` is how the read of its sample ends. A word found wrong stays so, and the pop counts it; a
replay that passes counts as transient. -/
def execSmpQ (e : Eng) (t : Thr) (o : ReadOutcome) (s : State) : Host.Outcome State Fault Refusal :=
  if !(s.mayMove e t && s.srcReady e t 0x60) then s.firePop e t 0x60
  else
    let m : Master := .engine e t (s.thr e t).machine
    let ws := s.popPlace e t
    match s.effRead m ws o with
    | .replayed => (s.countRead m ws .replayed false).firePop e t 0x60
    | .replayedAt k => (s.countRead m ws (.replayedAt k) false).firePop e t 0x60
    | .persistent | .persistentAt _ => (s.spoil (outcomeWord ws (s.effRead m ws o))).firePop e t 0x60
    | _ => s.firePop e t 0x60

/-! ### Posted stores -/

/-- A posted store fails: the posted-store error, and PART for the second half of a split store whose first half committed (R79,
R80). -/
def State.storeFails (s : State) (e : Eng) (q : StoreEntry) (va : Addr) : State :=
  let s := if q.half2 then s.updThr e q.t fun x => { x with lsu := { x.lsu with part := true } } else s
  s.imprecise e q.t 0x1A q.pc q.dest va

/-- Once a first half has failed, the failure of the second sets no PART. -/
def dropHalf (q : StoreEntry) : List StoreEntry → List StoreEntry
  | [] => []
  | r :: rest => if !q.half2 && r.half2 && r.t = q.t then { r with half2 := false } :: rest else r :: rest

/-- A double store to the host window leaves as two memory writes, the one after the other (R173, R395). -/
def State.bothSent (s : State) (first : List (Nat × List Byte)) (a : Addr) : State :=
  if regionOf a = .host then s.updSht fun x => { x with hostOut := first ++ x.hostOut } else s

/-- A posted store to the host window has left: the loads issued after it wait for one less (R395). -/
def Engine.hostStoreGone (y : Engine) (q : StoreEntry) : Engine :=
  if regionOf q.pa = .host then
    { y with threads := vmap (fun _ (x : Thread) =>
        { x with lsu := { x.lsu with load := x.lsu.load.map fun l => { l with older := l.older - 1 } } }) y.threads }
  else y

/-- How the words of a posted store are written: whether each was, and the state after it. -/
def State.storeWrite (s : State) (e : Eng) (q : StoreEntry) (o o2 : WriteOutcome) : Bool × Bool × State :=
  let m : Master := .engine e q.t q.machine
  match q.data2 with
  | none =>
    let r := s.busWrite m q.pa q.data o
    (r.1, true, r.2)
  | some d =>
    if bankPair q.pa then
      let r := s.busWritePair m q.pa q.data d o
      (r.1, true, r.2)
    else
      let r := s.busWrite m q.pa q.data o
      let r2 := r.2.busWrite m (q.pa + 1) d o2
      (r.1, r2.1, if r.1 && r2.1 then r2.2.bothSent r.2.sht.hostOut q.pa else r2.2)

/-- The write met another access of the word at a dual-port bank. -/
def writeCollides : WriteOutcome → Bool
  | .collided | .metRead => true
  | _ => false

/-- The oldest posted store leaves a lane's buffer: it has committed, or failed (R78 to R80). A collision warning sets LSU.ST.BUSY
when it arrives, also after a later LSU operation of the thread has completed (DESIGN CHOICE, notes/assumptions/58: R79 does not
say). -/
def State.popStore (s : State) (e : Eng) (good good2 busy : Bool) : State :=
  match (s.eng e).sbuf with
  | [] => s
  | q :: rest =>
    let s := s.updEng e fun y => { y.hostStoreGone q with sbuf := if good && good2 then rest else dropHalf q rest }
    let s := if busy then s.updThr e q.t fun x => { x with lsu := { x.lsu with busy := true } } else s
    if !good then s.storeFails e q q.va else if !good2 then s.storeFails e q (q.va + 1) else s

/-- The oldest posted store is performed: an aligned pair of a bank as one access, any other double as two (R78, R173). -/
def State.performStore (s : State) (e : Eng) (q : StoreEntry) (o o2 : WriteOutcome) : State :=
  let m : Master := .engine e q.t q.machine
  let warn := fun (a : Addr) (o : WriteOutcome) => writeCollides (s.effWrite m a o) && s.warned m a
  let r := s.storeWrite e q o o2
  r.2.2.inLanes e fun s => s.popStore e r.1 r.2.1 (warn q.pa o || (q.data2.isSome && !bankPair q.pa && warn (q.pa + 1) o2))

/-- STORE_COMMIT (R78, R144, R192): the engine's oldest posted store, once its request has gone out; it waits for a sleeping bank. -/
def execStoreCommit (e : Eng) (o o2 : WriteOutcome) (s : State) : Host.Outcome State Fault Refusal :=
  match (if s.still e then [] else (s.eng e).sbuf) with
  | [] => .next s
  | q :: _ =>
    if !q.sent then .next s
    else if s.asleep q.pa then .next (s.wake q.pa) else .next (s.performStore e q o o2)

/-! ### Block elements -/

def State.updBlk (s : State) (e : Eng) (t : Thr) (f : BlkState → BlkState) : State :=
  s.updThr e t fun x => { x with blk := f x.blk }

/-- The operation reads its source, and its destination; and writes its destination (R82). -/
def BlkState.usesSrc (x : BlkState) : Bool := x.op ≠ 1
def BlkState.usesDst (x : BlkState) : Bool := x.op ≠ 3
def BlkState.stores (x : BlkState) : Bool := x.op = 0 || x.op = 1

def BlkState.srcVa (x : BlkState) : Addr := joinW x.live.sseg x.live.src
def BlkState.dstVa (x : BlkState) : Addr := joinW x.live.dseg x.live.dst

/-- A performed element advances the offsets the operation uses and decrements CNT (R82). -/
def BlkState.advance (x : BlkState) : BlkState :=
  { x with
    live := { x.live with
      src := if x.usesSrc then x.live.src + 1 else x.live.src
      dst := if x.usesDst then x.live.dst + 1 else x.live.dst
      cnt := x.live.cnt - 1 }
    ended := x.live.cnt = 1
    tries := 0 }

/-- An element that stops CMP or SCAN is not counted (R82). -/
def BlkState.stop (x : BlkState) (lt : Bool) : BlkState := { x with hit := true, lt := lt, ended := true, tries := 0 }

/-- What a lane asks for with its next element: the physical addresses of its source and of its destination, whether it stores, and what a
FILL stores (R82, R144). -/
structure BlkAsk where
  src : List Addr
  dst : List Addr
  stores : Bool
  data : Word
deriving DecidableEq, Repr

/-- The element reads a word of the companion RAM that answers with BUSY, and has not yet been presented again four times (R190). -/
def State.blkBusy (s : State) (e : Eng) (t : Thr) (q : BlkAsk) (o1 o2 : ReadOutcome) : Bool :=
  let m : Master := .engine e t (s.thr e t).machine
  let busy := fun (a : Addr) (o : ReadOutcome) => decide (regionOf a = .companion) && readCollides (s.effRead m [a] o)
  decide ((s.thr e t).blk.tries < 4) && ((q.src.any fun a => busy a o1) || (!q.stores && q.dst.any fun a => busy a o2))

/-- The value moved to BLK.GO (R82), whose other bits are 0: the moved value of an element's fault (R108; notes/assumptions/47). -/
def BlkState.goValue (x : BlkState) : Word := flag 2 x.sne ||| x.op.setWidth 12

/-- A fault found before an element is performed suspends the operation (R85, R130). -/
def State.blkSuspend (s : State) (e : Eng) (t : Thr) (q : PFault) : State :=
  (s.updBlk e t fun x => { x with flt := true }).preciseFault e t { q with val := (s.thr e t).blk.goValue }

/-- An address of the element translated and checked, when the operation uses it (R204). -/
def State.blkCheck (s : State) (e : Eng) (t : Thr) (use write : Bool) (va : Addr) : Checked :=
  if use then s.check e t (s.force e t) write false true 0 [va] false else .go []

/-- The answers to an element's accesses: its source word, its destination word, and whether its store was performed. -/
structure BlkEnd where
  src : Option Got := none
  dst : Option Got := none
  stored : Option Bool := none
deriving DecidableEq, Repr

/-- The thread's operation can perform an element now, whether the thread runs or has been halted meanwhile (R27): it holds the datapath
or takes it, and no event suspends it (R84, R85). -/
def State.blkMay (s : State) (e : Eng) (t : Thr) : Bool :=
  let x := s.thr e t
  s.engRuns e && t.val < s.nThreads e && x.blk.active && !x.blk.ended && x.pfault.isNone && x.tail.isNone &&
    !x.ret && (s.eventNow e t).isNone && ((s.eng e).blkOwner.isNone || (s.eng e).blkOwner = some t)

/-- What a lane asks for with its next element: it is voted (R144). None where the lane has no element to perform, where a check of it
fails (R85, R204), and for a store to the program window. -/
def State.blkRequest (s : State) (e : Eng) (t : Thr) : Option BlkAsk :=
  let x := (s.thr e t).blk
  if !s.blkMay e t then none
  else match s.blkCheck e t x.usesSrc false x.srcVa with
    | .go src =>
      match s.blkCheck e t x.usesDst x.stores x.dstVa with
      | .go dst => if x.stores && (dst.head?.bind progOf).isSome then none
        else some ⟨src, dst, x.stores, if x.op = 1 then x.live.pat else 0⟩
      | _ => none
    | _ => none

/-- An element that asks for nothing: a check of it fails, its translation misses, or it stores to the program window (R85, R179, R204). -/
def State.blkLocal (s : State) (e : Eng) (t : Thr) : State :=
  let x := (s.thr e t).blk
  if !s.blkMay e t then s
  else match s.blkCheck e t x.usesSrc false x.srcVa with
    | .fault q => s.blkSuspend e t q
    | .miss va _ => s.startWalk e t va false false true x.goValue
    | .go _ =>
      match s.blkCheck e t x.usesDst x.stores x.dstVa with
      | .fault q => s.blkSuspend e t q
      | .miss va _ => s.startWalk e t va x.stores false true x.goValue
      | .go dst =>
        match (if x.stores then dst.head?.bind progOf else none) with
        | some c =>
          (s.raiseOf (.engine e t (s.thr e t).machine) (progSrc c) 0x03 (dst.headD 0)).blkSuspend e t { cause := 0x16, fa := x.dstVa }
        | none => s

/-- The voted accesses of an element, made once (R82, R85). -/
def State.blkPerform (s : State) (m : Master) (q : BlkAsk) (o1 o2 : ReadOutcome) (ow : WriteOutcome) (h h2 : HostRead) : BlkEnd × State :=
  let r : Option Got × State := match q.src with
    | a :: _ => let r := s.busRead m a o1 h; (some r.1, r.2)
    | [] => (none, s)
  match r.1, q.dst with
  | some (.failed _), _ | _, [] => ({ src := r.1 }, r.2)
  | v, a :: _ =>
    if q.stores then
      let w := r.2.busWrite m a (match v with
        | some (.word v) => v
        | _ => q.data) ow
      ({ src := r.1, stored := some w.1 }, w.2)
    else
      let w := r.2.busRead m a o2 h2
      ({ src := r.1, dst := some w.1 }, if q.src.any fun a => regionOf a = .host then w.2.bothAsked r.2.sht.hostIn a else w.2)

/-- The answers reach a lane whose element waits for them (R82, R85, R136). -/
def State.blkTake (s : State) (e : Eng) (t : Thr) (r : BlkEnd) : State :=
  if !s.blkMay e t then s
  else
    let x := (s.thr e t).blk
    let s := s.updEng e fun y => { y with blkOwner := some t }
    match (if x.usesSrc then r.src else some (.word x.live.pat)) with
    | none => s
    | some (.failed c) => s.blkSuspend e t { cause := c, fa := x.srcVa }
    | some (.word v) =>
      if x.stores then
        match r.stored with
        | none => s
        | some true => s.updBlk e t BlkState.advance
        | some false =>
          ((s.updBlk e t BlkState.advance).updBlk e t fun x => { x with flt := true }).imprecise e t 0x1A x.goPc 0x52 x.dstVa
      else if x.op = 2 then
        match r.dst with
        | none => s
        | some (.failed c) => s.blkSuspend e t { cause := c, fa := x.dstVa }
        | some (.word u) => s.updBlk e t fun x => if v = u then x.advance else x.stop (decide (v.toNat < u.toNat))
      else
        s.updBlk e t fun x =>
          if ((v &&& ~~~x.live.ign) = (x.live.pat &&& ~~~x.live.ign)) ≠ (x.sne = true) then x.stop false else x.advance

/-- A lane's element takes the datapath and is presented again (R190). -/
def State.blkAgain (s : State) (e : Eng) (t : Thr) : State :=
  (s.updEng e fun y => { y with blkOwner := some t }).updBlk e t fun x => { x with tries := x.tries + 1 }

/-- The voted element (R82, R84, R85): it waits for earlier stores and sleeping banks; then its accesses are made, and their answers
brought to every lane (R136). -/
def State.blkVoted (s : State) (e : Eng) (t : Thr) (q : BlkAsk) (o1 o2 : ReadOutcome) (ow : WriteOutcome) (h h2 : HostRead) : State :=
  let all := q.src ++ q.dst
  let m : Master := .engine e t (s.thr e t).machine
  if all.any (s.eng e).storesTo || (all.any (fun a => regionOf a = .host) && (s.eng e).sbuf.any fun p => regionOf p.pa = .host) ||
      (q.stores && !(s.eng e).sbuf.isEmpty) then s
  else if all.any s.asleep then all.foldl (fun (s : State) a => s.wake a) s
  else if s.blkBusy e t q o1 o2 then s.inLanes e fun s => s.blkAgain e t
  else
    let r := s.blkPerform m q o1 o2 ow h h2
    r.2.inLanes e fun s => s.blkTake e t r.1

/-- The next element of an operation, in every lane. -/
def State.blkStep (s : State) (e : Eng) (t : Thr) (o1 o2 : ReadOutcome) (ow : WriteOutcome) (h h2 : HostRead) : State :=
  (s.inLanes e fun s => s.blkLocal e t).voteNow e t (fun s => s.blkRequest e t) fun q s => s.blkVoted e t q o1 o2 ow h h2

/-- BLK_ELEMENT (R82, R84, R85). -/
def execBlkElement (e : Eng) (t : Thr) (o1 o2 : ReadOutcome) (ow : WriteOutcome) (host host2 : HostRead) (s : State) :
    Host.Outcome State Fault Refusal := .next (s.blkStep e t o1 o2 ow host host2)

/-- BUSY_REPRESENT (R190): the words of a companion load that received BUSY are presented again, at most four times; the first result
without BUSY, or the last, is the load's; so are those of the reads of the thread's block element. -/
def execBusyRepresent (e : Eng) (t : Thr) (o o2 : ReadOutcome) (s : State) : Host.Outcome State Fault Refusal :=
  match s.loadOf e t with
  | none => .next (if (s.thr e t).blk.tries = 0 then s else s.blkStep e t o o2 .ok .abort .abort)
  | some l =>
    match l.tries, l.result with
    | some k, some r =>
      let p := if readCollides r.1 then o else r.1
      let q := if readCollides r.2 then o2 else r.2
      .next (s.updLoad e t fun l =>
        { l with tries := if s.busyAt e t l p q && decide (1 < k) then some (k - 1) else none, result := some (p, q) })
    | _, _ => .next s

/-- The end of an operation in a lane. -/
def State.blkEndIn (s : State) (e : Eng) (t : Thr) : State :=
  let x := (s.thr e t).blk
  if x.active && x.ended && !s.still e then
    s.updEng e fun y =>
      { y.updThr t fun z => { z with blk := { z.blk with active := false, ended := false, done := true } } with
        blkOwner := if y.blkOwner = some t then none else y.blkOwner }
  else s

/-- BLK_END (R84): the operation ends with DONE and releases its thread and the datapath. -/
def execBlkEnd (e : Eng) (t : Thr) (s : State) : Host.Outcome State Fault Refusal := .next (s.inLanes e fun s => s.blkEndIn e t)

/-! ### The selvedge port -/

/-- The register SVP.B and SVP.A name (R101). -/
def SvpOp.addr (q : SvpOp) : Nat :=
  (if q.b.getLsbD 4 then trfBase + bitsAt q.b 0 1 * 0x1000 else selBase + bitsAt q.b 0 4 * 0x1000) + q.a.toNat

/-- What an SVP operation does at the selvedge (R101): ERR, what it read, and the state after it. -/
def State.svpEffect (s : State) (e : Eng) (q : SvpOp) : Bool × Option Word × State :=
  if q.fence then (false, none, s)
  else match q.write with
    | some v =>
      let r := s.writeReg (.svp e q.t) q.addr v
      (!r.1, none, r.2)
    | none => if (regInfo q.addr).isSome then (false, some (s.readReg q.addr), s) else (true, none, s)

/-- SVP_TAKE_EFFECT (R101, R144): the engine's oldest SVP operation, once its request has gone out, takes effect or is refused, and its end
reaches the thread. -/
def execSvpTakeEffect (e : Eng) (s : State) : Host.Outcome State Fault Refusal :=
  match (s.eng e).svpq with
  | [] => .next s
  | q :: _ =>
    if !q.sent then .next s
    else
      let r := (s.updLanes e fun y => { y with svpq := y.svpq.tail }).svpEffect e q
      .next (r.2.2.deliver e (.svp q.t r.1 r.2.1))

end Sys2Proof.Machine
end

