-- ==== Sys2Proof/Machine/Shuttle.lean ====
section
/-! DEFINITION. The shuttle's commands: doorbells and BAR requests (R392 to R395, R406), descriptors from fetch to completion (R405 to
R416, R419 to R421), and the state of the link (R388 to R391, R418, R419, R474). -/

namespace Sys2Proof.Machine

/-! ### Doorbells and BAR requests -/

/-- SQ_TAIL_DOORBELL (R392, R406): a disabled ring ignores it. -/
def execSqTailDoorbell (n : Fin 8) (v : BitVec 32) (s : State) : Host.Outcome State Fault Refusal :=
  if !s.hostOk || !(s.sq n).en then .next s
  else if s.sqSize n ≤ v.toNat then .next (s.protocolFault 0x01 n.val v.toNat)
  else .next (s.updSq n fun q => { q with tail := v.setWidth 12 })

/-- CQ_HEAD_DOORBELL (R392, R406): it may release only entries that have been written. -/
def execCqHeadDoorbell (n : Fin 8) (v : BitVec 32) (s : State) : Host.Outcome State Fault Refusal :=
  if !s.hostOk || !(s.cq n).en then .next s
  else
    let size := s.cqSize n
    let q := s.cq n
    let gap := fun (x : Nat) => (x + size - q.head.toNat % size) % size
    if size ≤ v.toNat || decide (gap q.tail.toNat < gap v.toNat) then .next (s.protocolFault 0x01 (8 + n.val) v.toNat)
    else .next (s.updCq n fun q => { q with head := v.setWidth 12 })

/-- One container of a BAR2 write (R393, R396). -/
def State.bar2Word (s : State) (off : Nat) (c : Container) : State :=
  if 4096 ≤ c.toNat then s.protocolFault 0x02 0x10 c.toNat
  else (s.writeReg .host (0x800000 + off / 2) (c.setWidth 12)).2

/-- BAR2_WRITE (R390, R393, R394): one or two whole containers of a 1-DW request. -/
def execBar2Write (off : BitVec 20) (be : BitVec 4) (data : BitVec 32) (s : State) : Host.Outcome State Fault Refusal :=
  let lo := off.toNat / 4 * 4
  if !s.hostOk then .next s
  else if be ≠ 3 && be ≠ 12 && be ≠ 15 then .next (s.raiseOf .host 82 0x01 (if lo < 0xA0000 then BitVec.ofNat 24 (0x800000 + lo / 2) else 0))
  else if 0xA0000 ≤ lo then .next s
  else
    let s := if be ≠ 12 then s.bar2Word lo (data.setWidth 16) else s
    .next (if be ≠ 3 then s.bar2Word (lo + 2) ((data >>> 16).setWidth 16) else s)

/-- BAR_BAD_REQUEST (R394): a read completes with Unsupported Request, a write is discarded; either counts. -/
def execBarBadRequest (isRead : Bool) (a : Addr) (s : State) : Host.Outcome State Fault Refusal :=
  if s.hostOk then
    .next ((if isRead then s.updSht fun x => { x with lastUr := some a } else s).raiseOf .host 82 0x01 a)
  else .next s

/-! ### Messages that waited (R389, R416) -/

/-- Unmasked pending vectors are sent once the function makes requests. -/
def State.flushMsix (s : State) : State :=
  (List.range 32).foldl (fun (s : State) k =>
    let x := s.sht
    if x.pba.getLsbD k && !x.mask.getLsbD k && x.bme && !x.d3 then
      s.updSht fun x => { x with pba := x.pba &&& ~~~(BitVec.ofNat 32 (2 ^ k)), lastMsg := some (some (BitVec.ofNat 5 k)) }
    else s) s

/-- A dword of an MSI-X table entry written: the message's address, its data, or its mask (R392; PRESUMED, notes/assumptions/60: the entry's
layout is that of the PCIe specification). -/
def Shuttle.putMsix (x : Shuttle) (k : Fin 32) (d : Fin 4) (v : BitVec 32) : Shuttle :=
  match d.val with
  | 0 => { x with msixAddr := upd x.msixAddr k fun a => (a >>> 32).setWidth 32 ++ (v &&& ~~~3) }
  | 1 => { x with msixAddr := upd x.msixAddr k fun a => v ++ a.setWidth 32 }
  | 2 => { x with msixData := upd x.msixData k fun _ => v }
  | _ =>
    let b : BitVec 32 := BitVec.ofNat 32 (2 ^ k.val)
    { x with mask := if v.getLsbD 0 then x.mask ||| b else x.mask &&& ~~~b }

/-- MSIX_VECTOR_UNMASK (R390, R392, R416): a host write of dword `d` of a vector's table entry, discarded until the shuttle leaves its reset
state. One that unmasks the vector sends its pending message, which in D3hot leaves as a PME (R389). -/
def execMsixVectorUnmask (k : Fin 32) (d : Fin 4) (v : BitVec 32) (s : State) : Host.Outcome State Fault Refusal :=
  if !s.hostOk then .next s
  else
    let was := s.sht.mask.getLsbD k.val
    let s := s.updSht fun x => x.putMsix k d v
    if was && !s.sht.mask.getLsbD k.val then
      .next (s.updSht fun x => { x with lastMsg := if x.pba.getLsbD k.val && x.d3 then some none else x.lastMsg }).flushMsix
    else .next s

/-! ### What a BAR read returns (R390, R392, R393) -/

/-- A dword of an MSI-X table entry. -/
def Shuttle.msixDword (x : Shuttle) (k : Fin 32) (d : Fin 4) : BitVec 32 :=
  match d.val with
  | 0 => (x.msixAddr[k.val]).setWidth 32
  | 1 => ((x.msixAddr[k.val]) >>> 32).setWidth 32
  | 2 => x.msixData[k.val]
  | _ => if x.mask.getLsbD k.val then 1 else 0

/-- A 1-DW read of BAR0 at a byte offset: a doorbell, the MSI-X table or pending bits, and 0 elsewhere (R392). Until the shuttle leaves its
reset state it returns all ones (R390). -/
def State.bar0Read (s : State) (off : BitVec 12) : BitVec 32 :=
  let o := off.toNat / 4 * 4
  if !s.hostOk then 0xFFFFFFFF
  else if o < 0x80 then (if o % 16 = 0 then ((s.sht.sq.toList[o / 16]?).map Sq.tail).getD 0 else 0).setWidth 32
  else if rng o 0x100 0x17F then (if o % 16 = 0 then ((s.sht.cq.toList[o / 16 - 16]?).map Cq.head).getD 0 else 0).setWidth 32
  else if rng o 0x800 0x9FF then s.sht.msixDword ⟨(o - 0x800) / 16 % 32, Nat.mod_lt _ (by decide)⟩ ⟨o / 4 % 4, Nat.mod_lt _ (by decide)⟩
  else if o = 0xC00 then s.sht.pba
  else 0

/-- A container of a BAR2 read: the register word with [15:12] = 0, where it is asked for. -/
def State.bar2Asked (s : State) (asked : Bool) (a : Nat) : BitVec 16 := if asked then (s.readRegAs .host a).setWidth 16 else 0

/-- A 1-DW read of BAR2 at a byte offset, with its byte enables: what the request carries back, and the state after it. It takes the register
words of the containers that it asks for; the mirror of the selvedge reads as its registers do, and the offsets from 0xA0_000 on read 0
(R315, R393). Grant handles read 0 (R400). An unassigned register below them, and one of an isolated cluster, answers the host with an error
response, which is counted, and the request carries no data (R13, R171, R326). No row of the table is such a read. -/
def State.bar2Read (s : State) (off : BitVec 20) (be : BitVec 4) : Option (BitVec 32) × State :=
  let o := off.toNat / 4 * 4
  let a := 0x800000 + o / 2
  let asked := (if be.getLsbD 0 then [a] else []) ++ (if be.getLsbD 2 then [a + 1] else [])
  let bad := asked.filter fun a => s.refuses .host (BitVec.ofNat 24 a) false || s.cutOff .host (BitVec.ofNat 24 a)
  if !s.hostOk then (some 0xFFFFFFFF, s)
  else if 0xA0000 ≤ o then (some 0, s)
  else if bad.isEmpty then (some (s.bar2Asked (be.getLsbD 2) (a + 1) ++ s.bar2Asked (be.getLsbD 0) a), s)
  else (none, bad.foldl (fun (s : State) a => s.errorTo .host (BitVec.ofNat 24 a)) s)

/-! ### The link (R388 to R391, R418, R419, R474) -/

/-- LINK_ENTER_L0 (R418): the trained speed and width. -/
def execLinkEnterL0 (spd wid : BitVec 2) (s : State) : Host.Outcome State Fault Refusal :=
  if !s.sht.coreUp || s.sht.prst || spd = 0 || (wid ≠ 1 && wid ≠ 2) then .next s
  else
    let t := s.updSht fun x => { x with lup := true, spd := spd, wid := wid }
    .next (if s.sht.lup then t else t.shtLine 27)

/-- LINK_LEAVE_L0 (R418, R419): it counts unless the host asked for D3hot. -/
def execLinkLeaveL0 (forD3 : Bool) (s : State) : Host.Outcome State Fault Refusal :=
  if !s.sht.lup then .next s
  else
    let t := (s.updSht fun x => { x with lup := false, spd := 0, wid := 0 }).shtLine 27
    .next (if forD3 then t else t.raise 104 0x01 0)

/-- LINK_ERROR_RECORDED (R419). -/
def execLinkErrorRecorded (uncorrectable : Bool) (s : State) : Host.Outcome State Fault Refusal :=
  if s.sht.coreUp then .next (s.raise 104 (if uncorrectable then 0x03 else 0x02) 0) else .next s

/-- Host-window loads in progress end with an error response (R391). -/
def State.endHostLoads (s : State) : State :=
  engList.foldl (fun (s : State) e =>
    thrList.foldl (fun (s : State) t =>
      match s.loadOf e t with
      | some l => if regionOf l.pa = .host then s.loadFails e t false 0x19 l.va else s
      | none => s) s) s

/-- PERST_ASSERT (R390, R391, R418, R419): the PCIe core and the rings are reset; grants and the secret are kept. -/
def execPerstAssert (s : State) : Host.Outcome State Fault Refusal :=
  if s.sht.prst then .next s
  else
    let up := s.sht.lup
    let rings := s.sht.sq.toList.any Sq.en || s.sht.cq.toList.any Cq.en
    let s := if rings then s.shtLine 26 else s
    let s := s.resetRings.updSht fun x =>
      { x with prst := true, coreUp := false, lup := false, spd := 0, wid := 0, bme := false, d3 := false
               bar0 := 0, bar2 := 0, msixAddr := Vector.replicate 32 0, msixData := Vector.replicate 32 0
               mask := 0xFFFFFFFF, pba := 0, lastMsg := none, cfgAnswer := none, lastUr := none }
    let s := s.endHostLoads.shtLine 27
    .next (if up then s.raise 104 0x01 0 else s)

/-- PERST_DEASSERT (R418, R474): the core leaves reset once POWER-UP has ended. -/
def execPerstDeassert (s : State) : Host.Outcome State Fault Refusal :=
  if !s.sht.prst then .next s
  else .next ((s.updSht fun x => { x with prst := false, coreUp := decide (s.dev.phase ≠ .powerUp) }).shtLine 27)

/-- The capabilities that R388 lists. -/
inductive PciCap where
  | powerManagement
  | pciExpress
  | msix
deriving DecidableEq, Repr

/-- Dwords of a capability. -/
def PciCap.size : PciCap → Nat
  | .powerManagement => 2
  | .pciExpress => 15
  | .msix => 3

/-- Dword at which a capability lies, between 0x40 and 0x100: each in a part of that space of its own, at a place that the spec leaves open
(PRESUMED, notes/assumptions/60). -/
def PciCap.place : PciCap → Nat
  | .powerManagement => 16 + (Config.capPlace 0).toNat % 7
  | .pciExpress => 24 + (Config.capPlace 1).toNat % 10
  | .msix => 48 + (Config.capPlace 2).toNat % 14

/-- Byte offset of the next capability of the list: the three that R388 lists, and no more. -/
def PciCap.next : PciCap → Nat
  | .powerManagement => 4 * PciCap.place .pciExpress
  | .pciExpress => 4 * PciCap.place .msix
  | .msix => 0

/-- Dword `d` of a capability: what R388 and R392 state of it, and elsewhere what the device holds there. The places of the fields are
those of the PCIe specification (PRESUMED, notes/assumptions/60). -/
def State.capWord (s : State) (c : PciCap) (d : Nat) (open_ : BitVec 32) : BitVec 32 :=
  let link : BitVec 32 := BitVec.ofNat 32 (c.next * 256)
  match c, d with
  -- capability 0x01: PME from D3hot alone, no D1 or D2
  | .powerManagement, 0 => (open_ &&& 0x01FF0000) ||| 0x40000001 ||| link
  -- No_Soft_Reset = 1, and the power state
  | .powerManagement, 1 => (open_ &&& ~~~(0xB : BitVec 32)) ||| 8 ||| (if s.sht.d3 then 3 else 0)
  -- capability 0x10, Endpoint
  | .pciExpress, 0 => (open_ &&& 0xFF0F0000) ||| 0x10 ||| link
  -- Max_Payload_Size supported 256 bytes; no phantom functions, no extended tags, no FLR
  | .pciExpress, 1 => (open_ &&& ~~~(0x1000003F : BitVec 32)) ||| 1
  -- 8.0 GT/s, two lanes; no ASPM, no Clock Power Management
  | .pciExpress, 3 => (open_ &&& ~~~(0x40FFF : BitVec 32)) ||| 0x23
  -- no slot and no root port; the timeout of completions is fixed, and no option of the second capability words is there but the three speeds
  | .pciExpress, 5 | .pciExpress, 6 | .pciExpress, 7 | .pciExpress, 8 | .pciExpress, 9 | .pciExpress, 10 | .pciExpress, 13 |
    .pciExpress, 14 => 0
  | .pciExpress, 11 => 0xE
  -- capability 0x11: 32 vectors
  | .msix, 0 => (open_ &&& 0xC0000000) ||| 0x001F0011 ||| link
  -- table and pending bits in BAR0
  | .msix, 1 => 0x800
  | .msix, 2 => 0xC00
  | _, _ => open_

/-- A dword of configuration space (R388): the numbers, BARs and capabilities that the spec states, and the device's own elsewhere below
0x100, where a capability's place is the device's too. -/
def State.cfgWord (s : State) (off : Nat) : BitVec 32 :=
  let o := off / 4 * 4
  let at_ := fun (k : PciCap) => decide (k.place ≤ o / 4) && decide (o / 4 < k.place + k.size)
  let cap := fun (k : PciCap) => s.capWord k (o / 4 - k.place) (Config.cfgSpace o)
  if 0x100 ≤ o then 0
  else if o = 0 then 0x64121F4D
  -- Status: a capability list
  else if o = 4 then (Config.cfgSpace 4 &&& ~~~(4 : BitVec 32)) ||| 0x100000 ||| (if s.sht.bme then 4 else 0)
  else if o = 8 then 0x118000B0
  -- a type 0 header of one function, with no BIST and no latency timer
  else if o = 0xC then Config.cfgSpace 0xC &&& 0xFF
  else if o = 0x10 then s.sht.bar0
  else if o = 0x18 then s.sht.bar2
  else if o = 0x14 || o = 0x1C || o = 0x20 || o = 0x24 || o = 0x28 || o = 0x30 || o = 0x38 then 0
  -- no interrupt pin
  else if o = 0x3C then Config.cfgSpace 0x3C &&& 0xFF
  else if o = 0x2C then s.sht.ssid ++ s.sht.ssvid
  else if o = 0x34 then BitVec.ofNat 32 (4 * PciCap.place .powerManagement)
  else if at_ .powerManagement then cap .powerManagement
  else if at_ .pciExpress then cap .pciExpress
  else if at_ .msix then cap .msix
  else Config.cfgSpace o

/-- Any other configuration write: the host places BAR0 and BAR2 (R388). -/
def Shuttle.cfgWrite (x : Shuttle) (off : Nat) (v : BitVec 32) : Shuttle :=
  if off / 4 = 4 then { x with bar0 := v &&& 0xFFFFF000 }
  else if off / 4 = 6 then { x with bar2 := v &&& 0xFFF00000 }
  else x

/-- CONFIG_REQUEST (R388, R389, R474): retry status until the header is checked. On a return to D0, or of Bus Master Enable,
pending messages go out. -/
def execConfigRequest (q : CfgRequest) (s : State) : Host.Outcome State Fault Refusal :=
  if !s.sht.coreUp || s.sht.prst then .next s
  else if s.sht.retry then .next (s.updSht fun x => { x with cfgAnswer := none })
  else match q with
    | .read off => .next (s.updSht fun x => { x with cfgAnswer := some (s.cfgWord off.toNat) })
    | .setBme on => .next (s.updSht fun x => { x with bme := on }).flushMsix
    | .setD3 on =>
      let t := (s.updSht fun x => { x with d3 := on }).flushMsix
      .next (if s.sht.d3 = on then t else t.shtLine 27)
    | .write off v => .next (s.updSht fun x => x.cfgWrite off.toNat v)

/-! ### Fields of a descriptor (R407 to R409) -/

/-- The number that `n` bytes from offset `k` hold, little-endian. -/
def leBytes (b : Vector Byte 64) (k n : Nat) : Nat :=
  ((List.range n).map fun i => ((b.toList[k + i]?).getD 0).toNat * 256 ^ i).sum

/-- The fields of a descriptor's 64 bytes (R407). -/
def Descriptor.ofBytes (b : Vector Byte 64) : Descriptor where
  opc := BitVec.ofNat 8 (leBytes b 0 1)
  flg := BitVec.ofNat 8 (leBytes b 1 1)
  tag := BitVec.ofNat 16 (leBytes b 2 2)
  grant0 := BitVec.ofNat 16 (leBytes b 4 2)
  grant1 := BitVec.ofNat 16 (leBytes b 6 2)
  grant2 := BitVec.ofNat 16 (leBytes b 8 2)
  rsv10 := BitVec.ofNat 16 (leBytes b 10 2)
  count := BitVec.ofNat 32 (leBytes b 12 4)
  haddr := BitVec.ofNat 64 (leBytes b 16 8)
  daddr := BitVec.ofNat 32 (leBytes b 24 4)
  rsv28 := BitVec.ofNat 32 (leBytes b 28 4)
  param := tab 16 fun k => BitVec.ofNat 16 (leBytes b (32 + 2 * k) 2)

/-- A host-side word: [15:12] = 0 (R396). -/
def plainWord (c : Container) : Bool := c.toNat < 4096

/-- The COUNT range of an opcode (R408). -/
def countOk (d : Descriptor) : Bool :=
  let n := d.count.toNat
  match d.opc.toNat with
  | 1 | 2 => rng n 1 1048576 && (!d.flg.getLsbD 1 || n % 2 = 0)
  | 3 => rng n 1 16
  | 4 => n = 40
  | 5 => rng n 1 4096
  | 7 => rng n 1 131072
  | _ => n = 0

/-- Device words a descriptor names, and whether the range is one a descriptor may have (R408, R409). -/
def daddrOk (d : Descriptor) : Bool :=
  let a := d.daddr.toNat
  let n := d.count.toNat
  match d.opc.toNat with
  | 1 | 2 => decide (a + n ≤ 0xC00000) && !(decide (a < 0x912000) && decide (0x910000 < a + n))
  | 3 => a < 256
  | 4 => a < 32
  | 7 =>
    let o := a % 0x100000
    a < 0x800000 && a % 2 = 0 && 0x80000 ≤ o && decide (o + 2 * n ≤ 0xC0000)
  | _ => a = 0

/-- PARAM is 0 where the opcode does not use it (R407, R408). -/
def paramOk (d : Descriptor) : Bool :=
  let used := match d.opc.toNat with
    | 3 => d.count.toNat
    | 5 => 3
    | 8 => 1
    | _ => 0
  (d.param.toList.drop used).all (fun c => c = 0) && (d.opc ≠ 8 || decide (d.param[0].toNat < 256))

/-- The fields meet R408 and R409 (R410 step 5). -/
def fieldsOk (d : Descriptor) : Bool :=
  let host := d.opc = 1 || d.opc = 2 || d.opc = 4 || d.opc = 5 || d.opc = 7
  decide (d.flg.toNat < 4) && (!d.flg.getLsbD 1 || d.opc = 1 || d.opc = 2) && d.rsv10 = 0 && d.rsv28 = 0 &&
    decide (d.daddr.toNat < 2 ^ 24) && (if host then !d.haddr.getLsbD 0 else d.haddr = 0) &&
    countOk d && daddrOk d && paramOk d && (d.opc ≠ 8 || (d.grant0 = 0 && d.grant1 = 0 && d.grant2 = 0))

/-- The right an opcode needs (R399, R408). -/
def rightOf (opc : Nat) : Nat :=
  match opc with
  | 1 | 7 => 6
  | 2 => 7
  | 3 => 4
  | 4 => 1
  | 5 => 3
  | _ => 2

/-- The entry holds the right and covers the range (R410 step 6). -/
def State.rightsOk (s : State) (d : Descriptor) : Bool :=
  let n := match d.opc.toNat with
    | 1 | 2 => d.count.toNat
    | 7 => 2 * d.count.toNat
    | _ => 1
  (s.grant (hIndex (Descriptor.handle d))).covers (rightOf d.opc.toNat) d.daddr.toNat n

/-! ### Fetch (R405, R410, R413, R421) -/

/-- The first container of TAG and GRANT that is no host-side word. -/
def badWord (d : Descriptor) : Option Container := [d.tag, d.grant0, d.grant1, d.grant2].find? fun c => !plainWord c

/-- A GRANT_CHECK of an SQ counts, and at QLIM the SQ is quarantined (R421). -/
def State.countCheck (s : State) (n : Fin 8) : State :=
  let s := s.updSq n fun q => { q with qc := if q.qc = 255 then 255 else q.qc + 1 }
  if bitsAt (s.reg shtBase) 0 8 ≤ (s.sq n).qc.toNat && !(s.sq n).quar then
    ((s.updSq n fun q => { q with quar := true }).raise 109 0x01 (BitVec.ofNat 24 (n.val * 2 ^ 19))).shtLine 25
  else s

/-- The checks of R410 on a fetched descriptor: the completion status of the first that fails. -/
def State.checkDesc (s : State) (n : Fin 8) (d : Descriptor) : Option (BitVec 16) × State :=
  match badWord d with
  | some c => (some 6, s.protocolFault 0x02 n.val c.toNat)
  | none =>
    if !rng d.opc.toNat 1 8 then (some 5, s.protocolFault 0x03 n.val d.opc.toNat)
    else
      let h := Descriptor.handle d
      match (if d.opc = 8 then none else s.checkHandle h) with
      | some 1 => (some 2, (s.grantFault n.val 1 h).countCheck n)
      | some _ => (some 3, s.grantFault n.val 2 h)
      | none =>
        if !fieldsOk d then (some 7, s)
        else if d.opc ≠ 8 && !s.rightsOk d then (some 4, s.grantFault n.val 3 h)
        else (none, s)

/-- The shuttle may fetch for the SQ now, but for its ring grant (R389, R405). -/
def State.mayFetch (s : State) (n : Fin 8) : Bool :=
  let q := s.sq n
  s.sht.ready && s.canSend && q.en && !q.stopped && !(s.cq (s.sqCq n)).err && !q.quar && !s.sht.iso && q.exec.isNone && q.head ≠ q.tail && s.cqFree (s.sqCq n)

/-- It is the SQ's turn: the SQs are served in round-robin order, from the one after the SQ served last (R405). -/
def State.fetchTurn (s : State) (n : Fin 8) : Bool :=
  (List.range 8).all fun k =>
    let m : Fin 8 := ⟨(s.sht.served.val + 1 + k) % 8, Nat.mod_lt _ (by decide)⟩
    decide ((n.val + 15 - s.sht.served.val) % 8 ≤ k) || !s.mayFetch m

/-- SQs that execute a descriptor, among those of a mask, other than `n` (R411). -/
def State.fenceWait (s : State) (n : Fin 8) (mask : Nat) : BitVec 8 :=
  BitVec.ofNat 8 (((List.finRange 8).map fun m =>
    if m ≠ n && mask.testBit m.val && (s.sq m).exec.isSome then 2 ^ m.val else 0).sum)

/-- An empty descriptor, which stands for one that could not be read. -/
def noDescriptor : Descriptor := ⟨0, 0, 0, 0, 0, 0, 0, 0, 0, 0, 0, Vector.replicate 16 0⟩

/-- DESCRIPTOR_FETCH (R405, R407, R410, R413): the 64 bytes of the entry at the head, or a read that failed. An invalid ring grant stops the
SQ. -/
def State.fetchDesc (s : State) (n : Fin 8) (r : DescRead) : State :=
  if !(s.mayFetch n && s.fetchTurn n) then s
  else if !s.sqGrantOk n then (s.updSq n fun q => { q with stopped := true }).shtLine 25
  else
    let q := s.sq n
    let head : Word := BitVec.ofNat 12 ((q.head.toNat + 1) % s.sqSize n)
    let s := (s.updSht fun x => { x with served := n }).askHost (s.sqEntry n q.head.toNat) 64
    let put := fun (s : State) (d : Descriptor) (st : Option (BitVec 16)) (w : BitVec 8) =>
      s.updSq n fun q => { q with head := head, exec := some ⟨d, 0, st.map fun x => (x, 0), head, none, w⟩ }
    match r with
    | .failed => put (s.hostFault 0x02 n.val) noDescriptor (some 8) 0
    | .poisoned => put (s.hostFault 0x01 n.val) noDescriptor (some 8) 0
    | .bytes b =>
      let d := Descriptor.ofBytes b
      let k := s.checkDesc n d
      put k.2 d k.1 (if d.opc = 8 then s.fenceWait n d.param[0].toNat else 0)

def execDescriptorFetch (n : Fin 8) (r : DescRead) (s : State) : Host.Outcome State Fault Refusal :=
  .next (s.fetchDesc n r)

/-! ### Executing (R411, R414, R415) -/

/-- The SQ executes a descriptor of this opcode. -/
def State.executing (s : State) (n : Fin 8) (opc : Nat) : Option Exec :=
  (s.sq n).exec.filter fun x => x.status.isNone && x.d.opc.toNat = opc

def State.updExec (s : State) (n : Fin 8) (f : Exec → Exec) : State := s.updSq n fun q => { q with exec := q.exec.map f }

/-- More words of the descriptor are done (R415). -/
def State.progress (s : State) (n : Fin 8) (k : Nat) : State := s.updExec n fun x => { x with prog := x.prog + k }

/-- PARTIAL with its reason and datum (R414). -/
def State.partialDesc (s : State) (n : Fin 8) (reason datum : Nat) : State :=
  s.finishDesc n 1 (BitVec.ofNat 32 (reason * 2 ^ 24 + datum % 2 ^ 24))

/-- How a run of device accesses ended: all done, one failed, or one waits for a sleeping bank (R192). -/
inductive RunEnd where
  | all
  | failed
  | asleep
deriving DecidableEq, Repr

/-- The shuttle writes words upwards from `a`: aligned pairs of a bank as one access where both words lie in the range, else single
words (R411). `bad` is the place of a write that ends physically as it says, counted in words from here. -/
def State.copyIn (s : State) (a : Nat) (bad : Option (Nat × WriteOutcome)) : List Word → Nat × RunEnd × State
  | [] => (0, .all, s)
  | [w] =>
    let p : Addr := BitVec.ofNat 24 a
    if s.asleep p then (0, .asleep, s.wake p)
    else
      let r := s.busWrite .shuttle p w (match bad with | some (0, o) => o | _ => .ok)
      (if r.1 then 1 else 0, if r.1 then .all else .failed, r.2)
  | w :: v :: rest =>
    let p : Addr := BitVec.ofNat 24 a
    if s.asleep p then (0, .asleep, s.wake p)
    else if bankPair p then
      let r := s.busWritePair .shuttle p w v (match bad with | some (0, o) => o | some (1, o) => o | _ => .ok)
      if !r.1 then (0, .failed, r.2)
      else
        let q := State.copyIn r.2 (a + 2) (bad.bind fun b => if b.1 < 2 then none else some (b.1 - 2, b.2)) rest
        (q.1 + 2, q.2.1, q.2.2)
    else
      let r := s.busWrite .shuttle p w (match bad with | some (0, o) => o | _ => .ok)
      if !r.1 then (0, .failed, r.2)
      else
        let q := State.copyIn r.2 (a + 1) (bad.bind fun b => if b.1 < 1 then none else some (b.1 - 1, b.2)) (v :: rest)
        (q.1 + 1, q.2.1, q.2.2)

/-- The bytes of containers, little-endian. -/
def bytesOf (cs : List Container) : List (BitVec 8) := cs.flatMap fun (c : Container) => [c.setWidth 8, (c >>> 8).setWidth 8]

/-- The bad device write of a stop. -/
def stopWrite : XferStop → Option (Nat × WriteOutcome)
  | .deviceWrite k o => some (k, o)
  | _ => none

/-- The bad device read of a stop. -/
def stopRead : XferStop → Option (Nat × ReadOutcome)
  | .device k o => some (k, o)
  | _ => none

/-- Words that reach the device before the host's data ends: all, or as many as the stop says. -/
def hostLimit (x : XferStop) (n : Nat) : Nat :=
  match x with
  | .host k | .poisoned k => min k n
  | _ => n

/-- The host side of a stop, once its words are done: reason 2 or 3, counted at source 105 (R414). -/
def State.hostStop (s : State) (n : Fin 8) (stop : XferStop) (datum : Nat) : State :=
  match stop with
  | .host _ => (s.hostFault 0x02 n.val).partialDesc n 2 datum
  | .poisoned _ => (s.hostFault 0x01 n.val).partialDesc n 3 datum
  | _ => s

/-- COPY_IN (R411, R414, R415): the words that arrive next; the descriptor completes with its last word. -/
def State.doCopyIn (s : State) (n : Fin 8) (x : Exec) (data : List Container) (stop : XferStop) : State :=
  let need := x.d.count.toNat - x.prog
  let pack := x.d.flg.getLsbD 1
  let all := if pack then unpackBytes (bytesOf data) else (data.takeWhile plainWord).map fun c => c.setWidth 12
  let ws := all.take (min need (hostLimit stop need))
  let a := x.d.daddr.toNat + x.prog
  -- a word whose partner does not arrive is not written to the program window, which takes only pairs
  let lone := decide (ws.length < need) && (progOf (BitVec.ofNat 24 a)).isSome && ws.length % 2 = 1
  let ws := if lone then ws.dropLast else ws
  let first := if pack then 3 * x.prog / 2 else 2 * x.prog
  let r := (s.askHost (x.d.haddr.toNat + first) (if pack then 3 * ((need + 1) / 2) else 2 * need)).copyIn a (stopWrite stop) ws
  let t := r.2.2.progress n r.1
  let next := a + r.1
  match r.2.1 with
  | .failed => t.partialDesc n 1 next
  | .asleep => t
  | .all =>
    if r.1 = need then t.finishDesc n 0 0
    else match (if pack then none else (data.drop all.length).head?) with
      | some c =>
        if all.length < min need (hostLimit stop need) then (t.protocolFault 0x02 n.val c.toNat).partialDesc n 4 next
        else t.hostStop n stop next
      | none => t.hostStop n stop next

def execCopyIn (n : Fin 8) (data : List Container) (stop : XferStop) (s : State) : Host.Outcome State Fault Refusal :=
  match (if s.canSend then s.executing n 1 else none) with
  | some x => .next (s.doCopyIn n x data stop)
  | none => .next s

/-- The shuttle reads `n` words upwards from `a`, as `copyIn` writes them. A companion-RAM read that receives BUSY is presented again at
most
four times (R190): the outcome given is the one of its last presentation, as the earlier ones leave nothing behind. -/
def State.copyOut (s : State) (a : Nat) (bad : Option (Nat × ReadOutcome)) : Nat → List Word × RunEnd × State
  | 0 => ([], .all, s)
  | 1 =>
    let p : Addr := BitVec.ofNat 24 a
    if s.asleep p then ([], .asleep, s.wake p)
    else
      let r := s.busRead .shuttle p (match bad with | some (0, o) => o | _ => .ok) .unsupported
      match r.1 with
      | .word v => ([v], .all, r.2)
      | .failed _ => ([], .failed, r.2)
  | k + 2 =>
    let p : Addr := BitVec.ofNat 24 a
    if s.asleep p then ([], .asleep, s.wake p)
    else if bankPair p then
      let r := s.busReadPair .shuttle p (match bad with | some (0, o) => o | some (1, o) => o | _ => .ok)
      match r.1 with
      | (.word v, .word w) =>
        let q := State.copyOut r.2 (a + 2) (bad.bind fun b => if b.1 < 2 then none else some (b.1 - 2, b.2)) k
        (v :: w :: q.1, q.2)
      | _ => ([], .failed, r.2)
    else
      let r := s.busRead .shuttle p (match bad with | some (0, o) => o | _ => .ok) .unsupported
      match r.1 with
      | .word v =>
        let q := State.copyOut r.2 (a + 1) (bad.bind fun b => if b.1 < 1 then none else some (b.1 - 1, b.2)) (k + 1)
        (v :: q.1, q.2)
      | .failed _ => ([], .failed, r.2)

/-- Bytes sent to the host from an address on (R415). -/
def State.sendBytes (s : State) (a : Nat) (bs : List Byte) : State := s.updSht fun x => { x with hostOut := [(a, bs)] }

/-- Words sent to the host as host-side words. -/
def State.sendWords (s : State) (a : Nat) (ws : List Word) : State := s.sendBytes a (bytesOf (ws.map fun (w : Word) => w.setWidth 16))

/-- COPY_OUT (R411, R414, R415): in the packed form only whole groups are written. -/
def State.doCopyOut (s : State) (n : Fin 8) (x : Exec) (stop : XferStop) : State :=
  let need := x.d.count.toNat - x.prog
  let r := s.copyOut (x.d.daddr.toNat + x.prog) (stopRead stop) need
  let pack := x.d.flg.getLsbD 1
  let ws := if pack then r.1.take (r.1.length / 2 * 2) else r.1
  let t := if pack then r.2.2.sendBytes (x.d.haddr.toNat + 3 * x.prog / 2) (packBytes ws)
    else r.2.2.sendWords (x.d.haddr.toNat + 2 * x.prog) ws
  let t := t.progress n ws.length
  match r.2.1 with
  | .failed => t.partialDesc n 1 (x.d.daddr.toNat + x.prog + r.1.length)
  | .asleep => t
  | .all => t.finishDesc n 0 0

def execCopyOut (n : Fin 8) (stop : XferStop) (s : State) : Host.Outcome State Fault Refusal :=
  match (if s.canSend then s.executing n 2 else none) with
  | some x => .next (s.doCopyOut n x stop)
  | none => .next s

/-! ### MSG (R92, R411, R414) -/

/-- The words of a MSG from its progress on: delivered in order until one is refused or is no host-side word. -/
def State.deliverMsg (s : State) (n : Fin 8) (i : BitVec 8) : List Container → State
  | [] => s.finishDesc n 0 0
  | c :: rest =>
    if !plainWord c then (s.protocolFault 0x02 n.val c.toNat).partialDesc n 4 i.toNat
    else match s.mailWord (mailEng i) (mailBox i) true (c.setWidth 12) (fld 10 1 ||| fld 0 n.val) with
      | some t => State.deliverMsg ((t.progress n 1).updExec n fun x => { x with refused := none }) n i rest
      | none => s.updExec n fun x => { x with refused := some 0 }

/-- Words of a MSG still to deliver. -/
def Exec.words (x : Exec) : List Container := (x.d.param.toList.take x.d.count.toNat).drop x.prog

/-- MSG (R411): the first offer of its words. -/
def execMsg (n : Fin 8) (s : State) : Host.Outcome State Fault Refusal :=
  match s.executing n 3 with
  | some x => if x.refused.isNone then .next (s.deliverMsg n (x.d.daddr.setWidth 8) x.words) else .next s
  | none => .next s

/-- MAILBOX_RETRY (R411): 1 µs after a refusal the word is offered again; past MSGTO the descriptor ends. -/
def execMailboxRetry (n : Fin 8) (s : State) : Host.Outcome State Fault Refusal :=
  match s.executing n 3 with
  | none => .next s
  | some x =>
    match x.refused with
    | none => .next s
    | some us =>
      let i : BitVec 8 := x.d.daddr.setWidth 8
      let v := (x.words.headD 0).setWidth 12
      match s.mailWord (mailEng i) (mailBox i) true v (fld 10 1 ||| fld 0 n.val) with
      | some _ => .next (s.deliverMsg n i x.words)
      | none =>
        if s.regN (shtBase + 1) ≤ us + 1 then .next (s.partialDesc n 5 i.toNat)
        else .next (s.updExec n fun x => { x with refused := some (us + 1) })

/-! ### Gauges, records, clears, programs, fences (R411) -/

/-- GAUGE_READ (R411, R413): words 0x08 to 0x2F of the gauge's block as they stand. -/
def execGaugeRead (n : Fin 8) (s : State) : Host.Outcome State Fault Refusal :=
  match (if s.canSend then s.executing n 4 else none) with
  | some x =>
    let b := monBase ⟨x.d.daddr.toNat % 32, by omega⟩
    let ws := (List.range 40).map fun k => s.readReg (b + 8 + k)
    .next (((s.sendWords x.d.haddr.toNat ws).progress n 40).finishDesc n 0 ((s.readReg (b + 8)).setWidth 32))
  | none => .next s

/-- Records looked up from a SEQ on: their words, and the first SEQ that is absent (R365, R411). -/
def State.lookUp (s : State) (q : BitVec 36) : Nat → List Word × Option (BitVec 36)
  | 0 => ([], none)
  | k + 1 =>
    match s.findRecord q with
    | none => ([], some q)
    | some w =>
      let r := State.lookUp s (q + 1) k
      (w.toList ++ r.1, r.2)

/-- The READ commands of that search at the recorder SPI port (R366). -/
def State.readsFrom (s : State) (q : BitVec 36) (n : Nat) : List (List Byte) :=
  (List.range (min n ((s.lookUp q n).1.length / 16 + 1))).flatMap fun k => s.nvReads (q + BitVec.ofNat 36 k)

/-- The words from word `j` of record `q` on, as far as they come from the RAM ring, are read by a master: how many of the records' words
could be read, and the address of the one that could not (R183, R364). -/
def State.readRing (s : State) (m : Master) (q : BitVec 36) (ends : Nat → ReadOutcome) (j : Nat) : Nat → Nat × Option Addr × State
  | 0 => (j, none, s)
  | k + 1 =>
    let p := q + BitVec.ofNat 36 (j / 16)
    let a : Addr := BitVec.ofNat 24 (slotAddr p + j % 16)
    let o := if s.inRing p then s.effRead m [a] (ends j) else .ok
    let t := if s.inRing p then s.countRead m [a] o false else s
    if readGood o then State.readRing t m q ends (j + 1) k else (j, some a, t)

/-- REC_READ (R364, R365, R411, R414): sixteen words of each record; an absent record, or a RAM word that cannot be read, ends it. -/
def State.doRecRead (s : State) (n : Fin 8) (x : Exec) (stop : XferStop) : State :=
  match (x.d.param.toList.take 3).find? fun c => !plainWord c with
  | some c => (s.protocolFault 0x02 n.val c.toNat).partialDesc n 4 0
  | none =>
    let q := handleOf (x.d.param[0].setWidth 12) (x.d.param[1].setWidth 12) (x.d.param[2].setWidth 12)
    let r := s.lookUp q x.d.count.toNat
    let s := s.updRcd fun y => y.sent (s.readsFrom q x.d.count.toNat)
    let ends := fun (j : Nat) => ((stopRead stop).bind fun p => if p.1 = j then some p.2 else none).getD .ok
    let f := s.readRing .shuttle q ends 0 r.1.length
    let send := fun (s : State) (ws : List Word) => (s.sendWords x.d.haddr.toNat ws).progress n ws.length
    match f.2.1 with
    | some a => (send f.2.2 (r.1.take f.1)).partialDesc n 1 a.toNat
    | none => finish (send f.2.2 r.1) r.2
where
  finish (s : State) (absent : Option (BitVec 36)) : State :=
    match absent with
    | some q => s.partialDesc n 6 q.toNat
    | none => s.finishDesc n 0 0

def execRecRead (n : Fin 8) (stop : XferStop) (s : State) : Host.Outcome State Fault Refusal :=
  match (if s.canSend then s.executing n 5 else none) with
  | some x => .next (s.doRecRead n x stop)
  | none => .next s

/-- REC_CLEAR (R375, R411): it arms a clear, or is refused. -/
def execRecClear (n : Fin 8) (s : State) : Host.Outcome State Fault Refusal :=
  match s.executing n 6 with
  | some _ => if s.rcd.clearingFor n then .next s else .next (s.armClear n)
  | none => .next s

/-- Program words written upwards, one aligned double store each (R179, R411). -/
def State.loadWords (s : State) (a : Nat) (bad : Option (Nat × WriteOutcome)) : List PWord → Nat × RunEnd × State
  | [] => (0, .all, s)
  | w :: rest =>
    let p : Addr := BitVec.ofNat 24 a
    if s.asleep p then (0, .asleep, s.wake p)
    else
      let r := s.busWritePair .shuttle p (w.setWidth 12) ((w >>> 12).setWidth 12) (match bad with | some (0, o) => o | _ => .ok)
      if !r.1 then (0, .failed, r.2)
      else
        let q := State.loadWords r.2 (a + 2) (bad.bind fun b => if b.1 = 0 then none else some (b.1 - 1, b.2)) rest
        (q.1 + 1, q.2.1, q.2.2)

/-- LOAD_PROGRAM (R396, R411, R414, R415). -/
def State.doLoad (s : State) (n : Fin 8) (x : Exec) (data : List Container) (stop : XferStop) : State :=
  let need := x.d.count.toNat - x.prog
  let good := data.takeWhile fun c => decide (c.toNat < 16384)
  let lim := min need (hostLimit stop need)
  let r := (s.askHost (x.d.haddr.toNat + 2 * x.prog) (2 * need)).loadWords (x.d.daddr.toNat + 2 * x.prog) (stopWrite stop) ((good.take lim).map fun c => c.setWidth 14)
  let t := r.2.2.progress n r.1
  let next := x.d.daddr.toNat + 2 * (x.prog + r.1)
  match r.2.1 with
  | .failed => t.partialDesc n 1 next
  | .asleep => t
  | .all =>
    if r.1 = need then t.finishDesc n 0 0
    else match (if good.length < lim then (data.drop good.length).head? else none) with
      | some c => (t.protocolFault 0x02 n.val c.toNat).partialDesc n 4 next
      | none => t.hostStop n stop next

def execLoadProgram (n : Fin 8) (data : List Container) (stop : XferStop) (s : State) : Host.Outcome State Fault Refusal :=
  match (if s.canSend then s.executing n 7 else none) with
  | some x => .next (s.doLoad n x data stop)
  | none => .next s

/-- FENCE (R411): every descriptor it waits for has completed. -/
def execFence (n : Fin 8) (s : State) : Host.Outcome State Fault Refusal :=
  match s.executing n 8 with
  | some x => if x.wait = 0 then .next (s.finishDesc n 0 0) else .next s
  | none => .next s

/-! ### Completions (R405, R412, R416, R418, R420) -/

/-- A fence no longer waits for SQ `n`. -/
def State.endWaits (s : State) (n : Fin 8) : State :=
  s.updSht fun x => { x with sq := vmap (fun _ (q : Sq) =>
    { q with exec := q.exec.map fun e => { e with wait := e.wait &&& ~~~(BitVec.ofNat 8 (2 ^ n.val)) } }) x.sq }

/-- A completion write that cannot be sent stops the CQ and every SQ bound to it (R418, R420). -/
def State.completionFails (s : State) (n c : Fin 8) : State :=
  let s := (s.updSq n fun q => { q with exec := none }).raise 108 0x01 0
  let s := s.updCq c fun q => { q with err := true, timer := false }
  ((List.finRange 8).foldl (fun (s : State) m => if s.sqCq m = c then s.updSq m fun q => { q with stopped := true } else s) s).shtLine 25

/-- The completion's entry, as R412 lays it out. -/
def completionOf (n c : Fin 8) (q : Cq) (x : Exec) (st : BitVec 16) (res : BitVec 32) : Completion :=
  ⟨c, q.tail, if st = 8 then 0 else x.d.tag, st, BitVec.ofNat 32 x.prog, res,
    BitVec.ofNat 16 (bit1 q.phase * 2 ^ 15 + n.val * 2 ^ 12 + x.head.toNat)⟩

/-- Its sixteen bytes (R412). -/
def Completion.bytes (x : Completion) : List Byte :=
  let le := fun (n : Nat) (v : Nat) => (List.range n).map fun i => (BitVec.ofNat 8 (v / 256 ^ i) : Byte)
  le 2 x.tag.toNat ++ le 2 x.status.toNat ++ le 4 x.prog.toNat ++ le 4 x.result.toNat ++ le 2 0 ++ le 2 x.pword.toNat

/-- The two memory writes of a completion (R405): bytes 0 to 13, and then the phase word. -/
def State.cplWrites (s : State) (x : Completion) : List (Nat × List Byte) :=
  let a := s.cqEntry x.cq x.slot.toNat
  [(a, x.bytes.take 14), (a + 14, x.bytes.drop 14)]

/-- The CQ after a completion's write: the next slot, and the completions that wait for a message, with the moderation fields as they now
take effect (R416). -/
def State.cqPush (s : State) (c : Fin 8) : State :=
  let size := s.cqSize c
  s.updCq c fun q =>
    let tail := (q.tail.toNat + 1) % size
    { q with tail := BitVec.ofNat 12 tail, phase := if tail = 0 then !q.phase else q.phase
             pd := if q.pd = 255 then 255 else q.pd + 1
             timer := decide (s.reg (cqReg c 8) ≠ 0), thr := BitVec.ofNat 8 (s.cqThr c) }

/-- COMPLETION_WRITE (R405, R412, R416, R418, R420). A completion to a CQ that has stopped is dropped. -/
def State.complete (s : State) (n : Fin 8) (x : Exec) (st : BitVec 16) (res : BitVec 32) : State :=
  let c := s.sqCq n
  let q := s.cq c
  if q.err then (s.updSq n fun q => { q with exec := none }).endWaits n
  else if !s.canSend then (s.completionFails n c).endWaits n
  else
    let k := completionOf n c q x st res
    let s := s.updSht fun y => { y with lastCpl := some k, hostOut := s.cplWrites k }
    let s := ((s.updSq n fun q => { q with exec := none }).endWaits n).cqPush c
    let s := if s.cqIen c && (x.d.flg.getLsbD 0 || decide ((s.cq c).thr.toNat ≤ (s.cq c).pd.toNat)) then s.cqMessage c else s
    if rng st.toNat 2 4 then s.shtLine 24 else s

def execCompletionWrite (n : Fin 8) (s : State) : Host.Outcome State Fault Refusal :=
  match (s.sq n).exec with
  | some x =>
    match x.status with
    | some p => .next (s.complete n x p.1 p.2)
    | none => .next s
  | none => .next s

/-- CQ_TIMER_EXPIRY (R416): the time that CQTMO named at the last completion has passed. -/
def execCqTimerExpiry (n : Fin 8) (s : State) : Host.Outcome State Fault Refusal :=
  if (s.cq n).timer && s.cqIen n then .next (s.cqMessage n) else .next s

/-! ### Weft transfers that time out (R182) -/

/-- The oldest posted store of an engine, as its transfer crosses the weft. -/
def State.storeTimeout (s : State) (e : Eng) : State :=
  match (if s.still e then [] else (s.eng e).sbuf) with
  | [] => s
  | q :: _ => if q.sent && crossesWeft (.engine e q.t q.machine) q.pa then s.performStore e q .timeout .ok else s

/-- The outstanding load of a thread; a host-window read ends with PCIe's own timeout first. -/
def State.loadTimeout (s : State) (e : Eng) (t : Thr) : State :=
  match s.loadOf e t with
  | none => s
  | some l =>
    if l.words.any fun a => crossesWeft (.engine e t l.machine) a && decide (regionOf a ≠ .host) then
      s.finishLoad e t l .timeout .timeout .abort .abort
    else s

/-- The read that an engine's walk waits for: a walk-integrity fault (R200, R207). -/
def State.walkTimeout (s : State) (e : Eng) : State :=
  match (if s.still e then none else s.walkAsk e) with
  | some q => if crossesWeft (.engine e q.1 true) q.2.1 then s.walkStep e .timeout else s
  | none => s

/-- The element of a block operation: its source read, or its destination access. An element that reads the host window meets PCIe's own
timeout in that read. -/
def State.blockTimeout (s : State) (e : Eng) (t : Thr) : State :=
  let x := (s.thr e t).blk
  let at_ := fun (use write : Bool) (va : Addr) => match s.blkCheck e t use write va with
    | .go (a :: _) => some a
    | _ => none
  let src := at_ x.usesSrc false x.srcVa
  let dst := at_ x.usesDst x.stores x.dstVa
  let host := fun (o : Option Addr) => o.map regionOf = some .host
  let far := fun (o : Option Addr) => (o.map (crossesWeft (.engine e t (s.thr e t).machine))).getD false
  if host src || (host dst && !x.stores) || !(far src || far dst) then s
  else s.blkStep e t .timeout .timeout .timeout .abort .abort

/-- The device transfer of a descriptor: PARTIAL with reason 1 at the next device word (R414). -/
def State.shuttleTimeout (s : State) (n : Fin 8) : State :=
  match (s.sq n).exec with
  | none => s
  | some x =>
    let a := x.d.daddr.toNat + (if x.d.opc = 7 then 2 else 1) * x.prog
    if x.status.isNone && (x.d.opc = 1 || x.d.opc = 2 || x.d.opc = 7) then
      (s.raiseOf .shuttle 83 0x01 (BitVec.ofNat 24 a)).partialDesc n 1 a
    else s

/-- WEFT_TRANSFER_TIMEOUT (R182): an error response to the requester, counted at source 83. A fill reads its own cluster and crosses
no weft. -/
def execWeftTransferTimeout (x : Transfer) (s : State) : Host.Outcome State Fault Refusal :=
  match x with
  | .load e t => .next (s.loadTimeout e t)
  | .store e => .next (s.storeTimeout e)
  | .walk e => .next (s.walkTimeout e)
  | .fill _ => .next s
  | .block e t => .next (s.blockTimeout e t)
  | .shuttle n => .next (s.shuttleTimeout n)
  | .bobbin n second => execBobbinWrite n second .timeout 0 s
  | .wave => execWaveformCapture .timeout 0 s

end Sys2Proof.Machine
end

