-- ==== Sys2Proof/Machine/Boot.lean ====
section
/-! DEFINITION. The boot ROM (R472 to R483): its sources, the image container, loading and checking, setup records, failures; and
host reads that never complete (R388). -/

namespace Sys2Proof.Machine

/-! ### CRC-32 (R475) -/

/-- One bit, most significant first, without reflection. -/
def crc32Bit (c : BitVec 32) (b : Bool) : BitVec 32 :=
  if Bool.xor (c.getLsbD 31) b then (c <<< 1) ^^^ 0x04C11DB7 else c <<< 1

/-- One word's twelve bits. -/
def crc32Word (c : BitVec 32) (w : Word) : BitVec 32 := (List.range 12).foldl (fun c i => crc32Bit c (w.getLsbD (11 - i))) c

/-- The three stored words of a finished CRC, low word first, with [35:32] = 0. -/
def crc32Words (c : BitVec 32) : List Word :=
  let r := ~~~c
  [r.setWidth 12, (r >>> 12).setWidth 12, (r >>> 24).setWidth 12]

/-! ### The image container (R475 to R478) -/

/-- What the ROM does with a payload: program words and data words go to their targets, setup records to the staging area. The
first field is the image offset of the unit's first word. -/
inductive LoadAct where
  | prog (off : Nat) (c : Clu) (n : PAddr) (v : PWord)
  | data (off : Nat) (a : Addr) (v : Word)
  | record (off : Nat) (a : Addr) (v : Word)
deriving DecidableEq, Repr

def LoadAct.off : LoadAct → Nat
  | .prog k _ _ _ => k
  | .data k _ _ => k
  | .record k _ _ => k

/-- Where in the image the reader is. -/
inductive LoadPart where
  | header | secHead | payload | check | trailer | done
deriving DecidableEq, Repr

/-- The reader of an image: it takes one word after another. -/
structure Loader where
  off : Nat := 0
  part : LoadPart := .header
  /-- Words of the present header, unit or CRC, oldest first. -/
  cur : List Word := []
  /-- The image's header, once complete. -/
  head : List Word := []
  /-- The section: its header words, the offset of the first, its payload words still to come, and where the next unit goes. -/
  sec : List Word := []
  start : Nat := 0
  left : Nat := 0
  next : Nat := 0
  /-- Sections and setup words so far. -/
  secs : Nat := 0
  setup : Nat := 0
  /-- CRC-32 of the header or section, and of everything before the trailer. -/
  crc : BitVec 32 := 0xFFFFFFFF
  all : BitVec 32 := 0xFFFFFFFF
  /-- What was done, newest first. -/
  acts : List LoadAct := []
  /-- The first failing check: its code and image offset (R483). -/
  bad : Option (BitVec 7 × Nat) := none
deriving DecidableEq, Repr

/-- Word `k` of a list. -/
def wordAt (ws : List Word) (k : Nat) : Word := (ws[k]?).getD 0

/-- A 24-bit field in two words, low word first. -/
def fieldAt (ws : List Word) (k : Nat) : Nat := (joinW (wordAt ws (k + 1)) (wordAt ws k)).toNat

/-- CRC-32 of the header, over words 0 to 11. -/
def headCrc (h : List Word) : BitVec 32 := (h.take 12).foldl crc32Word 0xFFFFFFFF

/-- The header passes: MAGIC, DEVICE, FORMAT and HCRC (R476, R483). -/
def headBad (h : List Word) : Option (BitVec 7 × Nat) :=
  if wordAt h 0 ≠ 0xD4C then some (0x61, 0)
  else if wordAt h 1 ≠ 0x641 then some (0x61, 1)
  else if wordAt h 2 ≠ 0x001 then some (0x61, 2)
  else if (h.drop 12).take 3 ≠ crc32Words (headCrc h) then some (0x61, 12)
  else none

/-- Fields of the header outside what R476 allows. -/
def headReserved (h : List Word) : Option (BitVec 7 × Nat) :=
  if !rng (wordAt h 3).toNat 1 255 then some (0x62, 3)
  else if 16 ≤ (wordAt h 7).toNat then some (0x62, 7)
  else if 16 ≤ (wordAt h 9).toNat then some (0x62, 9)
  else if bitsAt (wordAt h 10) 4 3 ≠ 0 || !rng (bitsAt (wordAt h 10) 0 4) 1 14 then some (0x62, 10)
  else if wordAt h 11 ≠ 0 then some (0x62, 11)
  else if wordAt h 15 ≠ 0 then some (0x62, 15)
  else none

/-- TYPE and CL of a section. -/
def secType (w : List Word) : Nat := bitsAt (wordAt w 0) 8 4
def secClu (w : List Word) : Clu := ⟨bitsAt (wordAt w 0) 0 3 % 8, by omega⟩

/-- A DATA section's range lies in cluster data regions or the companion free area, outside the staging area (R477). -/
def dataRangeOk (a n : Nat) : Bool :=
  let o := a % 0x100000
  let inData := decide (a < 0x800000) && (decide (o + n ≤ 0x42000) || (decide (0x48000 ≤ o) && decide (o + n ≤ 0x4C000)))
  let inFree := decide (0x900100 ≤ a) && decide (a + n ≤ 0x900800)
  n = 0 || ((inData || inFree) && !(decide (a < 0x8000) && decide (0x6000 < a + n)))

/-- Fields of a section header outside what R477 allows, with `setup` words of earlier SETUP sections; the offset counts from the
section's first word. -/
def secBad (w : List Word) (setup : Nat) : Option (BitVec 7 × Nat) :=
  let t := secType w
  let a := fieldAt w 2
  let n := fieldAt w 4
  if !(t = 1 || t = 2 || t = 3 || t = 15) then some (0x62, 0)
  else if bitsAt (wordAt w 0) 3 5 ≠ 0 || (t ≠ 1 && bitsAt (wordAt w 0) 0 3 ≠ 0) then some (0x62, 0)
  else if wordAt w 1 ≠ 0 then some (0x62, 1)
  else if (t = 3 || t = 15) && a ≠ 0 then some (0x62, 2)
  else if (t = 1 && n % 2 ≠ 0) || (t = 3 && n % 3 ≠ 0) then some (0x62, 4)
  else if t = 1 && decide (131072 < a + n / 2) then some (0x62, 2)
  else if t = 2 && !dataRangeOk a n then some (0x62, 2)
  else if t = 3 && decide (8190 < setup + n) then some (0x62, 4)
  else none

/-- Words of a unit of payload: a window pair, a word, a setup record (R477). -/
def unitWords (t : Nat) : Nat := if t = 1 then 2 else if t = 3 then 3 else 1

/-- A complete unit of payload: what is done with it, or the failing check (R477, R478). -/
def unitAct (l : Loader) (u : List Word) : Option LoadAct × Option (BitVec 7 × Nat) :=
  let off := l.off + 1 - u.length
  match secType l.sec with
  | 1 =>
    let hi := wordAt u 1
    if 4 ≤ hi.toNat then (none, some (0x62, l.off))
    else (some (.prog off (secClu l.sec) (BitVec.ofNat 17 l.next) ((hi ++ wordAt u 0).setWidth 14)), none)
  | 2 => (some (.data off (BitVec.ofNat 24 l.next) (wordAt u 0)), none)
  | 3 =>
    let a := fieldAt u 0
    if rng a 0x800000 0x84FFFF then (some (.record off (BitVec.ofNat 24 a) (wordAt u 2)), none) else (none, some (0x62, off))
  | _ => (none, none)

/-- After a section's CRC: another section, or the trailer when LEN agrees (R475, R476). -/
def Loader.afterSection (l : Loader) : Loader :=
  let l := { l with secs := l.secs + 1, cur := [], crc := 0xFFFFFFFF, part := .secHead, start := l.off + 1 }
  if l.secs < (wordAt l.head 3).toNat then l
  else if fieldAt l.head 4 = l.off + 4 then { l with part := .trailer }
  else { l with bad := some (0x61, 4) }

/-- The 16th word of the header has come. -/
def Loader.endHeader (l : Loader) (h : List Word) : Loader :=
  { l with
    head := h, cur := [], part := .secHead, start := l.off + 1
    bad := match headBad h with
      | some b => some b
      | none => headReserved h }

/-- The sixth word of a section header has come: its fields are checked, and LEN against what the section holds (R476, R477). -/
def Loader.endSection (l : Loader) (w : List Word) : Loader :=
  let n := fieldAt w 4
  let l := { l with cur := [], sec := w, left := n, next := fieldAt w 2, part := if n = 0 then .check else .payload }
  match secBad w l.setup with
  | some b => { l with bad := some (b.1, l.start + b.2) }
  | none =>
    if fieldAt l.head 4 < l.start + n + 12 then { l with bad := some (0x61, 4) }
    else { l with setup := if secType w = 3 then l.setup + n else l.setup }

/-- A payload word: a complete unit is acted upon, and the last word is followed by the section's CRC. -/
def Loader.takePayload (l : Loader) (u : List Word) : Loader :=
  let full := decide (u.length = unitWords (secType l.sec))
  let r := if full then unitAct l u else (none, none)
  { l with
    cur := if full then [] else u
    left := l.left - 1
    next := if full then l.next + 1 else l.next
    acts := match r.1 with | some a => a :: l.acts | none => l.acts
    bad := r.2
    part := if l.left ≤ 1 then .check else .payload }

/-- One more word of the image. Words after the trailer are padding (R479). The CRC of a section covers its header and payload, that
of the trailer every word before it (R475). -/
def Loader.take (l : Loader) (w : Word) : Loader :=
  if l.bad.isSome then l
  else
    let cur := l.cur ++ [w]
    let summed := { l with crc := crc32Word l.crc w }
    let r : Loader := match l.part with
      | .header => if cur.length < 16 then { l with cur := cur } else l.endHeader cur
      | .secHead => if cur.length < 6 then { summed with cur := cur } else summed.endSection cur
      | .payload => summed.takePayload cur
      | .check =>
        if cur.length < 3 then { l with cur := cur }
        else if cur = crc32Words l.crc then l.afterSection
        else { l with bad := some (0x63, l.off - 2) }
      | .trailer =>
        if cur.length < 3 then { l with cur := cur }
        else if cur = crc32Words l.all then { l with cur := [], part := .done }
        else { l with bad := some (0x64, l.off - 2) }
      | .done => l
    let covered := !(l.part = .trailer || l.part = .done)
    { r with off := l.off + 1, all := if covered then crc32Word l.all w else l.all }

/-- The reader after all words received. -/
def readImage (ws : List Word) : Loader := ws.foldl Loader.take {}

/-! ### Failures and the end of loading (R473, R481, R483) -/

/-- The boot fails: a SOFT record with the code and the image offset, and no further record is performed (R483). -/
def State.bootFail (s : State) (code : BitVec 7) (off : Nat) : State :=
  (s.updBoot fun b => { b with failed := some code, stopped := true, loading := false }).logRec 0x0B code 0 (BitVec.ofNat 48 off)

/-- A store of the boot ROM's thread (R472). -/
def romMaster : Master := .engine 0 0 true

/-- With no record left and AUTO set, the ROM writes DEV.GO (R450, R481). -/
def State.finishSetup (s : State) : State :=
  if s.dev.phase = .setup && s.boot.records.isEmpty && !s.boot.stopped && s.boot.auto then (s.writeReg romMaster (devBase + 3) 1).2 else s

/-- The image has passed: BOOT ends, and setup records wait to be performed (R481). -/
def State.loaded (s : State) (head : List Word) : State :=
  let f := wordAt head 10
  let s := s.updBoot fun b => { b with loading := false, auto := f.getLsbD 11, mbaud := BitVec.ofNat 3 (bitsAt f 8 3) }
  (if s.dev.phase = .boot then s.updDev fun d => { d with phase := .setup } else s).finishSetup

/-- The physical end of a write to a target that fails (R184). -/
def failedWrite (a : Addr) : WriteOutcome := if (memClu a).isSome then .bankFail else .weftFail

/-- Window address of a program word's low word (R179). -/
def windowAddr (c : Clu) (n : PAddr) : Addr := BitVec.ofNat 24 (c.val * 0x100000 + 0x80000 + 2 * n.toNat)

/-- One payload unit reaches its target; whether its write was performed. -/
def State.loadAct (s : State) (a : LoadAct) (fails : Bool) : Bool × State :=
  match a with
  | .prog _ c n v =>
    let p := windowAddr c n
    s.busWritePair romMaster p (v.setWidth 12) ((v >>> 12).setWidth 12) (if fails then failedWrite p else .ok)
  | .data _ p v => s.busWrite romMaster p v (if fails then failedWrite p else .ok)
  | .record off p v => (true, s.stage.updBoot fun b => { b with records := b.records ++ [(p, v, off)] })

/-- Payload units in order, up to the first whose write fails: its offset (R483, code 0x65). `bad` is the offset of a word whose write
fails physically. -/
def State.loadActs (s : State) (bad : Option Nat) : List LoadAct → Option Nat × State
  | [] => (none, s)
  | a :: rest =>
    let fails := match bad, a with
      | some k, .prog off _ _ _ => k = off || k = off + 1
      | some k, _ => k = a.off
      | none, _ => false
    let r := s.loadAct a fails
    if r.1 then State.loadActs r.2 bad rest else (some a.off, r.2)

/-- The header was checked (R474, R479): the QSPI source gives the subsystem ids, or their defaults stand, and configuration requests
are answered. -/
def State.headChecked (s : State) (head : List Word) : State :=
  let ok := (headBad head).isNone
  s.updSht fun x =>
    { x with
      ssvid := if ok then BitVec.ofNat 16 (fieldAt head 6) else 0x1F4D
      ssid := if ok then BitVec.ofNat 16 (fieldAt head 8) else 0x6412
      retry := false
      ready := true }

/-- MORE WORDS OF THE IMAGE ARRIVE (R479 to R483): payloads go to their targets, and the first failing check or fault ends the load. -/
def State.receive (s : State) (ws : List Word) (outcome : LoadEnd) : State :=
  let old := s.boot.image.length
  let fails := match outcome with | .sourceFail k => decide (k ≤ old + ws.length) && s.boot.source ≠ 0 | _ => false
  let ws := match outcome with | .sourceFail k => if fails then ws.take (k - old) else ws | _ => ws
  let image := s.boot.image ++ ws
  let l := readImage image
  let s := s.updBoot fun b => { b with image := image }
  let s := if s.boot.source = 0 && old < 16 && 16 ≤ image.length then s.headChecked l.head else s
  let r := s.loadActs (match outcome with | .targetFail k => some k | _ => none) (l.acts.reverse.filter fun a =>
    decide (old < a.off + unitWords (match a with | .prog _ _ _ _ => 1 | .data _ _ _ => 2 | .record _ _ _ => 3)))
  match r.1, l.bad with
  | some k, _ => r.2.bootFail 0x65 k
  | none, some b => r.2.bootFail b.1 b.2
  | none, none =>
    if l.part = .done then r.2.loaded l.head
    else if fails then r.2.bootFail 0x67 image.length
    else r.2

/-! ### Sources (R473, R479, R480) -/

/-- Loading starts from a source; over J0, that port alone is enabled, in chain topology (R480). -/
def State.beginLoad (s : State) (source : BitVec 3) : State :=
  let s := s.updBoot fun b =>
    { b with loading := true, source := source, image := [], records := [], inSetup := decide (s.dev.phase = .setup), auto := false,
             failed := none, stopped := false, fetched := 0, rest := [] }
  if source = 2 then (s.setReg (jsnBase + 1) 0x080).leavePorts.fabricFrom s else s

/-- The boot ROM's moves run on E0.T0, with its stack and staging area (R472). -/
def State.romStarts (s : State) : State := s.stage.updLanes 0 fun x => x.updThr 0 fun y => { y with run := .running }

/-- BOOT_START (R472, R473, R483): at the start of BOOT, the ROM's thread runs, and the straps select the source. -/
def execBootStart (s : State) : Host.Outcome State Fault Refusal :=
  let b := s.boot
  if s.dev.phase ≠ .boot || s.dev.inReset.isSome || b.loading || b.stopped || !b.image.isEmpty then .next s
  else startFrom s.romStarts
where
  startFrom (s : State) : Host.Outcome State Fault Refusal :=
  if 4 ≤ s.dev.boot.toNat then .next (s.bootFail 0x60 0)
  else if s.dev.boot = 3 then .next (s.updDev fun d => { d with phase := .setup })
  else .next (s.beginLoad s.dev.boot)

/-- The ROM is loading from this source. -/
def State.loadsFrom (s : State) (source : BitVec 3) : Bool :=
  s.dev.inReset.isNone && (s.dev.phase = .boot || s.dev.phase = .setup) && s.boot.loading && s.boot.source = source

/-- The header of the flash's image has passed its check: the ROM reads on as it says (R479). -/
def State.headPassed (s : State) : Bool := s.boot.source = 0 && 16 ≤ s.boot.image.length && (headBad (s.boot.image.take 16)).isNone

/-- The clock of the boot flash in Hz (R479): 10 MHz, then 300 MHz / (2 × (QDIV + 1)). -/
def State.flashHz (s : State) : Nat :=
  if s.headPassed then 300000000 / (2 * (bitsAt (wordAt s.boot.image 10) 0 4 + 1)) else 10000000

/-- The command that reads the flash from a byte on (R479): READ, or with QUAD 0x6B, whose 8 dummy clocks follow the address. -/
def State.flashRead (s : State) (a : Nat) : List Byte :=
  if s.headPassed && (wordAt s.boot.image 10).getLsbD 7 then spiAt 0x6B a ++ [0] else spiAt 0x03 a

/-- Bytes read from the flash (R367, R479): two words in three bytes. Once the header has passed, a new command reads on from behind it. -/
def State.takeFlash (s : State) (bs : List Byte) (outcome : LoadEnd) : State :=
  let all := s.boot.rest ++ bs
  let n := all.length / 3 * 3
  let cmd := s.flashRead s.boot.fetched
  let t := (s.updBoot fun b => { b with rest := all.drop n, fetched := b.fetched + bs.length }).receive (unpackBytes (all.take n)) outcome
  t.updBoot fun b => { b with flash := cmd :: (if !s.headPassed && t.headPassed && decide (24 < b.fetched) then [t.flashRead 24] else []) }

/-- QSPI_LOAD (R479): bytes read from the flash. -/
def execQspiLoad (image : List Byte) (outcome : LoadEnd) (s : State) : Host.Outcome State Fault Refusal :=
  if s.loadsFrom 0 then .next (s.takeFlash image outcome) else .next s

/-- The requests of 256 bytes that the next `n` words of the host's image need and that have not been sent (R480). -/
def State.askBoot (s : State) (n : Nat) : State :=
  let old := s.boot.image.length
  let first := (2 * old + 255) / 256
  let last := (2 * (old + n) + 255) / 256
  if first < last then
    s.updSht fun x => { x with hostIn := (List.range (last - first)).map fun k => (s.base64 (shtBase + 0x10) + 256 * (first + k), 256) }
  else s

/-- HOST_LOAD (R396, R480, R483): host-side words read once SHT.HWCTL.EN is 1. A container whose [15:12] are not 0 is a failed read. -/
def execHostLoad (image : List Container) (outcome : LoadEnd) (s : State) : Host.Outcome State Fault Refusal :=
  if !(s.loadsFrom 1 && s.windowOk) then .next s
  else
    let s := s.askBoot image.length
    let good := image.takeWhile plainWord
    let ws := good.map fun (c : Container) => c.setWidth 12
    match image.drop good.length with
    | c :: _ =>
      let k := s.boot.image.length + good.length
      match outcome with
      | .sourceFail j => if j ≤ k then .next (s.receive ws outcome) else .next (bad s ws outcome c k)
      | _ => .next (bad s ws outcome c k)
    | [] => .next (s.receive ws outcome)
where
  /-- The words before a bad container arrive; the bad one ends the load, unless the load has ended before it. -/
  bad (s : State) (ws : List Word) (outcome : LoadEnd) (c : Container) (k : Nat) : State :=
    let o := match outcome with | .sourceFail _ => .ok | o => o
    let t := s.receive ws o
    if t.loadsFrom 1 then (t.protocolFault 0x02 0x10 c.toNat).bootFail 0x67 k else t

/-- The frame that a boot frame is (R480): a MAIL frame with DST = 0, its image offset in words 0 and 1 and its data words after word 5. -/
def bootMail (off : DWord) (h : BootHead) (data : List Word) : Frame :=
  ⟨h.lseq, h.src, h.fseq, [loW off, hiW off, h.word2, 0, h.word4, h.word5] ++ data, h.crc⟩

/-- The payload of an acknowledged boot frame reaches the ROM, unless its offset is not that of the next expected word (R480). -/
def State.takeBoot (s : State) (ws : List Word) (outcome : LoadEnd) : State :=
  let w := fun (k : Nat) => (ws[k]?).getD 0
  if s.loadsFrom 2 && w 2 = 0 && (joinW (w 1) (w 0)).toNat = s.boot.image.length then s.receive (ws.drop 6) outcome else s

/-- A MAIL frame arrives (R439, R440, R480): taken at DST, and forwarded elsewhere; one for DST 0 is a boot frame on J0, and goes no
further. -/
def State.receiveMail (s : State) (p : Port) (f : Frame) (outcome : LoadEnd) : State :=
  let r := s.receiveFrame p 6 f
  if r.2 && rng f.words.length 6 21 then
    if (f.words[3]?).getD 0 = 0 then (if p = 0 then r.1.takeBoot f.words outcome else r.1)
    else if (f.words[3]?).getD 0 = s.jsnId then r.1.takeMail p f.words
    else r.1.floodFrame ⟨6, f.src, f.fseq, f.words, false⟩ (some p)
  else r.1

/-- MAIL (R440, R480). -/
def execMail (p : Port) (f : Frame) (s : State) : Host.Outcome State Fault Refusal := .next (s.receiveMail p f .ok)

/-- BOOT_FRAME (R480): a boot frame over J0; every good one is acknowledged. -/
def execBootFrame (off : DWord) (head : BootHead) (data : List Word) (outcome : LoadEnd) (s : State) : Host.Outcome State Fault Refusal :=
  .next (s.receiveMail 0 (bootMail off head data) outcome)

/-- BOOT_SOURCE_STALL (R483): a J0 image stopped for 100 ms. -/
def execBootSourceStall (s : State) : Host.Outcome State Fault Refusal :=
  if s.loadsFrom 2 && !s.boot.image.isEmpty then .next (s.bootFail 0x67 s.boot.image.length) else .next s

/-! ### Setup records (R478, R481, R483) -/

/-- The register is an SV register. -/
def isSv (a : Nat) : Bool := match regInfo a with | some r => r.acc = .sv | none => false

/-- The record is an SVP write: SEL pages 0 to 15 at an SV register, or TRF page 0 (R478). -/
def recordBySvp (a : Nat) : Bool := (rng (a / 0x1000) 0x840 0x84F && isSv a) || a / 0x1000 = 0x80C

/-- One record: whether its write was accepted (R478). -/
def State.doRecord (s : State) (a : Addr) (v : Word) : Bool × State :=
  if isSv a.toNat && !s.isSel 0 then (false, s)
  else s.writeReg (if recordBySvp a.toNat then .svp 0 0 else romMaster) a.toNat v

/-- SETUP_RECORD (R478, R481, R483): the next record, in image order; after the last, AUTO enters RUN. -/
def execSetupRecord (s : State) : Host.Outcome State Fault Refusal :=
  if s.dev.inReset.isSome || s.dev.phase ≠ .setup || s.boot.loading || s.boot.stopped then .next s
  else match s.boot.records with
    | [] => .next s
    | (a, v, off) :: rest =>
      let r := (s.stage.updBoot fun b => { b with records := rest }).doRecord a v
      .next (if r.1 then r.2.finishSetup else r.2.bootFail 0x66 off)

/-! ### Host reads that never complete (R388, R395, R413, R414, R419, R483) -/

/-- COMPLETION_TIMEOUT (R388): an error response to the transfer, counted at source 105 with cause 0x02. -/
def execCompletionTimeout (x : HostXfer) (s : State) : Host.Outcome State Fault Refusal :=
  match x with
  | .load e t =>
    match s.loadOf e t with
    | some l => if regionOf l.pa = .host && s.windowOk then .next (s.finishLoad e t l .ok .ok .abort .abort) else .next s
    | none => .next s
  | .block e t =>
    let x := (s.thr e t).blk
    let host := fun (use : Bool) (va : Addr) => match s.blkCheck e t use false va with
      | .go (a :: _) => regionOf a = .host
      | _ => false
    let src := host x.usesSrc x.srcVa
    if s.windowOk && (src || (!x.stores && host x.usesDst x.dstVa)) then .next (s.blkStep e t .ok .ok .ok .abort .abort) else .next s
  | .fetch n => .next (s.fetchDesc n .failed)
  | .copy n data =>
    match (if s.canSend then s.executing n 1 else none), (if s.canSend then s.executing n 7 else none) with
    | some x, _ => .next (s.doCopyIn n x data (.host (2 * data.length)))
    | none, some x => .next (s.doLoad n x data (.host (2 * data.length)))
    | none, none => .next s
  | .boot => if s.loadsFrom 1 && s.windowOk then .next (((s.askBoot 1).hostFault 0x02 0x10).bootFail 0x67 s.boot.image.length) else .next s

end Sys2Proof.Machine
end

