-- ==== Sys2Proof/Machine/Clocks.lean ====
section
/-! DEFINITION. The thermal governor, the clock monitors and the supply monitors (R490 to R498, R514, R515). A command of this
file declares that its condition has lasted as long as its rule asks. -/

namespace Sys2Proof.Machine

/-! ### Thermal (R462, R496) -/

/-- T: the higher of the two readings. -/
def State.tHigh (s : State) : Word := if s.clk.temp0.slt s.clk.temp1 then s.clk.temp1 else s.clk.temp0

/-- CLK.GOV.FLOOR. -/
def State.govFloor (s : State) : Nat := bitsAt (s.reg clkBase) 10 2

/-- A governor step (R490, R496): the new divider applies to the next engine clock. -/
def State.govStep (s : State) (dest : BitVec 2) : State :=
  s.updClk fun k => { k with step := dest, steps := sat12 (k.steps.toNat + 1) }

/-- THERMAL_CONVERSION (R378, R496): both sensors, in 1/16 °C; CLK.TMAX keeps the highest T since reset. -/
def execThermalConversion (r0 r1 : Word) (s : State) : Host.Outcome State Fault Refusal :=
  if !s.up then .next s
  else
    let t := if r0.slt r1 then r1 else r0
    let s := s.updClk fun k =>
      { k with temp0 := r0, temp1 := r1, tmax := if k.sensed && t.slt k.tmax then k.tmax else t, sensed := true }
    .next ((s.gaugeFeed 0xC 0 none (r0.signExtend 24)).gaugeFeed 0xC 1 none (r1.signExtend 24))

/-- GOVERNOR_STEP_DOWN (R496): T ≥ 110 °C for 1 ms, above the floor. -/
def execGovernorStepDown (s : State) : Host.Outcome State Fault Refusal :=
  if s.up && (1760 : Word).sle s.tHigh && decide (s.clk.step.toNat < s.govFloor) then .next (s.govStep (s.clk.step + 1)) else .next s

/-- GOVERNOR_STEP_UP (R496): T ≤ 105 °C for 10 ms, below 600 MHz. -/
def execGovernorStepUp (s : State) : Host.Outcome State Fault Refusal :=
  if s.up && s.tHigh.sle 1680 && decide (s.clk.step ≠ 0) then .next (s.govStep (s.clk.step - 1)) else .next s

/-- OVER_TEMPERATURE (R496): T above 125 °C, or at or above 110 °C for 1 ms at the floor. -/
def execOverTemperature (aboveMax : Bool) (s : State) : Host.Outcome State Fault Refusal :=
  if aboveMax then (if (2000 : Word).slt s.tHigh then .next (s.raise 131 0x02 0) else .next s)
  else if (1760 : Word).sle s.tHigh && decide (s.govFloor ≤ s.clk.step.toNat) then .next (s.raise 131 0x01 0)
  else .next s

/-- SENSOR_DISAGREE (R496): the readings differ by more than 8 °C. -/
def execSensorDisagree (s : State) : Host.Outcome State Fault Refusal :=
  if decide (128 < (s.clk.temp0.toInt - s.clk.temp1.toInt).natAbs) then .next (s.raise 130 0x01 0) else .next s

/-! ### Clock monitors (R492, R493) -/

/-- Source of a clock. -/
def clockSrc : ClockName → Fin 160
  | .reference => 118
  | .pll => 119
  | .fabric => 120
  | .rc => 121
  | .khz32 => 122
  | .refclk => 123

/-- A clock's bit of CLK.ST; for the fabric clock, whether it runs. -/
def Clk.setOk (k : Clk) (c : ClockName) (b : Bool) : Clk :=
  match c with
  -- the front-end synthesiser follows the reference (R489; DEDUCED, notes/assumptions/62)
  | .reference => { k with xOk := b, fsOk := b }
  | .pll => { k with pllOk := b }
  | .fabric => { k with fabOk := b }
  | .rc => { k with rcOk := b }
  | .khz32 => { k with kOk := b }
  | .refclk => { k with refOk := b }

/-- While PERST_N is low the REFCLK monitor is idle (R524). -/
def State.monitorIdle (s : State) (k : ClockName) : Bool := k = .refclk && s.sht.prst

/-- CLOCK_LOST (R492, R493): the event of a stopped fabric clock reaches the collector only when the clock resumes. -/
def execClockLost (k : ClockName) (s : State) : Host.Outcome State Fault Refusal :=
  let t := s.updClk fun c => c.setOk k false
  .next (if s.monitorIdle k then s else if k = .fabric then t else t.raise (clockSrc k) 0x01 0)

/-- CLOCK_OUT_OF_RANGE (R492): PLLOK tells the lock detector, and a fabric clock out of range still runs (R515). -/
def execClockOutOfRange (k : ClockName) (s : State) : Host.Outcome State Fault Refusal :=
  let t := if k = .fabric || k = .pll then s else s.updClk fun c => c.setOk k false
  .next (if s.monitorIdle k then s else t.raise (clockSrc k) 0x02 0)

/-- CLOCK_RETURN (R493, R515). -/
def execClockReturn (k : ClockName) (s : State) : Host.Outcome State Fault Refusal :=
  let t := s.updClk fun c => c.setOk k true
  .next (if k = .fabric && !s.clk.fabOk then t.raise 120 0x01 0 else t)

/-! ### Supply monitors (R498, R515) -/

/-- Source of a rail, and its bit of CLK.SUP counted from bit 6. -/
def railSrc : Rail → Fin 160 × Nat
  | .vcore => (124, 5)
  | .vioA => (125, 4)
  | .vioB => (126, 3)
  | .vdda => (127, 2)
  | .vkeep => (128, 1)
  | .vddSds => (129, 0)

def Clk.setSup (k : Clk) (r : Rail) (b : Bool) : Clk :=
  let m : BitVec 6 := BitVec.ofNat 6 (2 ^ (railSrc r).2)
  { k with sup := if b then k.sup ||| m else k.sup &&& ~~~m }

/-- SUPPLY_BELOW_GOOD (R304, R498). -/
def execSupplyBelowGood (r : Rail) (s : State) : Host.Outcome State Fault Refusal :=
  .next ((s.updClk fun k => k.setSup r false).raise (railSrc r).1 0x01 0).fabric

/-- SUPPLY_ABOVE_LIMIT (R498): a rail above its limit is above its good level. -/
def execSupplyAboveLimit (r : Rail) (s : State) : Host.Outcome State Fault Refusal :=
  .next ((s.updClk fun k => k.setSup r true).raise (railSrc r).1 0x02 0).fabric

/-- SUPPLY_RETURN (R304, R498). -/
def execSupplyReturn (r : Rail) (s : State) : Host.Outcome State Fault Refusal :=
  .next (s.updClk fun k => k.setSup r true).fabric

end Sys2Proof.Machine
end

