-- ==== Sys2Proof/Machine/Monitor.lean ====
section
/-! DEFINITION. The boot monitor on the debug UART (R484 to R488): its commands, their replies and their errors. -/

namespace Sys2Proof.Machine

/-! ### Replies and accesses -/

/-- Errors of R485: syntax, access refused, error response, not allowed in this phase or state. -/
def errSyntax : Fin 5 := 1
def errRefused : Fin 5 := 2
def errResponse : Fin 5 := 3
def errState : Fin 5 := 4

/-- The monitor accepts commands (R484). -/
def State.monitorOn (s : State) : Bool := s.up && s.dev.tethered

/-- A reply: the values shown, and the error that ended the command. -/
def State.reply (s : State) (vs : List (BitVec 36)) (err : Option (Fin 5)) : State := s.updBoot fun b => { b with reply := vs, error := err }

/-- A command of the monitor: ignored while TETHERED is clear (R484). -/
def State.monitorCommand (s : State) (f : State → State) : Host.Outcome State Fault Refusal := .next (if s.monitorOn then f s else s)

/-- What an access needs has woken when it is performed: the gated cluster that answers for it, and a bank that sleeps (R192, R464). -/
def State.woken (s : State) (a : Addr) : State :=
  let s := ((blockClu a).map s.ungate).getD s
  match (regionOf a).bank with
  | some (c, b) => s.updClu c fun x => { x with banks := upd x.banks b fun _ => .active }
  | none => s

/-- A value as a reply shows it. -/
def shown {w : Nat} (v : BitVec w) : BitVec 36 := v.setWidth 36

/-- How access `i` of the command ends: as a read, as a write, and at the host. -/
def monReadEnd (x : MonEnds) (i : Nat) : ReadOutcome :=
  (x.findSome? fun p => match p.2 with | .read o => if p.1 = i then some o else none | _ => none).getD .ok
def monWriteEnd (x : MonEnds) (i : Nat) : WriteOutcome :=
  (x.findSome? fun p => match p.2 with | .write o => if p.1 = i then some o else none | _ => none).getD .ok
def monHostEnd (x : MonEnds) (i : Nat) : HostRead :=
  (x.findSome? fun p => match p.2 with | .host h => if p.1 = i then some h else none | _ => none).getD .unsupported

/-- One word read, as access `i`; `none` is an error response (R183, R185). Its outcome is that of the last presentation (R190). -/
def State.monRead (s : State) (x : MonEnds) (i : Nat) (a : Nat) : Option Word × State :=
  if 2 ^ 24 ≤ a then (none, s)
  else
    let p : Addr := BitVec.ofNat 24 a
    let r := (s.woken p).busRead .monitor p (monReadEnd x i) (monHostEnd x i)
    match r.1 with
    | .word v => (some v, r.2)
    | .failed _ => (none, r.2)

/-- One word written, as access `i`: `none`, or the error that answers it (R184, R484, R485). -/
def State.monWrite (s : State) (x : MonEnds) (i : Nat) (a : Nat) (v : Word) : Option (Fin 5) × State :=
  if 2 ^ 24 ≤ a then (some errRefused, s)
  else
    let p : Addr := BitVec.ofNat 24 a
    let t := s.woken p
    let r := t.busWrite .monitor p v (monWriteEnd x i)
    (if r.1 then none else if writeGood (t.effWrite .monitor p (monWriteEnd x i)) then some errRefused else some errResponse, r.2)

/-- `n` words from `a`, access `i` first, up to the first error response. -/
def State.monReads (s : State) (x : MonEnds) (i : Nat) (a : Nat) : Nat → List Word × Bool × State
  | 0 => ([], true, s)
  | n + 1 =>
    match s.monRead x i a with
    | (none, t) => ([], false, t)
    | (some v, t) =>
      let r := State.monReads t x (i + 1) (a + 1) n
      (v :: r.1, r.2.1, r.2.2)

/-- A value written to `n` words from `a`, up to the first error. -/
def State.monFill (s : State) (x : MonEnds) (i : Nat) (a : Nat) (v : Word) : Nat → Option (Fin 5) × State
  | 0 => (none, s)
  | n + 1 =>
    match s.monWrite x i a v with
    | (some e, t) => (some e, t)
    | (none, t) => State.monFill t x (i + 1) (a + 1) v n

/-- `n` words copied from `a` to `b`, upwards: `none`, or the error that ended the copy. -/
def State.monCopy (s : State) (x : MonEnds) (i : Nat) (a b : Nat) : Nat → Option (Fin 5) × State
  | 0 => (none, s)
  | n + 1 =>
    match s.monRead x i a with
    | (none, t) => (some errResponse, t)
    | (some v, t) =>
      match t.monWrite x (i + 1) b v with
      | (some e, u) => (some e, u)
      | (none, u) => State.monCopy u x (i + 2) (a + 1) (b + 1) n

/-- Two ranges compared word by word: the differing pairs with their place, up to the first error response. -/
def State.monCompare (s : State) (x : MonEnds) (i : Nat) (a b : Nat) : Nat → List (Nat × Word × Word) × Bool × State
  | 0 => ([], true, s)
  | n + 1 =>
    match s.monRead x i a with
    | (none, t) => ([], false, t)
    | (some v, t) =>
      match t.monRead x (i + 1) b with
      | (none, u) => ([], false, u)
      | (some w, u) =>
        let r := State.monCompare u x (i + 2) (a + 1) (b + 1) n
        ((if v = w then r.1 else (a, v, w) :: r.1), r.2.1, r.2.2)

/-- The UART's rate in baud (R485): the image header's MBAUD gives it from the end of BOOT. -/
def State.monitorBaud (s : State) : Nat :=
  if s.dev.phase = .powerUp || s.dev.phase = .boot then 115200
  else match s.boot.mbaud.toNat with
    | 1 => 230400
    | 2 => 460800
    | 3 => 921600
    | 4 => 1500000
    | 5 => 3000000
    | _ => 115200

/-- A count from 1 to 4,096 (R486). -/
def countOf (n : Nat) : Bool := rng n 1 4096

/-- `none` when all went well, else the given error. -/
def errIf (ok : Bool) (e : Fin 5) : Option (Fin 5) := if ok then none else some e

/-! ### Memory commands (R486) -/

/-- The word at `a` is shown as access `i`, and the answers that follow it are taken (R486): a carriage return steps on to the next word,
and "." or a new value ends the command (DEDUCED, notes/assumptions/53, for the value). The words shown, and the error that ended it. -/
def State.monSteps (s : State) (x : MonEnds) (i a : Nat) : List MonAnswer → List Word × Option (Fin 5) × State
  | [] | .stop :: _ =>
    match s.monRead x i a with
    | (none, t) => ([], some errResponse, t)
    | (some u, t) => ([u], none, t)
  | .value v :: _ =>
    match s.monRead x i a with
    | (none, t) => ([], some errResponse, t)
    | (some u, t) =>
      let w := t.monWrite x (i + 1) a v
      ([u], w.1, w.2)
  | .step :: vs =>
    match s.monRead x i a with
    | (none, t) => ([], some errResponse, t)
    | (some u, t) =>
      let r := State.monSteps t x (i + 1) (a + 1) vs
      (u :: r.1, r.2.1, r.2.2)

/-- MONITOR_A: the word at `a`, then a new value, or the words after it. -/
def State.monA (a : Addr) (vs : List MonAnswer) (x : MonEnds) (s : State) : State :=
  let r := s.monSteps x 0 a.toNat vs
  r.2.2.reply (r.1.map shown) r.2.1

def execMonitorA (a : Addr) (v : List MonAnswer) (x : MonEnds) (s : State) : Host.Outcome State Fault Refusal := s.monitorCommand (State.monA a v x)

/-- MONITOR_E: `n` words from `a`. -/
def State.monE (a : Addr) (n : Nat) (x : MonEnds) (s : State) : State :=
  if !countOf n then s.reply [] (some errSyntax)
  else
    let r := s.monReads x 0 a.toNat n
    r.2.2.reply (r.1.map shown) (errIf r.2.1 errResponse)

def execMonitorE (a : Addr) (n : Nat) (x : MonEnds) (s : State) : Host.Outcome State Fault Refusal := s.monitorCommand (State.monE a n x)

/-- MONITOR_F: `v` to `n` words. -/
def State.monF (a : Addr) (n : Nat) (v : Word) (x : MonEnds) (s : State) : State :=
  if !countOf n then s.reply [] (some errSyntax)
  else
    let r := s.monFill x 0 a.toNat v n
    r.2.reply [] r.1

def execMonitorF (a : Addr) (n : Nat) (v : Word) (x : MonEnds) (s : State) : Host.Outcome State Fault Refusal := s.monitorCommand (State.monF a n v x)

/-- MONITOR_C: up to 16 differences, each as its address in the first range and the two words. -/
def State.monC (a b : Addr) (n : Nat) (x : MonEnds) (s : State) : State :=
  if !countOf n then s.reply [] (some errSyntax)
  else
    let r := s.monCompare x 0 a.toNat b.toNat n
    r.2.2.reply ((r.1.take 16).flatMap fun p => [BitVec.ofNat 36 p.1, shown p.2.1, shown p.2.2]) (errIf r.2.1 errResponse)

def execMonitorC (a b : Addr) (n : Nat) (x : MonEnds) (s : State) : Host.Outcome State Fault Refusal := s.monitorCommand (State.monC a b n x)

/-- MONITOR_M: `n` words from `a` to `b`, in ascending order. -/
def State.monM (a b : Addr) (n : Nat) (x : MonEnds) (s : State) : State :=
  if !countOf n then s.reply [] (some errSyntax)
  else
    let r := s.monCopy x 0 a.toNat b.toNat n
    r.2.reply [] r.1

def execMonitorM (a b : Addr) (n : Nat) (x : MonEnds) (s : State) : Host.Outcome State Fault Refusal := s.monitorCommand (State.monM a b n x)

/-- MONITOR_S: the addresses of words equal to `v`, ignoring the bits set in `m`. -/
def State.monS (a : Addr) (n : Nat) (v m : Word) (x : MonEnds) (s : State) : State :=
  if !countOf n then s.reply [] (some errSyntax)
  else
    let r := s.monReads x 0 a.toNat n
    let hit := r.1.zipIdx.filter fun (p : Word × Nat) => (p.1 ^^^ v) &&& ~~~m = 0
    r.2.2.reply (hit.map fun (p : Word × Nat) => BitVec.ofNat 36 (a.toNat + p.2)) (errIf r.2.1 errResponse)

def execMonitorS (a : Addr) (n : Nat) (v m : Word) (x : MonEnds) (s : State) : Host.Outcome State Fault Refusal := s.monitorCommand (State.monS a n v m x)

/-! ### Registers (R486) -/

/-- An address that I and O take. -/
def inRegs (a : Addr) : Bool := rng a.toNat 0x800000 0x84FFFF

/-- MONITOR_I: one register. -/
def State.monI (a : Addr) (x : MonEnds) (s : State) : State :=
  if !inRegs a then s.reply [] (some errSyntax)
  else
    let r := s.monRead x 0 a.toNat
    match r.1 with
    | some v => r.2.reply [shown v] none
    | none => r.2.reply [] (some errResponse)

def execMonitorI (a : Addr) (x : MonEnds) (s : State) : Host.Outcome State Fault Refusal := s.monitorCommand (State.monI a x)

/-- MONITOR_O: one register written. -/
def State.monO (a : Addr) (v : Word) (x : MonEnds) (s : State) : State :=
  if !inRegs a then s.reply [] (some errSyntax)
  else
    let w := s.monWrite x 0 a.toNat v
    w.2.reply [] w.1

def execMonitorO (a : Addr) (v : Word) (x : MonEnds) (s : State) : Host.Outcome State Fault Refusal := s.monitorCommand (State.monO a v x)

/-! ### Running and breakpoints (R27, R60, R450, R486, R487) -/

/-- MONITOR_G: entry to RUN by a write of DEV.GO, in SETUP only. -/
def State.monG (x : MonEnds) (s : State) : State :=
  if s.dev.phase ≠ .setup then s.reply [] (some errState)
  else
    let w := s.monWrite x 0 (devBase + 3) 1
    w.2.reply [] w.1

def execMonitorG (x : MonEnds) (s : State) : Host.Outcome State Fault Refusal := s.monitorCommand (State.monG x)

/-- MONITOR_G_THREAD: a thread started through ENG.TCTL, and a breakpoint when the command names one; a fifth is refused. -/
def State.monGThread (e : Eng) (t : Thr) (b : Option PAddr) (x : MonEnds) (s : State) : State :=
  let have' := match b with | some p => s.boot.breakpoints.any fun q => q.1 = e && q.2 = p | none => true
  if !s.inRun || (!have' && decide (4 ≤ s.boot.breakpoints.length)) then s.reply [] (some errState)
  else
    let w := s.monWrite x 0 (engBase e + 4) (0x800 ||| BitVec.ofNat 12 t.val)
    let u := if w.1.isNone && !have' then w.2.updBoot fun y => { y with breakpoints := y.breakpoints ++ (b.map fun p => (e, p)).toList } else w.2
    u.reply [] w.1

def execMonitorGThread (e : Eng) (t : Thr) (b : Option PAddr) (x : MonEnds) (s : State) : Host.Outcome State Fault Refusal :=
  s.monitorCommand (State.monGThread e t b x)

/-- MONITOR_H: a thread halted through ENG.TCTL, and every breakpoint of its engine removed. -/
def State.monH (e : Eng) (t : Thr) (x : MonEnds) (s : State) : State :=
  if !s.inRun then s.reply [] (some errState)
  else
    let w := (s.updBoot fun y => { y with breakpoints := y.breakpoints.filter fun q => q.1 ≠ e }).monWrite x 0 (engBase e + 4)
      (0x400 ||| BitVec.ofNat 12 t.val)
    w.2.reply [] w.1

def execMonitorH (e : Eng) (t : Thr) (x : MonEnds) (s : State) : Host.Outcome State Fault Refusal := s.monitorCommand (State.monH e t x)

/-! ### Views (R486) -/

/-- Registers read one after the other and shown, up to the first error response. -/
def State.monView (s : State) (x : MonEnds) (regs : List Nat) : State :=
  let r := regs.foldl (fun (p : List Word × Bool × Nat × State) a =>
    if p.2.1 then
      match p.2.2.2.monRead x p.2.2.1 a with
      | (some v, t) => (p.1 ++ [v], true, p.2.2.1 + 1, t)
      | (none, t) => (p.1, false, p.2.2.1, t)
    else p) ([], true, 0, s)
  r.2.2.2.reply (r.1.map shown) (errIf r.2.1 errResponse)

/-- `n` addresses from `a`. -/
def addrsFrom (a n : Nat) : List Nat := (List.range n).map fun k => a + k

/-- MONITOR_L: ENG.HST, HCNTA to HCNTC, HLAST, HMAXP and HMAXR. -/
def State.monL (e : Eng) (x : MonEnds) (s : State) : State := s.monView x (addrsFrom (engBase e + 0x43) 7)

def execMonitorL (e : Eng) (x : MonEnds) (s : State) : Host.Outcome State Fault Refusal := s.monitorCommand (State.monL e x)

/-- MONITOR_T: the run bit, ENG.LOCK, the active priority, and words 0 to 7 of the current frame when the thread holds one. -/
def State.monT (e : Eng) (t : Thr) (x : MonEnds) (s : State) : State :=
  let r := s.monReads x 0 (engBase e + 5) 1
  let q := r.2.2.monReads x 1 (engBase e + 0x19) 1
  let head := [shown (BitVec.ofNat 12 (bit1 ((r.1.headD 0).getLsbD t.val))), shown (q.1.headD 0), shown (s.thr e t).apri]
  if !(r.2.1 && q.2.1) then q.2.2.reply [] (some errResponse)
  else match s.currentFrame e t with
    | none => q.2.2.reply head none
    | some f =>
      let w := q.2.2.monReads x 2 f.addr 8
      w.2.2.reply (head ++ w.1.map shown) (errIf w.2.1 errResponse)

def execMonitorT (e : Eng) (t : Thr) (x : MonEnds) (s : State) : Host.Outcome State Fault Refusal := s.monitorCommand (State.monT e t x)

/-- MONITOR_K: SEL.ST, FCL.SEVM0 to SEVM13, FCL.LSRC, LCS, LPL, LPLH and DROP. -/
def State.monK (x : MonEnds) (s : State) : State :=
  s.monView x ([selBase + 2] ++ (addrsFrom (fclStBase + 0x200) 14 ++ addrsFrom (fclStBase + 0x220) 5))

def execMonitorK (x : MonEnds) (s : State) : Host.Outcome State Fault Refusal := s.monitorCommand (State.monK x)

/-- MONITOR_V: up to 64 records from SEQ `q`, looked up as under R365. -/
def State.monV (q : BitVec 36) (n : Nat) (x : MonEnds) (s : State) : State :=
  if !countOf n then s.reply [] (some errSyntax)
  else
    let ws := (s.lookUp q (min n 64)).1
    let s := s.updRcd fun y => y.sent (s.readsFrom q (min n 64))
    let r := s.readRing .monitor q (monReadEnd x) 0 ws.length
    r.2.2.reply ((ws.take r.1).map shown) (errIf r.2.1.isNone errResponse)

def execMonitorV (q : BitVec 36) (n : Nat) (x : MonEnds) (s : State) : Host.Outcome State Fault Refusal := s.monitorCommand (State.monV q n x)

/-- MONITOR_X: MON.STg and the snapshot, after a write of MON.CMDg.SNAP, as access 40, where the command asks for one. -/
def State.monX (g : Fin 32) (snap : Bool) (x : MonEnds) (s : State) : State :=
  let w := if snap then s.monWrite x 40 (monBase g + 7) 2 else (none, s)
  if w.1.isNone then w.2.monView x (addrsFrom (monBase g + 8) 40) else w.2.reply [] w.1

def execMonitorX (g : Fin 32) (snap : Bool) (x : MonEnds) (s : State) : Host.Outcome State Fault Refusal := s.monitorCommand (State.monX g snap x)

/-! ### Flash and images (R479, R486) -/

/-- The commands that write bytes into the flash from byte `o`, the first of a sector (R486): each sector's erase, each page's programming,
and the read-back. -/
def flashWrite (o : Nat) (bs : List Byte) : List (List Byte) :=
  ((List.range ((bs.length + 4095) / 4096)).flatMap fun k =>
    [[0x06], spiAt 0x20 (o + 4096 * k)] ++
      ((List.range 16).filter fun j => decide (4096 * k + 256 * j < bs.length)).flatMap fun j =>
        [[0x06], spiAt 0x02 (o + 4096 * k + 256 * j) ++ (bs.drop (4096 * k + 256 * j)).take 256]) ++ [spiAt 0x03 o]

/-- MONITOR_W: `n` words from `a` into the flash at byte `o`, packed two words in three bytes (R367, R479); `back` is what is then read
back.
Where it differs the command is refused with ?3, as where no flash is fitted (R525). -/
def State.monW (o : DWord) (n : Nat) (a : Addr) (back : List Byte) (x : MonEnds) (s : State) : State :=
  if !countOf n || o.toNat % 4096 ≠ 0 then s.reply [] (some errSyntax)
  else
    let r := s.monReads x 0 a.toNat n
    if r.2.1 then
      let bs := payloadBytes r.1
      let t := r.2.2.updBoot fun b => { b with flash := flashWrite o.toNat bs }
      if back = bs then (t.updBoot fun b => { b with flashed := some (o.toNat, bs) }).reply [] none else t.reply [] (some errResponse)
    else r.2.2.reply [] (some errResponse)

def execMonitorW (o : DWord) (n : Nat) (a : Addr) (back : List Byte) (x : MonEnds) (s : State) : Host.Outcome State Fault Refusal :=
  s.monitorCommand (State.monW o n a back x)

/-- MONITOR_Q: the image again from source `src`, with no reset; refused in RUN. The words given are those that the source delivers at
once; the flash holds them packed. -/
def State.monQ (src : Fin 3) (image : List Word) (outcome : LoadEnd) (s : State) : State :=
  if s.inRun then s.reply [] (some errState)
  else
    let t := (s.reply [] none).beginLoad (BitVec.ofNat 3 src.val)
    if src = 0 || (src = 1 && t.windowOk) || (src = 2 && t.receives 0) then
      (if src = 0 then t.takeFlash (payloadBytes image) outcome
        else (if src = 1 then t.askBoot image.length else t).receive image outcome)
    else t

def execMonitorQ (src : Fin 3) (image : List Word) (outcome : LoadEnd) (s : State) : Host.Outcome State Fault Refusal :=
  s.monitorCommand (State.monQ src image outcome)

/-! ### Lines on the UART (R485) -/

/-- A hexadecimal digit, and an argument of one digit or more. -/
def hexDigit (b : Byte) : Option Nat :=
  let n := b.toNat
  if rng n 0x30 0x39 then some (n - 0x30) else if rng n 0x41 0x46 then some (n - 0x37) else if rng n 0x61 0x66 then some (n - 0x57) else none
def hexArg (bs : List Byte) : Option Nat :=
  if bs.isEmpty then none else bs.foldl (fun r b => r.bind fun n => (hexDigit b).map fun d => 16 * n + d) (some 0)

/-- The parts of a line between its spaces. -/
def lineParts (bs : List Byte) : List (List Byte) :=
  let r := bs.foldl (fun (p : List (List Byte) × List Byte) b => if b = 0x20 then (p.1 ++ [p.2], []) else (p.1, p.2 ++ [b])) ([], [])
  (r.1 ++ [r.2]).filter fun x => !x.isEmpty

/-- A number as an argument of `w` bits. -/
def argBits (w n : Nat) : Option (BitVec w) := if n < 2 ^ w then some (BitVec.ofNat w n) else none
def argFin (w : Nat) [NeZero w] (n : Nat) : Option (Fin w) := if n < w then some (Fin.ofNat w n) else none

/-- What the accesses of a line's command meet: how they end, what the flash gives back, and what an image's source delivers. -/
structure LineEnds where
  x : MonEnds := []
  back : List Byte := []
  image : List Word := []
  outcome : LoadEnd := .ok
deriving DecidableEq, Repr

/-- A line that answers an A command (R486): a new value, nothing to step on, or "." to end. -/
def answerOf (line : List Byte) : Option MonAnswer :=
  if line = [] then some .step
  else if line = [0x2E] then some .stop
  else (hexArg line).bind fun v => (argBits 12 v).map .value

/-- The command that a line spells (R485, R486), a letter and hexadecimal arguments, each within its field; `answers` are the lines that
follow an A command. -/
def lineCommand (line : List Byte) (answers : List (List Byte)) (k : LineEnds) : Option (State → State) :=
  match lineParts line with
  | [] | [] :: _ | (_ :: _ :: _) :: _ => none
  | [c] :: rest =>
    match c.toNat, rest.mapM hexArg with
    | _, none => none
    | 0x41, some [a] => (argBits 24 a).bind fun a => (answers.mapM answerOf).map fun vs => State.monA a vs k.x
    | 0x45, some [a] => (argBits 24 a).map fun a => State.monE a 1 k.x
    | 0x45, some [a, n] => (argBits 24 a).map fun a => State.monE a n k.x
    | 0x46, some [a, n, v] => (argBits 24 a).bind fun a => (argBits 12 v).map fun v => State.monF a n v k.x
    | 0x43, some [a, b, n] => (argBits 24 a).bind fun a => (argBits 24 b).map fun b => State.monC a b n k.x
    | 0x4D, some [a, b, n] => (argBits 24 a).bind fun a => (argBits 24 b).map fun b => State.monM a b n k.x
    | 0x53, some [a, n, v] => (argBits 24 a).bind fun a => (argBits 12 v).map fun v => State.monS a n v 0 k.x
    | 0x53, some [a, n, v, m] =>
      (argBits 24 a).bind fun a => (argBits 12 v).bind fun v => (argBits 12 m).map fun m => State.monS a n v m k.x
    | 0x49, some [a] => (argBits 24 a).map fun a => State.monI a k.x
    | 0x4F, some [a, v] => (argBits 24 a).bind fun a => (argBits 12 v).map fun v => State.monO a v k.x
    | 0x47, some [] => some (State.monG k.x)
    | 0x47, some [e, t] => (argFin 64 e).bind fun e => (argFin 8 t).map fun t => State.monGThread e t none k.x
    | 0x47, some [e, t, b] =>
      (argFin 64 e).bind fun e => (argFin 8 t).bind fun t => (argBits 17 b).map fun b => State.monGThread e t (some b) k.x
    | 0x48, some [e, t] => (argFin 64 e).bind fun e => (argFin 8 t).map fun t => State.monH e t k.x
    | 0x4C, some [e] => (argFin 64 e).map fun e => State.monL e k.x
    | 0x54, some [e, t] => (argFin 64 e).bind fun e => (argFin 8 t).map fun t => State.monT e t k.x
    | 0x4B, some [] => some (State.monK k.x)
    | 0x56, some [q] => (argBits 36 q).map fun q => State.monV q 1 k.x
    | 0x56, some [q, n] => (argBits 36 q).map fun q => State.monV q n k.x
    | 0x58, some [g] => (argFin 32 g).map fun g => State.monX g false k.x
    | 0x58, some [g, 1] => (argFin 32 g).map fun g => State.monX g true k.x
    | 0x57, some [o, n, a] => (argBits 24 o).bind fun o => (argBits 24 a).map fun a => State.monW o n a k.back k.x
    | 0x51, some [q] => (argFin 3 q).map fun q => State.monQ q k.image k.outcome
    | _, _ => none

/-- A line that its carriage return has ended reaches the monitor (R484, R485): it is ignored while TETHERED is clear, and one that spells
no command is answered with ?1. No row of the table is a line: the rows of the commands stand for those that spell one. -/
def State.typedLine (s : State) (line : List Byte) (answers : List (List Byte)) (k : LineEnds) : State :=
  if !s.monitorOn then s
  else match lineCommand line answers k with
    | some f => f s
    | none => s.reply [] (some errSyntax)

/-- A value as hexadecimal digits, without leading zeros. -/
def hexText (n : Nat) : List Byte :=
  let ds := (List.range 9).map fun i => n / 16 ^ (8 - i) % 16
  let us := ds.dropWhile fun d => d = 0
  (if us.isEmpty then [0] else us).map fun d => BitVec.ofNat 8 (if d < 10 then 0x30 + d else 0x37 + d)

/-- What the monitor has answered on DBG_TXD (R485): a line for each value, the error, and the prompt. -/
def State.answered (s : State) : List Byte :=
  (s.boot.reply.flatMap fun v => hexText v.toNat ++ [0x0D]) ++
    (match s.boot.error with | some e => [0x3F, BitVec.ofNat 8 (0x30 + e.val), 0x0D] | none => []) ++ [0x3E]

end Sys2Proof.Machine
end

