-- ==== Sys2Proof/Machine/Pins.lean ====
section
/-! DEFINITION. The levels at the output pins (R232, R239, R287 to R289, R300, R304, R331, R332, R389, R512, R520), as functions of the
state. A
pin whose level follows a clock or a transmitter is `active`. -/

namespace Sys2Proof.Machine

/-- What a ball carries: a level, nothing driven by the device, or a signal that moves with a clock or a transmitter. -/
inductive Level where
  | low | high | z | active
deriving DecidableEq, Repr

def Level.of (b : Bool) : Level := if b then .high else .low

/-- The balls that the device can drive (R520). -/
inductive OutPin where
  | sdC (g : Fin 12)
  | gd (n : Fin 16)
  | kd (n : Fin 4)
  | safeA | safeB
  | alive | lockupN
  | lockEnA | lockEnB
  | cpPwm | imdInj
  | gpio (n : Fin 24)
  | wakeN | clkreqN
  | peTx (k : Fin 2)
  | jTx (p : Port)
  /-- CMP_D0 to CMP_D11, and CMP_DP at 12. -/
  | cmpD (i : Fin 13)
  | busyN | intN
  | qspiClk | qspiCsN
  | qspiD (i : Fin 4)
  | recClk | recCsN | recMosi
  | dbgTxd
  | tdo
deriving DecidableEq, Repr

/-- The pins of the VIO_A bank (R520). -/
def OutPin.onVioA : OutPin → Bool
  | .sdC _ | .gd _ | .kd _ | .safeA | .safeB | .alive | .lockupN | .lockEnA | .lockEnB | .cpPwm | .imdInj | .gpio _ | .wakeN | .clkreqN => true
  | _ => false

/-- The state of a pin in reset and in POWER-UP with its bank powered (R520). -/
def OutPin.inReset : OutPin → Level
  | .safeB | .lockEnB | .busyN | .intN | .qspiCsN | .recCsN | .dbgTxd => .high
  | .sdC _ | .gpio _ | .lockupN | .wakeN | .cmpD _ | .qspiD _ | .tdo | .peTx _ | .jTx _ => .z
  | _ => .low

/-- GPIO n is an output at the level of PIO.GOUT (R276, R310). -/
def State.gpioLevel (s : State) (n : Fin 24) : Level :=
  if s.vcoreOk && s.regB (pioBase + n.val / 12) (n.val % 12) then .of (s.regB (pioBase + 2 + n.val / 12) (n.val % 12)) else .z

/-- The companion port's data balls are driven by a read access, in the fabric clock of the access (R265). -/
def State.cmpLevel (s : State) (i : Fin 13) : Level :=
  match (if s.mtr.reading then s.mtr.driven else none) with
  | some (v, p) => .of (if i.val = 12 then p else v.getLsbD i.val)
  | none => .z

/-- What the device itself puts on a pin. The serial ports of the boot flash, the recorder and the monitor rest between the transfers,
each of
which is one command. -/
def State.coreLevel (s : State) (p : OutPin) : Level :=
  match p with
  | .sdC g => if s.vcoreOk && s.sdcDriven g then .active else .z
  | .gd n => .of (!s.outAtSafe n.val)
  | .kd n => .of (s.trip.kdRun.getLsbD n.val && s.trip.kdPhase)
  | .safeA => .of (s.trip.safeRun && s.trip.safePhase)
  | .safeB => .of (!(s.trip.safeRun && s.trip.safePhase))
  | .alive => .of (s.inRun && s.col.alive)
  | .lockupN => if s.lockedUp then .low else .z
  | .lockEnA => .of (s.regB (pioBase + 8) 0 && !s.lockHold)
  | .lockEnB => .of (!(s.regB (pioBase + 8) 0 && !s.lockHold))
  | .cpPwm => .of s.trip.pilot.level
  | .imdInj => .of (s.vcoreOk && s.trip.imd)
  | .gpio n => s.gpioLevel n
  | .wakeN => .z
  | .clkreqN => .low
  | .peTx _ => if s.sht.lup && s.up then .active else .z
  | .jTx p => if s.portEn p.val then .active else .z
  | .cmpD i => s.cmpLevel i
  | .busyN => .of (!s.mtr.busyLow)
  | .intN => .of (!s.intIsLow)
  | .qspiClk | .recClk | .recMosi => .low
  | .qspiCsN | .recCsN | .dbgTxd => .high
  | .qspiD _ | .tdo => .z

/-! ### The test access port (R512) -/

/-- Instructions of the TAP. -/
inductive TapInstr where
  | extest | samplePreload | idcode | bypass
deriving DecidableEq, Repr

/-- Every code that names no other instruction is BYPASS. -/
def tapInstr (code : BitVec 4) : TapInstr :=
  match code.toNat with
  | 0 => .extest
  | 1 => .samplePreload
  | 2 => .idcode
  | _ => .bypass

/-- IDCODE: version, part, manufacturer, and the 1 that ends it. -/
def idcode : BitVec 32 := (0x1 : BitVec 4) ++ (0x6412 : BitVec 16) ++ (0x34D : BitVec 11) ++ (1 : BitVec 1)

/-- A pin that the boundary register drives under EXTEST: every output but the safety outputs, ALIVE and LOCKUP_N, whose cells only
observe. -/
def OutPin.boundaryDrives : OutPin → Bool
  | .gd _ | .kd _ | .safeA | .safeB | .cpPwm | .lockEnA | .lockEnB | .alive | .lockupN => false
  | _ => true

/-- The balls that the device can drive, as the boundary register takes them (R512, R520; their order in it is the model's: DESIGN CHOICE,
notes/assumptions/62). -/
def outPins : List OutPin :=
  (List.finRange 12).map .sdC ++ (List.finRange 16).map .gd ++ (List.finRange 4).map .kd ++ [.safeA, .safeB, .alive, .lockupN, .lockEnA,
    .lockEnB, .cpPwm, .imdInj] ++ (List.finRange 24).map .gpio ++ [.wakeN, .clkreqN] ++ (List.finRange 2).map .peTx ++
    (List.finRange 3).map .jTx ++ (List.finRange 13).map .cmpD ++ [.busyN, .intN, .qspiClk, .qspiCsN] ++ (List.finRange 4).map .qspiD ++
    [.recClk, .recCsN, .recMosi, .dbgTxd, .tdo]

/-- What the boundary register drives a pin to. -/
def Tap.cell (x : Tap) (p : OutPin) : Bool := x.cells.getD (outPins.findIdx fun q => q = p) false

/-- The next state at a rising edge of TCK (R512: IEEE 1149.1). -/
def TapState.next (st : TapState) (tms : Bool) : TapState :=
  match st, tms with
  | .testLogicReset, true => .testLogicReset
  | .testLogicReset, false | .runTestIdle, false | .updateDr, false | .updateIr, false => .runTestIdle
  | .runTestIdle, true | .updateDr, true | .updateIr, true => .selectDr
  | .selectDr, true => .selectIr
  | .selectDr, false => .captureDr
  | .captureDr, false | .shiftDr, false | .exit2Dr, false => .shiftDr
  | .captureDr, true | .shiftDr, true => .exit1Dr
  | .exit1Dr, false | .pauseDr, false => .pauseDr
  | .pauseDr, true => .exit2Dr
  | .exit1Dr, true | .exit2Dr, true => .updateDr
  | .selectIr, true => .testLogicReset
  | .selectIr, false => .captureIr
  | .captureIr, false | .shiftIr, false | .exit2Ir, false => .shiftIr
  | .captureIr, true | .shiftIr, true => .exit1Ir
  | .exit1Ir, false | .pauseIr, false => .pauseIr
  | .pauseIr, true => .exit2Ir
  | .exit1Ir, true | .exit2Ir, true => .updateIr

/-- The bits of IDCODE, the lowest first. -/
def idcodeBits : List Bool := (List.range 32).map idcode.getLsbD

/-- One edge of TCK at the TAP: what its state does, and its next state; `pins` are the levels that the boundary cells see (R512). -/
def Tap.edge (x : Tap) (tms tdi : Bool) (pins : List Bool) : Tap :=
  let y : Tap := match x.st with
    | .captureDr => { x with dr := match tapInstr x.ir with
        | .idcode => idcodeBits
        | .bypass => [false]
        | _ => pins }
    | .shiftDr => { x with dr := x.dr.drop 1 ++ [tdi] }
    | .updateDr => { x with cells := match tapInstr x.ir with
        | .extest | .samplePreload => x.dr
        | _ => x.cells }
    | .captureIr => { x with irShift := 1 }
    | .shiftIr => { x with irShift := (if tdi then 8 else 0) ||| x.irShift >>> 1 }
    | .updateIr => { x with ir := x.irShift }
    | _ => x
  let st := x.st.next tms
  { y with st := st, ir := if st = .testLogicReset then 2 else y.ir }

/-- TRST_N low resets the controller (R512). -/
def Tap.reset (x : Tap) : Tap := { x with st := .testLogicReset, ir := 2 }

/-- TDO is driven in the shift states alone (R520). -/
def Tap.tdo (x : Tap) : Level :=
  match x.st with
  | .shiftDr => .of (x.dr.headD false)
  | .shiftIr => .of (x.irShift.getLsbD 0)
  | _ => .z

/-- One edge of TCK: a TAP that leaves its idle states, or selects EXTEST, starts a test-access reset (R466, R512). -/
def State.tapEdge (s : State) (tms tdi : Bool) : State :=
  let x := s.tap.edge tms tdi (outPins.map fun p => s.coreLevel p = .high)
  let t := { s with tap := x }
  if s.tap.rests && !x.rests then t.resetDevice 6 0 else t

/-- What comes at the balls of the port: an edge of TCK, or TRST_N low (R512). -/
def State.tapInput (s : State) : TapInput → State
  | .edge tms tdi => s.tapEdge tms tdi
  | .trst => { s with tap := s.tap.reset }

/-- TEST_ACCESS_RESET (R466, R512): the inputs of the TAP by which it leaves its two idle states, or selects EXTEST, and by which it is
scanned and comes back: TCK has no other row (DESIGN CHOICE, notes/assumptions/58). -/
def execTestAccessReset (s : State) (xs : List TapInput := tapLeaves) : Host.Outcome State Fault Refusal :=
  .next (xs.foldl State.tapInput s)

/-- THE LEVEL OF A PIN. Without VIO_A its pins are high impedance (R304). Under EXTEST the boundary register drives every output but those
whose cells only observe, and TDO is the TAP's (R512, R520). -/
def State.pinLevel (s : State) (p : OutPin) : Level :=
  if p.onVioA && !s.vioAOk then .z
  else if p = .tdo then s.tap.tdo
  else if tapInstr s.tap.ir = .extest && p.boundaryDrives then .of (s.tap.cell p)
  else s.coreLevel p

end Sys2Proof.Machine
end

