-- ==== Sys2Proof/Machine/RegRows.lean ====
section
/-! DEFINITION. The rows of the command table that are a write of one register: each is the write of its register, at the
register's address, by the commanding master (`State.writeCommand`). -/

namespace Sys2Proof.Machine

/-- A write of ENG.IPEND, IPENDH or IPENDX (R115). -/
def execEngIpendClear (m : Master) (e : Eng) (k : Fin 3) (v : Word) (s : State) : Host.Outcome State Fault Refusal :=
  s.writeCommand m (engBase e + 0x1A + k.val) v

/-- A write of ENG.SWI.SET = 1 (R133). -/
def execEngSwiSet (m : Master) (e : Eng) (s : State) : Host.Outcome State Fault Refusal :=
  s.writeCommand m (engBase e + 0x1D) (1)

/-- A write of ENG.SWI.CLR = 1 (R133). -/
def execEngSwiClr (m : Master) (e : Eng) (s : State) : Host.Outcome State Fault Refusal :=
  s.writeCommand m (engBase e + 0x1D) (2)

/-- A write of ENG.TCTL.GO = 1 with THR = t (R25, R27, R60). -/
def execEngTctlGo (m : Master) (e : Eng) (t : Thr) (s : State) : Host.Outcome State Fault Refusal :=
  s.writeCommand m (engBase e + 4) (flag 11 true ||| fld 0 t.val)

/-- A write of ENG.TCTL.HALT = 1 with THR = t (R27, R60). -/
def execEngTctlHalt (m : Master) (e : Eng) (t : Thr) (s : State) : Host.Outcome State Fault Refusal :=
  s.writeCommand m (engBase e + 4) (flag 10 true ||| fld 0 t.val)

/-- A write of ENG.CFG (R31, R57). -/
def execEngCfgWrite (m : Master) (e : Eng) (v : Word) (s : State) : Host.Outcome State Fault Refusal :=
  s.writeCommand m (engBase e) v

/-- A write of ENG.HINJ (R164, R165). -/
def execEngHinj (m : Master) (e : Eng) (v : Word) (s : State) : Host.Outcome State Fault Refusal :=
  s.writeCommand m (engBase e + 0x4B) v

/-- A write of CLU.FLEX (R178, R213). -/
def execCluFlexWrite (m : Master) (c : Clu) (v : Word) (s : State) : Host.Outcome State Fault Refusal :=
  s.writeCommand m (cluBase c) v

/-- A write of MTR.CLR (R257, R271). -/
def execMtrClr (m : Master) (v : Word) (s : State) : Host.Outcome State Fault Refusal :=
  s.writeCommand m (mtrBase + 0xC) v

/-- A write of MTR.LATCH (R259, R271). -/
def execMtrLatch (m : Master) (v : Word) (s : State) : Host.Outcome State Fault Refusal :=
  s.writeCommand m (mtrBase + 0xD) v

/-- A write of TC.CFGn, or TC.PERn where `per` (R280, R307). -/
def execTcCfgWrite (m : Master) (n : Fin 64) (per : Bool) (v : Word) (s : State) : Host.Outcome State Fault Refusal :=
  s.writeCommand m (trfBase + 8 * n.val + bit1 per) v

/-- A write of TRF.TLREL, or TRF.TLRELH where `high` (R282, R308). -/
def execTlrel (m : Master) (high : Bool) (v : Word) (s : State) : Host.Outcome State Fault Refusal :=
  s.writeCommand m (trfBase + 0x4A0 + bit1 high) v

/-- A write of TLGn, or TLGHn where `high` (R276, R307). -/
def execTlgWrite (m : Master) (n : Fin 24) (high : Bool) (v : Word) (s : State) : Host.Outcome State Fault Refusal :=
  s.writeCommand m (trfBase + 0x200 + 16 * n.val + 6 + bit1 high) v

/-- A write of PIO.CPCFG (R296, R310). -/
def execPioCpcfgWrite (m : Master) (v : Word) (s : State) : Host.Outcome State Fault Refusal :=
  s.writeCommand m (pioBase + 6) v

/-- A write of PIO.IMD (R300, R310). -/
def execPioImdWrite (m : Master) (v : Word) (s : State) : Host.Outcome State Fault Refusal :=
  s.writeCommand m (pioBase + 7) v

/-- A write of PIO.GDIR0, or PIO.GDIR1 where `high` (R276, R309). -/
def execPioGdirWrite (m : Master) (high : Bool) (v : Word) (s : State) : Host.Outcome State Fault Refusal :=
  s.writeCommand m (pioBase + bit1 high) v

/-- A write of SEL.ENG (R312). -/
def execSelEngWrite (m : Master) (v : Word) (s : State) : Host.Outcome State Fault Refusal :=
  s.writeCommand m (selBase) v

/-- A write of SEL.LOCK (R313). -/
def execSelLockWrite (m : Master) (v : Word) (s : State) : Host.Outcome State Fault Refusal :=
  s.writeCommand m (selBase + 1) v

/-- A write of SEL.CMD with SAFE as in bit 0 (R333). -/
def execSelCmdSafe (m : Master) (v : Word) (s : State) : Host.Outcome State Fault Refusal :=
  s.writeCommand m (selBase + 4) v

/-- A write of SEL.CMD with RESET as in bit 1 (R335). -/
def execSelCmdReset (m : Master) (v : Word) (s : State) : Host.Outcome State Fault Refusal :=
  s.writeCommand m (selBase + 4) v

/-- A write of SEL.SREL (R334). -/
def execSelSrel (m : Master) (v : Word) (s : State) : Host.Outcome State Fault Refusal :=
  s.writeCommand m (selBase + 5) v

/-- A write of SEL.ALIVE (R331). -/
def execSelAliveWrite (m : Master) (v : Word) (s : State) : Host.Outcome State Fault Refusal :=
  s.writeCommand m (selBase + 3) v

/-- A write of FCL.SCLR0 to FCL.SCLR13 (R322, R340). -/
def execFclSclr (m : Master) (k : Fin 14) (v : Word) (s : State) : Host.Outcome State Fault Refusal :=
  s.writeCommand m (fclStBase + 0x210 + k.val) v

/-- A write of FCL.CFGn, WINn, MINn or SEVn (R323 to R325, R339). -/
def execFclConfigWrite (m : Master) (n : Fin 160) (k : Fin 4) (v : Word) (s : State) : Host.Outcome State Fault Refusal :=
  s.writeCommand m (fclCfgBase + 4 * n.val + k.val) v

/-- A write of WDG.COMMIT (R350). -/
def execWdgCommit (m : Master) (v : Word) (s : State) : Host.Outcome State Fault Refusal :=
  s.writeCommand m (wdgBase + 7) v

/-- A write of WDG.HOLD (R352). -/
def execWdgHold (m : Master) (v : Word) (s : State) : Host.Outcome State Fault Refusal :=
  s.writeCommand m (wdgBase + 8) v

/-- A write of REC.CFG (R371, R383). -/
def execRecCfgWrite (m : Master) (v : Word) (s : State) : Host.Outcome State Fault Refusal :=
  s.writeCommand m (recBase) v

/-- A write of REC.SWGO (R363, R384). -/
def execRecSwgo (m : Master) (v : Word) (s : State) : Host.Outcome State Fault Refusal :=
  s.writeCommand m (recBase + 0x44) v

/-- A write of REC.FGO (R365, R384). -/
def execRecFgo (m : Master) (v : Word) (s : State) : Host.Outcome State Fault Refusal :=
  s.writeCommand m (recBase + 0x23) v

/-- A write of REC.WTRIG (R372, R384). -/
def execRecWtrig (m : Master) (v : Word) (s : State) : Host.Outcome State Fault Refusal :=
  s.writeCommand m (recBase + 0x13) v

/-- A write of SEL.RCONF (R376, R385). -/
def execSelRconf (m : Master) (v : Word) (s : State) : Host.Outcome State Fault Refusal :=
  s.writeCommand m (rconfBase) v

/-- A write of MON.CMD.ARM = 1 (R380, R386). -/
def execMonArm (m : Master) (g : Fin 32) (s : State) : Host.Outcome State Fault Refusal :=
  s.writeCommand m (monBase g + 7) (1)

/-- A write of MON.CMD.SNAP = 1 (R380, R386). -/
def execMonSnap (m : Master) (g : Fin 32) (s : State) : Host.Outcome State Fault Refusal :=
  s.writeCommand m (monBase g + 7) (2)

/-- A write of SHT.GPCMDe.CREATE = 1 (R400). -/
def execCreate (m : Master) (e : Eng) (s : State) : Host.Outcome State Fault Refusal :=
  s.writeCommand m (gpReg e 6) (1)

/-- A write of SHT.GPCMDe.REVOKE = 1 (R401). -/
def execRevoke (m : Master) (e : Eng) (s : State) : Host.Outcome State Fault Refusal :=
  s.writeCommand m (gpReg e 6) (2)

/-- A write of SHT.SQCTLn.EN = 1 (R403). -/
def execSqEnable (m : Master) (n : Fin 8) (s : State) : Host.Outcome State Fault Refusal :=
  s.writeCommand m (sqReg n 0xA) (0x800)

/-- A write of SHT.SQCTLn.EN = 0 (R403). -/
def execSqDisable (m : Master) (n : Fin 8) (s : State) : Host.Outcome State Fault Refusal :=
  s.writeCommand m (sqReg n 0xA) (0)

/-- A write of SHT.CQCTLn.EN = 1 (R403). -/
def execCqEnable (m : Master) (n : Fin 8) (s : State) : Host.Outcome State Fault Refusal :=
  s.writeCommand m (cqReg n 9) (0x800)

/-- A write of SHT.CQCTLn.EN = 0 (R403). -/
def execCqDisable (m : Master) (n : Fin 8) (s : State) : Host.Outcome State Fault Refusal :=
  s.writeCommand m (cqReg n 9) (0)

/-- A write of SHT.SQCTLn.UNQ = 1, with EN as it stands (R421). -/
def execSqctlUnq (m : Master) (n : Fin 8) (s : State) : Host.Outcome State Fault Refusal :=
  s.writeCommand m (sqReg n 0xA) (flag 11 (s.sq n).en ||| 1)

/-- A write of JSN.TXCTL (R441, R447). -/
def execJsnTxctl (m : Master) (v : Word) (s : State) : Host.Outcome State Fault Refusal :=
  s.writeCommand m (jsnBase + 0x25) v

/-- A write of DEV.GO (R450, R451). -/
def execDevGo (m : Master) (v : Word) (s : State) : Host.Outcome State Fault Refusal :=
  s.writeCommand m (devBase + 3) v

/-- A write of DEV.MCTL with PRECISE as given, its other fields as they stand (R455). -/
def execDevMctlPrecise (m : Master) (on : Bool) (s : State) : Host.Outcome State Fault Refusal :=
  s.writeCommand m (devBase + 5) ((s.reg (devBase + 5) &&& 0x7FF) ||| flag 11 on)

/-- A write of DEV.MCTL with DOZE as given, its other fields as they stand (R456). -/
def execDevMctlDoze (m : Master) (on : Bool) (s : State) : Host.Outcome State Fault Refusal :=
  s.writeCommand m (devBase + 5) ((s.reg (devBase + 5) &&& 0xBFF) ||| flag 10 on)

/-- A write of DEV.MCTL with DZMASK as in v[7:0], its other fields as they stand (R456). -/
def execDevMctlDzmask (m : Master) (v : Word) (s : State) : Host.Outcome State Fault Refusal :=
  s.writeCommand m (devBase + 5) ((s.reg (devBase + 5) &&& 0xF00) ||| (v &&& 0x0FF))

/-- A write of MOD.SEAL.SEAL = 1 (R458, R471). -/
def execModSeal (m : Master) (s : State) : Host.Outcome State Fault Refusal :=
  s.writeCommand m (modBase + 1) (1)

/-- A write of MOD.SEAL.UNSEAL = 1 (R458, R471). -/
def execModUnseal (m : Master) (s : State) : Host.Outcome State Fault Refusal :=
  s.writeCommand m (modBase + 1) (2)

/-- A write of MOD.CTL with SOLO as given (R460, R471). -/
def execModSolo (m : Master) (on : Bool) (s : State) : Host.Outcome State Fault Refusal :=
  s.writeCommand m (modBase) (flag 0 on)

/-- A write of a register that has no row of its own, by its access code (R10); a reserved address faults (R13, R171), and
one that names memory or the host window is no register. -/
def execRegisterWrite (m : Master) (a : Addr) (v : Word) (s : State) : Host.Outcome State Fault Refusal :=
  if regionOf a = .regs || regionOf a = .reserved then s.writeCommand m a.toNat v else .next s

end Sys2Proof.Machine
end

