-- ==== Sys2Proof/Machine/Trip.lean ====
section
/-! DEFINITION. The commands of the trip fabric and of the vehicle-side pins that are not register writes (R275 to R303). -/

namespace Sys2Proof.Machine

/-- Pins with a fabric input path (R275). -/
def fabricPin (p : Nat) : Bool := p ≤ 0x17 || p = 0x1A || p = 0x1B || rng p 0x1D 0x28

/-- FABRIC_PIN_LEVEL (R275, R304): the named copies' filters take a level. -/
def execFabricPinLevel (p : Pin) (level : Bool) (copies : BitVec 3) (s : State) : Host.Outcome State Fault Refusal :=
  if fabricPin p.val && s.inputsOk then
    .next ((s.updTrip fun x =>
      { x with filt := upd x.filt p fun v => if level then v ||| copies else v &&& ~~~copies }).fabricFrom s)
  else .next s

/-- COMPARATOR_EVALUATE (R278, R279): a new value of the comparator's source is evaluated. -/
def execComparatorEvaluate (n : Fin 64) (s : State) : Host.Outcome State Fault Refusal :=
  let s := s.updTc n fun c => { c with stale := false }
  if s.tcKind n.val = 0 || s.badCmp n.val || s.tcInvalid n then .next s.fabric
  else
    let cfg := s.reg (tcReg n.val 0)
    .next (s.updTc n fun c =>
      tcEval c (s.tcValue n.val) (s.reg2 (tcReg n.val 2)).toInt (s.reg2 (tcReg n.val 4)).toInt
        ((s.regN (tcReg n.val 6) : Int) * 2 ^ 8) (cfg.getLsbD 2) (cfg.getLsbD 1) (bitsAt (s.reg (tcReg n.val 1)) 0 8)).fabric

/-- SOURCE_INVALID_TIMEOUT (R279): 76,800 fk without a new value of a channel, meter or converter source. -/
def execSourceInvalidTimeout (n : Fin 64) (s : State) : Host.Outcome State Fault Refusal :=
  if s.tcAges n.val then .next (s.updTc n fun c => { c with stale := true }).fabric else .next s

/-- TRIP_REQUEST_ARRIVE (R99, R144, R160, R281): the engine's voted request bits as they stand reach the fabric. -/
def execTripRequestArrive (e : Eng) (s : State) : Host.Outcome State Fault Refusal :=
  .next (s.updTrip fun x => { x with req := x.req.set e.val (s.eng e).trqOut e.isLt }).fabric

/-- COPY_DISAGREE (R283). -/
def execCopyDisagree (w : CopyPlace) (s : State) : Host.Outcome State Fault Refusal :=
  match w with
  | .line n => .next (s.raise 101 (BitVec.ofNat 7 n.val) 0)
  | .output j => .next (s.raise 101 (BitVec.ofNat 7 (0x20 + j.val)) 0)

/-- KD_HALF_PERIOD (R288): the common 40 kHz count steps; an output that may run begins with a high half-period. -/
def execKdHalfPeriod (s : State) : Host.Outcome State Fault Refusal :=
  if s.inRun then
    let may : BitVec 4 := BitVec.ofNat 4 (((List.range 4).map fun i => if s.kdMay i then 2 ^ i else 0).sum)
    .next (s.updTrip fun x => { x with kdPhase := !x.kdPhase, kdRun := if x.kdPhase then x.kdRun else x.kdRun ||| may })
  else .next s

/-- SAFE_PAIR_HALF_PERIOD (R288): the running pair toggles. -/
def execSafePairHalfPeriod (s : State) : Host.Outcome State Fault Refusal :=
  if s.trip.safeRun then .next (s.updTrip fun x => { x with safePhase := !x.safePhase }) else .next s

/-- READBACK_MISMATCH (R290, R302). -/
def execReadbackMismatch (p : Fin 25) (s : State) : Host.Outcome State Fault Refusal :=
  .next (s.raise 102 (BitVec.ofNat 7 p.val) 0)

/-- ESTOP_DISCREPANCY (R292): exactly one channel has shown pressed for ESTD ms. -/
def execEstopDiscrepancy (s : State) : Host.Outcome State Fault Refusal :=
  if s.pressedA ≠ s.pressedB then
    .next (((s.updTrip fun x => { x with edisc := true, bothPressed := false }).raise 103 0x01 0).fabricFrom s)
  else .next s

/-- LOCK_HOLD_END (R294): both channels have been valid and low for 10 ms. -/
def execLockHoldEnd (s : State) : Host.Outcome State Fault Refusal :=
  if s.trip.hold && !s.holds60 then .next ((s.updTrip fun x => { x with hold := false }).fabricFrom s) else .next s

/-- LOCK_FAULT (R295): a cause that stands, the travel or the hold without the locked feedback, has lasted longer than LOCKT ms. -/
def execLockFault (hold : Bool) (s : State) : Host.Outcome State Fault Refusal :=
  let c : BitVec 2 := s.lockCauses &&& (if hold then 2 else 1)
  .next ((s.updTrip fun x => { x with lockFault := x.lockFault ||| c }).fabricFrom s)

/-- CP_PWM_PERIOD (R288, R296): a pilot period starts with the stored configuration, and an override that has ended is over. While it is
in force, a written configuration waits. -/
def execCpPwmPeriod (s : State) : Host.Outcome State Fault Refusal :=
  let cfg := if s.outSafe 21 then s.trip.pilot.cfg else s.reg (pioBase + 6)
  .next (s.updTrip fun x =>
    { x with pilot := { x.pilot with cfg := cfg, start := s.fk, high := bitsAt cfg 10 2 = 2, ovr := false } }).drivePilot

/-- The high time of a MODE 0b10 period ends after DUTY × 300 fk (R296). -/
def State.pilotTick (s : State) : State :=
  let p := s.trip.pilot
  if p.high && decide (p.start + bitsAt p.cfg 0 10 * 300 ≤ s.fk) then
    (s.updTrip fun x => { x with pilot := { x.pilot with high := false } }).drivePilot
  else s

/-- PILOT_STALE (R298): no sample has been classified for 2 ms. -/
def execPilotStale (s : State) : Host.Outcome State Fault Refusal :=
  .next ((s.updTrip fun x => { x with pilot := { x.pilot with state := 6, stale := true, candCnt := 0, badCnt := 0 } }).fabricFrom s)

/-- IMD_INJ_TOGGLE (R300). -/
def execImdInjToggle (s : State) : Host.Outcome State Fault Refusal :=
  if s.regB (pioBase + 7) 11 then
    .next ((s.updTrip fun x => { x with imd := !x.imd }).pioFire 0x31 (!s.trip.imd) false)
  else .next s

/-- PIO_EVENT (R301, R304): the PIO's synchronised level of a pin takes a level; an edge that an event selects sets its line. -/
def execPioEvent (p : BitVec 6) (level : Bool) (s : State) : Host.Outcome State Fault Refusal :=
  if !s.inputsOk || 0x28 < p.toNat || s.trip.pio.getLsbD p.toNat = level then .next s
  else
    let m : BitVec 64 := BitVec.ofNat 64 (2 ^ p.toNat)
    .next ((s.updTrip fun x => { x with pio := if level then x.pio ||| m else x.pio &&& ~~~m }).pioFire p.toNat level false)

/-- A TRF configuration word by its page-0 offset (R303, R307). -/
def trfConfigWord (o : Nat) : Bool := o ≤ 0x46F && ((trfInfo o).map fun r => decide (r.acc = .sv)).getD false

/-- Cause of a failing word at source 100 (R302). -/
def trfCause (o : Nat) : BitVec 7 := if o < 0x200 then 1 else if o < 0x380 then 2 else if rng o 0x400 0x42D then 3 else 4

/-- CONFIG_CHECK_SCAN (R303): the scan finds a word good, or failing. -/
def execConfigCheckScan (off : Word) (bad : Bool) (s : State) : Host.Outcome State Fault Refusal :=
  let o := off.toNat
  if bad && trfConfigWord o then
    .next (((s.updTrip fun x =>
      { x with badCfg := if x.badCfg.contains o then x.badCfg else x.badCfg ++ [o], cpea := off }).raise 100 (trfCause o)
        (BitVec.ofNat 24 (trf o))).fabricFrom s)
  else .next s

end Sys2Proof.Machine
end

