-- ==== Sys2Proof/Machine/Units.lean ====
section
/-! DEFINITION. The commands that trigger one port of a thread by itself: each is its port's operation of Ports.lean under the
checks that a move to the port meets (notes/assumptions/19). -/

namespace Sys2Proof.Machine

/-- ALU.ADD (R67, R68). -/
def execAluAdd (e : Eng) (t : Thr) (v : Word) (s : State) : Host.Outcome State Fault Refusal :=
  s.fire e t 0x21 v fun s _ => portAluAdd s e t v

/-- ALU.ADC (R67, R68). -/
def execAluAdc (e : Eng) (t : Thr) (v : Word) (s : State) : Host.Outcome State Fault Refusal :=
  s.fire e t 0x22 v fun s _ => portAluAdc s e t v

/-- ALU.SUB (R67, R68). -/
def execAluSub (e : Eng) (t : Thr) (v : Word) (s : State) : Host.Outcome State Fault Refusal :=
  s.fire e t 0x23 v fun s _ => portAluSub s e t v

/-- ALU.SBC (R67, R68). -/
def execAluSbc (e : Eng) (t : Thr) (v : Word) (s : State) : Host.Outcome State Fault Refusal :=
  s.fire e t 0x24 v fun s _ => portAluSbc s e t v

/-- ALU.AND (R67, R68). -/
def execAluAnd (e : Eng) (t : Thr) (v : Word) (s : State) : Host.Outcome State Fault Refusal :=
  s.fire e t 0x25 v fun s _ => portAluAnd s e t v

/-- ALU.OR (R67, R68). -/
def execAluOr (e : Eng) (t : Thr) (v : Word) (s : State) : Host.Outcome State Fault Refusal :=
  s.fire e t 0x26 v fun s _ => portAluOr s e t v

/-- ALU.XOR (R67, R68). -/
def execAluXor (e : Eng) (t : Thr) (v : Word) (s : State) : Host.Outcome State Fault Refusal :=
  s.fire e t 0x27 v fun s _ => portAluXor s e t v

/-- ALU.SHL (R67, R68). -/
def execAluShl (e : Eng) (t : Thr) (v : Word) (s : State) : Host.Outcome State Fault Refusal :=
  s.fire e t 0x28 v fun s _ => portAluShl s e t v

/-- ALU.SHR (R67, R68). -/
def execAluShr (e : Eng) (t : Thr) (v : Word) (s : State) : Host.Outcome State Fault Refusal :=
  s.fire e t 0x29 v fun s _ => portAluShr s e t v

/-- ALU.SAR (R67, R68). -/
def execAluSar (e : Eng) (t : Thr) (v : Word) (s : State) : Host.Outcome State Fault Refusal :=
  s.fire e t 0x2A v fun s _ => portAluSar s e t v

/-- ALU.CMP (R67, R68). -/
def execAluCmp (e : Eng) (t : Thr) (v : Word) (s : State) : Host.Outcome State Fault Refusal :=
  s.fire e t 0x2B v fun s _ => portAluCmp s e t v

/-- MUL.GO (R69). -/
def execMulGo (e : Eng) (t : Thr) (v : Word) (s : State) : Host.Outcome State Fault Refusal :=
  s.fire e t 0x2F v fun s _ => portMulGo s e t v

/-- MAC.MAC (R69). -/
def execMacMac (e : Eng) (t : Thr) (v : Word) (s : State) : Host.Outcome State Fault Refusal :=
  s.fire e t 0x33 v fun s _ => portMacMac s e t v

/-- MAC.MSU (R69). -/
def execMacMsu (e : Eng) (t : Thr) (v : Word) (s : State) : Host.Outcome State Fault Refusal :=
  s.fire e t 0x34 v fun s _ => portMacMsu s e t v

/-- MAC.MUL (R69). -/
def execMacMul (e : Eng) (t : Thr) (v : Word) (s : State) : Host.Outcome State Fault Refusal :=
  s.fire e t 0x35 v fun s _ => portMacMul s e t v

/-- MAC.CLR (R69): v is ignored. -/
def execMacClr (e : Eng) (t : Thr) (v : Word) (s : State) : Host.Outcome State Fault Refusal :=
  s.fire e t 0x36 v fun s _ => portMacClr s e t

/-- MAC.SHR (R69). -/
def execMacShr (e : Eng) (t : Thr) (v : Word) (s : State) : Host.Outcome State Fault Refusal :=
  s.fire e t 0x37 v fun s _ => portMacShr s e t v

/-- APX.RCP (R71). -/
def execApxRcp (e : Eng) (t : Thr) (v : Word) (s : State) : Host.Outcome State Fault Refusal :=
  s.fire e t 0x3A v fun s _ => portApxRcp s e t v

/-- APX.SQ (R71). -/
def execApxSq (e : Eng) (t : Thr) (v : Word) (s : State) : Host.Outcome State Fault Refusal :=
  s.fire e t 0x3B v fun s _ => portApxSq s e t v

/-- APX.L2 (R71). -/
def execApxL2 (e : Eng) (t : Thr) (v : Word) (s : State) : Host.Outcome State Fault Refusal :=
  s.fire e t 0x3C v fun s _ => portApxL2 s e t v

/-- APX.DIV (R71). -/
def execApxDiv (e : Eng) (t : Thr) (v : Word) (s : State) : Host.Outcome State Fault Refusal :=
  s.fire e t 0x3D v fun s _ => portApxDiv s e t v

/-- LSU.LDPI (R74). -/
def execLsuLdpi (e : Eng) (t : Thr) (v : Word) (s : State) : Host.Outcome State Fault Refusal :=
  s.fire e t 0x43 v fun s f => portLsuLdpi s e t f v

/-- LSU.LD1PI (R74). -/
def execLsuLd1pi (e : Eng) (t : Thr) (v : Word) (s : State) : Host.Outcome State Fault Refusal :=
  s.fire e t 0x44 v fun s f => portLsuLd1pi s e t f v

/-- LSU.STPD (R74). -/
def execLsuStpd (e : Eng) (t : Thr) (v : Word) (s : State) : Host.Outcome State Fault Refusal :=
  s.fire e t 0x45 v fun s f => portLsuStpd s e t f v

/-- LSU.ST1PD (R74). -/
def execLsuSt1pd (e : Eng) (t : Thr) (v : Word) (s : State) : Host.Outcome State Fault Refusal :=
  s.fire e t 0x46 v fun s f => portLsuSt1pd s e t f v

/-- LSU.LDX (R74). -/
def execLsuLdx (e : Eng) (t : Thr) (v : Word) (s : State) : Host.Outcome State Fault Refusal :=
  s.fire e t 0x47 v fun s f => portLsuLdx s e t f v

/-- LSU.STX (R74). -/
def execLsuStx (e : Eng) (t : Thr) (v : Word) (s : State) : Host.Outcome State Fault Refusal :=
  s.fire e t 0x48 v fun s f => portLsuStx s e t f v

/-- LSU.LDB (R74). -/
def execLsuLdb (e : Eng) (t : Thr) (v : Word) (s : State) : Host.Outcome State Fault Refusal :=
  s.fire e t 0x49 v fun s f => portLsuLdb s e t f v

/-- LSU.STB (R74). -/
def execLsuStb (e : Eng) (t : Thr) (v : Word) (s : State) : Host.Outcome State Fault Refusal :=
  s.fire e t 0x4A v fun s f => portLsuStb s e t f v

/-- LSU.FNC (R74). -/
def execLsuFnc (e : Eng) (t : Thr) (v : Word) (s : State) : Host.Outcome State Fault Refusal :=
  s.fire e t 0x4B v fun s _ => portLsuFnc s e t v

/-- PCU.JMP (R86, R121). -/
def execPcuJmp (e : Eng) (t : Thr) (v : Word) (s : State) : Host.Outcome State Fault Refusal :=
  s.fire e t 0x56 v fun s f => portPcuJmp s e t f v

/-- PCU.JAL (R86, R121). -/
def execPcuJal (e : Eng) (t : Thr) (v : Word) (s : State) : Host.Outcome State Fault Refusal :=
  s.fire e t 0x57 v fun s f => portPcuJal s e t f v

/-- PCU.RET (R86, R121). -/
def execPcuRet (e : Eng) (t : Thr) (v : Word) (s : State) : Host.Outcome State Fault Refusal :=
  s.fire e t 0x58 v fun s f => portPcuRet s e t f v

/-- PCU.JNZ (R86, R121). -/
def execPcuJnz (e : Eng) (t : Thr) (v : Word) (s : State) : Host.Outcome State Fault Refusal :=
  s.fire e t 0x59 v fun s f => portPcuJnz s e t f v

/-- PCU.TM (R23, R127). -/
def execPcuTm (e : Eng) (t : Thr) (v : Word) (s : State) : Host.Outcome State Fault Refusal :=
  s.fire e t 0x5A v fun s f => portPcuTm s e t f v

/-- PCU.KR (R24, R86, R105). -/
def execPcuKr (e : Eng) (t : Thr) (v : Word) (s : State) : Host.Outcome State Fault Refusal :=
  s.fire e t 0x5B v fun s f => portPcuKr s e t f v

/-- ICU.INV (R87). -/
def execIcuInv (e : Eng) (t : Thr) (v : Word) (s : State) : Host.Outcome State Fault Refusal :=
  s.fire e t 0x5D v fun s _ => portIcuInv s e t v

/-- ICU.PIN (R40, R87). -/
def execIcuPin (e : Eng) (t : Thr) (v : Word) (s : State) : Host.Outcome State Fault Refusal :=
  s.fire e t 0x5E v fun s _ => portIcuPin s e t v

/-- ICU.SYNC (R87). -/
def execIcuSync (e : Eng) (t : Thr) (v : Word) (s : State) : Host.Outcome State Fault Refusal :=
  s.fire e t 0x5F v fun s _ => portIcuSync s e v

/-- SMP.OPEN (R89). -/
def execSmpOpen (e : Eng) (t : Thr) (v : Word) (s : State) : Host.Outcome State Fault Refusal :=
  s.fire e t 0x61 v fun s _ => portSmpOpen s e t v

/-- SMP.SKIP (R89). -/
def execSmpSkip (e : Eng) (t : Thr) (v : Word) (s : State) : Host.Outcome State Fault Refusal :=
  s.fire e t 0x62 v fun s _ => portSmpSkip s e t v

/-- MSG.SND (R92). -/
def execMsgSnd (e : Eng) (t : Thr) (v : Word) (s : State) : Host.Outcome State Fault Refusal :=
  s.fire e t 0x65 v fun s _ => portMsgSnd s e t v

/-- MSG.FLUSH (R92): v is ignored. -/
def execMsgFlush (e : Eng) (t : Thr) (v : Word) (s : State) : Host.Outcome State Fault Refusal :=
  s.fire e t 0x67 v fun s _ => portMsgFlush s e t

/-- INP.SNAP (R93). -/
def execInpSnap (e : Eng) (t : Thr) (v : Word) (s : State) : Host.Outcome State Fault Refusal :=
  s.fire e t 0x77 v fun s _ => portInpSnap s e t v

/-- TMR.START (R94, R95). -/
def execTmrStart (e : Eng) (t : Thr) (v : Word) (s : State) : Host.Outcome State Fault Refusal :=
  s.fire e t 0x69 v fun s _ => portTmrStart s e t v

/-- TMR.STOP (R94): v is ignored. -/
def execTmrStop (e : Eng) (t : Thr) (v : Word) (s : State) : Host.Outcome State Fault Refusal :=
  s.fire e t 0x6B v fun s _ => portTmrStop s e t

/-- MMU.INVP (R96). -/
def execMmuInvp (e : Eng) (t : Thr) (v : Word) (s : State) : Host.Outcome State Fault Refusal :=
  s.fire e t 0x6D v fun s _ => portMmuInvp s e t v

/-- MMU.INVK (R96). -/
def execMmuInvk (e : Eng) (t : Thr) (v : Word) (s : State) : Host.Outcome State Fault Refusal :=
  s.fire e t 0x6E v fun s _ => portMmuInvk s e v

/-- MMU.INVA (R96). -/
def execMmuInva (e : Eng) (t : Thr) (v : Word) (s : State) : Host.Outcome State Fault Refusal :=
  s.fire e t 0x6F v fun s _ => portMmuInva s e v

/-- TRP.SET (R99). -/
def execTrpSet (e : Eng) (t : Thr) (v : Word) (s : State) : Host.Outcome State Fault Refusal :=
  s.fire e t 0x70 v fun s _ => portTrpSet s e v

/-- TRP.CLR (R99). -/
def execTrpClr (e : Eng) (t : Thr) (v : Word) (s : State) : Host.Outcome State Fault Refusal :=
  s.fire e t 0x71 v fun s _ => portTrpClr s e v

/-- TRP.SETM (R99). -/
def execTrpSetm (e : Eng) (t : Thr) (v : Word) (s : State) : Host.Outcome State Fault Refusal :=
  s.fire e t 0x72 v fun s _ => portTrpSetm s e v

/-- TRP.SETMH (R99). -/
def execTrpSetmh (e : Eng) (t : Thr) (v : Word) (s : State) : Host.Outcome State Fault Refusal :=
  s.fire e t 0x73 v fun s _ => portTrpSetmh s e v

/-- WDC.CHECK (R100). -/
def execWdcCheck (e : Eng) (t : Thr) (v : Word) (s : State) : Host.Outcome State Fault Refusal :=
  s.fire e t 0x74 v fun s _ => portWdcCheck s v

/-- WDC.SERVE (R46, R100). -/
def execWdcServe (e : Eng) (t : Thr) (v : Word) (s : State) : Host.Outcome State Fault Refusal :=
  s.fire e t 0x75 v fun s _ => portWdcServe s e t v

/-- SVP.WR (R101). -/
def execSvpWr (e : Eng) (t : Thr) (v : Word) (s : State) : Host.Outcome State Fault Refusal :=
  s.fire e t 0x7A v fun s _ => portSvpWr s e t v

/-- SVP.WRI (R101). -/
def execSvpWri (e : Eng) (t : Thr) (v : Word) (s : State) : Host.Outcome State Fault Refusal :=
  s.fire e t 0x7B v fun s _ => portSvpWri s e t v

/-- SVP.RD (R101). -/
def execSvpRd (e : Eng) (t : Thr) (v : Word) (s : State) : Host.Outcome State Fault Refusal :=
  s.fire e t 0x7C v fun s _ => portSvpRd s e t v

/-- SVP.RDI (R101). -/
def execSvpRdi (e : Eng) (t : Thr) (v : Word) (s : State) : Host.Outcome State Fault Refusal :=
  s.fire e t 0x7D v fun s _ => portSvpRdi s e t v

/-- SVP.FNC (R101). -/
def execSvpFnc (e : Eng) (t : Thr) (v : Word) (s : State) : Host.Outcome State Fault Refusal :=
  s.fire e t 0x7E v fun s _ => portSvpFnc s e t v

/-- BLK.GO with OP MOVE (R81, R82); `hi` is v[11:2]. -/
def execBlkMove (e : Eng) (t : Thr) (hi : BitVec 10) (s : State) : Host.Outcome State Fault Refusal :=
  let v : Word := hi ++ (0x0 : BitVec 2)
  s.fire e t 0x52 v fun s f => portBlkGo s e t f v

/-- BLK.GO with OP FILL (R81, R82); `hi` is v[11:2]. -/
def execBlkFill (e : Eng) (t : Thr) (hi : BitVec 10) (s : State) : Host.Outcome State Fault Refusal :=
  let v : Word := hi ++ (0x1 : BitVec 2)
  s.fire e t 0x52 v fun s f => portBlkGo s e t f v

/-- BLK.GO with OP CMP (R81, R82); `hi` is v[11:2]. -/
def execBlkCmp (e : Eng) (t : Thr) (hi : BitVec 10) (s : State) : Host.Outcome State Fault Refusal :=
  let v : Word := hi ++ (0x2 : BitVec 2)
  s.fire e t 0x52 v fun s f => portBlkGo s e t f v

/-- BLK.GO with OP SCAN (R81, R82); `hi` is v[11:2]. -/
def execBlkScan (e : Eng) (t : Thr) (hi : BitVec 10) (s : State) : Host.Outcome State Fault Refusal :=
  let v : Word := hi ++ (0x3 : BitVec 2)
  s.fire e t 0x52 v fun s f => portBlkGo s e t f v

/-- A pop of MSG.Q (R92). -/
def execMsgQ (e : Eng) (t : Thr) (s : State) : Host.Outcome State Fault Refusal := s.firePop e t 0x64

end Sys2Proof.Machine
end

