-- ==== Sys2Proof/Machine/Dispatch.lean ====
section
/-! DEFINITION. `exec`: one arm per command, each one direct call of its meaning. -/

namespace Sys2Proof.Machine

def exec (i : Instr) (s : State) : Host.Outcome State Fault Refusal :=
  match i with
  | .move e fault => Sys2Proof.Machine.execMove e fault s
  | .nop e t => Sys2Proof.Machine.execNop e t s
  | .idleSelect e => Sys2Proof.Machine.execIdleSelect e s
  | .fillComplete e o => Sys2Proof.Machine.execFillComplete e o s
  | .aluAdd e t v => Sys2Proof.Machine.execAluAdd e t v s
  | .aluAdc e t v => Sys2Proof.Machine.execAluAdc e t v s
  | .aluSub e t v => Sys2Proof.Machine.execAluSub e t v s
  | .aluSbc e t v => Sys2Proof.Machine.execAluSbc e t v s
  | .aluAnd e t v => Sys2Proof.Machine.execAluAnd e t v s
  | .aluOr e t v => Sys2Proof.Machine.execAluOr e t v s
  | .aluXor e t v => Sys2Proof.Machine.execAluXor e t v s
  | .aluShl e t v => Sys2Proof.Machine.execAluShl e t v s
  | .aluShr e t v => Sys2Proof.Machine.execAluShr e t v s
  | .aluSar e t v => Sys2Proof.Machine.execAluSar e t v s
  | .aluCmp e t v => Sys2Proof.Machine.execAluCmp e t v s
  | .mulGo e t v => Sys2Proof.Machine.execMulGo e t v s
  | .macMac e t v => Sys2Proof.Machine.execMacMac e t v s
  | .macMsu e t v => Sys2Proof.Machine.execMacMsu e t v s
  | .macMul e t v => Sys2Proof.Machine.execMacMul e t v s
  | .macClr e t v => Sys2Proof.Machine.execMacClr e t v s
  | .macShr e t v => Sys2Proof.Machine.execMacShr e t v s
  | .macComplete e t late => Sys2Proof.Machine.execMacComplete e t late s
  | .apxRcp e t v => Sys2Proof.Machine.execApxRcp e t v s
  | .apxSq e t v => Sys2Proof.Machine.execApxSq e t v s
  | .apxL2 e t v => Sys2Proof.Machine.execApxL2 e t v s
  | .apxDiv e t v => Sys2Proof.Machine.execApxDiv e t v s
  | .apxComplete e late => Sys2Proof.Machine.execApxComplete e late s
  | .lsuLdpi e t v => Sys2Proof.Machine.execLsuLdpi e t v s
  | .lsuLd1pi e t v => Sys2Proof.Machine.execLsuLd1pi e t v s
  | .lsuStpd e t v => Sys2Proof.Machine.execLsuStpd e t v s
  | .lsuSt1pd e t v => Sys2Proof.Machine.execLsuSt1pd e t v s
  | .lsuLdx e t v => Sys2Proof.Machine.execLsuLdx e t v s
  | .lsuStx e t v => Sys2Proof.Machine.execLsuStx e t v s
  | .lsuLdb e t v => Sys2Proof.Machine.execLsuLdb e t v s
  | .lsuStb e t v => Sys2Proof.Machine.execLsuStb e t v s
  | .lsuFnc e t v => Sys2Proof.Machine.execLsuFnc e t v s
  | .fenceComplete e t => Sys2Proof.Machine.execFenceComplete e t s
  | .loadComplete e t o o2 host hostH => Sys2Proof.Machine.execLoadComplete e t o o2 host hostH s
  | .storeCommit e o o2 => Sys2Proof.Machine.execStoreCommit e o o2 s
  | .tableWalk e o1 o2 => Sys2Proof.Machine.execTableWalk e o1 o2 s
  | .blkMove e t hi => Sys2Proof.Machine.execBlkMove e t hi s
  | .blkFill e t hi => Sys2Proof.Machine.execBlkFill e t hi s
  | .blkCmp e t hi => Sys2Proof.Machine.execBlkCmp e t hi s
  | .blkScan e t hi => Sys2Proof.Machine.execBlkScan e t hi s
  | .blkElement e t o1 o2 ow host host2 => Sys2Proof.Machine.execBlkElement e t o1 o2 ow host host2 s
  | .blkEnd e t => Sys2Proof.Machine.execBlkEnd e t s
  | .pcuJmp e t v => Sys2Proof.Machine.execPcuJmp e t v s
  | .pcuJal e t v => Sys2Proof.Machine.execPcuJal e t v s
  | .pcuRet e t v => Sys2Proof.Machine.execPcuRet e t v s
  | .pcuJnz e t v => Sys2Proof.Machine.execPcuJnz e t v s
  | .pcuTm e t v => Sys2Proof.Machine.execPcuTm e t v s
  | .pcuKr e t v => Sys2Proof.Machine.execPcuKr e t v s
  | .icuInv e t v => Sys2Proof.Machine.execIcuInv e t v s
  | .icuPin e t v => Sys2Proof.Machine.execIcuPin e t v s
  | .icuSync e t v => Sys2Proof.Machine.execIcuSync e t v s
  | .smpOpen e t v => Sys2Proof.Machine.execSmpOpen e t v s
  | .smpSkip e t v => Sys2Proof.Machine.execSmpSkip e t v s
  | .smpQ e t o => Sys2Proof.Machine.execSmpQ e t o s
  | .msgSnd e t v => Sys2Proof.Machine.execMsgSnd e t v s
  | .msgFlush e t v => Sys2Proof.Machine.execMsgFlush e t v s
  | .msgQ e t => Sys2Proof.Machine.execMsgQ e t s
  | .mailboxWordArrive e t => Sys2Proof.Machine.execMailboxWordArrive e t s
  | .inpSnap e t v => Sys2Proof.Machine.execInpSnap e t v s
  | .tmrStart e t v => Sys2Proof.Machine.execTmrStart e t v s
  | .tmrStop e t v => Sys2Proof.Machine.execTmrStop e t v s
  | .timerExpiry e t => Sys2Proof.Machine.execTimerExpiry e t s
  | .mmuInvp e t v => Sys2Proof.Machine.execMmuInvp e t v s
  | .mmuInvk e t v => Sys2Proof.Machine.execMmuInvk e t v s
  | .mmuInva e t v => Sys2Proof.Machine.execMmuInva e t v s
  | .trpSet e t v => Sys2Proof.Machine.execTrpSet e t v s
  | .trpClr e t v => Sys2Proof.Machine.execTrpClr e t v s
  | .trpSetm e t v => Sys2Proof.Machine.execTrpSetm e t v s
  | .trpSetmh e t v => Sys2Proof.Machine.execTrpSetmh e t v s
  | .tripRequestArrive e => Sys2Proof.Machine.execTripRequestArrive e s
  | .wdcCheck e t v => Sys2Proof.Machine.execWdcCheck e t v s
  | .wdcServe e t v => Sys2Proof.Machine.execWdcServe e t v s
  | .svpWr e t v => Sys2Proof.Machine.execSvpWr e t v s
  | .svpWri e t v => Sys2Proof.Machine.execSvpWri e t v s
  | .svpRd e t v => Sys2Proof.Machine.execSvpRd e t v s
  | .svpRdi e t v => Sys2Proof.Machine.execSvpRdi e t v s
  | .svpFnc e t v => Sys2Proof.Machine.execSvpFnc e t v s
  | .svpTakeEffect e => Sys2Proof.Machine.execSvpTakeEffect e s
  | .entrySlot e o => Sys2Proof.Machine.execEntrySlot e o s
  | .returnGate e t o => Sys2Proof.Machine.execReturnGate e t o s
  | .engIpendClear m e k v => Sys2Proof.Machine.execEngIpendClear m e k v s
  | .engSwiSet m e => Sys2Proof.Machine.execEngSwiSet m e s
  | .engSwiClr m e => Sys2Proof.Machine.execEngSwiClr m e s
  | .engTctlGo m e t => Sys2Proof.Machine.execEngTctlGo m e t s
  | .engTctlHalt m e t => Sys2Proof.Machine.execEngTctlHalt m e t s
  | .engCfgWrite m e v => Sys2Proof.Machine.execEngCfgWrite m e v s
  | .outputVote e a b c copiesAgree => Sys2Proof.Machine.execOutputVote e a b c copiesAgree s
  | .pickClose e timed xa xb xc => Sys2Proof.Machine.execPickClose e timed xa xb xc s
  | .pickVerdict e unitsAgree => Sys2Proof.Machine.execPickVerdict e unitsAgree s
  | .bulkCopyEnd e => Sys2Proof.Machine.execBulkCopyEnd e s
  | .pauseStart e => Sys2Proof.Machine.execPauseStart e s
  | .pauseEnd e ek => Sys2Proof.Machine.execPauseEnd e ek s
  | .engHinj m e v => Sys2Proof.Machine.execEngHinj m e v s
  | .inputAgreed e inp level v => Sys2Proof.Machine.execInputAgreed e inp level v s
  | .inputAgreementTimeout e l => Sys2Proof.Machine.execInputAgreementTimeout e l s
  | .retentionEnter c b => Sys2Proof.Machine.execRetentionEnter c b s
  | .bankWake c b => Sys2Proof.Machine.execBankWake c b s
  | .retentionLoss c b => Sys2Proof.Machine.execRetentionLoss c b s
  | .weftTransferTimeout x => Sys2Proof.Machine.execWeftTransferTimeout x s
  | .busyRepresent e t o o2 => Sys2Proof.Machine.execBusyRepresent e t o o2 s
  | .cluFlexWrite m c v => Sys2Proof.Machine.execCluFlexWrite m c v s
  | .decimationIntervalEnd n fast bits f0 f1 => Sys2Proof.Machine.execDecimationIntervalEnd n fast bits f0 f1 s
  | .groupClockLost g => Sys2Proof.Machine.execGroupClockLost g s
  | .groupClockResume g => Sys2Proof.Machine.execGroupClockResume g s
  | .stuckBitstream n => Sys2Proof.Machine.execStuckBitstream n s
  | .bitstreamTransition n => Sys2Proof.Machine.execBitstreamTransition n s
  | .conversionSlotEnd adb code done => Sys2Proof.Machine.execConversionSlotEnd adb code done s
  | .bobbinWrite n second o k => Sys2Proof.Machine.execBobbinWrite n second o k s
  | .mtrClr m v => Sys2Proof.Machine.execMtrClr m v s
  | .mtrLatch m v => Sys2Proof.Machine.execMtrLatch m v s
  | .companionRead a badParity c => Sys2Proof.Machine.execCompanionRead a badParity c s
  | .companionWrite a v parity both c => Sys2Proof.Machine.execCompanionWrite a v parity both c s
  | .cack v parity => Sys2Proof.Machine.execCack v parity s
  | .fabricPinLevel p level copies => Sys2Proof.Machine.execFabricPinLevel p level copies s
  | .comparatorEvaluate n => Sys2Proof.Machine.execComparatorEvaluate n s
  | .sourceInvalidTimeout n => Sys2Proof.Machine.execSourceInvalidTimeout n s
  | .tcCfgWrite m n per v => Sys2Proof.Machine.execTcCfgWrite m n per v s
  | .tlrel m high v => Sys2Proof.Machine.execTlrel m high v s
  | .tlgWrite m n high v => Sys2Proof.Machine.execTlgWrite m n high v s
  | .copyDisagree w => Sys2Proof.Machine.execCopyDisagree w s
  | .readbackMismatch p => Sys2Proof.Machine.execReadbackMismatch p s
  | .pioCpcfgWrite m v => Sys2Proof.Machine.execPioCpcfgWrite m v s
  | .pioImdWrite m v => Sys2Proof.Machine.execPioImdWrite m v s
  | .pioGdirWrite m high v => Sys2Proof.Machine.execPioGdirWrite m high v s
  | .pioEvent p level => Sys2Proof.Machine.execPioEvent p level s
  | .configCheckScan off bad => Sys2Proof.Machine.execConfigCheckScan off bad s
  | .faultEvent src cause payload => Sys2Proof.Machine.execFaultEvent src cause payload s
  | .faultClassify src bad => Sys2Proof.Machine.execFaultClassify src bad s
  | .selfCheckScan off bad => Sys2Proof.Machine.execSelfCheckScan off bad s
  | .selEngWrite m v => Sys2Proof.Machine.execSelEngWrite m v s
  | .selLockWrite m v => Sys2Proof.Machine.execSelLockWrite m v s
  | .selCmdSafe m v => Sys2Proof.Machine.execSelCmdSafe m v s
  | .selCmdReset m v => Sys2Proof.Machine.execSelCmdReset m v s
  | .selSrel m v => Sys2Proof.Machine.execSelSrel m v s
  | .selAliveWrite m v => Sys2Proof.Machine.execSelAliveWrite m v s
  | .fclSclr m k v => Sys2Proof.Machine.execFclSclr m k v s
  | .fclConfigWrite m n k v => Sys2Proof.Machine.execFclConfigWrite m n k v s
  | .checkIn task => Sys2Proof.Machine.execCheckIn task s
  | .service e t => Sys2Proof.Machine.execService e t s
  | .wdgCommit m v => Sys2Proof.Machine.execWdgCommit m v s
  | .wdgHold m v => Sys2Proof.Machine.execWdgHold m v s
  | .wdgClockStop monitoring => Sys2Proof.Machine.execWdgClockStop monitoring s
  | .nvCommit o => Sys2Proof.Machine.execNvCommit o s
  | .recCfgWrite m v => Sys2Proof.Machine.execRecCfgWrite m v s
  | .recSwgo m v => Sys2Proof.Machine.execRecSwgo m v s
  | .recFgo m v => Sys2Proof.Machine.execRecFgo m v s
  | .recWtrig m v => Sys2Proof.Machine.execRecWtrig m v s
  | .selRconf m v => Sys2Proof.Machine.execSelRconf m v s
  | .monArm m g => Sys2Proof.Machine.execMonArm m g s
  | .monSnap m g => Sys2Proof.Machine.execMonSnap m g s
  | .gaugeValue g v => Sys2Proof.Machine.execGaugeValue g v s
  | .configRequest q => Sys2Proof.Machine.execConfigRequest q s
  | .linkLeaveL0 forD3 => Sys2Proof.Machine.execLinkLeaveL0 forD3 s
  | .sqTailDoorbell n v => Sys2Proof.Machine.execSqTailDoorbell n v s
  | .cqHeadDoorbell n v => Sys2Proof.Machine.execCqHeadDoorbell n v s
  | .bar2Write off be data => Sys2Proof.Machine.execBar2Write off be data s
  | .barBadRequest isRead a => Sys2Proof.Machine.execBarBadRequest isRead a s
  | .hostReadComplete e t o o2 => Sys2Proof.Machine.execHostReadComplete e t o o2 s
  | .create m e => Sys2Proof.Machine.execCreate m e s
  | .revoke m e => Sys2Proof.Machine.execRevoke m e s
  | .sqEnable m n => Sys2Proof.Machine.execSqEnable m n s
  | .sqDisable m n => Sys2Proof.Machine.execSqDisable m n s
  | .cqEnable m n => Sys2Proof.Machine.execCqEnable m n s
  | .cqDisable m n => Sys2Proof.Machine.execCqDisable m n s
  | .sqctlUnq m n => Sys2Proof.Machine.execSqctlUnq m n s
  | .descriptorFetch n r => Sys2Proof.Machine.execDescriptorFetch n r s
  | .copyIn n data stop => Sys2Proof.Machine.execCopyIn n data stop s
  | .copyOut n stop => Sys2Proof.Machine.execCopyOut n stop s
  | .msg n => Sys2Proof.Machine.execMsg n s
  | .mailboxRetry n => Sys2Proof.Machine.execMailboxRetry n s
  | .gaugeRead n => Sys2Proof.Machine.execGaugeRead n s
  | .recRead n stop => Sys2Proof.Machine.execRecRead n stop s
  | .recClear n => Sys2Proof.Machine.execRecClear n s
  | .loadProgram n data stop => Sys2Proof.Machine.execLoadProgram n data stop s
  | .fence n => Sys2Proof.Machine.execFence n s
  | .completionWrite n => Sys2Proof.Machine.execCompletionWrite n s
  | .cqTimerExpiry n => Sys2Proof.Machine.execCqTimerExpiry n s
  | .syncAcquire p => Sys2Proof.Machine.execSyncAcquire p s
  | .syncLoss p => Sys2Proof.Machine.execSyncLoss p s
  | .tripAdv p c1 c2 c3 => Sys2Proof.Machine.execTripAdv p c1 c2 c3 s
  | .tripCfm p c1 c2 c3 => Sys2Proof.Machine.execTripCfm p c1 c2 c3 s
  | .tripCxl p c1 c2 c3 => Sys2Proof.Machine.execTripCxl p c1 c2 c3 s
  | .confirmRepeat n => Sys2Proof.Machine.execConfirmRepeat n s
  | .armLapse k => Sys2Proof.Machine.execArmLapse k s
  | .chainHoldExpiry n => Sys2Proof.Machine.execChainHoldExpiry n s
  | .budget p f => Sys2Proof.Machine.execBudget p f s
  | .epoch p f => Sys2Proof.Machine.execEpoch p f s
  | .mail p f => Sys2Proof.Machine.execMail p f s
  | .ack p lseq crc => Sys2Proof.Machine.execAck p lseq crc s
  | .ackTimeout p => Sys2Proof.Machine.execAckTimeout p s
  | .jsnTxctl m v => Sys2Proof.Machine.execJsnTxctl m v s
  | .devGo m v => Sys2Proof.Machine.execDevGo m v s
  | .devMctlPrecise m on => Sys2Proof.Machine.execDevMctlPrecise m on s
  | .devMctlDoze m on => Sys2Proof.Machine.execDevMctlDoze m on s
  | .devMctlDzmask m v => Sys2Proof.Machine.execDevMctlDzmask m v s
  | .clusterGate c => Sys2Proof.Machine.execClusterGate c s
  | .clusterWake c => Sys2Proof.Machine.execClusterWake c s
  | .modSeal m => Sys2Proof.Machine.execModSeal m s
  | .modUnseal m => Sys2Proof.Machine.execModUnseal m s
  | .modSolo m on => Sys2Proof.Machine.execModSolo m on s
  | .coldReset testEn => Sys2Proof.Machine.execColdReset testEn s
  | .resetEnd straps => Sys2Proof.Machine.execResetEnd straps s
  | .powerUpEnd vkeepLost => Sys2Proof.Machine.execPowerUpEnd vkeepLost s
  | .thermalConversion r0 r1 => Sys2Proof.Machine.execThermalConversion r0 r1 s
  | .overTemperature aboveMax => Sys2Proof.Machine.execOverTemperature aboveMax s
  | .clockLost k => Sys2Proof.Machine.execClockLost k s
  | .clockOutOfRange k => Sys2Proof.Machine.execClockOutOfRange k s
  | .supplyBelowGood r => Sys2Proof.Machine.execSupplyBelowGood r s
  | .supplyAboveLimit r => Sys2Proof.Machine.execSupplyAboveLimit r s
  | .qspiLoad image outcome => Sys2Proof.Machine.execQspiLoad image outcome s
  | .hostLoad image outcome => Sys2Proof.Machine.execHostLoad image outcome s
  | .bootFrame off head data outcome => Sys2Proof.Machine.execBootFrame off head data outcome s
  | .monitorA a v x => Sys2Proof.Machine.execMonitorA a v x s
  | .monitorE a n x => Sys2Proof.Machine.execMonitorE a n x s
  | .monitorF a n v x => Sys2Proof.Machine.execMonitorF a n v x s
  | .monitorC a b n x => Sys2Proof.Machine.execMonitorC a b n x s
  | .monitorM a b n x => Sys2Proof.Machine.execMonitorM a b n x s
  | .monitorS a n v m x => Sys2Proof.Machine.execMonitorS a n v m x s
  | .monitorI a x => Sys2Proof.Machine.execMonitorI a x s
  | .monitorO a v x => Sys2Proof.Machine.execMonitorO a v x s
  | .monitorGThread e t b x => Sys2Proof.Machine.execMonitorGThread e t b x s
  | .monitorH e t x => Sys2Proof.Machine.execMonitorH e t x s
  | .monitorL e x => Sys2Proof.Machine.execMonitorL e x s
  | .monitorT e t x => Sys2Proof.Machine.execMonitorT e t x s
  | .monitorV q n x => Sys2Proof.Machine.execMonitorV q n x s
  | .monitorX g snap x => Sys2Proof.Machine.execMonitorX g snap x s
  | .monitorW o n a back x => Sys2Proof.Machine.execMonitorW o n a back x s
  | .monitorQ src image outcome => Sys2Proof.Machine.execMonitorQ src image outcome s
  | .registerWrite m a v => Sys2Proof.Machine.execRegisterWrite m a v s
  | .linkEnterL0 spd wid => Sys2Proof.Machine.execLinkEnterL0 spd wid s
  | .linkErrorRecorded uncorrectable => Sys2Proof.Machine.execLinkErrorRecorded uncorrectable s
  | .completionTimeout x => Sys2Proof.Machine.execCompletionTimeout x s
  | .msixVectorUnmask k d v => Sys2Proof.Machine.execMsixVectorUnmask k d v s
  | .msgSndComplete e t => Sys2Proof.Machine.execMsgSndComplete e t s
  | .clockReturn k => Sys2Proof.Machine.execClockReturn k s
  | .supplyReturn r => Sys2Proof.Machine.execSupplyReturn r s
  | .collectorStateMismatch src => Sys2Proof.Machine.execCollectorStateMismatch src s
  | .meterGapMs => Sys2Proof.Machine.execMeterGapMs s
  | .snapshot o => Sys2Proof.Machine.execSnapshot s o
  | .kdHalfPeriod => Sys2Proof.Machine.execKdHalfPeriod s
  | .safePairHalfPeriod => Sys2Proof.Machine.execSafePairHalfPeriod s
  | .estopDiscrepancy => Sys2Proof.Machine.execEstopDiscrepancy s
  | .lockHoldEnd => Sys2Proof.Machine.execLockHoldEnd s
  | .lockFault hold => Sys2Proof.Machine.execLockFault hold s
  | .cpPwmPeriod => Sys2Proof.Machine.execCpPwmPeriod s
  | .pilotStale => Sys2Proof.Machine.execPilotStale s
  | .imdInjToggle => Sys2Proof.Machine.execImdInjToggle s
  | .aliveHalfPeriod => Sys2Proof.Machine.execAliveHalfPeriod s
  | .wdgPeriodExpiry => Sys2Proof.Machine.execWdgPeriodExpiry s
  | .wdgGraceExpiry => Sys2Proof.Machine.execWdgGraceExpiry s
  | .recordWrite => Sys2Proof.Machine.execRecordWrite s
  | .nvRetry => Sys2Proof.Machine.execNvRetry s
  | .fetchComplete => Sys2Proof.Machine.execFetchComplete s
  | .waveformCapture o k => Sys2Proof.Machine.execWaveformCapture o k s
  | .clearLapse => Sys2Proof.Machine.execClearLapse s
  | .nvEraseComplete => Sys2Proof.Machine.execNvEraseComplete s
  | .opsIncrement => Sys2Proof.Machine.execOpsIncrement s
  | .perstAssert => Sys2Proof.Machine.execPerstAssert s
  | .perstDeassert => Sys2Proof.Machine.execPerstDeassert s
  | .dedupeExpiry => Sys2Proof.Machine.execDedupeExpiry s
  | .warmReset => Sys2Proof.Machine.execWarmReset s
  | .testAccessReset xs => Sys2Proof.Machine.execTestAccessReset s xs
  | .watchdogReset => Sys2Proof.Machine.execWatchdogReset s
  | .collectorReset => Sys2Proof.Machine.execCollectorReset s
  | .commandedReset => Sys2Proof.Machine.execCommandedReset s
  | .governorStepDown => Sys2Proof.Machine.execGovernorStepDown s
  | .governorStepUp => Sys2Proof.Machine.execGovernorStepUp s
  | .sensorDisagree => Sys2Proof.Machine.execSensorDisagree s
  | .bootStart => Sys2Proof.Machine.execBootStart s
  | .setupRecord => Sys2Proof.Machine.execSetupRecord s
  | .monitorG x => Sys2Proof.Machine.execMonitorG x s
  | .monitorK x => Sys2Proof.Machine.execMonitorK x s
  | .bootSourceStall => Sys2Proof.Machine.execBootSourceStall s

end Sys2Proof.Machine
end

