-- ==== Sys2Proof/Machine/Tick.lean ====
section
/-! DEFINITION. One fabric clock with no command waiting: the counters that run whatever is commanded (R9, R94, R95, R157, R296, R342,
R361, R456, R490; notes/assumptions/6). -/

namespace Sys2Proof.Machine

/-- One fabric clock of a thread timer (R94, R95): a decrement when its prescaled tick ends; when the count reaches 0 an expiry is due, and
a periodic timer reloads and runs on in the same phase, while any other stands still. -/
def TmrState.clock (x : TmrState) : TmrState :=
  let per := x.cfgNow.getLsbD 2
  if !x.run || (decide (x.due ≠ 0) && !per) then x
  else if 1 < x.pre then { x with pre := x.pre - 1 }
  else
    let c : DWord := if x.count = 0 then 0 else x.count - 1
    { x with count := if c = 0 && per then x.reload else c, pre := tickLen x.cfgNow, due := if c = 0 then x.due + 1 else x.due }

/-- VCO cycles of one engine clock (R489, R490). -/
def engineDiv (step : BitVec 2) : Nat :=
  match step.toNat with
  | 0 => 4
  | 1 => 5
  | 2 => 6
  | _ => 8

/-- VCO cycles left of the running engine clock, which a step does not change (R490). -/
def Clk.rest (k : Clk) : Nat := k.len - k.vco

/-- Engine clocks that begin in the fabric clock (R489): the VCO makes eight cycles. -/
def Clk.engineClocks (k : Clk) : Nat := if 8 < k.rest then 0 else 1 + (8 - k.rest) / engineDiv k.step

/-- The next engine clock to begin has the divider of the step (R490). -/
def Clk.clock (k : Clk) : Clk :=
  if 8 < k.rest then { k with vco := k.vco + 8 } else { k with vco := (8 - k.rest) % engineDiv k.step, len := engineDiv k.step }

/-- One fabric clock of an engine: its timers, its own clocks unless it is paused or its cluster gated, and the gated ones of a pause
(R94, R157, R164, R456); the lines set in the clock before are set no longer in this one (R11). The timers run on the tick that the lane
has released (R148). -/
def EngineCore.clock (x : EngineCore) (n : Nat) : EngineCore :=
  { x with threads := if x.tickOff then x.threads else vmap (fun _ (y : Thread) => { y with tmr := y.tmr.clock }) x.threads, free := x.free + n, ipendNow := 0 }

/-- The lanes' own copies follow, but for those that stand still (R135, R156). -/
def Engine.clock (x : Engine) (n : Nat) : Engine :=
  { x with
    toEngineCore := x.toEngineCore.clock n
    stray := vmap (fun i o => if ((laneList[i]?).map x.heddle.commits?).getD false then o.map fun (y : EngineCore) => y.clock n else o) x.stray }

/-- Engine clocks of an engine in this fabric clock. -/
def State.clocksOf (s : State) (e : Nat) : Nat :=
  let gated := ((s.clusters.toList[e / 8]?).map Cluster.gated).getD false
  let paused := ((s.engines.toList[e]?).map fun (x : Engine) => decide (x.heddle.phase = .paused)).getD false
  if s.inRun && !gated && !paused then s.clk.engineClocks else 0

/-- The copies of the trip fabric evaluate in every fabric clock, but for those of POWER-UP and of a reset (R274, R281): so a hold-back of
chain signals that has ended lets a pending advance out (R434). -/
def State.fabricClock (s : State) : State := if s.up then s.fabric else s

/-- One fabric clock: the services that have arrived in it are judged (R345), and the counters step. -/
def State.tick (s : State) : State :=
  if !s.clk.fabOk then s
  else
    let s := s.serveDue
    let t := { s with
      fk := s.fk + 1, clk := s.clk.clock, engines := vmap (fun e (x : Engine) => x.clock (s.clocksOf e)) s.engines
      clusters := vmap (fun _ (x : Cluster) => { x with rlostNow := 0 }) s.clusters
      chans := vmap (fun _ (x : Channel) => { x with berrNow := false }) s.chans
      col := s.col.clock
      dev := { s.dev with safeNow := false }
      mtr := { s.mtr with intNow := false, act := false, busyLow := false, reading := false } }
    t.wdgClock.pilotTick.subClock.fabricClock

end Sys2Proof.Machine
end

