-- ==== Sys2Proof/Machine/Package.lean ====
section
/-! DEFINITION. What the device is outside its logic, as data (R489 to R498, R509, R510, R517 to R522, R526, R527): clocks and their
monitors, supplies, domain crossings, the package, its balls and their pulls. -/

namespace Sys2Proof.Machine

/-! ### Clocks (R489, R492) -/

/-- Frequencies in Hz (R489). -/
def referenceHz : Nat := 25000000
def vcoHz : Nat := referenceHz * 96
def engineHz (div : Nat) : Nat := vcoHz / div
def fabricHz : Nat := vcoHz / 8
/-- Ratio 9.8304. -/
def synthesiserHz : Nat := referenceHz * 98304 / 10000
def watchdogHz : Nat := fabricHz / 300
def rcHz : Nat := 4000000
def crystalHz : Nat := 32768
def refclkHz : Nat := 100000000
/-- Symbol rate of a Jarsyn port. -/
def jarsynHz : Nat := 625000000
/-- The boot flash's clock by QDIV (R509), and the recorder SPI's highest rate (R510). -/
def qspiHz (qdiv : Nat) : Nat := fabricHz / (2 * (qdiv + 1))
def recorderSpiMaxHz : Nat := 25000000

/-- What a clock monitor compares with, and its limits (R492): no edge for `lostNs` (for the PLL, its lock detector), and a deviation above
`percent`. -/
structure ClockMonitor where
  clock : ClockName
  against : String
  lostNs : Option Nat
  percent : Nat
deriving DecidableEq, Repr

def clockMonitors : List ClockMonitor := [
  ⟨.reference, "RC oscillator", some 1000, 10⟩,
  ⟨.pll, "reference", none, 1⟩,
  ⟨.fabric, "RC oscillator", some 1000, 10⟩,
  ⟨.rc, "reference", some 2000, 10⟩,
  ⟨.khz32, "fabric clock", some 100000, 1⟩,
  ⟨.refclk, "fabric clock", some 1000, 1⟩]

/-- A crossing between clock domains (R494): from, to, and its longest latency in periods of the receiving clock, where the rule gives
one. -/
structure Crossing where
  src : String
  dst : String
  most : Option Nat
deriving DecidableEq, Repr

def crossings : List Crossing := [
  ⟨"engine core", "fabric", some 2⟩,
  ⟨"fabric", "engine core", some 3⟩,
  ⟨"engine requests", "trip fabric, watchdog, collector", some 3⟩,
  ⟨"on-chip event lines", "engine", none⟩,
  ⟨"input pins", "engines", none⟩,
  ⟨"input pins", "trip fabric", none⟩,
  ⟨"modulator group", "fabric", some 3⟩,
  ⟨"companion controls", "fabric", some 3⟩,
  ⟨"fabric", "companion BUSY_N, INT_N", some 1⟩,
  ⟨"PCIe core", "fabric", some 4⟩,
  ⟨"fabric", "PCIe core", some 4⟩,
  ⟨"Jarsyn receiver", "fabric", some 3⟩,
  ⟨"fabric", "Jarsyn transmitter", some 3⟩,
  ⟨"selected watchdog clock", "watchdog logic", some 3⟩,
  ⟨"32.768 kHz counters", "fabric", some 3⟩]

/-! ### Supplies (R498) -/

/-- A monitored rail: its operating range, good level and limit in units of 0.1 mV; VIO_B at 1.8 V, and at 3.3 V. -/
structure RailLimits where
  rail : Rail
  least : Nat
  most : Nat
  good : Nat
  limit : Nat
deriving DecidableEq, Repr

def rails : List RailLimits := [
  ⟨.vcore, 7760, 8240, 7500, 8600⟩,
  ⟨.vioA, 31350, 34650, 29500, 37000⟩,
  ⟨.vioB, 17100, 18900, 16000, 37000⟩,
  ⟨.vioB, 31350, 34650, 29500, 37000⟩,
  ⟨.vdda, 17100, 18900, 16000, 20000⟩,
  ⟨.vkeep, 18000, 36000, 17000, 38000⟩,
  ⟨.vddSds, 8245, 8755, 7900, 9200⟩]

/-! ### The package (R517, R518) -/

/-- Sizes in µm, the floor life in hours and the peak reflow in °C. -/
structure Outline where
  body : Nat := 23000
  bodyTol : Nat := 100
  pitch : Nat := 1000
  outer : Nat := 21000
  ball : Nat := 600
  standoffLeast : Nat := 400
  standoffMost : Nat := 500
  height : Nat := 2950
  coplanarity : Nat := 200
  massMg : Nat := 2600
  msl : Nat := 3
  reflowC : Nat := 260
  floorLifeH : Nat := 168
deriving DecidableEq, Repr

/-- Row letters in order: row A is number 1, row AC number 22 (R518). -/
def rowLetters : List String :=
  ["A", "B", "C", "D", "E", "F", "G", "H", "J", "K", "L", "M", "N", "P", "T", "U", "V", "W", "Y", "AA", "AB", "AC"]

/-! ### Balls (R519, R521, R522) -/

/-- The ball map (R519): row A first, column 1 first. -/
def ballRowsUpper : List (List String) := [
  ["VSS", "SD_D0", "SD_D1", "SD_D2", "SD_D3", "SD_C0", "VSS", "SD_D4", "SD_D5", "SD_D6", "SD_D7", "SD_C1", "VSS", "SD_D8",
   "SD_D9", "SD_D10", "SD_D11", "SD_C2", "VSS", "SD_D12", "SD_D13", "VSS"],
  ["SD_D14", "SD_D15", "SD_C3", "VSS", "SD_D16", "SD_D17", "SD_D18", "SD_D19", "SD_C4", "VSS", "SD_D20", "SD_D21", "SD_D22",
   "SD_D23", "SD_C5", "VSS", "SD_D24", "SD_D25", "SD_D26", "SD_D27", "SD_C6", "VSS"],
  ["SD_D28", "SD_D29", "SD_D30", "SD_D31", "SD_C7", "VSS", "SD_D32", "SD_D33", "SD_D34", "SD_D35", "SD_C8", "VSS", "SD_D36",
   "SD_D37", "SD_D38", "SD_D39", "SD_C9", "VSS", "SD_D40", "SD_D41", "SD_D42", "SD_D43"],
  ["SD_D44", "SD_D45", "SD_D46", "SD_D47", "SD_C11", "VSS", "VIO_A", "VSS", "VIO_A", "VSS", "VDDA", "VSSA", "VREF_ADC", "VSSA",
   "VDDA", "VSS", "THERM_P", "THERM_N", "VSS", "VIO_A", "VSS", "SD_C10"],
  ["AIN0", "AIN1", "AIN2", "AIN3", "VSS", "AIN4", "AIN5", "AIN6", "AIN7", "VSS", "AIN8", "AIN9", "AIN10", "AIN11", "VSS",
   "AIN12", "AIN13", "AIN14", "AIN15", "VSS", "VIO_A", "VSS"],
  ["GPIO0", "GPIO1", "GPIO2", "GPIO3", "VSS", "GPIO4", "GPIO5", "GPIO6", "GPIO7", "VIO_A", "GPIO8", "GPIO9", "GPIO10",
   "GPIO11", "VSS", "GPIO12", "GPIO13", "GPIO14", "GPIO15", "VSS", "GPIO16", "GPIO17"],
  ["GD0", "GD1", "GD2", "GD3", "VSS", "VSS", "VCORE", "VSS", "VCORE", "VSS", "VCORE", "VSS", "VCORE", "VSS", "VCORE", "VSS",
   "VCORE", "CMP_A0", "CMP_A1", "CMP_A2", "CMP_A3", "VIO_C"],
  ["GD4", "GD5", "GD6", "GD7", "VIO_A", "VCORE", "VSS", "VCORE", "VSS", "VCORE", "VSS", "VCORE", "VSS", "VCORE", "VSS",
   "VCORE", "VSS", "CMP_A4", "CMP_A5", "CMP_A6", "CMP_A7", "VSS"],
  ["GD8", "GD9", "GD10", "GD11", "VSS", "VSS", "VCORE", "VSS", "VCORE", "VSS", "VCORE", "VSS", "VCORE", "VSS", "VCORE", "VSS",
   "VCORE", "CMP_A8", "CMP_A9", "CMP_A10", "CMP_A11", "VSS"],
  ["GD12", "GD13", "GD14", "GD15", "VIO_A", "VCORE", "VSS", "VCORE", "VSS", "VCORE", "VSS", "VCORE", "VSS", "VCORE", "VSS",
   "VCORE", "VSS", "CMP_A12", "CE_N", "OE_N", "WE_N", "VIO_C"],
  ["KD0", "KD1", "KD2", "KD3", "VSS", "VSS", "VCORE", "VSS", "VCORE", "VSS", "VCORE", "VSS", "VCORE", "VSS", "VCORE", "VSS",
   "VCORE", "BUSY_N", "INT_N", "CMP_DP", "VSS", "VIO_C"]]
def ballRowsLower : List (List String) := [
  ["SAFE_A", "SAFE_B", "ALIVE", "LOCKUP_N", "XTRIP0", "VCORE", "VSS", "VCORE", "VSS", "VCORE", "VSS", "VCORE", "VSS", "VCORE",
   "VSS", "VCORE", "VSS", "CMP_D0", "CMP_D1", "CMP_D2", "VSS", "VSS"],
  ["XTRIP1", "XTRIP2", "XTRIP3", "XTRIP4", "XTRIP5", "VSS", "VCORE", "VSS", "VCORE", "VSS", "VCORE", "VSS", "VCORE", "VSS",
   "VCORE", "VSS", "VCORE", "CMP_D3", "CMP_D4", "CMP_D5", "VSS", "VIO_C"],
  ["XTRIP6", "XTRIP7", "ESTOP_A", "ESTOP_B", "VIO_A", "VCORE", "VSS", "VCORE", "VSS", "VCORE", "VSS", "VCORE", "VSS", "VCORE",
   "VSS", "VCORE", "VSS", "CMP_D6", "CMP_D7", "CMP_D8", "VSS", "VSS"],
  ["LOCK_EN_A", "LOCK_EN_B", "LOCK_FB0", "LOCK_FB1", "CP_PWM", "VSS", "VCORE", "VSS", "VCORE", "VSS", "VCORE", "VSS", "VCORE",
   "VSS", "VCORE", "VSS", "VCORE", "CMP_D9", "CMP_D10", "CMP_D11", "VSS", "VIO_C"],
  ["IMD_INJ", "BTN0", "BTN1", "DOOR_A", "DOOR_B", "VCORE", "VSS", "VCORE", "VSS", "VCORE", "VSS", "VCORE", "VSS", "VCORE",
   "VSS", "VCORE", "VSS", "VSS", "VSS", "VSS", "VSS", "VIO_C"],
  ["GPIO18", "GPIO19", "GPIO20", "VSS", "GPIO21", "GPIO22", "GPIO23", "VDD_SDS", "VDDH_SDS", "VDD_SDS", "VSS", "VDD_SDS",
   "VSS", "VDD_SDS", "VDDH_SDS", "VDD_SDS", "QSPI_CLK", "QSPI_CS_N", "QSPI_D0", "QSPI_D1", "QSPI_D2", "QSPI_D3"],
  ["SEAL_OPEN_N", "VIO_A", "PERST_N", "WAKE_N", "CLKREQ_N", "VIO_A", "VSS", "VSS_SDS", "VDD_SDS", "VSS_SDS", "VDDH_SDS",
   "VSS_SDS", "VDDH_SDS", "VSS_SDS", "VDD_SDS", "VSS_SDS", "VIO_B", "REC_CLK", "REC_CS_N", "REC_MOSI", "REC_MISO", "VIO_B"],
  ["VSS", "VIO_A", "DNC", "DNC", "VSS", "VIO_A", "VSS", "PE_RX0P", "PE_RX0N", "VSS_SDS", "PE_RX1P", "PE_RX1N", "VSS_SDS",
   "J0_RXP", "J0_RXN", "VSS_SDS", "DBG_TXD", "DBG_RXD", "VIO_B", "VSS", "TCK", "TMS"],
  ["XIN", "VSS_PLL", "VDD_PLL", "DNC", "VSS", "VKEEP", "RTC32_IN", "PE_TX0P", "PE_TX0N", "VDD_SDS", "PE_TX1P", "PE_TX1N",
   "VDD_SDS", "J0_TXP", "J0_TXN", "VDDH_SDS", "TDI", "TDO", "TRST_N", "VIO_B", "POR_N", "RST_N"],
  ["XOUT", "VSS_PLL", "VDD_PLL", "DNC", "VSS", "VKEEP", "RTC32_OUT", "REFCLK_P", "REFCLK_N", "VSS_SDS", "J1_RXP", "J1_RXN",
   "VSS_SDS", "J2_RXP", "J2_RXN", "VSS", "NMI_N", "VIO_B", "BOOT0", "BOOT1", "BOOT2", "VIO_B"],
  ["VSS", "DNC", "DNC", "DNC", "VSS", "VSS", "VSS", "VSS", "VDDH_SDS", "J1_TXP", "J1_TXN", "VSS_SDS", "J2_TXP", "J2_TXN",
   "VSS_SDS", "VDD_SDS", "VIO_B", "DEVELOP", "TEST_EN", "VSS", "VIO_B", "VSS"]]
def ballMap : List (List String) := ballRowsUpper ++ ballRowsLower

/-- The signal or supply of the ball at a row number and a column, both from 1. -/
def ballAt (row col : Nat) : Option String :=
  if row = 0 || col = 0 then none else (ballMap[row - 1]?).bind fun r => r[col - 1]?

/-- How many balls carry a name. -/
def ballCount (name : String) : Nat := (ballMap.map fun r => (r.filter fun x => x = name).length).sum

/-- The block in the middle, where VCORE and VSS alternate (R522). -/
def coreBall (row col : Nat) : Option String :=
  if rng row 7 16 && rng col 6 17 then some (if (row + col) % 2 = 0 then "VCORE" else "VSS") else none

/-- How many balls each supply, ground or reserved group has (R522). -/
def supplyCounts : List (String × Nat) := [
  ("VCORE", 60), ("VSS", 120), ("VSS_SDS", 12), ("VDD_SDS", 10), ("VDDH_SDS", 6), ("VIO_A", 12), ("VIO_B", 8), ("VIO_C", 6),
  ("VDDA", 2), ("VSSA", 2), ("VREF_ADC", 1), ("VDD_PLL", 2), ("VSS_PLL", 2), ("VKEEP", 2), ("DNC", 7)]

/-- Balls with an internal pull, to their bank's supply and to ground; no other ball has one (R521). -/
def pullUps : List String := ["TMS", "TDI", "DBG_RXD"]
def pullDowns : List String := ["TRST_N", "BOOT0", "BOOT1", "BOOT2", "DEVELOP", "TEST_EN"]

/-- The level an undriven ball takes from its pull. -/
def pulledTo (name : String) : Level :=
  if pullUps.contains name then .high else if pullDowns.contains name then .low else .z

/-! ### Ordering and marking (R526, R527) -/

def partNumber (sample : Bool) : String := if sample then "TVN-6412-FB-E-ES" else "TVN-6412-FB-E"

/-- The four lines on the lid; `week` is the year and week of assembly, `lot` its eight characters. -/
def lidLines (sample : Bool) (week lot : String) : List String :=
  ["DALCEL TORVION", if sample then "TVN-6412-FB-E-ES" else "TVN-6412-FB-E", "B0 " ++ week, lot]

end Sys2Proof.Machine
end

