-- ==== Sys2Proof/Safety.lean ====
section
/-! DEFINITION. What the statements rest on: the canonical form of the three sparse memories, the lock that RUN implies, when a
thread's trigger is accepted, and when a master's register write is. -/

namespace Sys2Proof.Machine

/-- The stored registers are in canonical form over their reset values. -/
def State.regsCanonical (s : State) : Bool := Cells.wf regReset s.regs

/-- The data words, the program words and the list of words that are wrong are in canonical form over what an unlisted word reads as, and
lie
inside the address spaces: 2^24 words of the device map (R170) and 8 clusters of 2^17 program words (R36). -/
def State.memCanonical (s : State) : Bool :=
  Cells.wf s.memDefault s.mem && Cells.wf s.progDefault s.prog && s.mem.all (fun p => decide (p.1 < 0x1000000)) &&
    s.prog.all (fun p => decide (p.1 < 0x100000)) && Cells.wf (fun _ => 0) s.upset && s.upset.all fun p => decide (p.1 < 0x1100000)

/-- In RUN the selvedge is locked (R313, R451). -/
def State.runLocked (s : State) : Bool := !s.inRun || s.selLocked

/-- The lanes of an engine agree: none holds a state of its own (R135). -/
def Engine.together (x : Engine) : Bool := !x.apart .a && !x.apart .b && !x.apart .c
def State.together (s : State) (e : Eng) : Bool := (s.eng e).together

/-- The engine whose lanes run a command each on its own state, with nothing shared but the clocks (R135): triggers and pops of the unit
ports but those that read memory, moves, the selection, and the operations that complete inside a lane. -/
def laneEng : Instr → Option Eng
  | .move e none | .idleSelect e | .apxComplete e _ => some e
  | .nop e _ | .fenceComplete e _ | .timerExpiry e _ | .blkEnd e _ | .msgQ e _ => some e
  | .macComplete e _ _ => some e
  | .blkMove e _ _ | .blkFill e _ _ | .blkCmp e _ _ | .blkScan e _ _ => some e
  | .aluAdd e _ _ | .aluAdc e _ _ | .aluSub e _ _ | .aluSbc e _ _ | .aluAnd e _ _ | .aluOr e _ _ | .aluXor e _ _
  | .aluShl e _ _ | .aluShr e _ _ | .aluSar e _ _ | .aluCmp e _ _ | .mulGo e _ _ | .macMac e _ _ | .macMsu e _ _
  | .macMul e _ _ | .macClr e _ _ | .macShr e _ _ | .apxRcp e _ _ | .apxSq e _ _ | .apxL2 e _ _ | .apxDiv e _ _
  | .lsuLdpi e _ _ | .lsuLd1pi e _ _ | .lsuStpd e _ _ | .lsuSt1pd e _ _ | .lsuLdx e _ _ | .lsuStx e _ _ | .lsuLdb e _ _
  | .lsuStb e _ _ | .lsuFnc e _ _ | .pcuJmp e _ _ | .pcuJal e _ _ | .pcuRet e _ _ | .pcuJnz e _ _ | .pcuTm e _ _ | .pcuKr e _ _
  | .icuInv e _ _ | .icuPin e _ _ | .icuSync e _ _ | .smpOpen e _ _ | .smpSkip e _ _ | .msgSnd e _ _ | .msgFlush e _ _
  | .inpSnap e _ _ | .tmrStart e _ _ | .tmrStop e _ _ | .mmuInvp e _ _ | .mmuInvk e _ _ | .mmuInva e _ _ | .trpSet e _ _
  | .trpClr e _ _ | .trpSetm e _ _ | .trpSetmh e _ _ | .wdcCheck e _ _ | .wdcServe e _ _ | .svpWr e _ _ | .svpWri e _ _
  | .svpRd e _ _ | .svpRdi e _ _ | .svpFnc e _ _ => some e
  | _ => none

/-- The trigger at destination `d` with value `v` is accepted from the thread now, in lanes that agree, with no event to be entered before
it, and
no deferred fault is taken by it (R28, R35, R45, R46, R66, R80, R106, R135). -/
def State.accepts (s : State) (e : Eng) (t : Thr) (d : Nat) (v : Word) : Bool :=
  s.together e && s.mayMove e t && (s.dstFaultOf e (s.force e t) d v).isNone && s.dstReady e t d v && ((s.thr e t).dstFault d v).isNone

/-- The master may write the register at word address `a` now, no isolation stands between, and the register is no read-only one (R10,
R326, R449). -/
def State.canWrite (s : State) (m : Master) (a : Nat) : Bool :=
  s.live m && !s.cutOff m (BitVec.ofNat 24 a) &&
    match regInfo a with
    | some r => s.accOk m a r && decide (r.acc ≠ .ro)
    | none => false

/-- The state after the accepted write of a stored register: a gated cluster of an ENG or CLU register runs again (R457), and an
SVP's ERR is clear (R101). -/
def State.wrote (s : State) (m : Master) (a : Nat) (v : Word) : State := ((s.wakeFor a).setReg a v).acceptedAt m

end Sys2Proof.Machine
end

