-- ==== Sys2Proof/Certificates/Slice0/Obligations.lean ====
section
/-! DEFINITION. The statements about this model, each a proposition. A clause that ends in `exec c s = .next …` says that the command
completes and what its next state is, all of it: every register, flag, memory word and queue that the right side does not change is
as it was. -/

open Sys2Proof Sys2Proof.Machine

/-! ### The step -/

/-- The command at the front of the queue runs with the queue's rest; nothing else does. -/
def Obligations.StepRunsTheFrontCommand : Prop :=
  ∀ (c : Instr) (rest : List Instr) (s : State),
    step { s with pending := c :: rest } = exec c { s with pending := rest }

/-- On an empty queue a step is one fabric clock of the counters that run whatever is commanded: the model's choice
(notes/assumptions/6). The VCO makes the eight cycles of a fabric clock: an engine clock that runs ends its own length, and those that
begin have the divider of the governor's step, 4, 5, 6 or 8 (R489, R490); an engine in RUN that is neither gated nor paused counts them
(R94). A thread timer whose lane has the tick released decrements as R95 says: at 0 an expiry is due, a periodic one reloads and runs on
in its phase, and any other stands still until the expiry has been taken (the model's reading, notes/assumptions/50). -/
def Obligations.IdleStepIsOneFabricClock : Prop :=
  ∀ (s : State), s.pending = [] → s.clk.fabOk = true →
    let k := s.clk
    let div := if k.step = 0 then 4 else if k.step = 1 then 5 else if k.step = 2 then 6 else 8
    let rest := k.len - k.vco
    let begun := if 8 < rest then 0 else 1 + (8 - rest) / div
    ∃ u, step s = .next u ∧ u.fk = s.fk + 1 ∧ u.pending = [] ∧
      u.clk = (if 8 < rest then { k with vco := k.vco + 8 } else { k with vco := (8 - rest) % div, len := div }) ∧
      (∀ e : Eng, (u.eng e).free = (s.eng e).free +
        (if s.dev.phase = .run ∧ (s.clu e.cluster).gated = false ∧ (s.eng e).heddle.phase ≠ .paused then begun else 0)) ∧
      ∀ (e : Eng) (t : Thr),
        let x := (s.thr e t).tmr
        let per := x.cfgNow.getLsbD 2
        let c := if x.count = 0 then 0 else x.count - 1
        (u.thr e t).tmr =
          (if (s.eng e).tickOff = true ∨ x.run = false ∨ (x.due ≠ 0 ∧ per = false) then x
           else if 1 < x.pre then { x with pre := x.pre - 1 }
           else { x with count := if c = 0 ∧ per = true then x.reload else c, pre := tickLen x.cfgNow,
                         due := if c = 0 then x.due + 1 else x.due })

/-- Every command of the table ends in a next state: none faults, none is refused. -/
def Claims.EveryCommandEndsInANextState : Prop :=
  ∀ (c : Instr) (s : State), ∃ u, exec c s = .next u

/-- No command touches the queue of commands that wait behind it. -/
def Claims.CommandsLeaveTheQueue : Prop :=
  ∀ (c : Instr) (s u : State), exec c s = .next u → u.pending = s.pending

/-! ### Reset and invariants -/

/-- What the first cold reset leaves (R448, R453, R467): BOOT with SAFE set, every stored register at its reset value, every thread
halted, every output at its safe level, the pilot and the lock hold among them, the queue empty. -/
def Claims.ResetIsAsTheSpecSays : Prop :=
  State.reset.pending = [] ∧ State.reset.dev.phase = .boot ∧ State.reset.dev.safe = true ∧
    (∀ a, State.reset.reg a = regReset a) ∧
    (∀ e t, (State.reset.thr e t).run = .halted ∧ (State.reset.thr e t).tm = 0x800) ∧
    (∀ j, j < 23 → State.reset.outAtSafe j = true) ∧
    State.reset.readReg (devBase + 0) = 0x2B0 ∧ State.reset.readReg (devBase + 1) = 0x641

/-- The register file, the data memory and the program memory of the reset state are in canonical form, and RUN's lock holds. -/
def Claims.ResetMeetsTheInvariants : Prop :=
  State.reset.regsCanonical = true ∧ State.reset.memCanonical = true ∧ State.reset.runLocked = true

/-- Every step keeps the register file in canonical form: keys rise strictly and no word equal to its reset value is listed. -/
def Obligations.StepKeepsRegistersCanonical : Prop :=
  ∀ (s u : State), s.regsCanonical = true → step s = .next u → u.regsCanonical = true

/-- Every step keeps the data memory and the program memory in canonical form over what unlisted words read as, losses of a bank's
contents and entries to RUN among them. -/
def Obligations.StepKeepsMemoryCanonical : Prop :=
  ∀ (s u : State), s.memCanonical = true → step s = .next u → u.memCanonical = true

/-- In RUN, SEL.LOCK stays set until a reset (R313, R451): no command clears it, and RUN is entered only with it set. -/
def Obligations.StepKeepsTheSelvedgeLocked : Prop :=
  ∀ (s u : State), s.regsCanonical = true → s.runLocked = true → step s = .next u → u.runLocked = true

/-! ### Stored registers and memory words -/

/-- A stored register reads as it was last written, but for its reserved bits, and every other register is unchanged. -/
def Claims.RegisterReadsBackAsWritten : Prop :=
  ∀ (s : State) (a b : Nat) (v : Word), s.regsCanonical = true →
    (s.setReg a v).reg b = if b = a then v &&& regMask a else s.reg b

/-- A data word reads as it was last written, and a write changes no other word. -/
def Claims.MemoryReadsBackAsWritten : Prop :=
  ∀ (s : State) (a b : Nat) (v : Word), s.memCanonical = true →
    (s.setMem a v).memWord b = if b = a then v else s.memWord b

/-- A program word reads as it was last written, and a write changes no other word of any cluster. -/
def Claims.ProgramReadsBackAsWritten : Prop :=
  ∀ (s : State) (c d : Clu) (n k : PAddr) (v : PWord), s.memCanonical = true →
    (s.setProg c n v).progWord d k = if d = c ∧ k = n then v else s.progWord d k

/-! ### ALU, MUL, MAC, APX (R66 to R73) -/

/-- ADD, ADC, SUB, SBC and CMP: the result modulo 4,096, N and Z of it, C and V; ADC and SBC only ever leave Z set when it was; CMP
keeps R. V is set exactly when the result is not the exact signed sum or difference. -/
def Claims.AluAddsAndSubtracts : Prop :=
  ∀ (s : State) (e : Eng) (t : Thr) (v : Word),
    let x := (s.thr e t).alu
    let cin : Word := if x.c then 1 else 0
    let bin : Word := if x.c then 0 else 1
    (s.accepts e t 0x21 v = true → exec (.aluAdd e t v) s = .next (s.updAlu e t fun x =>
      { x with r := x.a + v, n := (x.a + v).getLsbD 11, z := decide (x.a + v = 0), c := decide (4096 ≤ x.a.toNat + v.toNat)
               v := decide ((x.a + v).toInt ≠ x.a.toInt + v.toInt) })) ∧
    (s.accepts e t 0x22 v = true → exec (.aluAdc e t v) s = .next (s.updAlu e t fun x =>
      { x with r := x.a + v + cin, n := (x.a + v + cin).getLsbD 11, z := x.z && decide (x.a + v + cin = 0)
               c := decide (4096 ≤ x.a.toNat + v.toNat + cin.toNat)
               v := decide ((x.a + v + cin).toInt ≠ x.a.toInt + v.toInt + cin.toNat) })) ∧
    (s.accepts e t 0x23 v = true → exec (.aluSub e t v) s = .next (s.updAlu e t fun x =>
      { x with r := x.a - v, n := (x.a - v).getLsbD 11, z := decide (x.a = v), c := decide (v.toNat ≤ x.a.toNat)
               v := decide ((x.a - v).toInt ≠ x.a.toInt - v.toInt) })) ∧
    (s.accepts e t 0x24 v = true → exec (.aluSbc e t v) s = .next (s.updAlu e t fun x =>
      { x with r := x.a - v - bin, n := (x.a - v - bin).getLsbD 11, z := x.z && decide (x.a - v - bin = 0)
               c := decide (v.toNat + bin.toNat ≤ x.a.toNat)
               v := decide ((x.a - v - bin).toInt ≠ x.a.toInt - v.toInt - bin.toNat) })) ∧
    (s.accepts e t 0x2B v = true → exec (.aluCmp e t v) s = .next (s.updAlu e t fun x =>
      { x with n := (x.a - v).getLsbD 11, z := decide (x.a = v), c := decide (v.toNat ≤ x.a.toNat)
               v := decide ((x.a - v).toInt ≠ x.a.toInt - v.toInt) }))

/-- AND, OR and XOR write R, N and Z and leave C and V. -/
def Claims.AluLogicKeepsCarryAndOverflow : Prop :=
  ∀ (s : State) (e : Eng) (t : Thr) (v : Word),
    (s.accepts e t 0x25 v = true → exec (.aluAnd e t v) s = .next (s.updAlu e t fun x =>
      { x with r := x.a &&& v, n := (x.a &&& v).getLsbD 11, z := decide (x.a &&& v = 0) })) ∧
    (s.accepts e t 0x26 v = true → exec (.aluOr e t v) s = .next (s.updAlu e t fun x =>
      { x with r := x.a ||| v, n := (x.a ||| v).getLsbD 11, z := decide (x.a ||| v = 0) })) ∧
    (s.accepts e t 0x27 v = true → exec (.aluXor e t v) s = .next (s.updAlu e t fun x =>
      { x with r := x.a ^^^ v, n := (x.a ^^^ v).getLsbD 11, z := decide (x.a = v) }))

/-- SHL, SHR and SAR by n = v[3:0]: C is the last bit shifted out, 0 for n = 0; V is left. -/
def Claims.AluShiftsByFourBits : Prop :=
  ∀ (s : State) (e : Eng) (t : Thr) (v : Word),
    let n := v.toNat % 16
    (s.accepts e t 0x28 v = true → exec (.aluShl e t v) s = .next (s.updAlu e t fun x =>
      { x with r := x.a <<< n, n := (x.a <<< n).getLsbD 11, z := decide (x.a <<< n = 0)
               c := decide (0 < n ∧ n ≤ 12) && x.a.getLsbD (12 - n) })) ∧
    (s.accepts e t 0x29 v = true → exec (.aluShr e t v) s = .next (s.updAlu e t fun x =>
      { x with r := x.a >>> n, n := (x.a >>> n).getLsbD 11, z := decide (x.a >>> n = 0), c := decide (0 < n) && x.a.getLsbD (n - 1) })) ∧
    (s.accepts e t 0x2A v = true → exec (.aluSar e t v) s = .next (s.updAlu e t fun x =>
      { x with r := x.a.sshiftRight n, n := x.a.getLsbD 11, z := decide (x.a.sshiftRight n = 0)
               c := decide (0 < n) && x.a.getLsbD (min (n - 1) 11) }))

/-- MUL.GO writes the 48-bit signed product; MAC.MAC, MSU, MUL and SHR start an operation on the operands as they stand; MAC.CLR
clears the accumulator. -/
def Claims.MultiplyUnitsTakeTheirOperands : Prop :=
  ∀ (s : State) (e : Eng) (t : Thr) (v : Word),
    let x := s.thr e t
    let prod : Quad := BitVec.ofInt 48 ((x.mac.ah ++ x.mac.a : BitVec 24).toInt * (x.mac.bh ++ v : BitVec 24).toInt)
    let start := fun (op : MacOp) (arg : Quad) (d : BitVec 7) => s.updThr e t fun x => { x with mac := { x.mac with pend := some ⟨op, arg, x.pc, d, s.precise⟩ } }
    (s.accepts e t 0x2F v = true → exec (.mulGo e t v) s = .next (s.updThr e t fun x =>
      { x with mul := { x.mul with
          p := BitVec.ofInt 48 ((x.mul.ah ++ x.mul.a : BitVec 24).toInt * (x.mul.bh ++ v : BitVec 24).toInt) } })) ∧
    (s.accepts e t 0x33 v = true → exec (.macMac e t v) s = .next (start .mac prod 0x33)) ∧
    (s.accepts e t 0x34 v = true → exec (.macMsu e t v) s = .next (start .msu prod 0x34)) ∧
    (s.accepts e t 0x35 v = true → exec (.macMul e t v) s = .next (start .mul prod 0x35)) ∧
    (s.accepts e t 0x37 v = true → exec (.macShr e t v) s = .next (start .shr (BitVec.ofNat 48 (v.toNat % 64)) 0x37)) ∧
    (s.accepts e t 0x36 v = true → exec (.macClr e t v) s = .next (s.updThr e t fun x => { x with mac := { x.mac with acc := 0 } }))

/-- The accumulator takes a result outside [−2^47, 2^47 − 1] modulo 2^48 and the MAC-overflow exception (0x1D) is raised, unless
EXC.AMASK masks it; MUL loads and SHR shifts arithmetically. It is 0 at entry to RUN. -/
def Obligations.AccumulatorWrapsAndReports : Prop :=
  (∀ (s : State) (e : Eng) (t : Thr) (late : Bool) (p : MacPend), s.together e = true → s.still e = false → (s.thr e t).mac.pend = some p →
    let acc := (s.thr e t).mac.acc
    let put := fun (r : Quad) => s.updThr e t fun x => { x with mac := { x.mac with acc := r, pend := none } }
    let ovr := fun (i : Int) => i < -(2 ^ 47) ∨ 2 ^ 47 ≤ i
    let masked := (s.thr e t).exc.amask.getLsbD 2 = true
    (p.op = .mul → exec (.macComplete e t late) s = .next (put p.arg)) ∧
    (p.op = .shr → exec (.macComplete e t late) s = .next (put (acc.sshiftRight p.arg.toNat))) ∧
    (p.op = .mac → ¬ ovr (acc.toInt + p.arg.toInt) ∨ masked → exec (.macComplete e t late) s = .next (put (acc + p.arg))) ∧
    (p.op = .msu → ¬ ovr (acc.toInt - p.arg.toInt) ∨ masked → exec (.macComplete e t late) s = .next (put (acc - p.arg))) ∧
    (p.op = .mac → ovr (acc.toInt + p.arg.toInt) → ¬ masked →
      exec (.macComplete e t false) s = .next ((put (acc + p.arg)).imprecise e t 0x1D p.pc p.dest 0)) ∧
    (p.op = .msu → ovr (acc.toInt - p.arg.toInt) → ¬ masked →
      exec (.macComplete e t false) s = .next ((put (acc - p.arg)).imprecise e t 0x1D p.pc p.dest 0))) ∧
  ∀ (s : State) (e : Eng) (t : Nat), (s.runThread e t).mac.acc = 0

/-- The exception of an operation is entered before the thread's next move; but a move that waited for the operation alone and was
selected before the exception arose (`late`), when no event stood before it, goes first (R28, R106, R125; notes/assumptions/56). -/
def Claims.WaiterForALateResultGoesFirst : Prop :=
  ∀ (s : State) (e : Eng) (t : Thr),
    (∀ (late : Bool) (p : MacPend), s.together e = true → s.still e = false → (s.thr e t).mac.pend = some p →
      let r := macResult p.op (s.thr e t).mac.acc p.arg
      let u := (s.updThr e t fun x => { x with mac := { x.mac with acc := r.1, pend := none } }).imprecise e t 0x1D p.pc p.dest 0
      r.2 = true → exec (.macComplete e t late) s = .next (u.waiterFirst s e t late)) ∧
    (∀ u : State,
      u.waiterFirst s e t false = u ∧
      (s.eventNow e t = none → s.preciseHold e t = false → (s.thr e t).pexc = none → (u.thr e t).pexc ≠ none →
        s.moveReady e t = false → u.moveReady e t = true →
        let r := u.waiterFirst s e t true
        r.eventNow e t = none ∧ (r.thr e t).pexc = (u.thr e t).pexc ∧ (r.thr e t).pc = (u.thr e t).pc ∧
          ((r.bufferLine e t (u.thr e t).pc).thr e t).begun = false))

/-- An APX trigger takes the datapath with its operands; its completion writes R, RH, E and REM and frees the datapath; a domain
error and a division by 0 raise their exceptions (R71 to R73). DIV gives the exact quotient and remainder. -/
def Claims.ApxRunsAndCompletes : Prop :=
  ∀ (s : State) (e : Eng) (t : Thr) (v : Word),
    let start := fun (op : ApxOp) (d : BitVec 7) => s.updEng e fun y =>
      { y.updThr t fun x => { x with apx := { x.apx with pend := some ⟨op, x.apx.xh ++ v, x.apx.y, x.pc, d, s.precise⟩ } } with apxOwner := some t }
    (s.accepts e t 0x3A v = true → exec (.apxRcp e t v) s = .next (start .rcp 0x3A)) ∧
    (s.accepts e t 0x3B v = true → exec (.apxSq e t v) s = .next (start .sq 0x3B)) ∧
    (s.accepts e t 0x3C v = true → exec (.apxL2 e t v) s = .next (start .l2 0x3C)) ∧
    (s.accepts e t 0x3D v = true → exec (.apxDiv e t v) s = .next (start .div 0x3D)) ∧
    (∀ (late : Bool) (p : ApxPend), s.together e = true → s.still e = false → (s.eng e).apxOwner = some t → (s.thr e t).apx.pend = some p →
      let r := apxResult p.op p.x p.y
      let u := s.updEng e fun y =>
        { y.updThr t fun x => { x with apx := { x.apx with r := r.m.setWidth 12, rh := (r.m >>> 12).setWidth 12, e := r.e, rem := r.rem, pend := none } } with
          apxOwner := none }
      exec (.apxComplete e late) s =
        .next (match r.cause with | some c => (u.imprecise e t c p.pc p.dest 0).waiterFirst s e t late | none => u)) ∧
    (∀ (x : DWord) (y : Word), y ≠ 0 →
      (apxResult .div x y).m.toNat = x.toNat / y.toNat ∧ (apxResult .div x y).rem.toNat = x.toNat % y.toNat ∧ (apxResult .div x y).cause = none) ∧
    (∀ x : DWord, apxResult .div x 0 = ⟨0xFFFFFF, 0, x.setWidth 12, some 0x1B⟩ ∧ (apxResult .rcp 0 v).cause = some 0x1C)

/-- What RCP, SQ and L2 return meets the bounds of R72, whatever the unpublished function gives within them. With V = (M / 2^23) × 2^E the
value returned: |V × X − 1| ≤ 2^−22 for RCP; V^2 within (1 ± 2^−22)^2 of X for √X, V^2 × X within (1 ± 2^−21)^2 of 1 for 1/√X; M / 2^19 within
2^−18 of log₂ X, and V within (1 ± 2^−20) of 2^(s / 2^17), both raised to the power that clears the root. √0 is 0. -/
def Claims.ApxResultsMeetTheirBounds : Prop :=
  ∀ (x : DWord) (y : Word),
    let n := x.toNat
    let normal := fun (r : ApxOut) => r.m.getLsbD 23 = true ∧ r.rem = 0 ∧ r.cause = none
    -- v is within (1 ± 2^−k)^p of w
    let near := fun (k p v w : Nat) => (2 ^ k - 1) ^ p * w ≤ 2 ^ (k * p) * v ∧ 2 ^ (k * p) * v ≤ (2 ^ k + 1) ^ p * w
    -- V^2 × 2^4142
    let square := fun (r : ApxOut) => r.m.toNat ^ 2 * 2 ^ (2 * (r.e.toInt + 2048).toNat)
    (x ≠ 0 →
      (let r := apxResult .rcp x y
       normal r ∧ r.e.toInt ≤ 23 ∧ near 22 1 (r.m.toNat * n) (2 ^ (23 - r.e.toInt).toNat)) ∧
      (y.getLsbD 0 = false →
        (let r := apxResult .sq x y
         normal r ∧ near 22 2 (square r) (n * 2 ^ 4142)) ∧
        (let r := apxResult .l2 x y
         r.e = 0 ∧ r.rem = 0 ∧ r.cause = none ∧ 2 ^ (r.m.toNat - 2) ≤ n ^ 2 ^ 19 ∧ n ^ 2 ^ 19 ≤ 2 ^ (r.m.toNat + 2))) ∧
      (y.getLsbD 0 = true →
        (let r := apxResult .sq x y
         normal r ∧ near 21 2 (square r * n) (2 ^ 4142)))) ∧
    (y.getLsbD 0 = true →
      (let r := apxResult .l2 x y
       let d := (r.e.toInt - 3) * 2 ^ 17 - x.toInt
       normal r ∧ near 20 (2 ^ 17) (r.m.toNat ^ 2 ^ 17 * 2 ^ d.toNat) (2 ^ (20 * 2 ^ 17) * 2 ^ (-d).toNat))) ∧
    (y.getLsbD 0 = false → apxResult .sq 0 y = { m := 0 })

/-! ### Loads and stores (R74 to R80, R395) -/

/-- LDPI, LD1PI, LDB and LDX complete: the offset, the number of words, the new P; an access that is allowed starts the load and sends its
requests to the vote, a fault is taken, a TLB miss starts a walk; the reserved scale is a unit-argument fault (R74, R76, R77, R144). -/
def Claims.LoadsLeaveWithTheirAddress : Prop :=
  ∀ (s : State) (e : Eng) (t : Thr) (v : Word),
    let x := (s.thr e t).lsu
    let f := s.force e t
    let otherwise := fun (i : Instr) (c : Checked) =>
      (∀ q, c = .fault q → exec i s = .next (s.preciseFault e t q)) ∧
      (∀ a h, c = .miss a h → exec i s = .next (s.startWalk e t a false h false v))
    let single := fun (i : Instr) (d : Nat) (off p : Word) => s.accepts e t d v = true →
      let va := joinW x.seg off
      let c := s.check e t f false false false v [va] false
      (∀ a, c = .go [a] →
        exec i s = .next ((s.startLoad e t { pa := a, va := va, second := none, split := false, machine := f.machine } p).send e t [request a 1 0])) ∧
      otherwise i c
    let double := fun (i : Instr) (d : Nat) (off p : Word) => s.accepts e t d v = true →
      let split := off.getLsbD 0
      let va := joinW x.seg off
      let vb := joinW x.seg (off + 1)
      let c := s.check e t f false split false v [va, vb] false
      (∀ a b, c = .go [a, b] →
        exec i s = .next ((s.startLoad e t { pa := a, va := va, second := some (b, vb), split := split, machine := f.machine } p).send e t
          [request a 1 0, request b 1 0])) ∧
      otherwise i c
    let indexed := fun (i : Instr) (d : Nat) (off : Word) =>
      (x.ctl.getLsbD 3 = false → single i d off off) ∧ (x.ctl.getLsbD 3 = true → double i d off off)
    double (.lsuLdpi e t v) 0x43 v (v + 2) ∧
    single (.lsuLd1pi e t v) 0x44 v (v + 1) ∧
    indexed (.lsuLdb e t v) 0x49 (v + x.x) ∧
    (∀ n : Nat, n < 3 → x.ctl.toNat % 4 = n → indexed (.lsuLdx e t v) 0x47 (v + x.x * BitVec.ofNat 12 (2 ^ n))) ∧
    (x.ctl.toNat % 4 = 3 → s.accepts e t 0x47 v = true →
      exec (.lsuLdx e t v) s = .next (s.preciseFault e t { cause := 0x07, val := v }))

/-- STPD, ST1PD, STB and STX complete: an access that is allowed is posted behind the engine's other stores, a split one as two entries,
and its requests go to the vote; P and the LSU's status are written and memory is not; a single word never enters the program window
(R74, R76, R78, R144, R179). -/
def Claims.StoresArePosted : Prop :=
  ∀ (s : State) (e : Eng) (t : Thr) (v : Word),
    let y := s.thr e t
    let x := y.lsu
    let f := s.force e t
    let put := fun (p : Word) (split : Bool) (new : List StoreEntry) (reqs : List Request) => (s.updEng e fun z =>
      { z.updThr t fun q => { q with lsu := { q.lsu with p := p, part := false, split := split, busy := false, rpl := false } } with
        sbuf := z.sbuf ++ new }).send e t reqs
    let word := fun (d : Nat) (a va : Addr) (w : Word) (w2 : Option Word) (h : Bool) =>
      ({ t := t, pa := a, va := va, data := w, data2 := w2, half2 := h, machine := f.machine, pc := y.pc
         dest := BitVec.ofNat 7 d } : StoreEntry)
    let otherwise := fun (i : Instr) (c : Checked) =>
      (∀ q, c = .fault q → exec i s = .next (s.preciseFault e t q)) ∧
      (∀ a h, c = .miss a h → exec i s = .next (s.startWalk e t a true h false v))
    let single := fun (i : Instr) (d : Nat) (off p : Word) => s.accepts e t d v = true →
      let va := joinW x.seg off
      let c := s.check e t f true false false v [va] false
      (∀ a, c = .go [a] → progOf a = none → exec i s = .next (put p false [word d a va x.d none false] [request a 2 x.d])) ∧
      (∀ a k, c = .go [a] → progOf a = some k →
        exec i s = .next ((s.raiseOf (.engine e t f.machine) (progSrc k) 0x03 a).preciseFault e t { cause := 0x16, val := v, fa := va })) ∧
      otherwise i c
    let double := fun (i : Instr) (d : Nat) (off p : Word) => s.accepts e t d v = true →
      let split := off.getLsbD 0
      let va := joinW x.seg off
      let vb := joinW x.seg (off + 1)
      let c := s.check e t f true split false v [va, vb] false
      (∀ a b, split = false → c = .go [a, b] → (progOf a = none ∧ progOf b = none) ∨ progStoreOk [a, b] x.dh = true →
        exec i s = .next (put p false [word d a va x.d (some x.dh) false] [request a 2 x.d, request b 2 x.dh])) ∧
      (∀ a b, split = true → c = .go [a, b] → progOf a = none → progOf b = none →
        exec i s = .next (put p true [word d a va x.d none false, word d b vb x.dh none true] [request a 2 x.d, request b 2 x.dh])) ∧
      (∀ a b k, c = .go [a, b] → progOf a = some k → progStoreOk [a, b] x.dh = false →
        exec i s = .next ((s.raiseOf (.engine e t f.machine) (progSrc k) 0x03 a).preciseFault e t { cause := 0x16, val := v, fa := va })) ∧
      otherwise i c
    let indexed := fun (i : Instr) (d : Nat) (off : Word) =>
      (x.ctl.getLsbD 3 = false → single i d off off) ∧ (x.ctl.getLsbD 3 = true → double i d off off)
    double (.lsuStpd e t v) 0x45 (v - 2) (v - 2) ∧
    single (.lsuSt1pd e t v) 0x46 (v - 1) (v - 1) ∧
    indexed (.lsuStb e t v) 0x4A (v + x.x) ∧
    (∀ n : Nat, n < 3 → x.ctl.toNat % 4 = n → indexed (.lsuStx e t v) 0x48 (v + x.x * BitVec.ofNat 12 (2 ^ n))) ∧
    (x.ctl.toNat % 4 = 3 → s.accepts e t 0x48 v = true →
      exec (.lsuStx e t v) s = .next (s.preciseFault e t { cause := 0x07, val := v }))

/-- A load whose request has gone out, whose words no posted store of the engine covers and whose banks are awake ends: a word of a data
region, an aligned pair of a bank, or both halves of a split load enter LSU.Q and QH, and memory is unchanged; a colliding read of a
flex bank gives a free value, a word that fails every replay the deferred fault 0x17. A window load asks the host for its two bytes and takes
what it returns
(R75, R79, R80, R173, R187, R395). -/
def Claims.LoadsReturnTheStoredWords : Prop :=
  ∀ (s : State) (e : Eng) (t : Thr) (l : Load), s.together e = true → s.still e = false → s.loadOf e t = some l →
    let m : Master := .engine e t l.machine
    let done := fun (busy : Bool) (q : Word) (qh : Option Word) (s : State) =>
      s.updThr e t fun x => { x with lsu := x.lsu.loaded false busy q qh }
    let fails := fun (c : BitVec 6) (s : State) => s.updThr e t fun x => { x with lsu := x.lsu.loadFailed false false c l.va }
    let plain := fun (a : Addr) => (regionOf a).isData = true ∧ s.asleep a = false ∧ s.cutOff m a = false ∧ s.refuses m a false = false
    (∀ (o2 : ReadOutcome) (h h2 : Container), plain l.pa →
      (l.second = none →
        (s.wordGood l.pa = true → exec (.loadComplete e t .ok o2 h h2) s = .next (done false (s.memWord l.pa.toNat) none s)) ∧
        (dualPort l.pa = true → exec (.loadComplete e t .collided o2 h h2) s =
          .next (done (s.atPortY m l.pa) (Config.collidedWord s.free) none ((s.countCollision m l.pa).takeFree))) ∧
        exec (.loadComplete e t .persistent o2 h h2) s = .next (fails 0x17 (s.countRead m [l.pa] (s.effRead m [l.pa] .persistent) false))) ∧
      (∀ b, l.second = some b → s.wordGood l.pa = true → s.wordGood b.1 = true → plain b.1 →
        (l.split = false → l.pa.getLsbD 0 = false → b.1 = l.pa + 1 →
          exec (.loadComplete e t .ok o2 h h2) s = .next (done false (s.memWord l.pa.toNat) (some (s.memWord (l.pa.toNat + 1))) s)) ∧
        (l.split = true →
          exec (.loadComplete e t .ok .ok h h2) s = .next (done false (s.memWord l.pa.toNat) (some (s.memWord b.1.toNat)) s)))) ∧
    (∀ (h2 : HostRead), regionOf l.pa = .host → l.second = none → s.windowOk = true →
      let asked := { s with sht := { s.sht with hostIn := [(s.base64 (shtBase + 0x10) + 2 * (l.pa.toNat - 0xC00000), 2)] } }
      (∀ c : Container, c.toNat < 4096 → exec (.hostReadComplete e t (.data c) h2) s = .next (done false (c.setWidth 12) none asked)) ∧
      (∀ c : Container, 4096 ≤ c.toNat →
        exec (.hostReadComplete e t (.data c) h2) s = .next (fails 0x19 (asked.protocolFault 0x02 0x10 c.toNat))) ∧
      exec (.hostReadComplete e t .unsupported h2) s = .next (fails 0x19 (asked.hostFault 0x02 0x10)))

/-- The engine's oldest posted store, once its request has gone out, leaves the buffer and is performed: one word, or an aligned pair of a
bank, changes; a store that the bank or the weft drops is counted and raises the posted-store error 0x1A (R78, R80, R182, R184). -/
def Claims.StoresCommitInOrder : Prop :=
  ∀ (s : State) (e : Eng) (q : StoreEntry) (rest : List StoreEntry), s.together e = true → s.still e = false →
    (s.eng e).sbuf = q :: rest → q.sent = true → s.asleep q.pa = false → (regionOf q.pa).isData = true →
    let m : Master := .engine e q.t q.machine
    let left := fun (l : List StoreEntry) (s : State) => s.updEng e fun y => { y with sbuf := l }
    s.cutOff m q.pa = false → s.refuses m q.pa true = false →
      (q.data2 = none → exec (.storeCommit e .ok .ok) s = .next (left rest (s.setMem q.pa.toNat q.data))) ∧
      (∀ d, q.data2 = some d → q.pa.getLsbD 0 = false →
        exec (.storeCommit e .ok .ok) s = .next (left rest ((s.setMem q.pa.toNat q.data).setMem (q.pa.toNat + 1) d))) ∧
      (q.data2 = none → q.half2 = false → crossesWeft m q.pa = true →
        exec (.storeCommit e .weftFail .ok) s =
          .next ((left (dropHalf q rest) (s.raiseOf m 81 0x02 q.pa)).imprecise e q.t 0x1A q.pc q.dest q.va)) ∧
      (∀ c b, q.data2 = none → q.half2 = false → (regionOf q.pa).bank = some (c, b) →
        exec (.storeCommit e .bankFail .ok) s =
          .next ((left (dropHalf q rest) (s.memEvent c b (.master m) 3 0x04 q.pa true)).imprecise e q.t 0x1A q.pc q.dest q.va))

/-- LSU.FNC holds the thread's LSU until its request has gone out and no posted store of the thread is left. -/
def Claims.FenceWaitsForTheThreadsStores : Prop :=
  ∀ (s : State) (e : Eng) (t : Thr) (v : Word),
    (s.accepts e t 0x4B v = true → exec (.lsuFnc e t v) s = .next ((s.updThr e t fun x =>
      { x with lsu := { x.lsu with fence := true, part := false, split := false, busy := false, rpl := false } }).send e t
        [request 0xF0004B 7 v])) ∧
    (s.together e = true → s.still e = false → (s.thr e t).lsu.fence = true →
      ((∀ q ∈ (s.eng e).sbuf, q.t ≠ t) → (∀ o ∈ (s.eng e).out, o.t ≠ t) →
        exec (.fenceComplete e t) s = .next (s.updThr e t fun x => { x with lsu := { x.lsu with fence := false } })) ∧
      ((∃ q ∈ (s.eng e).sbuf, q.t = t) ∨ (∃ o ∈ (s.eng e).out, o.t = t) → exec (.fenceComplete e t) s = .next s))

/-! ### Block operations (R81 to R85) -/

/-- BLK.GO with each OP: the operand ports become the live state, DONE, HIT, LT and FLT clear, and the thread holds the datapath;
reserved bits of v are a unit-argument fault. CNT = 0 examines no element. -/
def Claims.BlockOperationsStart : Prop :=
  ∀ (s : State) (e : Eng) (t : Thr) (hi : BitVec 10),
    let goes := fun (i : Instr) (op : BitVec 2) =>
      let v : Word := hi ++ op
      s.accepts e t 0x52 v = true →
        (hi.toNat < 2 → exec i s = .next (s.updEng e fun y =>
          { y.updThr t fun x =>
              { x with blk := { x.blk with
                  live := x.blk.opnd, op := op, sne := hi.getLsbD 0, done := false, hit := false, lt := false, flt := false
                  active := true, ended := decide (x.blk.opnd.cnt = 0), glit := decide ((s.force e t).len = 2), goPc := x.pc } } with
            blkOwner := some t })) ∧
        (2 ≤ hi.toNat → exec i s = .next (s.preciseFault e t { cause := 0x07, val := v }))
    goes (.blkMove e t hi) 0 ∧ goes (.blkFill e t hi) 1 ∧ goes (.blkCmp e t hi) 2 ∧ goes (.blkScan e t hi) 3

/-- One element of a machine-level operation over awake words of data regions: MOVE and FILL store a word and count; CMP and SCAN
count, or stop with HIT. The end sets DONE and frees the datapath. -/
def Claims.BlockElementsAdvanceOrStop : Prop :=
  ∀ (s : State) (e : Eng) (t : Thr) (h h2 : HostRead), s.together e = true → s.blkMay e t = true → (s.thr e t).machine = true →
    let x := (s.thr e t).blk
    let src := joinW x.live.sseg x.live.src
    let dst := joinW x.live.dseg x.live.dst
    let m : Master := .engine e t true
    let plain := fun (a : Addr) => (regionOf a).isData = true ∧ s.asleep a = false ∧ (s.eng e).storesTo a = false ∧
      s.cutOff m a = false ∧ s.refuses m a false = false ∧ s.refuses m a true = false ∧ s.wordGood a = true
    let own := s.updEng e fun y => { y with blkOwner := some t }
    let run := exec (.blkElement e t .ok .ok .ok h h2) s
    (x.op = 0 → plain src → plain dst → (s.eng e).sbuf = [] →
      run = .next ((own.setMem dst.toNat (s.memWord src.toNat)).updBlk e t BlkState.advance)) ∧
    (x.op = 1 → plain dst → (s.eng e).sbuf = [] → run = .next ((own.setMem dst.toNat x.live.pat).updBlk e t BlkState.advance)) ∧
    (x.op = 2 → plain src → plain dst →
      let a := s.memWord src.toNat
      let b := s.memWord dst.toNat
      run = .next (own.updBlk e t fun z => if a = b then z.advance else { z with hit := true, lt := decide (a.toNat < b.toNat), ended := true })) ∧
    (x.op = 3 → plain src →
      let same := decide (s.memWord src.toNat &&& ~~~x.live.ign = x.live.pat &&& ~~~x.live.ign)
      run = .next (own.updBlk e t fun z => if same = x.sne then z.advance else { z with hit := true, lt := false, ended := true }))

/-- A performed element advances the offsets that the operation uses, counts down CNT, and is the last when CNT was 1; BLK_END sets
DONE. -/
def Claims.BlockCountsAndEnds : Prop :=
  (∀ x : BlkState,
    (x.advance).live.src = (if x.op = 1 then x.live.src else x.live.src + 1) ∧
    (x.advance).live.dst = (if x.op = 3 then x.live.dst else x.live.dst + 1) ∧
    (x.advance).live.cnt = x.live.cnt - 1 ∧ (x.advance).ended = decide (x.live.cnt = 1) ∧
    (x.advance).hit = x.hit ∧ (x.advance).live.pat = x.live.pat ∧ (x.advance).live.ign = x.live.ign) ∧
  ∀ (s : State) (e : Eng) (t : Thr), s.together e = true → s.still e = false → (s.thr e t).blk.active = true → (s.thr e t).blk.ended = true →
    exec (.blkEnd e t) s = .next (s.updEng e fun y =>
      { y.updThr t fun z => { z with blk := { z.blk with active := false, ended := false, done := true } } with
        blkOwner := if y.blkOwner = some t then none else y.blkOwner })

/-! ### Program control, levels, instruction supply (R22 to R24, R37 to R42, R86 to R88, R121) -/

/-- JMP, JAL, RET and JNZ off the return gate: PC takes the target, JAL writes LK; JNZ with CND = 0 falls through. -/
def Claims.JumpsSetThePc : Prop :=
  ∀ (s : State) (e : Eng) (t : Thr) (v : Word),
    let x := s.thr e t
    let target : PAddr := (x.thi.setWidth 5 ++ v : BitVec 17)
    let dest := fun (a : PAddr) => s.updThr e t fun x => { x with pc := a }
    (s.accepts e t 0x56 v = true → target ≠ s.gate e → exec (.pcuJmp e t v) s = .next (dest target)) ∧
    (s.accepts e t 0x57 v = true → target ≠ s.gate e →
      exec (.pcuJal e t v) s = .next (s.updThr e t fun x => { x with lk := x.pc + BitVec.ofNat 17 (s.moveLen e t), pc := target })) ∧
    (s.accepts e t 0x58 v = true → x.lk ≠ s.gate e → exec (.pcuRet e t v) s = .next (dest x.lk)) ∧
    (s.accepts e t 0x59 v = true → x.cnd ≠ 0 → target ≠ s.gate e → exec (.pcuJnz e t v) s = .next (dest target)) ∧
    (s.accepts e t 0x59 v = true → x.cnd = 0 → exec (.pcuJnz e t v) s = .next s)

/-- A jump to the return gate: at task level a privilege fault 0x05; at machine level a return when the thread holds a frame, and a
unit-argument fault when it holds none or the jump is JAL. -/
def Claims.TheReturnGateIsGuarded : Prop :=
  ∀ (s : State) (e : Eng) (t : Thr) (v : Word),
    let x := s.thr e t
    let target : PAddr := (x.thi.setWidth 5 ++ v : BitVec 17)
    let fault := fun (c : BitVec 6) => s.preciseFault e t { cause := c, val := v }
    let gates := fun (i : Instr) =>
      (x.machine = false → exec i s = .next (fault 0x05)) ∧
      (x.machine = true → s.currentFrame e t = none → exec i s = .next (fault 0x07)) ∧
      (x.machine = true → s.currentFrame e t ≠ none →
        exec i s = .next (s.updThr e t fun x => { x with ret := true, pc := s.gate e }))
    (s.accepts e t 0x56 v = true → target = s.gate e → gates (.pcuJmp e t v)) ∧
    (s.accepts e t 0x58 v = true → x.lk = s.gate e → gates (.pcuRet e t v)) ∧
    (s.accepts e t 0x59 v = true → x.cnd ≠ 0 → target = s.gate e → gates (.pcuJnz e t v)) ∧
    (s.accepts e t 0x57 v = true → target = s.gate e →
      exec (.pcuJal e t v) s = .next (if x.machine then fault 0x07 else fault 0x05))

/-- PCU.TM and PCU.KR: the write, and the next move still under TM and KR as they stood; at task level TM takes ENC alone and a write
of KR is a service call (R23, R24, R105, R127). -/
def Claims.ThreadModeAndKeyRightsAreWritten : Prop :=
  ∀ (s : State) (e : Eng) (t : Thr) (v : Word),
    let x := s.thr e t
    let k := x.thi.toNat % 4
    (s.accepts e t 0x5A v = true →
      exec (.pcuTm e t v) s = .next (s.updThr e t fun y =>
        { y with tm := if x.machine then v &&& 0xE00 else (y.tm &&& 0xBFF) ||| (v &&& 0x400), shadow := some (y.tm, y.kr) })) ∧
    (s.accepts e t 0x5B v = true →
      (x.machine = false → exec (.pcuKr e t v) s = .next (s.preciseFault e t { cause := 0x06, val := v })) ∧
      (x.machine = true → k = 3 → exec (.pcuKr e t v) s = .next (s.preciseFault e t { cause := 0x07, val := v })) ∧
      (x.machine = true → ∀ h : k < 3,
        exec (.pcuKr e t v) s = .next (s.updThr e t fun y =>
          { y with kr := y.kr.set k (if k = 2 then v &&& 0x0FF else v) h, shadow := some (y.tm, y.kr) })))

/-- ICU.INV drops a line with its pin, ICU.PIN pins a cached line, requests an absent one, and is refused by a set with three pinned
ways; ICU.SYNC empties every line buffer and, with v[0], the cache (R40, R87, R88). -/
def Claims.InstructionCacheCommands : Prop :=
  ∀ (s : State) (e : Eng) (t : Thr) (v : Word),
    let l : BitVec 14 := (((s.thr e t).icuAh.setWidth 5 ++ v : BitVec 17) >>> 3).setWidth 14
    let hit := ((s.eng e).cached l).isSome
    let full := decide (3 ≤ ((s.eng e).set l).pins)
    (s.accepts e t 0x5D v = true → exec (.icuInv e t v) s = .next (s.updEng e fun y =>
      (y.updSet l fun c => c.drop l).updThr t fun x => { x with ist := (x.ist &&& 0xA00) ||| flag 10 hit })) ∧
    (s.accepts e t 0x5E v = true → full = true →
      exec (.icuPin e t v) s = .next (s.updThr e t fun x => { x with ist := 0x800 ||| flag 10 hit })) ∧
    (s.accepts e t 0x5E v = true → full = false → hit = true → exec (.icuPin e t v) s = .next (s.updEng e fun y =>
      (y.updSet l fun c => c.pinLine l).updThr t fun x => { x with ist := 0x400 })) ∧
    (s.accepts e t 0x5E v = true → full = false → hit = false → exec (.icuPin e t v) s = .next (s.updEng e fun y =>
      (y.request t l .pin).updThr t fun x => { x with ist := 0, pinPend := true })) ∧
    (s.accepts e t 0x5F v = true → exec (.icuSync e t v) s = .next (s.updEng e fun y =>
      { y with
        threads := vmap (fun _ (x : Thread) => { x with lb := none }) y.threads
        sets := if v.getLsbD 0 then vmap (fun _ (c : CacheSet) => { c with ways := Vector.replicate 4 none }) y.sets else y.sets }))

/-- The oldest fill of an engine ends: with good data the line as program memory holds it enters the cache, and the victim pointer moves
on; a pin whose set has come to hold three pinned ways is refused, its line enters unpinned (the model's choice, notes/assumptions/58);
a fill that fails persistently fails a pin, or locks up the engine at a vector (R37 to R42, R117). -/
def Claims.FillsTakeProgramMemory : Prop :=
  ∀ (s : State) (e : Eng) (f : Fill), s.together e = true → s.still e = false → (s.eng e).nextFill = some f →
    let a := lineAddr e.cluster f.num
    let m : Master := .engine e f.t true
    let ws := (List.range 8).map fun k => a + BitVec.ofNat 24 (2 * k)
    let l := s.memLine e.cluster f.num
    let left := fun (s : State) => s.updEng e fun y => { y with fills := y.fills.erase f }
    let good := (left s).updEng e fun y => y.takeLine l false
    let bad := left (s.countRead m ws .persistent false)
    s.asleep a = false → s.cutOff m a = false → (∀ w ∈ ws, s.wordGood w = true) →
    (f.kind ≠ .pin → exec (.fillComplete e .ok) s = .next good) ∧
    (f.kind = .pin → ((s.eng e).set f.num).pins < 3 → exec (.fillComplete e .ok) s =
      .next (((left s).updEng e fun y => y.takeLine l true).updThr e f.t fun x => { x with ist := 0, pinPend := false })) ∧
    (f.kind = .pin → 3 ≤ ((s.eng e).set f.num).pins → exec (.fillComplete e .ok) s =
      .next (good.updThr e f.t fun x => { x with ist := 0x800, pinPend := false })) ∧
    (f.kind = .pin → exec (.fillComplete e .persistent) s =
      .next (bad.updThr e f.t fun x => { x with ist := 0x200, pinPend := false })) ∧
    (f.kind = .vector → exec (.fillComplete e .persistent) s = .next (bad.lockup e f.t 0x08)) ∧
    (f.kind = .fetch → (bad.thr e f.t).run = .running → (bad.thr e f.t).pfault = none → bad.missingLine e f.t = some f.num →
      let pc := (bad.thr e f.t).pc
      exec (.fillComplete e .persistent) s =
        .next (bad.preciseFault e f.t { cause := 0x08, fa := (if lineOf pc = f.num then pc else pc + 1).setWidth 24 }))

/-! ### Samples, messages, inputs, timers (R89 to R95) -/

/-- SMP.OPEN attaches the cursor v samples behind the newest, at most as many as are held, with OVR for the rest, and line 12 when the
watermark is reached at once; SKIP moves it on and
no further than the newest; a pop reads the oldest and latches QH and SEQ. A channel whose bobbin feeds no such cluster is a
unit-argument fault. -/
def Claims.SampleCursorsFollowTheBobbin : Prop :=
  ∀ (s : State) (e : Eng) (t : Thr) (v : Word),
    let x := (s.thr e t).smp
    (s.accepts e t 0x61 v = true → 48 ≤ x.sel.toNat % 64 →
      exec (.smpOpen e t v) s = .next (s.preciseFault e t { cause := 0x07, val := v })) ∧
    (∀ n : Chan, s.accepts e t 0x61 v = true → x.sel.toNat % 64 = n.val →
      let a := s.bobAvail n e.cluster
      let held := min a (s.bobCap n)
      let back := min v.toNat held
      let u := s.updThr e t fun x => { x with smp := { x.smp with chan := some n, pos := a - back, ovr := decide (held < v.toNat) } }
      (s.bobFeeds n e.cluster = false →
        exec (.smpOpen e t v) s = .next (s.preciseFault e t { cause := 0x07, val := v })) ∧
      (s.bobFeeds n e.cluster = true →
        exec (.smpOpen e t v) s = .next (if s.bobWm n ≠ 0 ∧ s.bobWm n ≤ back then u.setLine e 12 else u))) ∧
    (∀ n : Chan, s.accepts e t 0x62 v = true → x.chan = some n →
      exec (.smpSkip e t v) s = .next (s.updThr e t fun x =>
        { x with smp := { x.smp with pos := min (x.smp.pos + v.toNat) (s.bobAvail n e.cluster) } })) ∧
    (s.accepts e t 0x62 v = true → x.chan = none → exec (.smpSkip e t v) s = .next s) ∧
    (∀ n : Chan, s.together e = true → s.mayMove e t = true → s.srcReady e t 0x60 = true → x.chan = some n →
      x.pos < s.bobAvail n e.cluster → s.popBad n e.cluster x.pos = none → (∀ a ∈ s.popPlace e t, s.wordGood a = true) →
      exec (.smpQ e t .ok) s = .next (s.updThr e t fun y =>
        { y with smp := { y.smp with
            pos := x.pos + 1, qh := hiW (s.bobSample n e.cluster x.pos), seq := BitVec.ofNat 12 x.pos } }))

/-- A mailbox is a queue of 16 words: the word in flight of a thread enters at the end with its origin and makes line 8 + b pending, and its
outcome starts back; a full mailbox keeps no word and answers so; a disabled or locked-up engine answers as dead, and so does one
of another cluster that is isolated (the model's choices, notes/assumptions/43); a pop takes the oldest
and shows its origin in MSG.FROM; FLUSH empties the selected one. -/
def Claims.MailboxesAreQueues : Prop :=
  (∀ (s : State) (e d : Eng) (t : Thr) (b : Fin 4) (v : Word), s.flights = [⟨e, t, d, b, v, none⟩] →
    let q := (s.eng d).mbox[b.val]
    let ended := fun (s : State) (r : SendEnd) => ({ s with flights := [⟨e, t, d, b, v, some r⟩] } : State)
    (s.inRun = true → s.engEn d = true → (s.eng d).locked = false → s.together d = true → s.still d = false → (s.eng d).held = [] →
      e.cluster = d.cluster ∨ (s.clu d.cluster).iso = false →
      (q.length < 16 → exec (.mailboxWordArrive e t) s =
        .next (ended ((s.updEng d fun y => { y with mbox := y.mbox.set b.val (q ++ [⟨v, BitVec.ofNat 12 e.val⟩]) }).setLine d (8 + b.val)) .delivered)) ∧
      (16 ≤ q.length → exec (.mailboxWordArrive e t) s = .next (ended s .full))) ∧
    (s.inRun = false ∨ s.engEn d = false ∨ (s.eng d).locked = true ∨ (e.cluster ≠ d.cluster ∧ (s.clu d.cluster).iso = true) →
      exec (.mailboxWordArrive e t) s = .next (ended s .dead))) ∧
  ∀ (s : State) (e : Eng) (t : Thr) (v : Word) (b : Fin 4), bitsAt (s.thr e t).msg.sel 0 2 = b.val →
    (∀ w rest, s.together e = true → s.mayMove e t = true → (s.eng e).mbox[b.val] = w :: rest →
      exec (.msgQ e t) s = .next (s.updEng e fun y =>
        { y.updThr t fun x => { x with msg := { x.msg with from_ := w.origin } } with mbox := y.mbox.set b.val rest })) ∧
    (s.accepts e t 0x67 v = true →
      exec (.msgFlush e t v) s = .next (s.updEng e fun y => { y with mbox := y.mbox.set b.val [] }))

/-- MSG.SND sends v to the mailbox that MSG.DST names, as a request to the vote, with an outcome awaited; the outcome that returns is
delivered, refused by a full mailbox, or refused by a target that takes no words, and shows in MSG.TX (R92). -/
def Claims.MessagesReportTheirOutcome : Prop :=
  ∀ (s : State) (e : Eng) (t : Thr) (v : Word),
    (s.accepts e t 0x65 v = true →
      exec (.msgSnd e t v) s = .next ((s.updThr e t fun x => { x with msg := { x.msg with pend := true } }).send e t
        [{ request 0xF00065 3 v with target := ((s.thr e t).msg.dst &&& 0x0FF).setWidth 24 }])) ∧
    (∀ (d : Eng) (b : Fin 4) (w : Word) (r : SendEnd) (rest : List Flight),
      s.flights = ⟨e, t, d, b, w, some r⟩ :: rest → s.together e = true → s.still e = false →
      exec (.msgSndComplete e t) s = .next (({ s with flights := rest }).updThr e t fun x => { x with msg := { x.msg with
        pend := false
        tx := match r with
          | .delivered => 0x800
          | .full => 0xC00
          | .dead => 0xA00 } }))

/-- INP.SNAP freezes or frees the thread's INP words; an agreed level of a pin changes at once in every lane, and a falling NMI_N makes the
NMI of a selvedge engine pending in RUN; an event line's toggle makes its line pending and is used up; a lane whose view differs keeps the
released value it had; the fabric tick runs the timers of the lanes that release it and of no other; and a view that stays unequal counts at
source 135 (R93, R120, R148, R149, R152). -/
def Claims.InputsAreAgreed : Prop :=
  ∀ (s : State) (e : Eng) (t : Thr) (v : Word) (p : Pin) (level : Bool) (l : Lane),
    let now := (s.eng e).inputs
    (s.accepts e t 0x77 v = true → exec (.inpSnap e t v) s =
      .next (s.updThr e t fun x => { x with inp := if v.getLsbD 0 then some (inpWords now) else none })) ∧
    (s.together e = true → s.still e = false → s.inputsOk = true ∨ p.val = 41 →
      ∃ u, exec (.inputAgreed e (.pin p) level .all) s = .next u ∧
        (∀ k, k < 42 → (u.eng e).inputs.getLsbD k = if k = p.val then level else now.getLsbD k) ∧
        (∀ k, k < 42 → (u.eng e).sync.getLsbD k = if k = p.val then level else (s.eng e).sync.getLsbD k) ∧
        (u.eng e).nmi = ((s.eng e).nmi || (decide (p.val = 41) && now.getLsbD 41 && !level && s.inRun && s.isSel e)) ∧
        u = s.updEng e fun x => { x with inputs := (u.eng e).inputs, sync := (u.eng e).sync, nmi := (u.eng e).nmi, agreed := (u.eng e).agreed }) ∧
    (s.together e = true → s.still e = false → s.inputsOk = true → (s.heddle e).commits? l = true →
      (laneList.any fun k => decide (k ≠ l) && (s.heddle e).commits? k) = true → now.getLsbD p.val ≠ level →
      ∃ u, exec (.inputAgreed e (.pin p) level (.allBut l)) s = .next u ∧
        (u.eng e).inputs.getLsbD p.val = level ∧ ((u.eng e).view l).inputs = now) ∧
    (∀ n : Fin 32, s.together e = true → s.still e = false → (s.eng e).lineIn.getLsbD n.val = true →
      exec (.inputAgreed e (.line n) level .all) s =
        .next (s.updEng e fun x => { x.pend n.val with lineIn := x.lineIn &&& ~~~BitVec.ofNat 32 (2 ^ n.val) })) ∧
    (s.together e = true → s.still e = false →
      exec (.inputAgreed e .tick level .all) s = .next (s.updEng e fun x => { x with tickOff := false })) ∧
    (s.together e = true → s.still e = false → (s.heddle e).commits? l = true →
      (laneList.any fun k => decide (k ≠ l) && (s.heddle e).commits? k) = true →
      ∃ u, exec (.inputAgreed e .tick level (.allBut l)) s = .next u ∧ (u.eng e).tickOff = false ∧ ((u.eng e).view l).tickOff = true) ∧
    ((s.heddle e).votes l = true → (s.clu e.cluster).gated = false → exec (.inputAgreementTimeout e l) s =
      .next (s.raise 135 (BitVec.ofNat 7 (laneCode l)) (BitVec.ofNat 24 (e.val * 64))))

/-- TMR.START loads the count and the reload value from LDH:v with CFG as it stands; STOP clears RUN, EXP and OVF; a due expiry sets
EXP, counts an overrun up to 15, ends the run unless PER is 1, and makes line t pending when IE is 1 (R94, R95; the reload stands with the
clock that makes the expiry due). -/
def Claims.TimersStartStopAndExpire : Prop :=
  ∀ (s : State) (e : Eng) (t : Thr) (v : Word),
    let x := (s.thr e t).tmr
    let per := x.cfgNow.getLsbD 2
    let n := (x.ldh ++ v : BitVec 24)
    (s.accepts e t 0x69 v = true → exec (.tmrStart e t v) s = .next (s.updThr e t fun y =>
      { y with tmr := { y.tmr with count := n, reload := n, cfgNow := x.cfg, run := true, exp := false, ovf := 0
                                   pre := 16 ^ (x.cfg.toNat % 4), due := 0 } })) ∧
    (s.accepts e t 0x6B v = true → exec (.tmrStop e t v) s = .next (s.updThr e t fun y =>
      { y with tmr := { y.tmr with run := false, exp := false, ovf := 0, due := 0 } })) ∧
    (s.together e = true → s.paused e = false → x.run = true → x.due ≠ 0 →
      let u := s.updThr e t fun y =>
        { y with tmr := { x with
            due := x.due - 1, exp := true, run := per
            ovf := if x.exp = false then x.ovf else if x.ovf = 15 then 15 else x.ovf + 1 } }
      exec (.timerExpiry e t) s = .next (if x.cfgNow.getLsbD 3 then u.updEng e fun y => y.pend t.val else u))

/-! ### Translation (R96, R198 to R209) -/

/-- MMU.INVP, INVK and INVA drop the entries they name, the walk cache too for INVA, and mark a walk in progress. -/
def Claims.MmuInvalidations : Prop :=
  ∀ (s : State) (e : Eng) (t : Thr) (v : Word),
    let stale := fun (y : Engine) => y.walk.map fun w => { w with discard := true }
    let keep := fun (y : Engine) (p : TlbEntry → Bool) =>
      vmap (fun _ (o : Option TlbEntry) => o.filter fun q => !p q) y.tlb
    let page : BitVec 14 := (s.thr e t).mmu.vah ++ (v >>> 10).setWidth 2
    (s.accepts e t 0x6D v = true → exec (.mmuInvp e t v) s = .next (s.updEng e fun y =>
      { y with tlb := keep y fun q => q.vpn = page, walk := stale y })) ∧
    (s.accepts e t 0x6E v = true → exec (.mmuInvk e t v) s = .next (s.updEng e fun y =>
      { y with tlb := keep y fun q => q.entry.toNat / 2 ^ 18 % 16 = v.toNat % 16, walk := stale y })) ∧
    (s.accepts e t 0x6F v = true → v.getLsbD 0 = true → exec (.mmuInva e t v) s = .next (s.updEng e fun y =>
      { y with wcache := Vector.replicate 8 none, walk := stale y })) ∧
    (s.accepts e t 0x6F v = true → v.getLsbD 0 = false → exec (.mmuInva e t v) s = .next (s.updEng e fun y =>
      { y with tlb := keep y fun _ => true, wcache := Vector.replicate 8 none, walk := stale y }))

/-- A walk that finds its level-2 table in the walk cache reads one entry: an entry that is a page enters the TLB at its pointer, one
that is not is a fault 0x10 of the walking thread; an invalid root is a fault 0x10, a discarded walk ends without effect, and the fault
of a walk whose thread has been entered meanwhile, or is to enter another event first, is left to the move that needs it (R77, R106,
R200, R209). -/
def Claims.TableWalksFillTheTlb : Prop :=
  ∀ (s : State) (e : Eng) (w : Walk) (o1 o2 : ReadOutcome), s.together e = true → s.still e = false → (s.eng e).walk = some w →
    let r := s.rootOf e w.t
    let ended := s.updEng e fun y => { y with walk := none }
    let fault := fun (level2 : Bool) =>
      if w.orphan = true ∨ (s.thr e w.t).run ≠ .running ∨ (ended.eventNow e w.t).isSome = true then ended
      else (ended.updThr e w.t fun x => { x with blk := { x.blk with flt := x.blk.flt || w.blk } }).preciseFault e w.t
        { cause := 0x10, val := w.val, fa := w.va, fs := fsWord 0 0 w.write w.half2 level2 w.blk }
    (w.discard = true → exec (.tableWalk e o1 o2) s = .next ended) ∧
    (w.discard = false → s.rootAddr e r = none → exec (.tableWalk e o1 o2) s = .next (fault false)) ∧
    (∀ base tbl, w.discard = false → s.rootAddr e r = some base →
      (s.eng e).wcFind (BitVec.ofNat 2 r) (BitVec.ofNat 6 (bitsAt w.va 18 6)) = some tbl →
      let a : Addr := BitVec.ofNat 24 (tbl.toNat + 2 * bitsAt w.va 10 8)
      let m : Master := .engine e w.t true
      let ent : DWord := s.memWord (a + 1).toNat ++ s.memWord a.toNat
      (regionOf a).isData = true → s.refuses m a false = false → s.cutOff m a = false → s.wordGood a = true → s.wordGood (a + 1) = true →
      (s.eng e).storesTo a = false → (s.eng e).storesTo (a + 1) = false → s.asleep a = false →
        (2 ≤ entType ent → targetOk ent = true → exec (.tableWalk e o1 .ok) s = .next (s.updEng e fun y =>
          { y with walk := none, tlbPtr := y.tlbPtr + 1
                   tlb := upd y.tlb y.tlbPtr fun _ => some ⟨BitVec.ofNat 2 r, (w.va >>> 10).setWidth 14, ent⟩ })) ∧
        (entType ent < 2 ∨ targetOk ent = false → exec (.tableWalk e o1 .ok) s = .next (fault true)))

/-- A task-level access through a TLB entry: key 0 or a key whose code admits no such access is fault 0x11, a write to a page without W
fault 0x12, a page that may not be woken fault 0x13; else the page's address (R24, R204). -/
def Claims.TranslationChecksInOrder : Prop :=
  ∀ (s : State) (e : Eng) (t : Thr) (f : Force) (va : Addr) (write half2 blk : Bool) (ent : DWord), f.machine = false →
    s.rootAddr e (s.rootOf e t) ≠ none →
    (s.eng e).tlbFind (BitVec.ofNat 2 (s.rootOf e t)) ((va >>> 10).setWidth 14) = some ent →
    let k := ent.toNat / 2 ^ 18 % 16
    let code := krCode f.kr k
    let pa : Addr := BitVec.ofNat 24 (ent.toNat % 2 ^ 14 * 1024 + va.toNat % 1024)
    let admits := decide (k ≠ 0) && (code = 3 || (code = 1 && !write))
    (admits = false → s.translate e t f va write half2 blk = .fault 0x11 (fsWord 1 k write half2 true blk)) ∧
    (admits = true → write = true → ent.getLsbD 17 = false →
      s.translate e t f va write half2 blk = .fault 0x12 (fsWord 2 k write half2 true blk)) ∧
    (admits = true → (write = true → ent.getLsbD 17 = true) → ent.getLsbD 16 = true → s.asleep pa = true →
      s.translate e t f va write half2 blk = .fault 0x13 (fsWord 3 k write half2 true blk)) ∧
    (admits = true → (write = true → ent.getLsbD 17 = true) → (ent.getLsbD 16 = true → s.asleep pa = false) →
      s.translate e t f va write half2 blk = .pa pa)

/-! ### Trip requests, check-ins, the selvedge port (R99 to R101) -/

/-- TRP.SET, CLR, SETM and SETMH change the engine's 24 request bits and send the change to the vote; a line above 23 is a unit-argument
fault, but CLR of 31 clears all (R99, R137). -/
def Claims.TripRequestBits : Prop :=
  ∀ (s : State) (e : Eng) (t : Thr) (v : Word),
    let put := fun (a : Addr) (f : BitVec 24 → BitVec 24) => (s.updEng e fun y => { y with trq := f y.trq }).send e t [request a 4 v]
    let bad := s.preciseFault e t { cause := 0x07, val := v }
    let m : BitVec 24 := BitVec.ofNat 24 (2 ^ v.toNat)
    (s.accepts e t 0x70 v = true → exec (.trpSet e t v) s = .next (if v.toNat ≤ 23 then put 0xF00070 fun q => q ||| m else bad)) ∧
    (s.accepts e t 0x71 v = true →
      exec (.trpClr e t v) s =
        .next (if v = 31 then put 0xF00071 fun _ => 0 else if v.toNat ≤ 23 then put 0xF00071 fun q => q &&& ~~~m else bad)) ∧
    (s.accepts e t 0x72 v = true → exec (.trpSetm e t v) s = .next (put 0xF00072 fun q => q ||| (0#12 ++ v))) ∧
    (s.accepts e t 0x73 v = true → exec (.trpSetmh e t v) s = .next (put 0xF00073 fun q => q ||| (v ++ 0#12)))

/-- WDC.CHECK sends its check-in to the vote and faults on a reserved bit; WDC.SERVE sends its service and awaits a verdict; SVP operations
queue in order with their requests, WRI and RDI with A stepped, and a reserved page is a unit-argument fault (R100, R101, R137). -/
def Claims.WatchdogAndSelvedgePortsIssue : Prop :=
  ∀ (s : State) (e : Eng) (t : Thr) (v : Word),
    let x := (s.thr e t).svp
    let bad := s.preciseFault e t { cause := 0x07, val := v }
    let sent := fun (d : Nat) (i : Instr) (w : Option Word) (fence inc : Bool) =>
      s.accepts e t d v = true → exec i s = .next (
        if x.b.getLsbD 4 = true ∧ x.b.toNat / 2 % 8 ≠ 0 then bad
        else (s.updEng e fun y =>
          { y.updThr t fun z => { z with svp := { x with a := if inc then x.a + 1 else x.a, pend := true } } with
            svpq := y.svpq ++ [{ t := t, a := x.a, b := x.b, write := w, fence := fence }] }).send e t
          [{ request (BitVec.ofNat 24 (0xF00000 + d)) (if fence then 7 else 6) v with target := x.b ++ x.a }])
    (s.accepts e t 0x74 v = true → exec (.wdcCheck e t v) s = .next (if v.toNat < 16 then s.send e t [request 0xF00074 5 v] else bad)) ∧
    (s.accepts e t 0x75 v = true →
      exec (.wdcServe e t v) s = .next ((s.updThr e t fun x => { x with wdcPend := true }).send e t [request 0xF00075 5 v])) ∧
    sent 0x7A (.svpWr e t v) (some v) false false ∧ sent 0x7B (.svpWri e t v) (some v) false true ∧
    sent 0x7C (.svpRd e t v) none false false ∧ sent 0x7D (.svpRdi e t v) none false true ∧
    sent 0x7E (.svpFnc e t v) none true false

/-- The engine's oldest SVP operation, once its request has gone out, takes effect: a write reaches its register or is refused with ERR, a
read returns the register to SVP.Q, an address with no register sets ERR, and a fence ends; SVP.ST shows ERR and the writes that are
left (R101, R144). -/
def Claims.SelvedgePortTakesEffect : Prop :=
  ∀ (s : State) (e : Eng) (q : SvpOp) (rest : List SvpOp), s.together e = true → s.still e = false → (s.eng e).svpq = q :: rest →
    q.sent = true →
    let left := s.updEng e fun y => { y with svpq := rest }
    let a := (if q.b.getLsbD 4 then 0x80C000 + q.b.toNat % 2 * 0x1000 else 0x840000 + q.b.toNat % 16 * 0x1000) + q.a.toNat
    let done := fun (u : State) (err : Bool) (r : Option Word) =>
      let n := ((u.eng e).svpq.filter fun q => q.write.isSome).length
      u.updThr e q.t fun x =>
        { x with svp := { x.svp with
            pend := false, st := (if err then 0x800 else 0) ||| BitVec.ofNat 12 (min 15 n), q := r.getD x.svp.q } }
    (q.fence = true → exec (.svpTakeEffect e) s = .next (done left false none)) ∧
    (∀ v, q.fence = false → q.write = some v →
      let r := left.writeReg (.svp e q.t) a v
      r.2.together e = true → r.2.still e = false → exec (.svpTakeEffect e) s = .next (done r.2 (!r.1) none)) ∧
    (q.fence = false → q.write = none → (regInfo a).isSome = true →
      exec (.svpTakeEffect e) s = .next (done left false (some (left.readReg a)))) ∧
    (q.fence = false → q.write = none → (regInfo a).isSome = false → exec (.svpTakeEffect e) s = .next (done left true none))

/-! ### Moves and selection (R14 to R18, R28 to R30, R43) -/

/-- The selected thread's move, in lanes that agree: a word that fails its parity check keeps the lane from committing; else a fault leaves
the move without effect, a TLB miss starts a walk, and a commit folds the move and its requests, sends them to the vote, and advances PC by
the move's length or takes the jump; then the next thread is selected (R14 to R18, R42, R77, R137, R144). -/
def Claims.MovesCommitFaultOrMiss : Prop :=
  ∀ (s : State) (e : Eng) (t : Thr), s.together e = true → (s.eng e).cur = some t → s.engRuns e = true → s.eventNow e t = none →
    s.moveReady e t = true →
    let f := s.force e t
    let m := s.fetched e t
    let b := s.bufferLine e t ((s.thr e t).pc + BitVec.ofNat 17 (m.len - 1))
    let v := b.srcValue e t m.ids.src (m.lit.setWidth 12)
    let d := m.ids.dst
    (s.wordsGood e t m.len = false → exec (.move e none) s = .next (s.boundary e)) ∧
    (s.wordsGood e t m.len = true →
      (∀ q, b.moveFault e t f m = some q → exec (.move e none) s = .next ((b.preciseFault e t q).boundary e)) ∧
      (∀ q, b.moveFault e t f m = none → (b.thr e t).dstFault d v = some q → m.ids.src ∉ [0x50, 0x51, 0x53] →
        exec (.move e none) s = .next ((b.preciseFault e t { q with val := v }).boundary e)) ∧
      (b.moveFault e t f m = none → (b.thr e t).dstFault d v = none →
        (∀ s' reqs j, (b.srcPop e t m.ids.src).portWrite e t f d v = .ok s' reqs j →
          exec (.move e none) s = .next (((((s'.updThr e t fun x =>
            { x.afterMove d with pc := j.getD (x.pc + BitVec.ofNat 17 m.len) }).foldCommit e t
              (w0Move d t v :: (reqs.map Request.words).flatten)).send e t reqs)).boundary e)) ∧
        (∀ q bad, (b.srcPop e t m.ids.src).portWrite e t f d v = .fault q bad →
          exec (.move e none) s = .next ((b.refuse e t q bad).boundary e)) ∧
        (∀ a w h, (b.srcPop e t m.ids.src).portWrite e t f d v = .miss a w h →
          exec (.move e none) s = .next ((b.startWalk e t a w h false v).boundary e))))

/-- A move of one general register, or of a literal source id 0x00 to 0x0F, to a general register, by the selected thread, from a good word
in the line buffer or the cache: it commits, the destination holds the value, PC advances by one, and the next thread is selected (R14,
R15, R21, R43, R44). -/
def Claims.RegisterMovesComplete : Prop :=
  ∀ (s : State) (e : Eng) (t : Thr) (i : Nat) (d : Fin 32), s.together e = true → (s.eng e).cur = some t → s.canMove e t = true →
    s.eventNow e t = none → (s.thr e t).tmNow.getLsbD 10 = false →
    (∀ b ∈ s.boot.breakpoints, b ≠ (e, (s.thr e t).pc)) →
    (∃ l, (s.eng e).line t (s.thr e t).pc = some l ∧ l.good (s.thr e t).pc = true ∧
      l.word (s.thr e t).pc = BitVec.ofNat 14 (i * 128 + d.val)) →
    d.val ≠ 0 →
    let line := (s.eng e).line t (s.thr e t).pc
    let go := fun (v : Word) =>
      let u := s.updThr e t fun x =>
        { x.afterMove d.val with lb := line, begun := false, g := x.g.set d.val v, pc := x.pc + 1 }
      exec (.move e none) s = .next ((u.foldCommit e t [w0Move d.val t v]).boundary e)
    (i < 16 → go (BitVec.ofNat 12 i)) ∧
    (∀ k : Fin 32, k.val ≠ 0 → i = 0x20 + k.val → go (s.thr e t).g[k.val])

/-- A write of G0 is discarded, and a write of G1 to G31 changes that register alone. An operand port holds the moved value, and nothing
else changes: every result register (of the ALU, MUL, MAC, APX, LSU, BLK, PCU, ICU, SMP, MSG, TMR, MMU, EXC and SVP), every other port and
every other thread is as it was (R21, R32, R61). -/
def Claims.RegisterDestinations : Prop :=
  ∀ (s : State) (e : Eng) (t : Thr) (f : Force) (v : Word),
    let put := fun (d : Nat) (g : Thread → Thread) => s.portWrite e t f d v = .ok (s.updThr e t g) [] none
    s.portWrite e t f 0 v = .ok s [] none ∧
    (∀ d, ∀ h : d < 32, d ≠ 0 → put d fun x => { x with g := x.g.set d v h }) ∧
    put 0x20 (fun x => { x with alu := { x.alu with a := v } }) ∧
    put 0x2C (fun x => { x with mul := { x.mul with a := v } }) ∧
    put 0x2D (fun x => { x with mul := { x.mul with ah := v } }) ∧
    put 0x2E (fun x => { x with mul := { x.mul with bh := v } }) ∧
    put 0x30 (fun x => { x with mac := { x.mac with a := v } }) ∧
    put 0x31 (fun x => { x with mac := { x.mac with ah := v } }) ∧
    put 0x32 (fun x => { x with mac := { x.mac with bh := v } }) ∧
    put 0x38 (fun x => { x with apx := { x.apx with xh := v } }) ∧
    put 0x39 (fun x => { x with apx := { x.apx with y := v } }) ∧
    put 0x3E (fun x => { x with lsu := { x.lsu with seg := v } }) ∧
    put 0x3F (fun x => { x with lsu := { x.lsu with d := v } }) ∧
    put 0x40 (fun x => { x with lsu := { x.lsu with dh := v } }) ∧
    put 0x41 (fun x => { x with lsu := { x.lsu with x := v } }) ∧
    put 0x42 (fun x => { x with lsu := { x.lsu with ctl := v } }) ∧
    put 0x4C (fun x => { x with blk := { x.blk with opnd := { x.blk.opnd with src := v } } }) ∧
    put 0x4D (fun x => { x with blk := { x.blk with opnd := { x.blk.opnd with sseg := v } } }) ∧
    put 0x4E (fun x => { x with blk := { x.blk with opnd := { x.blk.opnd with dst := v } } }) ∧
    put 0x4F (fun x => { x with blk := { x.blk with opnd := { x.blk.opnd with dseg := v } } }) ∧
    put 0x50 (fun x => { x with blk := { x.blk with opnd := { x.blk.opnd with cnt := v } } }) ∧
    put 0x51 (fun x => { x with blk := { x.blk with opnd := { x.blk.opnd with pat := v } } }) ∧
    put 0x53 (fun x => { x with blk := { x.blk with opnd := { x.blk.opnd with ign := v } } }) ∧
    put 0x54 (fun x => { x with thi := v }) ∧
    put 0x55 (fun x => { x with cnd := v }) ∧
    put 0x5C (fun x => { x with icuAh := v }) ∧
    put 0x60 (fun x => { x with smp := { x.smp with sel := v } }) ∧
    put 0x64 (fun x => { x with msg := { x.msg with dst := v } }) ∧
    put 0x66 (fun x => { x with msg := { x.msg with sel := v } }) ∧
    put 0x68 (fun x => { x with tmr := { x.tmr with ldh := v } }) ∧
    put 0x6A (fun x => { x with tmr := { x.tmr with cfg := v } }) ∧
    put 0x6C (fun x => { x with mmu := { x.mmu with vah := v } }) ∧
    put 0x76 (fun x => { x with exc := { x.exc with amask := v } }) ∧
    put 0x78 (fun x => { x with svp := { x.svp with a := v } }) ∧
    put 0x79 (fun x => { x with svp := { x.svp with b := v } })

/-- NOP advances PC by one and is folded, and a breakpoint of the monitor at its address stops it with 0x09; with no thread selected, or the
selected one ready no longer, the slot boundary comes again: requested halts take effect, entries begin, missing lines are requested, and
the next thread is selected (R27, R29, R37, R43, R118, R487). -/
def Claims.NopAndIdleSelection : Prop :=
  ∀ (s : State) (e : Eng) (t : Thr), s.together e = true →
    let stops := ∃ b ∈ s.boot.breakpoints, b = (e, (s.thr e t).pc)
    (s.mayMove e t = true → ¬ stops → exec (.nop e t) s =
      .next ((s.updThr e t fun x => { x.afterMove 0 with pc := x.pc + 1 }).foldCommit e t [w0Move 0 t 0])) ∧
    (s.mayMove e t = true → stops → exec (.nop e t) s = .next (s.preciseFault e t { cause := 0x09 })) ∧
    (s.engRuns e = true → (∀ q, (s.eng e).cur = some q → s.ready e q = false) →
      let b := ((s.updEng e Engine.applyHalts).beginEntries e).requestFills e
      exec (.idleSelect e) s = .next (b.updEng e fun x => { x with cur := (b.choose e).1, last := (b.choose e).2.1, rr := (b.choose e).2.2 }))

/-- The selection (R29): without a reserved thread, the first ready thread after the last one taken in turn; a ready reserved thread
comes first unless it had the last slot and another is ready. -/
def Claims.SelectionTakesTheNextReadyThread : Prop :=
  ∀ (s : State) (e : Eng),
    let n := s.nThreads e
    let after := fun (k : Nat) => (⟨((s.eng e).rr.val + 1 + k) % n % 8, by omega⟩ : Thr)
    (s.rsv e = none →
      (∀ t, (s.choose e).1 = some t → ∃ k, k < n ∧ t = after k ∧ s.ready e t = true ∧ (∀ j, j < k → s.ready e (after j) = false) ∧
        (s.choose e).2 = (some t, t)) ∧
      ((s.choose e).1 = none → ∀ k, k < n → s.ready e (after k) = false)) ∧
    (∀ r : Thr, s.rsv e = some r.val → s.ready e r = true → (s.eng e).last ≠ some r → s.choose e = (some r, some r, (s.eng e).rr)) ∧
    (∀ r : Thr, s.rsv e = some r.val → s.ready e r = true → (s.eng e).last = some r →
      (∀ k, k < n → after k ≠ r → s.ready e (after k) = false) → (s.choose e).1 = some r) ∧
    (∀ r : Thr, s.rsv e = some r.val → s.ready e r = true → (s.eng e).last = some r →
      ∀ k, k < n → after k ≠ r → s.ready e (after k) = true → (s.choose e).1 ≠ some r)

/-! ### Exceptions (R106 to R130) -/

/-- The selected thread's entry slot: the frame writer's words are voted and reach an awake frame, the entry follows and the next thread is
selected; a frame write that fails persistently locks up the engine with cause 0x3F; a tail entry keeps the frame (R114, R117, R122, R123,
R133). -/
def Claims.EntrySlotsTakeTheEvent : Prop :=
  ∀ (s : State) (e : Eng) (t : Thr) (ev : Event), s.together e = true → (s.eng e).cur = some t → s.eventNow e t = some ev →
    s.engRuns e = true → ((s.eng e).cached (s.vectorLine e t ev)).isSome = true →
    (∀ f, (s.thr e t).tail = none → s.allocFrame e t = some f → s.asleep (BitVec.ofNat 24 f.addr) = false →
      exec (.entrySlot e .ok) s = .next ((s.enter e t ev).boundary e)) ∧
    (∀ f, (s.thr e t).tail = none → s.allocFrame e t = some f → (regionOf (BitVec.ofNat 24 f.addr)).isData = true →
      s.asleep (BitVec.ofNat 24 f.addr) = false →
      exec (.entrySlot e .bankFail) s =
        .next ((s.countWrite (.engine e t true) (BitVec.ofNat 24 f.addr) .bankFail).lockup e t 0x3F)) ∧
    (∀ f c, (s.thr e t).tail = some c → s.currentFrame e t = some f → s.asleep (BitVec.ofNat 24 f.addr) = false →
      exec (.entrySlot e .ok) s = .next ((s.tailEnter e t f c ev).boundary e))

/-- Taking an exception: the frame holds PC, TM, the flags with the cause, VAL, the fault address and the caller's registers; the thread
goes on at the vector at machine level, TM = 0x800, with the frame's address in G1 and G2; its other units and registers, and every
word of memory outside the frame, stand (R110 to R114). -/
def Claims.TakingAnExceptionSavesTheThread : Prop :=
  ∀ (s : State) (e : Eng) (t : Thr) (ev : Event) (f : FrameSlot), s.memCanonical = true → s.allocFrame e t = some f → f.ovr = false →
    let x := s.thr e t
    let u := s.enter e t ev
    let y := u.thr e t
    let w := fun (k : Nat) => u.memWord (f.addr + k)
    w 0 = x.pc.setWidth 12 ∧ bitsAt (w 1) 0 5 = x.pc.toNat / 4096 ∧ bitsAt (w 1) 5 4 = x.apri.toNat ∧
      (w 1).getLsbD 11 = x.lsu.delay ∧ (w 1).getLsbD 10 = (x.blk.active && !x.blk.ended) ∧
      w 2 = x.tm ∧ w 3 = flag 11 x.alu.n ||| flag 10 x.alu.z ||| flag 9 x.alu.c ||| flag 8 x.alu.v ||| ev.cause.setWidth 12 ∧
      w 4 = ev.val ∧ w 5 = loW ev.fa ∧ w 6 = hiW ev.fa ∧ w 7 = x.lsu.seg ∧ w 8 = x.g[1] ∧ w 9 = x.g[2] ∧ w 10 = x.thi ∧
      w 11 = x.cnd ∧ w 12 = x.lsu.d ∧ w 13 = x.lsu.dh ∧ w 14 = x.lsu.q ∧ w 15 = x.lsu.qh ∧
      (∀ a, a < f.addr ∨ f.addr + 26 ≤ a → u.memWord a = s.memWord a) ∧
      y.tm = 0x800 ∧ y.pc = s.vector e ev.cause ∧ y.shadow = none ∧ y.g[1] = wordOf f.addr 0 ∧ y.g[2] = wordOf f.addr 1 ∧
      y.lsu.seg = wordOf f.addr 1 ∧ y.kr = x.kr ∧ y.alu = x.alu ∧ y.mul = x.mul ∧ y.mac = x.mac ∧ y.apx = x.apx ∧ y.run = x.run ∧
      y.smp = x.smp ∧ y.msg = x.msg ∧ y.inp = x.inp ∧ y.tmr = x.tmr ∧ y.mmu = x.mmu ∧ y.exc = x.exc ∧ y.svp = x.svp ∧
      y.lk = x.lk ∧ (∀ k : Fin 32, 3 ≤ k.val → y.g[k.val] = x.g[k.val]) ∧ u.regs = s.regs ∧ u.prog = s.prog

/-- A thread that returns through the frame its entry took has back its PC, TM, flags, G1, G2, THI, CND, LSU operands and results and
its active priority (R114, R121), when no block operation was interrupted and no load delay was open. -/
def Claims.ReturnRestoresWhatTheEntrySaved : Prop :=
  ∀ (s : State) (e : Eng) (t : Thr) (ev : Event) (f : FrameSlot), s.memCanonical = true → s.allocFrame e t = some f → f.ovr = false →
    (s.thr e t).blk.active = false → (s.thr e t).lsu.delay = false → (s.thr e t).lsu.newQ = none →
    let x := s.thr e t
    let y := ((s.enter e t ev).restore e t f).thr e t
    y.pc = x.pc ∧ y.tm = x.tm ∧ y.g = x.g ∧ y.thi = x.thi ∧ y.cnd = x.cnd ∧ y.apri = x.apri ∧ y.alu = x.alu ∧
      y.lsu.seg = x.lsu.seg ∧ y.lsu.d = x.lsu.d ∧ y.lsu.dh = x.lsu.dh ∧ y.lsu.q = x.lsu.q ∧ y.lsu.qh = x.lsu.qh ∧
      y.lsu.delay = false ∧ y.blk.live = x.blk.live ∧ y.kr = x.kr ∧ y.shadow = none

/-- A return whose stores are committed: the frame read is voted and restores the thread; a waiting event that the frame's IEN and priority
admit replaces it by a tail entry, unless the frame holds a load delay; a frame read that fails locks up the engine with cause 0x3F (R121 to
R123). -/
def Claims.ReturnsReadTheirFrame : Prop :=
  ∀ (s : State) (e : Eng) (t : Thr) (f : FrameSlot), s.together e = true → (s.thr e t).ret = true → (s.eng e).posted t = 0 →
    s.engRuns e = true → s.currentFrame e t = some f → s.asleep (BitVec.ofNat 24 f.addr) = false →
    (∀ a ∈ s.frameReads f.addr, s.wordGood a = true) →
    let pch := s.memWord (f.addr + 1)
    let waits := s.pickEvent e t ((s.memWord (f.addr + 2)).getLsbD 9) (BitVec.ofNat 4 (bitsAt pch 5 4)) true
    (pch.getLsbD 11 = true ∨ waits = none → exec (.returnGate e t .ok) s = .next (s.restore e t f)) ∧
    (∀ ev, pch.getLsbD 11 = false → waits = some ev →
      exec (.returnGate e t .ok) s = .next (s.updThr e t fun x =>
        { x with ret := false, tail := some ⟨ev.cause, (s.memWord (f.addr + 2)).getLsbD 9, BitVec.ofNat 4 (bitsAt pch 5 4)⟩ })) ∧
    (pch.getLsbD 11 = true ∨ waits = none → (regionOf (BitVec.ofNat 24 f.addr)).isData = true →
      exec (.returnGate e t .persistent) s =
        .next ((s.countRead (.engine e t true) (s.frameReads f.addr) .persistent false).lockup e t 0x3F))

/-- A lockup: every thread of the engine stops, ENG.LOCK holds the thread and the cause, and source e counts 0x50; an engine that is
locked up already is unchanged (R123, R320). -/
def Claims.LockupStopsTheEngine : Prop :=
  ∀ (s : State) (e : Eng) (t : Thr) (cause : BitVec 6),
    ((s.eng e).locked = true → s.lockup e t cause = s) ∧
    ((s.eng e).locked = false →
      let u := s.lockup e t cause
      (u.eng e).locked = true ∧ bitsAt (u.eng e).lock 8 3 = t.val ∧ bitsAt (u.eng e).lock 0 6 = cause.toNat ∧
        (∀ k, (u.thr e k).run = .locked ∧ (u.thr e k).pc = (s.thr e k).pc ∧ (u.thr e k).g = (s.thr e k).g) ∧
        (s.up = true → (s.src (engSrc e)).waiting.length < 5 →
          (u.src (engSrc e)).waiting = (s.src (engSrc e)).waiting ++ [⟨0x50, BitVec.ofNat 24 (t.val * 512 + cause.toNat), none⟩]) ∧
        ∀ k, k ≠ e → (u.eng k).threads = (s.eng k).threads)

/-! ### Engine registers (R25, R27, R57, R60, R115, R133, R165) -/

/-- ENG.CFG keeps a legal shape and reservation and refuses others; ENG.IPEND clears the pending bits written with 1, but for those that have
become pending in the same fabric clock; ENG.SWI sets or clears line 30 alone (R11, R57, R115, R133). -/
def Claims.EngineConfigurationAndLines : Prop :=
  ∀ (s : State) (m : Master) (e : Eng) (k : Fin 3) (v : Word),
    let cfg := engBase e
    let pend := engBase e + 0x1A + k.val
    let swi := engBase e + 0x1D
    let legal := decide (v.toNat / 1024 ≠ 3) && (!v.getLsbD 9 || decide (v.toNat / 64 % 8 < 8 / 2 ^ (v.toNat / 1024)))
    let ones : BitVec 32 := (v.setWidth 32 <<< (12 * k.val)) &&& (if k = 2 then 0xFF000000 else 0xFFFFFFFF)
    let clear := fun (w : BitVec 32) (u : State) => u.updEng e fun x => { x with ipend := x.ipend &&& ~~~(w &&& ~~~x.ipendNow) }
    (s.canWrite m cfg = true → legal = true → exec (.engCfgWrite m e v) s = .next (s.wrote m cfg v)) ∧
    (s.canWrite m cfg = true → legal = false →
      exec (.engCfgWrite m e v) s = .next (((s.wakeFor cfg).countRefusal m cfg).refusedAt m cfg)) ∧
    (s.canWrite m pend = true → s.inRun = false ∨ ownStore e m = true ∨ isMonitor m = true → (s.wakeFor pend).together e = true →
      exec (.engIpendClear m e k v) s = .next ((clear ones (s.wakeFor pend)).acceptedAt m)) ∧
    (s.canWrite m swi = true → isMonitor m = true ∨ (∃ a t l, m = .engine a t l) → (s.wakeFor swi).together e = true →
      exec (.engSwiSet m e) s = .next (((s.wakeFor swi).updEng e fun x => x.pend 30).acceptedAt m) ∧
      exec (.engSwiClr m e) s = .next ((clear 0x40000000 (s.wakeFor swi)).acceptedAt m))

/-- ENG.TCTL in RUN, for a thread of the shape in an enabled engine that is not locked up, written by the engine itself, a selvedge
engine or the monitor: GO starts a halted thread at the entry address at machine level with its frames free and its running operations kept,
HALT asks a running one to stop; GO at a running thread and HALT at a halted one are refused (R25, R27, R60). -/
def Claims.ThreadsStartAndHalt : Prop :=
  ∀ (s : State) (m : Master) (e : Eng) (t : Thr),
    let a := engBase e + 4
    let w := s.wakeFor a
    s.canWrite m a = true → w.inRun = true → w.engEn e = true → (w.eng e).locked = false → t.val < w.nThreads e → w.together e = true →
    ownStore e m = true ∨ w.selStore m = true ∨ isMonitor m = true →
    ((w.thr e t).run = .halted →
      exec (.engTctlGo m e t) s = .next (w.startThread e t) ∧
      exec (.engTctlHalt m e t) s = .next ((w.countRefusal m a).refusedAt m a) ∧
      (let y := (w.startThread e t).thr e t
       let x := w.thr e t
       y.run = .running ∧ y.pc = w.entryPc e ∧ y.tm = 0x800 ∧ y.apri = 0xF ∧ y.lb = none ∧ y.pfault = none ∧ y.pexc = none ∧
         y.g = x.g ∧ y.alu = x.alu ∧ y.mac = x.mac ∧ y.lsu.load = x.lsu.load ∧ y.blk = x.blk ∧ y.tmr = x.tmr)) ∧
    ((w.thr e t).run = .running →
      exec (.engTctlHalt m e t) s = .next (w.updThr e t fun y => { y with haltReq := true }) ∧
      exec (.engTctlGo m e t) s = .next ((w.countRefusal m a).refusedAt m a))

/-- ENG.HINJ arms an injection into the lane it names while the engine runs three lanes, for a selvedge engine's machine-level store or
the monitor, beside those armed already; lane code 0 and an engine with a lane down refuse it (R164, R165). -/
def Claims.InjectionArmsOneLane : Prop :=
  ∀ (s : State) (m : Master) (e : Eng) (v : Word),
    let a := engBase e + 0x4B
    let w := s.wakeFor a
    s.canWrite m a = true →
    (∀ l, v.toNat % 4 = laneCode l → w.selStore m = true ∨ isMonitor m = true → (w.heddle e).state = 0 →
      exec (.engHinj m e v) s = .next (w.updHeddle e fun h => { h with inject := h.inject.set (laneIdx l).val true })) ∧
    (v.toNat % 4 = 0 ∨ (w.heddle e).state ≠ 0 ∨ (w.selStore m = false ∧ isMonitor m = false) →
      exec (.engHinj m e v) s = .next ((w.countRefusal m a).refusedAt m a))

/-! ### The heddle (R140 to R147, R156 to R160) -/

/-- The requests of the oldest commit that waits are voted in every bit: three lanes that agree send them; one that differs is outvoted, the
open pick closes, the lane is detected with 0x41 and the voted requests go out; more than one that differs from the vote stops the engine
with 0x46 and nothing goes out; copies of the vote that disagree stop it with 0x48 (R144 to R146). `a`, `b` and `c` are faults that strike a
lane's requests. -/
def Claims.OutputVotingOutvotesOneLane : Prop :=
  ∀ (s : State) (e : Eng) (a b c : VoteFault) (o : Out) (rest : List Out), s.engRuns e = true → (s.heddle e).good = [.a, .b, .c] →
    s.together e = true → (s.eng e).out = o :: rest →
    let ra := (s.eng e).batch o.slot a
    let rb := (s.eng e).batch o.slot b
    let rc := (s.eng e).batch o.slot c
    let v : Vector (Option Request) 2 := #v[voteRequest ra[0] rb[0] rc[0], voteRequest ra[1] rb[1] rc[1]]
    let sends := fun (u : State) =>
      let left := u.updEng e fun x => { x with out := x.out.filter fun p => p.slot ≠ o.slot }
      let one := (v[0].map (left.goOut e o.t 0)).getD left
      ((v[1].map (one.goOut e o.t 1)).getD one).updEng e fun x => { x with sent := v.toList.filterMap id }
    let found := fun (l : Lane) => (s.updHeddle e fun h => h.close o.t 0 0 0).detect e l (some 0x41) true
    let run := exec (.outputVote e a b c true) s
    (exec (.outputVote e a b c false) s = .next (s.engineStop e o.t 0x48)) ∧
    (ra = v → rb = v → rc = v → run = .next (sends s)) ∧
    (ra ≠ v → rb = v → rc = v → run = .next (sends (found .a))) ∧
    (ra = v → rb ≠ v → rc = v → run = .next (sends (found .b))) ∧
    (ra = v → rb = v → rc ≠ v → run = .next (sends (found .c))) ∧
    ((ra ≠ v ∧ rb ≠ v) ∨ (ra ≠ v ∧ rc ≠ v) ∨ (rb ≠ v ∧ rc ≠ v) → run = .next (s.engineStop e o.t 0x46)) ∧
    (∀ r q, o.reqs = [r, q] → a = none → b = none → v = #v[some r, some q])

/-- A voted request takes effect (R92, R99, R100, R101, R137, R144): a load and a posted store become due with the voted address and data,
a message starts on its way to the mailbox that its target names, a trip request changes the bits that the fabric will see, a check-in or
a service starts towards the watchdog, and a selvedge-port operation or fence becomes due. -/
def Claims.VotedRequestsTakeEffect : Prop :=
  ∀ (s : State) (e : Eng) (t : Thr) (r : Request), s.together e = true →
    (r.kind = 1 → s.goOut e t 0 r =
      s.updThr e t fun x => { x with lsu := { x.lsu with load := x.lsu.load.map fun l => { l with pa := r.addr, sent := true } } }) ∧
    (∀ q pre post, r.kind = 2 → (s.eng e).sbuf = pre ++ q :: post → (∀ p ∈ pre, p.t ≠ t ∨ p.sent = true) → q.t = t → q.sent = false →
      s.goOut e t 0 r = s.updEng e fun x => { x with sbuf := pre ++ { q with pa := r.addr, data := r.data, sent := true } :: post }) ∧
    (r.kind = 3 → s.goOut e t 0 r =
      { s with flights := s.flights ++ [{ src := e, t := t, dst := ⟨r.target.toNat / 4 % 64, by omega⟩, box := ⟨r.target.toNat % 4, by omega⟩, v := r.data }] }) ∧
    (r.kind = 4 →
      let bits := (s.eng e).trqOut
      (r.addr = 0xF00070 → ((s.goOut e t 0 r).eng e).trqOut = bits ||| BitVec.ofNat 24 (2 ^ r.data.toNat)) ∧
      (r.addr = 0xF00071 → ((s.goOut e t 0 r).eng e).trqOut = if r.data = 31 then 0 else bits &&& ~~~BitVec.ofNat 24 (2 ^ r.data.toNat)) ∧
      (r.addr = 0xF00072 → ((s.goOut e t 0 r).eng e).trqOut = bits ||| (0#12 ++ r.data)) ∧
      (r.addr = 0xF00073 → ((s.goOut e t 0 r).eng e).trqOut = bits ||| (r.data ++ 0#12))) ∧
    (r.kind = 5 → r.addr = 0xF00074 → s.goOut e t 0 r =
      s.updWdg fun w => { w with inbox := w.inbox ++ [.check ⟨r.data.toNat % 16, by omega⟩] }) ∧
    (r.kind = 5 → r.addr = 0xF00075 → s.goOut e t 0 r = s.updWdg fun w => { w with inbox := w.inbox ++ [.serve e t] }) ∧
    (∀ op rest, r.kind = 6 → (s.eng e).svpq = op :: rest → op.t = t → op.sent = false →
      s.goOut e t 0 r = s.updEng e fun x =>
        { x with svpq := { op with a := loW r.target, b := hiW r.target, write := op.write.map fun _ => r.data, sent := true } :: rest }) ∧
    (∀ op rest, r.kind = 7 → r.addr = 0xF0007E → (s.eng e).svpq = op :: rest → op.t = t → op.sent = false → op.fence = true →
      s.goOut e t 0 r = s.updEng e fun x => { x with svpq := { op with sent := true } :: rest }) ∧
    (r.kind = 7 → r.addr = 0xF0004B → s.goOut e t 0 r = s)

/-- Two lanes must agree: requests that differ stop the engine with 0x47 and nothing goes out, and so do signatures that differ; the lane
that has run in step rejoins, or is detected with 0x43 when its signature differs (R141, R144, R147, R156). -/
def Claims.TwoLanesMustAgree : Prop :=
  ∀ (s : State) (e : Eng) (a b c : VoteFault) (x y : Lane), s.engRuns e = true → (s.heddle e).good = [x, y] →
    (∀ o rest, s.together e = true → (s.eng e).out = o :: rest →
      let req := fun (l : Lane) => (s.eng e).batch o.slot (match l with
        | .a => a
        | .b => b
        | .c => c)
      let left := s.updEng e fun z => { z with out := z.out.filter fun p => p.slot ≠ o.slot }
      let one := ((req x)[0].map (left.goOut e o.t 0)).getD left
      (req x = req y → exec (.outputVote e a b c true) s =
        .next ((((req x)[1].map (one.goOut e o.t 1)).getD one).updEng e fun z => { z with sent := (req x).toList.filterMap id })) ∧
      (req x ≠ req y → exec (.outputVote e a b c true) s = .next (s.engineStop e o.t 0x47))) ∧
    (∀ p rest, (s.heddle e).closed = p :: rest →
      let left := s.updHeddle e fun h => { h with closed := rest }
      let sig := fun (l : Lane) => p.sigs[(laneIdx l).val]
      (sig x ≠ sig y → exec (.pickVerdict e true) s = .next (left.engineStop e p.thr 0x47)) ∧
      (sig x = sig y → p.rejoin = false → exec (.pickVerdict e true) s = .next left) ∧
      (∀ l, sig x = sig y → p.rejoin = true → (s.heddle e).odd = some l → (s.heddle e).phase = .inStep →
        (sig l = sig x → exec (.pickVerdict e true) s = .next (left.rejoin e l)) ∧
        (sig l ≠ sig x → exec (.pickVerdict e true) s = .next (left.detect e l (some 0x43) true))))

/-- A pick of W moves closes with its three signatures and the next opens on the start value; the oldest closed pick is judged: three
equal signatures pass, one that differs is detected with 0x40, or with 0x49 when an injection into that lane was folded into the pick,
three different ones stop the engine with 0x45, verdict units that disagree with 0x48 (R139 to R141, R146, R165). -/
def Claims.PicksCloseAndAreJudged : Prop :=
  ∀ (s : State) (e : Eng) (timed : Bool) (xa xb xc : DWord), s.engRuns e = true →
    let h := s.heddle e
    (timed = true ∨ s.pickW e ≤ h.commits → exec (.pickClose e timed xa xb xc) s = .next (s.updHeddle e fun h =>
      { h with
        closed := h.closed ++ [⟨#v[h.sig[0] ^^^ xa, h.sig[1] ^^^ xb, h.sig[2] ^^^ xc], decide (h.phase = .inStep), if timed then 0 else h.lastThr, h.injPick⟩]
        sig := Vector.replicate 3 0x5A5A5A, injPick := Vector.replicate 3 false, picks := h.picks + 1
        count := #v[if h.commits? .a then 0 else h.count[0], if h.commits? .b then 0 else h.count[1], if h.commits? .c then 0 else h.count[2]] })) ∧
    (∀ p rest, h.closed = p :: rest → h.good = [.a, .b, .c] →
      let left := s.updHeddle e fun h => { h with closed := rest }
      let run := exec (.pickVerdict e true) s
      let found := fun (l : Lane) => if p.inj[(laneIdx l).val] then left.detect e l (some 0x49) false else left.detect e l (some 0x40) true
      (p.sigs[0] = p.sigs[1] → p.sigs[1] = p.sigs[2] → run = .next left) ∧
      (p.sigs[0] = p.sigs[1] → p.sigs[1] ≠ p.sigs[2] → run = .next (found .c)) ∧
      (p.sigs[0] = p.sigs[2] → p.sigs[1] ≠ p.sigs[2] → run = .next (found .b)) ∧
      (p.sigs[1] = p.sigs[2] → p.sigs[0] ≠ p.sigs[2] → run = .next (found .a)) ∧
      (p.sigs[0] ≠ p.sigs[1] → p.sigs[1] ≠ p.sigs[2] → p.sigs[0] ≠ p.sigs[2] → run = .next (left.engineStop e p.thr 0x45)) ∧
      exec (.pickVerdict e false) s = .next (left.engineStop e p.thr 0x48))

/-- A re-threading runs through bulk copy, pause and the steps in unison: the bulk copy brings the odd lane the source lane's caches,
tables, registers and configuration copies and leaves it its operations in flight; at the pause's end it holds what the source lane holds,
with its signature, the longest pause is kept and measured, and what waited at the delivery point reaches the lanes; a counted detection
below ENG.HCFG's limit starts one and freezes the lane with the configuration copies it has, at the limit it retires the lane and sets
DEGRADED (R154 to R159). -/
def Claims.RethreadingRejoinsOrRetires : Prop :=
  ∀ (s : State) (e : Eng) (l : Lane) (ek : Word),
    let h := s.heddle e
    let x := s.eng e
    let c := (x.view h.source)
    let up := (s.clu e.cluster).gated = false
    (∀ y, up → h.phase = .bulk → h.odd = some l → x.stray[(laneIdx l).val] = some y →
      ∃ u, exec (.bulkCopyEnd e) s = .next u ∧ u.heddle e = { h with phase := .copied } ∧ (u.eng e).toEngineCore = x.toEngineCore ∧
        (let z := (u.eng e).view l
         z.sets = c.sets ∧ z.tlb = c.tlb ∧ z.wcache = c.wcache ∧ z.mbox = c.mbox ∧ z.ipend = c.ipend ∧ z.trq = c.trq ∧
           z.cfg = some (s.engCopies e) ∧ z.sbuf = y.sbuf ∧ z.walk = y.walk ∧ z.out = y.out ∧
           ∀ t : Thr, z.threads[t.val].g = c.threads[t.val].g ∧ z.threads[t.val].pc = c.threads[t.val].pc ∧
             z.threads[t.val].lsu.load = y.threads[t.val].lsu.load ∧ z.threads[t.val].staged = y.threads[t.val].staged ∧
             z.threads[t.val].tmr = y.threads[t.val].tmr)) ∧
    (up → h.phase = .copied → exec (.pauseStart e) s = .next (s.updHeddle e fun h => { h with phase := .paused })) ∧
    (∀ g rest, up → h.phase = .paused → h.odd = some l → h.good = g :: rest → x.apart g = false →
      let back := s.updEng e fun x =>
        { x with
          held := []
          stray := x.stray.set (laneIdx l).val none
          heddle := { h with
            phase := .inStep, gatedEk := h.gatedEk + ek.toNat, sig := h.sig.set (laneIdx l).val (h.sigOf g)
            count := h.count.set (laneIdx l).val h.count[(laneIdx g).val]
            maxp := if h.maxp.toNat < ek.toNat then ek else h.maxp } }
      let measured := fun (u : State) => u.gaugeFeed 6 e.val none (ek.setWidth 24)
      (x.held = [] → exec (.pauseEnd e ek) s = .next (measured back)) ∧
      (∀ d, x.held = [d] → exec (.pauseEnd e ek) s = .next (measured (back.deliverNow e d)))) ∧
    (let counted := s.updHeddle e fun h =>
       { h with cnt := upd h.cnt (laneIdx l) fun c => sat12 (c.toNat + 1), times := upd h.times (laneIdx l) fun ts => (s.fk :: ts).take 15 }
     let limit := bitsAt (s.reg (engBase e + 0x40)) 8 4
     let u := s.detect e l (some 0x40) true
     (limit ≤ counted.recentDetections e l →
       (u.heddle e).isRetired l = true ∧ (u.heddle e).odd = none ∧ u.dev.degraded = true) ∧
     (counted.recentDetections e l < limit →
       (u.heddle e).odd = some l ∧ (u.heddle e).phase = .bulk ∧ (u.heddle e).commits? l = false ∧ (u.eng e).apart l = true ∧
         ((u.eng e).view l).toEngineCore = { (x.view l).toEngineCore with cfg := some (s.engCopies e) } ∧ u.dev.degraded = s.dev.degraded))

/-! ### Memory (R182 to R194, R213) -/

/-- Retention: an idle bank of a dozing, gated cluster that may be retained enters it, an access wakes it, the wake ends active; a bank
that loses its contents shows in CLU.RLOST and at source 64 + c with its base address (the model's
choice, notes/assumptions/62), and no write of its words stands any longer: R194 leaves their contents undefined, and each word reads as a
free value of the bank's loss count (notes/assumptions/2). -/
def Claims.BanksSleepWakeAndLose : Prop :=
  ∀ (s : State) (c : Clu) (b : Bank),
    let now := (s.clu c).banks[b.val]
    let set := fun (k : BankMode) => s.updClu c fun x => { x with banks := x.banks.set b.val k }
    (s.doze = true → s.regB (cluBase c + 1) b.val = true → (s.clu c).gated = true → now = .active → s.retainable c b = true →
      exec (.retentionEnter c b) s = .next (set .retained)) ∧
    (now = .retained → ∀ a : Addr, (regionOf a).bank = some (c, b) → s.wake a = set .waking) ∧
    (now = .waking → exec (.bankWake c b) s = .next (set .active)) ∧
    (now ≠ .active → ∃ u, exec (.retentionLoss c b) s = .next u ∧ (u.clu c).rlost.getLsbD b.val = true ∧
      (u.clu c).epoch[b.val] = (s.clu c).epoch[b.val] + 1 ∧
      (∀ p ∈ u.mem, b ≠ 10 → inBank c b p.1 = false) ∧ (∀ p ∈ u.prog, b = 10 → p.1 / 131072 ≠ c.val) ∧
      (s.up = true → (s.src (dataSrc c)).waiting.length < 5 →
        (u.src (dataSrc c)).waiting = (s.src (dataSrc c)).waiting ++ [⟨0x06, BitVec.ofNat 24 (bankBase c b), none⟩]))

/-- CLU.FLEX keeps a legal arrangement: LOCAL with an engine or the shuttle as its owner, SHARED with two different codes, and refuses a
reserved code (R175 to R178). -/
def Claims.FlexBanksAreArranged : Prop :=
  ∀ (s : State) (m : Master) (c : Clu) (v : Word),
    let a := cluBase c
    let x := v.toNat / 16 % 16
    let y := v.toNat % 16
    let code := fun (k : Nat) => k ≤ 9 ∨ k = 15
    let legal := (v.toNat / 1024 = 0 ∧ x ≤ 8 ∧ code y) ∨ (v.toNat / 1024 = 1 ∧ (x ≠ y ∨ x = 15) ∧ code x ∧ code y)
    s.canWrite m a = true →
      (legal → exec (.cluFlexWrite m c v) s = .next (s.wrote m a v)) ∧
      (¬ legal → exec (.cluFlexWrite m c v) s = .next (((s.wakeFor a).countRefusal m a).refusedAt m a))

/-! ### Sensing (R232 to R256) -/

/-- The bits of an interval enter the path's filter, in the order of the group's edges; after its first results are dropped each is
delivered while the path is valid, and on the bobbin's source path a delivered one is numbered. Full-scale bitstreams give the ends of the
24-bit range (R229, R234 to R236, R239). -/
def Claims.FiltersDeliverEachInterval : Prop :=
  (∀ (s : State) (n : Chan) (fast : Bool) (bits : List Bool) (f0 f1 : CopyFault),
    let g := groupOf n
    let p := if fast then (s.chan n).fast else (s.chan n).precise
    s.inRun = true → s.pathEn n fast = true → s.regB (groupReg g.val) 11 = true → (s.groupAt g).lost = false → s.endDue n fast = true →
    bits.length = 2 ^ s.pathK n fast ∨ (p.part = true ∧ 1 ≤ bits.length ∧ bits.length ≤ 2 ^ s.pathK n fast) →
    ∃ u, exec (.decimationIntervalEnd n fast bits f0 f1) s = .next u ∧
      (let q := if fast then (u.chan n).fast else (u.chan n).precise
       let hist := (bits.reverse ++ p.hist).take ((if fast then 2 else 3) * 2 ^ s.pathK n fast)
       let y := sincOut (2 ^ s.pathK n fast) (if fast then 2 else 3) hist
       q.hist = hist ∧ q.skip = p.skip - 1 ∧ q.ends = p.ends + 1 ∧ q.part = false ∧
       q.value = (if p.skip ≠ 0 ∨ (s.groupAt g).iso = true ∨ (s.chan n).stuck = true then p.value
         else if fast then fastOut (s.pathK n fast) y else preciseOut (s.pathK n fast) y)) ∧
      (u.chan n).count = (s.chan n).count +
        (if p.skip = 0 ∧ (s.groupAt g).iso = false ∧ (s.chan n).stuck = false ∧ s.bobFast n = fast then 1 else 0)) ∧
  preciseOut 5 (sincOut 32 3 (List.replicate 96 true)) = 0x7FFFFF ∧ preciseOut 5 (sincOut 32 3 (List.replicate 96 false)) = 0x800000 ∧
  fastOut 2 (sincOut 4 2 (List.replicate 8 true)) = 0x0007FF ∧ fastOut 2 (sincOut 4 2 (List.replicate 8 false)) = 0xFFF800

/-- A lost group clock and a stuck bitstream are counted once and make their channels invalid; their return restarts the filters, whose
first results are dropped (R234, R240). The edge count of a device-driven group takes that of the groups it coincides with (the model's
choice, notes/assumptions/58), so the clause on a group's return speaks of the others. -/
def Claims.ClockLossAndStuckBitstreams : Prop :=
  ∀ (s : State) (g : Fin 12) (n : Chan), s.inRun = true →
    let stop := fun (lost : Bool) => { s with groups := s.groups.set g.val { s.groupAt g with lost := lost } }
    (s.regB (groupReg g.val) 11 = true → (s.groupAt g).lost = false →
      exec (.groupClockLost g) s = .next ((stop true).refreshGaps.raise (groupSrc g) 0x01 0).fabric) ∧
    ((s.groupAt g).lost = true → s.sdcDriven g = false →
      exec (.groupClockResume g) s = .next (State.refreshGaps { stop false with
        chans := vmap (fun i (c : Channel) => if i / 4 = g.val then c.restart else c) s.chans }).fabric) ∧
    (s.regB (groupReg (n.val / 4)) 11 = true → (s.groupAt (groupOf n)).lost = false → (s.chan n).stuck = false →
      exec (.stuckBitstream n) s =
        .next ((s.updChan n fun c => { c with stuck := true }).refreshGaps.raise (groupSrc (groupOf n)) (BitVec.ofNat 7 (0x10 + n.val % 4)) 0).fabric) ∧
    ((s.chan n).stuck = true →
      exec (.bitstreamTransition n) s = .next (s.updChan n fun c => { c.restart with stuck := false }).refreshGaps.fabric) ∧
    (∀ c : Channel, c.restart.precise.skip = 2 ∧ c.restart.precise.hist = [] ∧ c.restart.fast.skip = 1 ∧ c.restart.fast.hist = [] ∧
      c.restart.precise.part = true ∧ c.restart.count = c.count ∧ c.restart.precise.value = c.precise.value)

/-- A slot of a converter ends: its code is shown and counted, the converter's next slot follows, an input that did not complete is marked
and counts 0x01 at source 96 (A) or 97 (B), and a reference outside 2,032 to 2,064 counts 0x02. A paired slot of converter B compares its
code with A's of the same slot: more than DTOL apart counts 0x03 at source 96 (R242 to R244). That each counts its own slots and A's of a common
tick ends first is the model's choice (notes/assumptions/62), that it asks for the enables alone its reading (notes/assumptions/33). -/
def Claims.ConversionsAreShownAndChecked : Prop :=
  ∀ (s : State) (code : Word),
    let counts := fun (u : State) (n : Fin 160) (cause : BitVec 7) => s.up = true → (s.src n).waiting.length < 5 →
      (u.src n).waiting = (s.src n).waiting ++ [⟨cause, 0, none⟩]
    (s.regB adcBase 11 = true → s.adc.isoA = false →
    let q := s.adcSlot false s.adc.slotA
    let next := if s.adc.slotA + 1 < q.2.2 then s.adc.slotA + 1 else 0
    (∀ i : Fin 16, q.2.1 = i.val → ∃ u, exec (.conversionSlotEnd false code true) s = .next u ∧
      u.adc = { s.adc with slotA := next, ra := s.adc.ra.set i.val code, cntA := s.adc.cntA + 1, badA := s.adc.badA.set i.val false
                           pairA := if q.1 then some (s.adc.slotA, code) else none }) ∧
    (∀ i : Fin 16, q.2.1 = i.val → ∃ u, exec (.conversionSlotEnd false code false) s = .next u ∧
      u.adc = { s.adc with slotA := next, badA := s.adc.badA.set i.val true, pairA := none } ∧ counts u 96 0x01) ∧
    (q.2.1 = 16 → ∃ u, exec (.conversionSlotEnd false code true) s = .next u ∧ u.adc.rrefA = code ∧ u.adc.slotA = next ∧
      u.adc.ra = s.adc.ra ∧ (code.toNat < 2032 ∨ 2064 < code.toNat → counts u 96 0x02))) ∧
    (s.regB adcBase 10 = true → s.adc.isoB = false →
      let q := s.adcSlot true s.adc.slotB
      let next := if s.adc.slotB + 1 < q.2.2 then s.adc.slotB + 1 else 0
      let shown := fun (i : Fin 16) (pair : Option (Nat × Word)) =>
        { s.adc with slotB := next, rb := s.adc.rb.set i.val code, cntB := s.adc.cntB + 1, badB := s.adc.badB.set i.val false, pairA := pair }
      (∀ i : Fin 16, q.2.1 = i.val → (q.1 = false ∨ ∀ c, s.adc.pairA ≠ some (s.adc.slotB, c)) → ∃ u, exec (.conversionSlotEnd true code true) s = .next u ∧
        u.adc = shown i s.adc.pairA) ∧
      (∀ (i : Fin 16) (c : Word), q.2.1 = i.val → q.1 = true → s.adc.pairA = some (s.adc.slotB, c) →
        ∃ u, exec (.conversionSlotEnd true code true) s = .next u ∧ u.adc = shown i none ∧
          (if bitsAt (s.reg (adcBase + 1)) 0 8 < max (c.toNat - code.toNat) (code.toNat - c.toNat) then counts u 96 0x03
            else (u.src 96).waiting = (s.src 96).waiting)) ∧
      (∀ i : Fin 16, q.2.1 = i.val → ∃ u, exec (.conversionSlotEnd true code false) s = .next u ∧
        u.adc = { s.adc with slotB := next, badB := s.adc.badB.set i.val true } ∧ counts u 97 0x01) ∧
      (q.2.1 = 16 → ∃ u, exec (.conversionSlotEnd true code true) s = .next u ∧ u.adc.rrefB = code ∧ u.adc.slotB = next ∧
        u.adc.rb = s.adc.rb ∧ (code.toNat < 2032 ∨ 2064 < code.toNat → counts u 97 0x02)))

/-- A write waiting for a bobbin copy is performed, in the order in which the group's writes left the front end, and its samples become
available; one that fails, at any of its words, stores nothing, sets BERR, is counted, and the bobbin advances all the same, so that the
slot keeps what it held before (R184, R229, R246, R248). A write for an attached cursor is a wake event of a gated cluster (R457). -/
def Claims.BobbinsAdvance : Prop :=
  ∀ (s : State) (n : Chan) (second : Bool) (c : Clu) (w : BobWrite) (rest : List BobWrite) (k : Fin 9),
    s.bobCluster n second = some c → (if second then (s.chan n).queue1 else (s.chan n).queue0) = w :: rest → s.bobTurn n second w = true →
    (s.clu c).iso = false →
    let taken := fun (s : State) => s.updChan n fun x =>
      if second then { x with queue1 := rest, avail1 := x.avail1 + w.samples } else { x with queue0 := rest, avail0 := x.avail0 + w.samples }
    let before := s.bobAvail n c
    let store := fun (s : State) (l : List (Nat × Word)) => l.foldl (fun s p => s.setMem (bobAddr c (p.1 % 0x4000)) p.2) s
    let fails := fun (s : State) => s.updChan n fun x => { x with berr := true, berrNow := true }
    ((s.clu c).gated = false →
      exec (.bobbinWrite n second .ok k) s = .next ((taken (store s w.words)).bobAdvance n c before) ∧
      exec (.bobbinWrite n second .weftFail k) s =
        .next ((taken ((fails s).raiseBy (some .frontEnd) 81 0x02 (BitVec.ofNat 24 (bobAddr c ((w.words.head?.map Prod.fst).getD 0))))).bobAdvance n c before) ∧
      (∀ p, w.words[k.val]? = some p →
        exec (.bobbinWrite n second .bankFail k) s =
          .next ((taken ((fails s).memEvent c 9 .frontEnd 3 0x04 (BitVec.ofNat 24 (bobAddr c p.1)) true)).bobAdvance n c before))) ∧
    (∀ (e : Eng) (t : Thr), (s.clu c).gated = true → e.cluster = c → (s.thr e t).smp.chan = some n →
      ∃ u, exec (.bobbinWrite n second .ok k) s = .next u ∧ (u.clu c).woken = true ∧ (u.clu c).gated = true)

/-- A millisecond with an invalid input adds 1 to the gap count of a meter that is on and not halted; nothing else of the accumulators
changes. MTR.LATCH copies both meters' accumulators; MTR.CLR in SETUP, unless SEALED, clears the named meters with their shadow copies
(R255, R257, R259, R271). -/
def Claims.MetersCountLatchAndClear : Prop :=
  ∀ (s : State) (m : Master) (v : Word),
    (s.inRun = true → ∃ u, exec .meterGapMs s = .next u ∧ ∀ k : Fin 2,
      let x := s.meter k
      (u.meter k).acc = { x.acc with gap := if x.on && x.gapMs && !x.halted then x.acc.gap + 1 else x.acc.gap }) ∧
    (s.canWrite m (mtrBase + 0xD) = true → v.getLsbD 0 = true →
      exec (.mtrLatch m v) s =
        .next ((s.updMtr fun x => { x with latch := #v[x.m[0].acc, x.m[1].acc] }).acceptedAt m)) ∧
    (s.canWrite m (mtrBase + 0xC) = true → s.dev.phase = .setup → s.dev.sealed = false →
      ∃ u, exec (.mtrClr m v) s = .next u ∧ (∀ k : Fin 2,
        (u.meter k).acc = (if v.getLsbD k.val then {} else (s.meter k).acc) ∧
        u.mtr.shadow.acc[k.val] = (if v.getLsbD k.val then {} else s.mtr.shadow.acc[k.val]))) ∧
    (s.live m = true → s.dev.sealed = true → exec (.mtrClr m v) s =
      .next ((s.countRefusal m (mtrBase + 0xC)).refusedAt m (mtrBase + 0xC)))

/-- A product is accumulated by its sign, with saturation at 2^95 − 1, and counted (R254). -/
def Claims.MeterProductsAccumulateBySign : Prop :=
  ∀ (a : MeterAcc) (p : Int),
    (a.add p).1.n = a.n + 1 ∧ (a.add p).1.gap = a.gap ∧
    (0 ≤ p → (a.add p).1.exp = a.exp ∧ ((a.add p).1.imp : Int) = min (a.imp + p) (2 ^ 95 - 1) ∧ ((a.add p).2 = true ↔ 2 ^ 95 ≤ a.imp + p)) ∧
    (p < 0 → (a.add p).1.imp = a.imp ∧ ((a.add p).1.exp : Int) = min (a.exp - p) (2 ^ 95 - 1) ∧ ((a.add p).2 = true ↔ 2 ^ 95 ≤ a.exp - p))

/-! ### Snapshots and the companion port (R257 to R266, R190) -/

/-- A snapshot advances SEQ, commits the accumulators to the shadow, writes its 62 words with their CHK to the buffer that DIR does not
name, then DIR names it and INT_N goes low where the port responds (R261 to R263, R265). A transfer that succeeds when it is sent again
counts at source 80, and one that fails for good at source 81 (R182); its word, of which `k` is the number in the buffer and 64 DIR's, is
not written, and the rest is done all the same (the model's choice, notes/assumptions/58). -/
def Claims.SnapshotsAreWrittenThenNamed : Prop :=
  ∀ (s : State) (o : SnapOutcome), s.inRun = true → s.memCanonical = true →
    ∃ u, exec (.snapshot o) s = .next u ∧ u.mtr.shadow.seq = s.mtr.shadow.seq + 1 ∧ (s.cmpOn = true → u.intIsLow = true) ∧ (s.cmpOn = false → u.intIsLow = false) ∧
      (∀ k : Fin 2, u.mtr.shadow.acc[k.val] = (s.meter k).acc) ∧
      (let dir := s.memWord 0x900000
       let buf := if dir.getLsbD 11 then 0x900040 else 0x900080
       let words := (s.updMtr fun x => { x with shadow := { x.shadow with seq := x.shadow.seq + 1, acc := #v[x.m[0].acc, x.m[1].acc] } }).snapshotWords
       let chk := crc24 words
       let all := words ++ [chk.setWidth 12, (chk >>> 12).setWidth 12]
       let counts := fun (n : Fin 160) (cause : BitVec 7) (a : Nat) => s.up = true → (s.src n).waiting.length < 5 →
         (u.src n).waiting = (s.src n).waiting ++ [⟨cause, BitVec.ofNat 24 a, some .frontEnd⟩]
       words.length = 62 ∧
       (∀ k : Fin 65, k ≠ 64 → u.memWord (buf + k.val) = if o = .failed k then s.memWord (buf + k.val) else all.getD k.val 0) ∧
       (o ≠ .failed 64 → (u.memWord 0x900000).getLsbD 11 = (!dir.getLsbD 11) ∧
         (u.memWord 0x900000).toNat % 2048 = (s.mtr.shadow.seq + 1).toNat % 2048) ∧
       (o = .failed 64 → u.memWord 0x900000 = dir) ∧
       (o = .resent → counts 80 0x01 buf) ∧ (∀ k, o = .failed k → counts 81 0x02 (if k = 64 then 0x900000 else buf + k.val)) ∧
       (∀ a, a ≠ 0x900000 → (a < buf ∨ buf + 64 ≤ a) → u.memWord a = s.memWord a))

/-- The companion port: a read drives the stored word with its stored address parity, counted where that fails; a write with good parity
above word 0xFF is stored; one below, one with bad parity, or with OE_N and WE_N low together, is counted and not; a read of CST shows
INT_N and the meters; CACK releases INT_N, but not from a publication of the same fabric clock. A port that is off answers nothing (R260,
R265, R266, R273). -/
def Claims.CompanionPortReadsAndWrites : Prop :=
  ∀ (s : State) (a : BitVec 13) (v : Word),
    let good := foldedParity a.toNat v
    let i := a.toNat % 2048
    let act := fun (write : Bool) => s.updMtr fun x => { x with act := true, reading := !write }
    (s.cmpOn = false → exec (.companionRead a false .none) s = .next s ∧ exec (.companionWrite a v good false .none) s = .next s ∧
      exec (.cack v (foldedParity 0x801 v)) s = .next s) ∧
    (s.cmpOn = true →
      (a.toNat / 2048 = 0 →
        (let w := s.memWord (0x900000 + i)
         let t := (act false).updMtr fun x => { x with driven := some (w, s.memP (0x900000 + i)) }
         (s.memGood (0x900000 + i) = true → exec (.companionRead a false .none) s = .next t) ∧
         (s.memGood (0x900000 + i) = false → exec (.companionRead a false .none) s = .next (t.companionEvent 132 0x02 a))) ∧
        (0x100 ≤ i → exec (.companionWrite a v good false .none) s = .next ((act true).setMem (0x900000 + i) v)) ∧
        (i < 0x100 → exec (.companionWrite a v good false .none) s = .next ((act true).companionEvent 133 0x02 a))) ∧
      (a = 0x800 →
        (let w := flag 11 s.mtr.intLow ||| flag 10 s.dev.sealed ||| flag 9 (s.meter 0).halted ||| flag 8 (s.meter 1).halted
         exec (.companionRead a false .none) s =
          .next ((act false).updMtr fun x => { x with driven := some (w, foldedParity 0x800 w) }))) ∧
      exec (.companionWrite a v good true .none) s = .next ((act true).companionEvent 133 0x03 a) ∧
      exec (.companionWrite a v (!good) false .none) s = .next ((act true).companionEvent 132 0x01 a) ∧
      exec (.cack v (foldedParity 0x801 v)) s =
        .next (if v.getLsbD 0 then (act true).updMtr fun x => { x with intLow := x.intNow } else act true) ∧
      exec (.cack v (!foldedParity 0x801 v)) s = .next ((act true).companionEvent 132 0x01 0x801))

/-- A companion-RAM load that receives BUSY is presented again, at most four times; the first result without BUSY, or the last, is the one
that the load takes, and BUSY shows with the last one alone (R79, R188, R190). -/
def Claims.BusyReadsArePresentedAgain : Prop :=
  ∀ (s : State) (e : Eng) (t : Thr) (l : Load) (o2 : ReadOutcome) (h h2 : Container), s.together e = true → s.still e = false →
    s.loadOf e t = some l → l.second = none → regionOf l.pa = .companion →
    let upd := fun (k : Option Nat) (r : ReadOutcome) => s.updThr e t fun x =>
      { x with lsu := { x.lsu with load := x.lsu.load.map fun q => { q with tries := k, result := some (r, o2) } } }
    (l.tries = none → l.result = none → exec (.loadComplete e t .collided o2 h h2) s = .next (upd (some 4) .collided)) ∧
    (∀ k, l.tries = some k → l.result = some (.collided, o2) →
      (1 < k → exec (.busyRepresent e t .collided o2) s = .next (upd (some (k - 1)) .collided)) ∧
      (k ≤ 1 → exec (.busyRepresent e t .collided o2) s = .next (upd none .collided)) ∧
      exec (.busyRepresent e t .ok o2) s = .next (upd none .ok)) ∧
    (l.tries = none → l.result = some (.ok, o2) → s.wordGood l.pa = true → exec (.loadComplete e t .ok o2 h h2) s =
      .next (s.updThr e t fun x => { x with lsu := x.lsu.loaded false false (s.memWord l.pa.toNat) none })) ∧
    (l.tries = none → l.result = some (.collided, o2) → exec (.loadComplete e t .ok o2 h h2) s =
      .next ((s.takeFree).updThr e t fun x => { x with lsu := x.lsu.loaded false true (Config.collidedWord s.free) none }))

/-! ### The trip fabric and the vehicle side (R274 to R303) -/

/-- What the fabric makes of its inputs: each of the three copies latches its own raw values, a line is asserted where two of them have it,
one that becomes asserted sets SAFE when it may, and the fabric never clears SAFE; in SAFE every output but the lock hold and the pilot
override is at its safe level (R281 to R287). While a lock fault stands, a line may be evaluated twice (R295), so the clause on the lines
speaks of the states without one. -/
def Claims.TripLinesAssertLatchAndSetSafe : Prop :=
  ∀ (s b : State),
    let h := s.holdComparators.vehicleInputs
    let u := s.fabricFrom b
    (∀ n : Fin 24, s.trip.lockFault = 0 →
      u.trip.raw.getLsbD n.val = vote3 (fun k => h.rawCopy k n.val) ∧
      (∀ k : Fin 3, u.trip.copies[k.val].getLsbD n.val =
        (h.rawCopy k.val n.val || (s.trip.copies[k.val].getLsbD n.val && s.regB (lineReg n.val 9) 10))) ∧
      u.trip.asserted.getLsbD n.val = vote3 (fun k => (u.trip.copies.toList[k]?.getD 0).getLsbD n.val)) ∧
    ((∃ n : Fin 24, u.trip.asserted.getLsbD n.val = true ∧ s.trip.asserted.getLsbD n.val = false ∧ s.lineSafe n.val = true) →
      u.dev.safe = true) ∧
    (s.dev.safe = true → u.dev.safe = true) ∧ u.regs = s.regs ∧ u.mem = s.mem ∧
    (u.dev.safe = true → ∀ j, j < 21 → u.outAtSafe j = true)

/-- A comparator's evaluation: beyond a limit in force counts up, anything else starts again; at the persistence count the comparator
changes over; once active it counts the values that are back inside by the hysteresis (R278). -/
def Claims.ComparatorsCountToTheirPersistence : Prop :=
  (∀ (c : Comparator) (v hi lo h : Int) (hien loen : Bool) (p : Nat), 0 < p → c.cnt < p →
    let hit := if c.act then (hien = false ∨ v ≤ hi - h) ∧ (loen = false ∨ lo + h ≤ v)
      else (hien = true ∧ hi < v) ∨ (loen = true ∧ v < lo)
    (¬ hit → tcEval c v hi lo h hien loen p = { c with cnt := 0 }) ∧
    (hit → c.cnt + 1 < p → tcEval c v hi lo h hien loen p = { c with cnt := c.cnt + 1 }) ∧
    (hit → c.cnt + 1 = p → tcEval c v hi lo h hien loen p = { c with act := !c.act, cnt := 0 })) ∧
  ∀ (s : State) (n : Fin 64),
    let w := s.updTc n fun c => { c with stale := false }
    let cfg := s.reg (tcReg n.val 0)
    (s.tcKind n.val ≠ 0 → s.badCmp n.val = false → w.tcInvalid n = false →
      exec (.comparatorEvaluate n) s = .next (w.updTc n fun c =>
        tcEval c (s.tcValue n.val) (s.reg2 (tcReg n.val 2)).toInt (s.reg2 (tcReg n.val 4)).toInt ((s.regN (tcReg n.val 6) : Int) * 256)
          (cfg.getLsbD 2) (cfg.getLsbD 1) (bitsAt (s.reg (tcReg n.val 1)) 0 8)).fabric) ∧
    (1 ≤ s.tcKind n.val → s.tcKind n.val ≤ 5 →
      exec (.sourceInvalidTimeout n) s = .next (s.updTc n fun c => { c with stale := true }).fabric)

/-- Levels reach the fabric: a pin's filter in the copies named, an engine's voted request bits, and the PIO's own view of a pin, whose
selected edges toggle the event lines 16 to 23 of every engine; the pins are ignored without VCORE or their bank (R99, R144, R275, R281,
R301, R304). -/
def Claims.FabricInputsArrive : Prop :=
  ∀ (s : State) (p : Pin) (q : BitVec 6) (level : Bool) (copies : BitVec 3) (e : Eng),
    (fabricPin p.val = true → s.inputsOk = true → exec (.fabricPinLevel p level copies) s =
      .next ((s.updTrip fun x => { x with filt := upd x.filt p fun v => if level then v ||| copies else v &&& ~~~copies }).fabricFrom s)) ∧
    (s.inputsOk = false → exec (.fabricPinLevel p level copies) s = .next s ∧ exec (.pioEvent q level) s = .next s) ∧
    (exec (.tripRequestArrive e) s = .next (s.updTrip fun x => { x with req := x.req.set e.val (s.eng e).trqOut }).fabric) ∧
    (s.inputsOk = true → q.toNat ≤ 0x28 → s.trip.pio.getLsbD q.toNat ≠ level → ∃ u, exec (.pioEvent q level) s = .next u ∧
      (∀ k, k < 64 → u.trip.pio.getLsbD k = if k = q.toNat then level else s.trip.pio.getLsbD k) ∧
      (∀ (e : Eng) (k : Nat), k < 8 → bitsAt (s.reg (pioBase + 0x10 + k)) 0 6 = q.toNat →
        s.regB (pioBase + 0x10 + k) (if level then 10 else 11) = true → (u.eng e).lineIn.getLsbD (16 + k) = true)) ∧
    (s.trip.pio.getLsbD q.toNat = level → exec (.pioEvent q level) s = .next s)

/-- Writes of the fabric's configuration, over the selvedge port: a comparator's KIND and period restart its count, another source is no
longer stale, illegal ones are refused; a line's GPIO selection makes the selected pins inputs; a release drops the named lines in each
copy whose raw value is 0 (R276 to R283, R303, R307, R308). -/
def Claims.TripConfigurationWrites : Prop :=
  ∀ (s : State) (m : Master) (n : Fin 64) (k : Fin 24) (high : Bool) (v : Word),
    let cfg := 8 * n.val
    let tlg := 0x200 + 16 * k.val + 6 + bit1 high
    let rel := trfBase + 0x4A0 + bit1 high
    let names : BitVec 24 := if high then v ++ 0#12 else 0#12 ++ v
    let kept : Vector (BitVec 24) 3 := vmap (fun k c => c &&& ~~~(names &&& ~~~s.rawLines k)) s.trip.copies
    (s.canWrite m (trfBase + cfg) = true → tcCfgOk v = true → exec (.tcCfgWrite m n false v) s =
      .next ((((s.keepTrf cfg v).updTc n fun c =>
        { c with cnt := 0, act := c.act && decide (v.toNat / 512 ≠ 0)
                 stale := c.stale && decide (v.toNat / 8 = (s.regN (trfBase + cfg)) / 8) }).fabricFrom s).acceptedAt m)) ∧
    (s.canWrite m (trfBase + cfg) = true → tcCfgOk v = false →
      exec (.tcCfgWrite m n false v) s = .next ((s.countRefusal m (trfBase + cfg)).refusedAt m (trfBase + cfg))) ∧
    (s.canWrite m (trfBase + cfg + 1) = true → v.toNat % 256 ≠ 0 → exec (.tcCfgWrite m n true v) s =
      .next ((((s.keepTrf (cfg + 1) v).updTc n fun c => { c with cnt := 0 }).fabricFrom s).acceptedAt m)) ∧
    (s.canWrite m (trfBase + tlg) = true → exec (.tlgWrite m k high v) s =
      .next (((s.keepTrf tlg v).selectedInputs.fabricFrom s).acceptedAt m)) ∧
    (s.canWrite m rel = true → exec (.tlrel m high v) s =
      .next (((s.updTrip fun x => { x with copies := kept, asserted := maj kept[0] kept[1] kept[2] }).fabricFrom s).acceptedAt m))

/-- The checks that report and change nothing else: copies that disagree at source 101, a read-back mismatch at 102; a failing
configuration word is noted and counted at source 100 with its cause. A comparator word holds its comparator at ACT = 1, a line word asserts
its line and sets SAFE, an output-map word makes its output safe, or the lock hold active, and an enable, polarity, filter, lock, pilot or
computed-value word makes every output safe and the lock hold active; a write replaces a failing word (R303). -/
def Claims.FabricSelfChecksReport : Prop :=
  ∀ (s : State) (n : Fin 24) (j : Fin 23) (p : Fin 25) (off : Word),
    (exec (.copyDisagree (.line n)) s = .next (s.raise 101 (BitVec.ofNat 7 n.val) 0)) ∧
    (exec (.copyDisagree (.output j)) s = .next (s.raise 101 (BitVec.ofNat 7 (0x20 + j.val)) 0)) ∧
    (exec (.readbackMismatch p) s = .next (s.raise 102 (BitVec.ofNat 7 p.val) 0)) ∧
    (exec (.configCheckScan off false) s = .next s) ∧
    (trfConfigWord off.toNat = true → ∃ u, exec (.configCheckScan off true) s = .next u ∧ off.toNat ∈ u.trip.badCfg ∧ u.trip.cpea = off ∧
      (off.toNat < 0x200 → (u.trip.tc[off.toNat / 8 % 64]).act = true) ∧
      (0x200 ≤ off.toNat → off.toNat < 0x380 → u.trip.asserted.getLsbD ((off.toNat - 0x200) / 16) = true ∧
        (s.trip.asserted.getLsbD ((off.toNat - 0x200) / 16) = false → u.dev.safe = true)) ∧
      (∀ j : Fin 23, off.toNat = 0x400 + 2 * j.val ∨ off.toNat = 0x401 + 2 * j.val → u.outAtSafe j.val = true) ∧
      (0x440 ≤ off.toNat → ∀ j : Fin 23, u.outAtSafe j.val = true) ∧
      (s.up = true → (s.src 100).waiting.length < 5 →
        (u.src 100).waiting = (s.src 100).waiting ++ [⟨trfCause off.toNat, BitVec.ofNat 24 (trf off.toNat), none⟩])) ∧
    (∀ (o : Nat) (v : Word), o ∉ (s.keepTrf o v).trip.badCfg)

/-- The emergency stop's discrepancy, the lock's hold and its faults: EDISC is set and counted at source 103 while exactly one channel
shows pressed; the hold ends only when neither channel of the 60 V rule keeps it; the lock cause that has lasted is set while it stands,
and no other one (R292 to R295). That a lock fault names its cause and clears with it is the model's reading (notes/assumptions/34). -/
def Claims.EstopAndDoorLock : Prop :=
  ∀ s : State,
    (s.pressedA ≠ s.pressedB → ∃ u, exec .estopDiscrepancy s = .next u ∧ u.trip.edisc = true ∧ u.trip.estopTrip = true ∧
      (s.up = true → (s.src 103).waiting.length < 5 → (u.src 103).waiting = (s.src 103).waiting ++ [⟨0x01, 0, none⟩])) ∧
    (s.pressedA = s.pressedB → exec .estopDiscrepancy s = .next s) ∧
    (s.trip.hold = true → s.holds60 = false → ∃ u, exec .lockHoldEnd s = .next u ∧ u.trip.hold = false) ∧
    (s.holds60 = true → exec .lockHoldEnd s = .next s) ∧
    (∀ hold, ∃ u, exec (.lockFault hold) s = .next u ∧
      u.trip.lockFault.getLsbD 0 = ((!hold || s.trip.lockFault.getLsbD 0) && decide (s.lockPos = 0 ∨ s.lockPos = 3)) ∧
      (s.trip.hold = true → s.trip.lockOut = true →
        u.trip.lockFault.getLsbD 1 = ((hold || s.trip.lockFault.getLsbD 1) && decide (s.lockPos ≠ 1))))

/-- The common 40 kHz count and the SAFE pair: a KD output that may run starts with a high half-period; a pair that runs toggles, one
that does not stays (R288). -/
def Claims.OutputsToggleInStep : Prop :=
  ∀ s : State,
    (s.inRun = true → ∃ u, exec .kdHalfPeriod s = .next u ∧ u.trip.kdPhase = !s.trip.kdPhase ∧
      (∀ i : Fin 4, u.trip.kdRun.getLsbD i.val = (s.trip.kdRun.getLsbD i.val || (!s.trip.kdPhase && s.kdMay i.val)))) ∧
    (s.inRun = false → exec .kdHalfPeriod s = .next s) ∧
    (s.trip.safeRun = true → exec .safePairHalfPeriod s = .next (s.updTrip fun x => { x with safePhase := !x.safePhase })) ∧
    (s.trip.safeRun = false → exec .safePairHalfPeriod s = .next s)

/-- The pilot and the insulation monitor: a CP_PWM period starts with the stored configuration, or while the override is in force with the
one before it; no sample for 2 ms leaves state FLT and STALE; IMD_INJ toggles while it is on; PIO.CPCFG, IMD and GDIR are kept when legal
and refused when not, IMD with EN = 1 and PER outside 1 to 1,000 among them (R276, R296 to R300, R310). -/
def Claims.PilotAndInsulationMonitor : Prop :=
  ∀ (s : State) (m : Master) (high : Bool) (v : Word),
    let cp := pioBase + 6
    let gd := pioBase + bit1 high
    let legal := decide (v.toNat / 1024 ≠ 3) && (decide (v.toNat / 1024 ≠ 2) || (decide (1 ≤ v.toNat % 1024) && decide (v.toNat % 1024 ≤ 999)))
    let taken := (List.range 12).any fun i => v.getLsbD i && s.gpioSelected ((if high then 12 else 0) + i)
    (∃ u, exec .cpPwmPeriod s = .next u ∧ u.trip.pilot.start = s.fk ∧
      u.trip.pilot.cfg = if s.outSafe 21 then s.trip.pilot.cfg else s.reg cp) ∧
    (∃ u, exec .pilotStale s = .next u ∧ u.trip.pilot.state = 6 ∧ u.trip.pilot.stale = true) ∧
    (s.regB (pioBase + 7) 11 = true → ∃ u, exec .imdInjToggle s = .next u ∧ u.trip.imd = !s.trip.imd) ∧
    (s.regB (pioBase + 7) 11 = false → exec .imdInjToggle s = .next s) ∧
    (s.canWrite m cp = true → s.setupOrRun = true →
      (legal = true → exec (.pioCpcfgWrite m v) s = .next (s.wrote m cp v)) ∧
      (legal = false → exec (.pioCpcfgWrite m v) s = .next ((s.countRefusal m cp).refusedAt m cp))) ∧
    (s.canWrite m gd = true → s.setupOrRun = true →
      (taken = false → exec (.pioGdirWrite m high v) s = .next (s.wrote m gd v)) ∧
      (taken = true → exec (.pioGdirWrite m high v) s = .next ((s.countRefusal m gd).refusedAt m gd))) ∧
    (s.canWrite m (pioBase + 7) = true → s.setupOrRun = true →
      (v.getLsbD 11 = true → s.regB (pioBase + 7) 11 = false → 1 ≤ v.toNat % 1024 → v.toNat % 1024 ≤ 1000 →
        ∃ u, exec (.pioImdWrite m v) s = .next u ∧ u.trip.imd = true ∧ u.reg (pioBase + 7) = v &&& 0xBFF) ∧
      (v.getLsbD 11 = true → s.regB (pioBase + 7) 11 = true → 1 ≤ v.toNat % 1024 → v.toNat % 1024 ≤ 1000 →
        ∃ u, exec (.pioImdWrite m v) s = .next u ∧ u.trip.imd = s.trip.imd ∧ u.reg (pioBase + 7) = v &&& 0xBFF) ∧
      (v.getLsbD 11 = true → v.toNat % 1024 = 0 ∨ 1000 < v.toNat % 1024 →
        exec (.pioImdWrite m v) s = .next ((s.countRefusal m (pioBase + 7)).refusedAt m (pioBase + 7))) ∧
      (v.getLsbD 11 = false → ∃ u, exec (.pioImdWrite m v) s = .next u ∧ u.trip.imd = false ∧ u.reg (pioBase + 7) = v &&& 0x3FF))

/-- The pins: right after reset every ball has its state of R520; without VIO_A the balls of its bank are high impedance; without VCORE the
gate and lock outputs are at their safe levels and every GPIO is high impedance; in SAFE every GD ball is low; LOCKUP_N is low exactly
while an engine is locked up, and INT_N only while the port responds (R265, R286, R304, R332, R520). -/
def Claims.PinsFollowTheState : Prop :=
  (∀ p : OutPin, State.reset.pinLevel p = p.inReset) ∧
  ∀ (s : State),
    (∀ p : OutPin, p.onVioA = true → s.vioAOk = false → s.pinLevel p = .z) ∧
    (s.vioAOk = true → s.vcoreOk = false →
      (∀ n : Fin 16, s.pinLevel (.gd n) = .low) ∧ (∀ n : Fin 24, s.pinLevel (.gpio n) = .z) ∧
        s.pinLevel .lockEnA = .low ∧ s.pinLevel .lockEnB = .high ∧ s.pinLevel .imdInj = .low) ∧
    (s.vioAOk = true → s.dev.safe = true → ∀ n : Fin 16, s.pinLevel (.gd n) = .low) ∧
    (s.vioAOk = true → (s.pinLevel .lockupN = .low ↔ ∃ e : Eng, (s.eng e).locked = true)) ∧
    (s.pinLevel .intN = .low ↔ s.mtr.intLow = true ∧ s.cmpOn = true)

/-! ### The selvedge and the collector (R311 to R340) -/

/-- An event joins its source's queue, or is dropped and counted by FCL.DROP when five wait, the one being classified among them (the
model's reading, notes/assumptions/20); in POWER-UP and in reset it is nothing; sources from 136 have none; one of the companion port also
counts in CMP.PECNT or XECNT and shows its address (R266, R273, R317, R319, R328). -/
def Claims.FaultEventsQueueAtTheirSource : Prop :=
  ∀ (s : State) (n : Fin 160) (cause : BitVec 7) (payload : DWord),
    (n.val < 136 → n ≠ 132 → n ≠ 133 → exec (.faultEvent n cause payload) s = .next (s.raise n cause payload)) ∧
    (s.up = true → n = 132 ∨ n = 133 → ∃ u, exec (.faultEvent n cause payload) s = .next u ∧ u.mtr.lea = payload.setWidth 13 ∧
      u.mtr.pecnt = (if n = 132 then sat12 (s.mtr.pecnt.toNat + 1) else s.mtr.pecnt) ∧
      u.mtr.xecnt = (if n = 132 then s.mtr.xecnt else sat12 (s.mtr.xecnt.toNat + 1)) ∧
      ((s.src n).waiting.length < 5 →
        (u.src n).waiting = (s.src n).waiting ++ [⟨cause, (payload.setWidth 13).setWidth 24, none⟩])) ∧
    (s.up = false ∨ 136 ≤ n.val → exec (.faultEvent n cause payload) s = .next s) ∧
    (s.up = true → (s.src n).waiting.length < 5 →
      ((s.raise n cause payload).src n).waiting = (s.src n).waiting ++ [⟨cause, payload, none⟩] ∧
      ∀ k, k ≠ n → (s.raise n cause payload).src k = s.src k) ∧
    (s.up = true → 5 ≤ (s.src n).waiting.length →
      s.raise n cause payload = s.updCol fun k => { k with drop := sat12 (k.drop.toNat + 1) }) ∧
    (s.up = false → s.raise n cause payload = s)

/-- Counting: a source that is severe stays so; the first event opens a window, an event after W ms opens a new one, and the Nth event
in a window, or one whose cause is always severe, makes the source severe (R322). -/
def Claims.EventsCountToTheirThreshold : Prop :=
  ∀ (x : Source) (n w t : Nat) (always : Bool), 1 ≤ n → n ≤ 255 → x.cnt.toNat < n →
    (x.sev = true → countEvent x n w t always = (x, true)) ∧
    (x.sev = false →
      let opened := x.open_ = true ∧ t ≤ x.tOpen + w * 300000
      let c := if x.open_ = true ∧ t ≤ x.tOpen + w * 300000 then x.cnt.toNat + 1 else 1
      (always = true ∨ c = n → (countEvent x n w t always).2 = true ∧ (countEvent x n w t always).1.sev = true ∧
        (countEvent x n w t always).1.cnt = 0 ∧ (countEvent x n w t always).1.open_ = false) ∧
      (always = false → c ≠ n → (countEvent x n w t always).2 = false ∧ (countEvent x n w t always).1.sev = false ∧
        (countEvent x n w t always).1.cnt.toNat = c ∧ (countEvent x n w t always).1.open_ = true ∧
        (opened → (countEvent x n w t always).1.tOpen = x.tOpen) ∧ (¬ opened → (countEvent x n w t always).1.tOpen = t)))

/-- The oldest waiting event of a source is classified, whatever the check of its configuration words finds: FCL.LSRC, LCS and LPL show it,
unless an event of the same fabric clock has a higher source, the source's total counts it, a notice leaves the count and SEV as they are
and shows neither bit (the model's reading, notes/assumptions/41), TRIP in the set that applies makes the source trip and SAFE set, and
RESET makes a reset due and empties every waiting list as the clock ends; a word whose copies differ or fail their parity is a self-fault,
and the voted copies apply (R318, R322 to R330, R340). -/
def Claims.ClassificationShowsTheEventAndReacts : Prop :=
  ∀ (s : State) (n : Fin 160) (bad : Option (Fin 4 × CfgHit)) (ev : FaultEvent) (rest : List FaultEvent), s.colRuns = true →
    (s.src n).waiting = ev :: rest →
    let note := isNotice n ev.cause
    -- the copies of the configuration words as a fault may have left them
    let c := match bad with
      | none => s
      | some (j, h) => s.updCol fun k => { k with
          strays := (k.strays.filter fun (p : Nat × CfgHit) => decide (p.1 ≠ 4 * n.val + j.val) || decide (p.2.copy ≠ h.copy)) ++
            [(4 * n.val + j.val, h)] }
    let r := countEvent (s.src n) (c.fclN n) (c.fclW n) s.fk (alwaysSevere n ev.cause)
    let severe := !note && r.2
    let set := if note then c.fclSet n false % 4 else c.fclSet n severe
    let above := s.col.lastNow && decide (n.val < s.col.lsrc.toNat % 256)
    ∃ u, exec (.faultClassify n bad) s = .next u ∧ u.col.strays = c.col.strays ∧
      (∀ j : Fin 4, c.cfgFails (4 * n.val + j.val) = true → u.col.self = true ∧ (s.col.self = false → u.dev.safe = true)) ∧
      u.col.lsrc = (if above then s.col.lsrc else flag 11 severe ||| flag 10 (!note && !r.2) ||| BitVec.ofNat 12 n.val) ∧
      u.col.lcs = (if above then s.col.lcs else ev.cause.setWidth 12) ∧ u.col.lpl = (if above then s.col.lpl else ev.payload) ∧
      (u.src n).tot = sat12 ((s.src n).tot.toNat + 1) ∧
      (u.src n).sev = (if note then (s.src n).sev else r.1.sev) ∧ (u.src n).cnt = (if note then (s.src n).cnt else r.1.cnt) ∧
      (u.src n).open_ = (if note then (s.src n).open_ else r.1.open_) ∧
      (set.testBit 5 = true → (u.src n).trp = true ∧ u.dev.safe = true) ∧
      (set.testBit 6 = true → u.col.resetDue ≠ none) ∧
      (set.testBit 6 = true → s.col.resetDue = none → u.col.resetDue = some n ∧
        ∀ k : Fin 160, (u.col.clock.src[k.val]).waiting = [])

/-- A self-fault of the collector, by its self-check or by a mismatch of its state, is set once with what found it, sets SAFE and makes
every output safe; a scan of a word whose copies agree and pass their parity changes nothing; with one copy struck by a fault the collector
still goes by the word that the other two hold (R329, R330). -/
def Claims.CollectorSelfFaults : Prop :=
  ∀ (s : State) (off : Word) (n : Fin 160), s.col.self = false → s.colRuns = true →
    let word := s.reg (fclCfgBase + off.toNat)
    (s.cfgFails off.toNat = false → exec (.selfCheckScan off none) s = .next s) ∧
    (off.toNat < 0x220 → s.cfgFails off.toNat = true → ∃ u, exec (.selfCheckScan off none) s = .next u ∧ u.col.self = true ∧
      u.col.selfCfg = true ∧ u.col.selfA = off ∧ u.dev.safe = true ∧ ∀ j, j < 21 → u.outAtSafe j = true) ∧
    (off.toNat < 0x220 → (∀ p ∈ s.col.strays, p.1 ≠ off.toNat) → s.cfgFails off.toNat = false ∧ s.cfgVoted off.toNat = word ∧
      ∀ h : CfgHit, ∃ u, exec (.selfCheckScan off (some h)) s = .next u ∧ u.col.strays = s.col.strays ++ [(off.toNat, h)] ∧
        u.cfgVoted off.toNat = word ∧ u.cfgCopy off.toNat h.copy = (h.word, h.parity) ∧
        (h.word ≠ word ∨ h.parity = false → u.col.self = true ∧ u.col.selfCfg = true ∧ u.col.selfA = off ∧ u.dev.safe = true ∧
          ∀ j, j < 21 → u.outAtSafe j = true)) ∧
    (∃ u, exec (.collectorStateMismatch n) s = .next u ∧ u.col.self = true ∧ u.col.selfCfg = false ∧
      u.col.selfA = BitVec.ofNat 12 (0x800 + n.val) ∧ u.dev.safe = true)

/-- ALIVE toggles at each half-period in RUN and takes the stored frequency, and stands still while some SEV or a self-fault freezes it;
SEL.ALIVE keeps 1 to 50 and refuses others (R331). -/
def Claims.AliveTogglesUnlessFrozen : Prop :=
  ∀ (s : State) (m : Master) (v : Word),
    let a := selBase + 3
    (s.inRun = true → s.frozen = false → exec .aliveHalfPeriod s =
      .next (s.updCol fun k => { k with alive := !k.alive, freq := BitVec.ofNat 6 ((s.reg a).toNat % 64) })) ∧
    (s.frozen = true → exec .aliveHalfPeriod s = .next s) ∧
    (s.canWrite m a = true →
      (1 ≤ v.toNat % 64 → v.toNat % 64 ≤ 50 → exec (.selAliveWrite m v) s = .next (s.wrote m a v)) ∧
      (v.toNat % 64 = 0 ∨ 50 < v.toNat % 64 → exec (.selAliveWrite m v) s = .next ((s.countRefusal m a).refusedAt m a)))

/-- SEL.ENG keeps a set of two or more engines, SEL.LOCK locks a valid set; once locked, an engine's store, a shuttle, host or monitor
write of either is refused and counts as intrusion 5. A lock without a valid set is refused; the monitor's counts as an intrusion, another
master's as an error (R312, R313, R316, R484). -/
def Claims.SelvedgeEnginesAreChosenAndLocked : Prop :=
  ∀ (s : State) (m : Master) (v : Word),
    let lock := selBase + 1
    (s.canWrite m selBase = true →
      (selValid v = true → exec (.selEngWrite m v) s = .next (s.wrote m selBase v)) ∧
      (selValid v = false → exec (.selEngWrite m v) s = .next ((s.countRefusal m selBase).refusedAt m selBase))) ∧
    (s.canWrite m lock = true →
      (v.getLsbD 0 = false ∨ selValid (s.reg selBase) = true → exec (.selLockWrite m v) s = .next (s.wrote m lock v)) ∧
      (v.getLsbD 0 = true → selValid (s.reg selBase) = false →
        exec (.selLockWrite m v) s = .next ((if m = .monitor ∧ s.selLocked = false then s.intrusion 4 lock
          else if m = .monitor then s.intrusion 5 lock else s.errorTo m (BitVec.ofNat 24 lock)).refusedAt m lock))) ∧
    (s.live m = true → s.selLocked = true → isSvp m = false →
      exec (.selEngWrite m v) s = .next ((s.intrusion 5 selBase).refusedAt m selBase) ∧
      exec (.selLockWrite m v) s = .next ((s.intrusion 5 lock).refusedAt m lock))

/-- SEL.CMD.SAFE enters SAFE, SEL.CMD.RESET makes a commanded reset due, both at once are refused; SEL.SREL releases SAFE in RUN while
nothing blocks it, and is refused while something does; where an event sets SAFE, or would have, in the fabric clock of an accepted
release, SAFE stays set (R333 to R335). -/
def Claims.SafeAndResetAreCommanded : Prop :=
  ∀ (s : State) (m : Master) (v : Word),
    let cmd := selBase + 4
    let rel := selBase + 5
    (s.canWrite m cmd = true →
      (v.getLsbD 0 = true → v.getLsbD 1 = false → exec (.selCmdSafe m v) s = .next (s.enterSafe.acceptedAt m)) ∧
      (v.getLsbD 0 = false → v.getLsbD 1 = true →
        exec (.selCmdReset m v) s = .next ((s.updCol fun k => { k with cmdReset := true }).acceptedAt m)) ∧
      (v.getLsbD 0 = true → v.getLsbD 1 = true →
        exec (.selCmdSafe m v) s = .next ((s.countRefusal m cmd).refusedAt m cmd) ∧
        exec (.selCmdReset m v) s = .next ((s.countRefusal m cmd).refusedAt m cmd))) ∧
    (s.enterSafe.dev.safe = true ∧ s.enterSafe.dev.safeNow = true) ∧
    (s.canWrite m rel = true → v.getLsbD 0 = true → s.inRun = true →
      (s.sblk = 0 → exec (.selSrel m v) s = .next (s.releaseSafe.fabric.acceptedAt m) ∧
        (s.dev.safeNow = false → s.releaseSafe.dev.safe = false) ∧ (s.dev.safeNow = true → s.releaseSafe = s)) ∧
      (s.sblk ≠ 0 → exec (.selSrel m v) s = .next ((s.countRefusal m rel).refusedAt m rel)))

/-- FCL.SCLR clears SEV, TRP, ISO and the window of the sources named and of no other; the clear acts before an event of the same fabric
clock, which counts anew and shows what its reactions have done (that those stand is the model's choice, notes/assumptions/58); a fixed
source keeps N = 1 and LOG and TRIP of its severe set, and a word written is no bad one any longer. The words that were in force stay so
until the fabric clock ends (R322 to R325, R329). -/
def Claims.CollectorSourcesAreClearedAndConfigured : Prop :=
  ∀ (s : State) (m : Master) (k : Fin 14) (n : Fin 160) (v : Word),
    let scl := fclStBase + 0x210 + k.val
    let cfg := fclCfgBase + 4 * n.val
    let kept := fun (o : Nat) =>
      (((s.setReg (fclCfgBase + o) v).updCol fun k =>
        { k with
          strays := k.strays.filter fun p => p.1 ≠ o
          olds := if (k.olds.lookup o).isSome then k.olds else k.olds ++ [(o, s.cfgVoted o)] }).acceptedAt m)
    let named := fun (i : Fin 160) => i.val / 12 = k.val ∧ v.getLsbD (i.val % 12) = true
    (s.canWrite m scl = true → ∃ u, exec (.fclSclr m k v) s = .next u ∧
      (∀ i, named i →
        let x : Source := { s.src i with sev := false, trp := false, iso := false, open_ := false, cnt := 0 }
        ((s.src i).nowEvs = [] → u.src i = x) ∧
        (∀ always, (s.src i).nowEvs = [always] →
          let r := countEvent x (s.fclN i) (s.fclW i) s.fk always
          u.src i = { r.1 with trp := (s.fclSet i r.2).testBit 5, iso := (s.fclSet i r.2).testBit 2 })) ∧
      (∀ i, ¬ named i → u.src i = s.src i)) ∧
    (n.val < 136 → s.canWrite m cfg = true → v.toNat % 256 ≠ 0 → (v.toNat / 256 ≠ 0 ∨ s.reg (cfg + 1) ≠ 0) →
      (srcFixed n.val = true → v.toNat % 256 = 1) → exec (.fclConfigWrite m n 0 v) s = .next (kept (4 * n.val))) ∧
    (n.val < 136 → s.canWrite m (cfg + 1) = true → (v ≠ 0 ∨ (s.reg cfg).toNat / 256 ≠ 0) →
      exec (.fclConfigWrite m n 1 v) s = .next (kept (4 * n.val + 1))) ∧
    (n.val < 136 → s.canWrite m (cfg + 2) = true → v.toNat / 1024 ≠ 3 →
      (64 ≤ n.val → v.getLsbD 3 = false ∧ v.getLsbD 4 = false) → exec (.fclConfigWrite m n 2 v) s = .next (kept (4 * n.val + 2))) ∧
    (n.val < 136 → s.canWrite m (cfg + 3) = true → (64 ≤ n.val → v.getLsbD 3 = false ∧ v.getLsbD 4 = false) →
      (srcFixed n.val = true → v.getLsbD 0 = true ∧ v.getLsbD 5 = true) →
      exec (.fclConfigWrite m n 3 v) s = .next (kept (4 * n.val + 3))) ∧
    (∀ (o : Nat) (i : Fin 160) (j : Fin 4), (kept o).fclWord i j.val = s.fclWord i j.val ∧
      (o < 0x220 → o = 4 * i.val + j.val → { kept o with col := (kept o).col.clock }.fclWord i j.val =
        { s.setReg (fclCfgBase + o) v with col := (kept o).col.clock }.reg (fclReg i j.val)))

/-- For a fixed source FIX reads 1 (R325), and a write that clears N, or LOG or TRIP of the severe set, is refused and changes no
register; its other bits can be written. -/
def Claims.FixedSourcesStayFixed : Prop :=
  ∀ (s : State) (m : Master) (n : Fin 160) (v : Word), srcFixed n.val = true → n.val < 136 →
    let cfg := fclCfgBase + 4 * n.val
    let sev := cfg + 3
    (s.readReg sev).getLsbD 11 = true ∧
    (s.live m = true → isSvp m = true → s.setupOrRun = true →
      (v.toNat % 256 ≠ 1 → ∃ u, exec (.fclConfigWrite m n 0 v) s = .next u ∧ u.regs = s.regs ∧ u = s.refusedAt m cfg) ∧
      (v.getLsbD 0 = false ∨ v.getLsbD 5 = false →
        ∃ u, exec (.fclConfigWrite m n 3 v) s = .next u ∧ u.regs = s.regs ∧ u = s.refusedAt m sev) ∧
      (v.getLsbD 0 = true → v.getLsbD 5 = true → (64 ≤ n.val → v.getLsbD 3 = false ∧ v.getLsbD 4 = false) →
        ∃ u, exec (.fclConfigWrite m n 3 v) s = .next u ∧ u.regs = (s.setReg sev v).regs))

/-! ### The watchdog (R341 to R354) -/

/-- A check-in that a thread has sent counts its task up to 7, but not in the fabric clock of an expiry, to whose period it belongs. A service
it has sent arrives, and is judged as that fabric clock ends, behind its check-ins, its commit and an expiry that is due, services in
ascending order of their engines (R345; that the idle step is the clock's end is the model's choice, notes/assumptions/6). In the open window
with every required count as expected it is valid: the period restarts with every count at 0; one with a wrong count, or outside the window,
is not, and counts at source 116, for each wrong task its own event; the verdict goes back to the engine; after an expiry it is judged in
tick 0 of the grace period (R100, R344 to R348). A service after a hold has ended and before the next tick is early: that is the model's
reading (notes/assumptions/42). -/
def Claims.CheckInsAndServicesAreJudged : Prop :=
  ∀ (s : State) (task : Fin 16) (e : Eng) (t : Thr),
    let early := s.wdg.held || s.wdg.restart || decide (s.wdg.i.toNat < s.wdgK) || s.wdg.judged
    let right := ∀ k : Fin 16, s.wdg.now.exp[k.val] = 0 ∨ (s.wdg.cnt[k.val]).toNat = (s.wdg.now.exp[k.val]).toNat
    let back := fun (u : State) (valid : Bool) => s.still e = false → s.together e = true →
      (u.thr e t).wdcPend = false ∧ (u.thr e t).wdc.getLsbD 9 = valid
    let arrives := WdgMsg.serve e t ∈ s.wdg.inbox
    let sent := s.wdg.served = [(e, t)]
    let u := s.serveDue
    let wrong := fun (cnt : Vector (BitVec 3) 16) (exp : Vector (BitVec 2) 16) =>
      ((List.finRange 16).filter fun k => decide (exp[k.val] ≠ 0 ∧ (cnt[k.val]).toNat ≠ (exp[k.val]).toNat)).map fun k =>
        (⟨if (exp[k.val]).toNat < (cnt[k.val]).toNat then 2 else 3, BitVec.ofNat 24 k.val, none⟩ : FaultEvent)
    (WdgMsg.check task ∉ s.wdg.inbox → exec (.checkIn task) s = .next s) ∧
    (WdgMsg.check task ∈ s.wdg.inbox → s.wdg.running = true → s.wdg.expired = false → exec (.checkIn task) s = .next (s.updWdg fun w =>
      { w with inbox := w.inbox.erase (.check task)
               cnt := w.cnt.set task.val (if w.cnt[task.val] = 7 then 7 else w.cnt[task.val] + 1) })) ∧
    (WdgMsg.check task ∈ s.wdg.inbox → s.wdg.running = false ∨ s.wdg.expired = true → exec (.checkIn task) s =
      .next (s.updWdg fun w => { w with inbox := w.inbox.erase (.check task) })) ∧
    (¬ arrives → exec (.service e t) s = .next s) ∧
    (arrives → exec (.service e t) s = .next (s.updWdg fun w =>
      { w with inbox := w.inbox.erase (.serve e t), served := if w.running then w.served ++ [(e, t)] else w.served })) ∧
    (s.pending = [] → s.clk.fabOk = true → step s = step u) ∧ u.wdg.served = [] ∧ (s.wdg.served = [] → u = s) ∧
    (∀ (d : Eng) (r : Thr), e.val < d.val →
      let both := fun (l : List (Eng × Thr)) => (s.updWdg fun w => { w with served := l }).serveDue
      both [(d, r), (e, t)] = both [(e, t), (d, r)]) ∧
    (sent → s.wdgExpired = false → early = false → right →
      back u true ∧ u.wdg.i = 0 ∧ u.wdg.grace = false ∧ u.wdg.cnt = Vector.replicate 16 0 ∧
        u.wdg.svcnt = s.wdg.svcnt + 1 ∧ u.wdg.pend = none ∧ u.wdg.now = s.wdg.pend.getD s.wdg.now) ∧
    (sent → s.wdgExpired = false → early = true ∨ ¬ right →
      back u false ∧ u.wdg.i = s.wdg.i ∧ u.wdg.cnt = s.wdg.cnt ∧ u.wdg.now = s.wdg.now ∧ u.wdg.judged = true ∧
        (early = true → s.up = true → (s.src 116).waiting.length < 5 →
          (u.src 116).waiting = (s.src 116).waiting ++ [⟨1, BitVec.ofNat 24 (e.val % 8 * 16), none⟩]) ∧
        (early = false → s.up = true → (s.src 116).waiting.length + (wrong s.wdg.cnt s.wdg.now.exp).length ≤ 5 →
          (u.src 116).waiting = (s.src 116).waiting ++ wrong s.wdg.cnt s.wdg.now.exp)) ∧
    (sent → s.wdgExpired = true → s.wdg.grace = false →
      let set := s.wdg.pend.getD s.wdg.now
      let none_ := ∀ k : Fin 16, set.exp[k.val] = 0
      let k := ({ s with wdg := { s.wdg with now := set } } : State).wdgK
      (s.up = true → (s.src 115).waiting.length < 5 → (u.src 115).waiting = (s.src 115).waiting ++ [⟨1, 0, none⟩]) ∧
        u.wdg.i = 0 ∧ u.wdg.cnt = Vector.replicate 16 0 ∧ u.wdg.now = set ∧ (∀ e, s.isSel e = true → (u.eng e).lineIn.getLsbD 13 = true) ∧
        (s.wdg.judged = true ∨ 0 < k → back u false ∧ u.wdg.grace = true ∧ (s.up = true → (s.src 116).waiting.length < 5 →
          (u.src 116).waiting = (s.src 116).waiting ++ [⟨1, BitVec.ofNat 24 (e.val % 8 * 16), none⟩])) ∧
        (s.wdg.judged = false → k = 0 → (none_ → back u true ∧ u.wdg.grace = false) ∧ (¬ none_ → back u false ∧ u.wdg.grace = true))) ∧
    (sent → s.wdgExpired = true → s.wdg.grace = true → s.wdg.resetDue = false → u.dev.safe = true ∧ u.wdg.resetDue = true)

/-- An expiry of the normal period starts the grace period with line 13 of every selvedge engine; one of the grace period sets SAFE and
makes a watchdog reset due; a stopped clock forces the outputs safe and sets SAFE (R347, R348, R351). -/
def Claims.WatchdogExpiresInTwoSteps : Prop :=
  ∀ (s : State) (mon : Bool),
    (s.wdgExpired = true → s.wdg.grace = false → ∃ u, exec .wdgPeriodExpiry s = .next u ∧ u.wdg.grace = true ∧ u.wdg.i = 0 ∧
      u.wdg.expired = true ∧ u.wdg.cnt = Vector.replicate 16 0 ∧ u.wdg.now = s.wdg.pend.getD s.wdg.now ∧ u.dev.safe = s.dev.safe ∧
      ∀ e, s.isSel e = true → (u.eng e).lineIn.getLsbD 13 = true) ∧
    (s.wdgExpired = true → s.wdg.grace = true → s.wdg.resetDue = false → ∃ u, exec .wdgGraceExpiry s = .next u ∧
      u.wdg.resetDue = true ∧ u.dev.safe = true) ∧
    (s.wdgExpired = false → exec .wdgPeriodExpiry s = .next s ∧ exec .wdgGraceExpiry s = .next s) ∧
    (s.inRun = true → (if mon then s.wdg.mstop else s.wdg.cstop) = false → ∃ u, exec (.wdgClockStop mon) s = .next u ∧
      u.trip.forced = true ∧ u.dev.safe = true ∧ (if mon then u.wdg.mstop else u.wdg.cstop) = true)

/-- WDG.COMMIT takes a legal staged set at once before RUN, and at the next period in RUN, only in the open window and one at a time;
WDG.HOLD holds only while TETHERED and SAFE are set and SEALED is clear, and its end restarts the period (R350, R352). -/
def Claims.WatchdogCommitsAndHolds : Prop :=
  ∀ (s : State) (m : Master) (v : Word),
    let com := wdgBase + 7
    let hold := wdgBase + 8
    let p := s.wdgStaged
    let legal := decide (1 ≤ p.per.toNat) && decide (p.per.toNat ≤ 4000000)
    (s.canWrite m com = true → v.getLsbD 0 = true → s.wdgExpired = false →
      (legal = false → exec (.wdgCommit m v) s = .next (s.refusedAt m com)) ∧
      (legal = true → s.inRun = false → exec (.wdgCommit m v) s = .next ((s.updWdg fun w => { w with now := p }).acceptedAt m)) ∧
      (legal = true → s.inRun = true → s.wdgOpen = true → s.wdg.grace = false → s.wdg.pend = none →
        exec (.wdgCommit m v) s = .next ((s.updWdg fun w => { w with pend := some p }).acceptedAt m)) ∧
      (legal = true → s.inRun = true → s.wdgOpen = false ∨ s.wdg.grace = true ∨ s.wdg.pend ≠ none →
        exec (.wdgCommit m v) s = .next ((s.wdgEvent 116 4 0 0).refusedAt m com))) ∧
    (s.canWrite m hold = true → v.getLsbD 0 = true →
      (s.dev.tethered = true → s.dev.safe = true → s.dev.sealed = false →
        exec (.wdgHold m v) s = .next ((s.updWdg fun w => { w with held := true }).acceptedAt m)) ∧
      (s.dev.tethered = false ∨ s.dev.safe = false ∨ s.dev.sealed = true → exec (.wdgHold m v) s = .next (s.refusedAt m hold))) ∧
    (s.canWrite m hold = true → v.getLsbD 0 = false → exec (.wdgHold m v) s = .next (s.endHold.acceptedAt m)) ∧
    (s.wdg.held = true → s.endHold.wdg.held = false ∧ s.endHold.wdg.restart = true ∧ s.endHold.wdg.cnt = Vector.replicate 16 0)

/-! ### The recorder and the gauges (R358 to R381) -/

/-- The oldest queued record takes the next SEQ and goes into its slot of the RAM ring, its sixteen words with CODE, TYPE, SRC, OPS, PCC,
SEQ, PAY and the running check; when it overwrites an uncommitted record, or an uncommitted CLEAR record, that one is lost and counted; no
other word changes. A record that is overwritten leaves the next one its two rewrites (R358 to R364, R369, R370). A CLEAR record is
written by its confirmation (ClearsAreArmedConfirmedOrLapse). -/
def Claims.RecordsEnterTheirSlot : Prop :=
  ∀ (s : State) (x : Record) (rest : List Record), s.memCanonical = true → s.rcd.held = false → s.dev.testEn = false →
    s.rcd.queue = x :: rest →
    x.typ ≠ 8 →
    let r := s.rcd
    let a := 0x910000 + 16 * (r.nseq.toNat % 512)
    let ovr := r.next.toNat + 512 ≤ r.nseq.toNat
    let clr := (r.clears.head?.map fun c => decide (c.seq.toNat + 512 ≤ r.nseq.toNat)) = some true
    ∃ u, exec .recordWrite s = .next u ∧
      u.memWord a = BitVec.ofNat 12 (x.code.toNat * 32 + x.typ.toNat) ∧ u.memWord (a + 1) = x.src ∧
      (u.memWord (a + 4) ++ (u.memWord (a + 3) ++ u.memWord (a + 2)) : BitVec 36) = r.ops ∧
      (u.memWord (a + 6) ++ u.memWord (a + 5) : BitVec 24) = r.pcc ∧
      (u.memWord (a + 9) ++ (u.memWord (a + 8) ++ u.memWord (a + 7)) : BitVec 36) = r.nseq ∧
      ((u.memWord (a + 13) ++ u.memWord (a + 12)) ++ (u.memWord (a + 11) ++ u.memWord (a + 10)) : BitVec 48) = x.pay ∧
      (u.memWord (a + 15) ++ u.memWord (a + 14) : BitVec 24) = u.rcd.chk ∧
      (∀ k, k < a ∨ a + 16 ≤ k → u.memWord k = s.memWord k) ∧
      u.rcd.queue = rest ∧ u.rcd.nseq = r.nseq + 1 ∧
      (ovr → u.rcd.next = r.next + 1 ∧ (¬ clr → u.rcd.lost = sat12 (r.lost.toNat + 1)) ∧ (clr → u.rcd.lost = sat12 (r.lost.toNat + 2))) ∧
      (¬ ovr → u.rcd.next = r.next ∧ (¬ clr → u.rcd.lost = r.lost) ∧ (clr → u.rcd.lost = sat12 (r.lost.toNat + 1))) ∧
      (¬ clr → u.rcd.clears = r.clears) ∧ (clr → u.rcd.clears = r.clears.drop 1 ∧ u.rcd.erase = true) ∧
      (ovr ∨ clr → u.rcd.tries = 2)

/-- A record joins a queue of 64, behind every record of an earlier fabric clock, or is dropped and counted; a held or an empty queue writes
nothing, nor does any while TEST_EN is high (R362, R370, R371, R523). -/
def Claims.TheRecordQueueHolds64 : Prop :=
  ∀ (s : State) (typ : BitVec 5) (code : BitVec 7) (src : Word) (pay : Quad),
    (s.rcd.queue.length < 64 → (s.logRec typ code src pay).rcd.qdrop = s.rcd.qdrop ∧
      (s.logRec typ code src pay).rcd.queue.length = s.rcd.queue.length + 1 ∧
      ((∀ y ∈ s.rcd.queue, y.fk ≠ s.fk) → (s.logRec typ code src pay).rcd.queue = s.rcd.queue ++ [⟨typ, code, src, pay, s.fk⟩])) ∧
    (64 ≤ s.rcd.queue.length → (s.logRec typ code src pay).rcd.queue = s.rcd.queue ∧
      (s.logRec typ code src pay).rcd.qdrop = sat12 (s.rcd.qdrop.toNat + 1)) ∧
    (s.rcd.held = true ∨ s.dev.testEn = true ∨ s.rcd.queue = [] → exec .recordWrite s = .next s)

/-- REC.SWGO (R363) writes a SOFT record, TYPE 0x0B, with v as CODE and REC.SWP0 to REC.SWP3 as PAY, for a machine-level engine store
alone; any other write is refused, counts where the spec counts it, and changes nothing of the recorder or of any register. -/
def Obligations.SoftRecordsComeFromMachineLevel : Prop :=
  ∀ (s : State) (m : Master) (v : Word),
    let a := recBase + 0x44
    let p := fun (k : Nat) => s.reg (recBase + 0x40 + k)
    (∀ e t, m = .engine e t true → s.live m = true →
      exec (.recSwgo m v) s =
        .next (s.logRec 0x0B (v.setWidth 7) (BitVec.ofNat 12 e.val) ((p 3 ++ p 2) ++ (p 1 ++ p 0)))) ∧
    ((∀ e t, m ≠ .engine e t true) → s.live m = true → ∃ u, exec (.recSwgo m v) s = .next u ∧
      u = (s.countRefusal m a).refusedAt m a ∧ u.regs = s.regs ∧ u.mem = s.mem ∧ u.rcd.queue = s.rcd.queue ∧ u.rcd.nseq = s.rcd.nseq)

/-- A fetch: FGO starts one, and one already running refuses another; it ends with the record of FSEQ and DONE, or with ABS when neither
ring nor the CLEAR log holds it. A record sought in the NV memory is read there with READ commands; a word of the RAM ring that fails every
replay is counted at source 113, and the words that do not fail are fetched all the same (R183, R364 to R366). -/
def Claims.FetchesFindTheRecordOrNot : Prop :=
  ∀ (s : State) (m : Master) (v : Word),
    let a := recBase + 0x23
    (s.canWrite m a = true → v.getLsbD 0 = true →
      (s.rcd.fetching = false →
        exec (.recFgo m v) s = .next ((s.updRcd fun r => { r with fetching := true, fst := 0 }).acceptedAt m)) ∧
      (s.rcd.fetching = true → exec (.recFgo m v) s = .next ((s.countRefusal m a).refusedAt m a))) ∧
    (s.rcd.fetching = true →
      (∀ w, s.findRecord s.fseq = some w → s.inRing s.fseq = false ∨ (∀ k : Fin 16, s.memGood (slotAddr s.fseq + k.val) = true) →
        exec .fetchComplete s = .next (s.updRcd fun r =>
          { (r.sent (s.nvReads s.fseq)) with fetching := false, fbuf := w, fst := 0x400 })) ∧
      (s.inRing s.fseq = true → ∃ u, exec .fetchComplete s = .next u ∧ u.rcd.fetching = false ∧ u.rcd.fst = 0x400 ∧
        (∀ k : Fin 16, s.memGood (slotAddr s.fseq + k.val) = true → u.rcd.fbuf[k.val] = s.memWord (slotAddr s.fseq + k.val)) ∧
        (∀ k : Fin 16, (∀ j : Fin 16, s.memGood (slotAddr s.fseq + j.val) = decide (j ≠ k)) → s.up = true → (s.src 113).waiting.length < 5 →
          (u.src 113).waiting = (s.src 113).waiting ++ [⟨0x02, BitVec.ofNat 24 (slotAddr s.fseq + k.val), none⟩])) ∧
      (s.findRecord s.fseq = none → exec .fetchComplete s =
        .next (s.updRcd fun r => { (r.sent (s.nvReads s.fseq)) with fetching := false, fst := 0x200 })) ∧
      (s.inNv s.fseq = true → ∃ u, exec .fetchComplete s = .next u ∧
        let a := 4096 + 32 * (s.fseq.toNat % s.nvQ)
        u.rcd.spi.head? = some [0x03, BitVec.ofNat 8 (a / 65536), BitVec.ofNat 8 (a / 256), BitVec.ofNat 8 a])) ∧
    (s.rcd.fetching = false → exec .fetchComplete s = .next s)

/-- A commit attempt: a match puts the record's 24 bytes and the marker into its NV slot and passes to the next; a difference counts at
source 114 and, for FRAM with tries left, is tried again, else the record is given up, and a NOR slot loses its marker; silence counts 0x02
and waits for the retry; a write cut off leaves the bytes sent before; a sector's first slot is erased first. The commands of the attempt
are those of R366 and R368. None starts in a reset or with TEST_EN high (R366 to R370, R523). -/
def Claims.RecordsAreCommitted : Prop :=
  (∀ w : Vector Word 16, (slotOf w).record = w ∧ (slotOf w).marked = true ∧ (slotOf w)[31] = 0xFF ∧
    (slotOf w)[0] = (w[0]).setWidth 8) ∧
  (∀ (s : State) (o : NvOutcome), s.dev.testEn = true ∨ s.up = false → exec (.nvCommit o) s = .next s) ∧
  ∀ (s : State) (flips : BitVec 208) (k : Fin 33), s.nvOn = true → s.rcd.iso = false → s.rcd.silent = false → s.rcd.held = false →
    s.up = true → s.dev.testEn = false → s.rcd.clears = [] → s.rcd.erase = false → s.rcd.next.toNat < s.rcd.nseq.toNat →
    let q := s.rcd.next
    let slot := q.toNat % s.nvQ
    let words := (s.readSlot q).1
    let b := slotOf words
    let place := 4096 + 32 * slot
    let erases := s.nvNor = true ∧ slot % 128 = 0
    let cut := fun (u : State) => u.rcd.next = q ∧ ∀ j : Fin 32, (u.rcd.slot (false, slot))[j.val] =
      if j.val < k.val then b[j.val] else if erases then 0xFF else (s.rcd.slot (false, slot))[j.val]
    (∃ u, exec (.nvCommit .matched) s = .next u ∧ (slot, b) ∈ u.rcd.nv ∧ u.rcd.cseq = q ∧ u.rcd.committed = true ∧
      u.rcd.next = q + 1 ∧ u.rcd.nvFail = false ∧ u.rcd.nvlost = s.rcd.nvlost ∧
      u.rcd.spi = (if erases then [[0x06], spiAt 0x20 place, [0x05]] else []) ++
        [[0x06], spiAt 0x02 place ++ b.toList, [0x05], spiAt 0x03 place]) ∧
    (∀ i : Fin 16, s.memGood (slotAddr q + i.val) = true → words[i.val] = s.memWord (slotAddr q + i.val)) ∧
    (flips = 0 → exec (.nvCommit (.differs flips)) s = exec (.nvCommit .matched) s) ∧
    (flips ≠ 0 → ∃ u, exec (.nvCommit (.differs flips)) s = .next u ∧ u.rcd.nvFail = true ∧ u.rcd.cseq = s.rcd.cseq ∧
      (s.up = true → (s.src 114).waiting.length < 5 → (u.src 114).waiting = (s.src 114).waiting ++ [⟨0x01, 0, none⟩]) ∧
      (s.nvNor = false → 0 < s.rcd.tries → u.rcd.tries = s.rcd.tries - 1 ∧ u.rcd.next = q ∧ u.rcd.nvlost = s.rcd.nvlost) ∧
      (s.nvNor = true ∨ s.rcd.tries = 0 → u.rcd.next = q + 1 ∧ u.rcd.tries = 2 ∧ u.rcd.nvlost = sat12 (s.rcd.nvlost.toNat + 1)) ∧
      (s.nvNor = true → (u.rcd.slot (false, slot)).marked = false)) ∧
    (∃ u, exec (.nvCommit (.silentWrite k)) s = .next u ∧ cut u ∧ u.rcd.silent = true ∧ u.rcd.nvFail = true ∧
      (s.up = true → (s.src 114).waiting.length < 5 → (u.src 114).waiting = (s.src 114).waiting ++ [⟨0x02, 0, none⟩])) ∧
    (∃ u, exec (.nvCommit (.cutOff k)) s = .next u ∧ cut u) ∧
    (erases → ∃ u, exec (.nvCommit .silentErase) s = .next u ∧ u.rcd.silent = true ∧ u.rcd.nvFail = true ∧ u.rcd.next = q ∧
      ∀ p ∈ u.rcd.nv, p.1 / 128 ≠ slot / 128) ∧
    (exec .nvRetry s = .next (s.updRcd fun r => { r with silent := false }))

/-- REC.CFG is kept when legal, and EN restores a held recorder from NV; REC.WTRIG triggers a capture for a machine-level store alone: WHDR
is queued and the capture waits for its last sample; a trigger during one sets MISS; a capture whose channel is invalid or has no bobbin in the
cluster ends with WEND code 3, any other once it has run; with VCORE good OPS counts a second of the crystal, or of the RC oscillator while that is
lost (R361, R371 to R374), each counted apart: the model's choice (notes/assumptions/62). -/
def Claims.RecorderConfigurationAndWaveforms : Prop :=
  ∀ (s : State) (m : Master) (v : Word) (o : ReadOutcome) (j : Fin 1024),
    let trig := recBase + 0x13
    (s.canWrite m recBase = true →
      (v.toNat / 64 % 16 ≤ 8 → 5 ≤ v.toNat % 64 → v.getLsbD 11 = false → exec (.recCfgWrite m v) s = .next (s.wrote m recBase v)) ∧
      (v.toNat / 64 % 16 ≤ 8 → 5 ≤ v.toNat % 64 → v.getLsbD 11 = true →
        exec (.recCfgWrite m v) s = .next (((s.setReg recBase v).restoreRecorder true).acceptedAt m)) ∧
      (8 < v.toNat / 64 % 16 ∨ v.toNat % 64 < 5 →
        exec (.recCfgWrite m v) s = .next ((s.countRefusal m recBase).refusedAt m recBase))) ∧
    (s.canWrite m trig = true → Master.machineStore m = true → v.getLsbD 0 = true → exec (.recWtrig m v) s = .next s.waveTrigger) ∧
    (∀ w, s.rcd.wave = some w → s.waveTrigger = s.updRcd fun r => { r with miss := true }) ∧
    (s.rcd.wave = none → s.rcd.queue = [] →
      let cfg := s.reg (recBase + 0x10)
      let n : Chan := ⟨cfg.toNat % 64 % 48, Nat.mod_lt _ (by decide)⟩
      let c : Clu := ⟨cfg.toNat / 64 % 8, by omega⟩
      let len := (s.reg (recBase + 0x11)).toNat % 2048
      let a := (s.reg (recBase + 0x12)).toNat % 1024
      let ok := decide (cfg.toNat % 64 < 48) && s.bobFeeds n c
      let t := if ok then s.bobAvail n c else 0
      let q := s.waveTrigger.rcd.queue
      s.waveTrigger.rcd.wave = some ⟨c, n, cfg.toNat / 512, len, a, t, ok⟩ ∧
        (q.map fun r => (r.typ, r.code, r.src, r.fk, r.pay.toNat / 2 ^ 36, r.pay.toNat / 2 ^ 24 % 4096)) =
          [(0x0C, BitVec.ofNat 7 (cfg.toNat / 512), BitVec.ofNat 12 (cfg.toNat % 512), s.fk, len, a)] ∧
        (len ≤ t + a → (q.map fun r => r.pay.toNat % 2 ^ 24) = [(t + a - len) % 2 ^ 24])) ∧
    (s.canWrite m trig = true → Master.machineStore m = false → exec (.recWtrig m v) s = .next ((s.countRefusal m trig).refusedAt m trig)) ∧
    (∀ w, s.rcd.wave = some w → w.ok = true → s.pathValid w.ch (s.bobFast w.ch) = true → s.bobAvail w.ch w.cl < w.t + w.a →
      exec (.waveformCapture o j) s = .next s) ∧
    (s.rcd.wave = none → exec (.waveformCapture o j) s = .next s) ∧
    (∀ w, s.rcd.wave = some w → w.ok = false ∨ s.pathValid w.ch (s.bobFast w.ch) = false →
      exec (.waveformCapture o j) s = .next ((s.logWrite 0x0E 3 0 0).updRcd fun r => { r with wave := none })) ∧
    (∀ w, s.rcd.wave = some w → w.ok = true → s.pathValid w.ch (s.bobFast w.ch) = true → w.t + w.a ≤ s.bobAvail w.ch w.cl →
      ∃ u, exec (.waveformCapture o j) s = .next u ∧ u.rcd.wave = none) ∧
    (let counts := fun (r : Recorder) => if r.ops = 0xFFFFFFFFF then r.ops else r.ops + 1
     (s.vcoreOk = true → s.clk.kOk = true → 32768 ≤ s.rcd.sub →
       exec .opsIncrement s = .next (s.updRcd fun r => { r with ops := counts r, sub := r.sub - 32768 })) ∧
     (s.vcoreOk = true → s.clk.kOk = false → 4000000 ≤ s.rcd.subRc →
       exec .opsIncrement s = .next (s.updRcd fun r => { r with ops := counts r, subRc := r.subRc - 4000000 })) ∧
     (s.vcoreOk = false ∨ (if s.clk.kOk then s.rcd.sub < 32768 else s.rcd.subRc < 4000000) → exec .opsIncrement s = .next s))

/-- The samples of a capture whose reads succeed are coded as R373 says: y_0 in 25 bits, then the differences, folded to u, in blocks of 16
with the Rice parameter of fewest bits, the smallest of equals; those that fit in 255 records of 60 bits go into WDATA records, PAY before
SRC, and WEND says how many, from which, and how the coding went (R372 to R374). -/
def Claims.WaveformsAreCodedAndRecorded : Prop :=
  (∀ (x : Int) (k : Nat), 1 ≤ k → let y := roundEven x k
    2 * (x - y * 2 ^ k) ≤ 2 ^ k ∧ -(2 ^ k) ≤ 2 * (x - y * 2 ^ k) ∧ (2 * (x - y * 2 ^ k) = 2 ^ k ∨ 2 * (x - y * 2 ^ k) = -(2 ^ k) → y % 2 = 0)) ∧
  (∀ d : Int, (0 ≤ d → (zigzag d : Int) = 2 * d) ∧ (d < 0 → (zigzag d : Int) = -2 * d - 1)) ∧
  (∀ w v i : Nat, (bitsMsb w v).length = w ∧ (i < w → (bitsMsb w v)[i]? = some (v.testBit (w - 1 - i)))) ∧
  (∀ r u : Nat, riceBits r u = if u / 2 ^ r < 24 then List.replicate (u / 2 ^ r) true ++ false :: bitsMsb r (u % 2 ^ r)
    else List.replicate 24 true ++ bitsMsb 25 u) ∧
  (∀ us : List Nat,
    let cost := fun (r : Nat) => ((us.map (riceBits r)).flatten).length
    riceParam us ≤ 24 ∧ ∀ r, r ≤ 24 → cost (riceParam us) ≤ cost r ∧ (r < riceParam us → cost (riceParam us) < cost r)) ∧
  (∀ ys : List Int,
    let us := (List.range (ys.length - 1)).map fun i => zigzag (ys.getD (i + 1) 0 - ys.getD i 0)
    let par := fun (i : Nat) => riceParam ((us.drop (i / 16 * 16)).take 16)
    (wavePieces ys).length = ys.length ∧
    (∀ y, ys.head? = some y → (wavePieces ys).head? = some (bitsMsb 25 (BitVec.ofInt 25 y).toNat)) ∧
    (∀ i, i + 1 < ys.length → (wavePieces ys)[i + 1]? =
      some ((if i % 16 = 0 then bitsMsb 5 (par i) else []) ++ riceBits (par i) (us.getD i 0)))) ∧
  (∀ ps : List (List Bool), ∃ rest, ps = fitPieces ps ++ rest ∧ (fitPieces ps).flatten.length ≤ 255 * 60 ∧
    ∀ p, rest.head? = some p → 255 * 60 < (fitPieces ps).flatten.length + p.length) ∧
  (∀ bs : List Bool, (waveRecords bs).length = (bs.length + 59) / 60 ∧
    ∀ (i : Nat) (p : Word × Quad), (waveRecords bs)[i]? = some p →
      (∀ k, k < 48 → p.2.getLsbD (47 - k) = bs.getD (60 * i + k) false) ∧
      (∀ k, k < 12 → p.1.getLsbD (11 - k) = bs.getD (60 * i + 48 + k) false)) ∧
  ∀ (s : State) (w : Wave) (j : Fin 1024), s.rcd.wave = some w → w.ok = true → s.pathValid w.ch (s.bobFast w.ch) = true →
    w.t + w.a ≤ s.bobAvail w.ch w.cl → (s.clu w.cl).iso = false →
    let stop := w.t + w.a
    let held := s.bobAvail w.ch w.cl - s.bobCap w.ch
    let start := max (stop - w.n) held
    (∀ i, start ≤ i → i < stop → ∀ a ∈ s.bobPlace w.ch w.cl i, s.wordGood (BitVec.ofNat 24 a) = true) →
    let ys := (List.range (stop - start)).map fun i =>
      if w.k = 0 then (s.bobSample w.ch w.cl (start + i)).toInt else roundEven (s.bobSample w.ch w.cl (start + i)).toInt w.k
    let fit := fitPieces (wavePieces ys)
    let recs := waveRecords fit.flatten
    let late := decide (stop - w.n < held) || decide (stop < w.n)
    let code : BitVec 7 := if fit.length < ys.length then 2 else if late then 1 else 0
    exec (.waveformCapture .ok j) s = .next
      (((recs.foldl (fun (s : State) p => s.logWrite 0x0D 0 p.1 p.2) { s with free := s.free + 1024 }).logWrite 0x0E code 0
        (BitVec.ofNat 48 (fit.length * 2 ^ 36 + recs.length * 2 ^ 24 + start % 2 ^ 24))).updRcd fun r => { r with wave := none })

/-- SEL.RCONF confirms an armed clear while the seal is open and SEALED is not set; with the seal closed it is refused with reason 3, with
SEALED set with reason 1. The CLEAR record takes its place in its fabric clock (R362): behind `k` records it has SEQ NSEQ + k, older ones are
absent, and with NV in use its commit is due; without NV the clear is over at once, the model's choice (notes/assumptions/39). Unconfirmed it
lapses with reason 4, which completes its descriptor unless that is abandoned; the erase ends with the NV ring empty (R375 to R377, R391). -/
def Claims.ClearsAreArmedConfirmedOrLapse : Prop :=
  ∀ (s : State) (m : Master) (v : Word) (n : Fin 8),
    (s.canWrite m rconfBase = true → v.getLsbD 0 = true →
      (s.clearArmed = true → s.sealOpen = true → s.dev.sealed = false → exec (.selRconf m v) s = .next (s.confirmClear.acceptedAt m)) ∧
      (s.clearArmed = false → exec (.selRconf m v) s = .next (s.refusedAt m rconfBase)) ∧
      (s.clearArmed = true → s.sealOpen = false → s.dev.sealed = false →
        exec (.selRconf m v) s = .next ((s.disarm 3).refusedAt m rconfBase)) ∧
      (s.clearArmed = true → s.dev.sealed = true → exec (.selRconf m v) s = .next ((s.disarm 1).refusedAt m rconfBase))) ∧
    (let l := insertRec ⟨8, 0, 0, 0, s.fk⟩ s.rcd.queue
     let u := s.confirmClear
     u.rcd.armed = none ∧
     (s.rcd.held = true ∨ s.dev.testEn = true → u.rcd.queue = l ∧ u.rcd.confirmed = s.rcd.confirmed ++ [s.rcd.armedSq]) ∧
     (s.rcd.held = false → s.dev.testEn = false → s.rcd.confirmed = [] → ∀ (before after : List Record) (x : Record), l = before ++ x :: after →
       x.typ = 8 → (∀ y ∈ before, y.typ ≠ 8) → s.rcd.nseq.toNat + before.length + 1 < 2 ^ 36 →
       let q := s.rcd.nseq + BitVec.ofNat 36 before.length
       u.rcd.queue = after ∧ u.rcd.confirmed = [] ∧ u.rcd.floor = q ∧ u.rcd.nseq = q + 1 ∧
       (s.nvOn = true → (u.rcd.clears.getLast?.map fun c => (c.seq, c.sq)) = some (q, s.rcd.armedSq)) ∧
       (s.nvOn = false → s.rcd.clears = [] → u.rcd.clears = [] ∧ u.rcd.erase = false ∧
         ∀ i : Fin 8, s.rcd.armedSq = some i → (u.sht.sq[i.val]).exec =
           (s.sht.sq[i.val]).exec.map fun d => { d with status := some (0, (q.setWidth 24).setWidth 32) }))) ∧
    (s.rcd.armed = some n →
      (s.rcd.armedLive = true → exec .clearLapse s =
        .next ((s.refuseClear n 4).updRcd fun r => { r with armed := none, armedLive := false })) ∧
      (s.rcd.armedLive = false → exec .clearLapse s =
        .next ((s.logRec 9 4 (BitVec.ofNat 12 n.val) 0).updRcd fun r => { r with armed := none }))) ∧
    (s.clearArmed = false → exec .clearLapse s = .next s) ∧
    (s.rcd.erase = false → exec .nvEraseComplete s = .next s) ∧
    (s.rcd.erase = true → exec .nvEraseComplete s = .next (s.updRcd fun r => { r with erase := false, nv := [], spi := s.ringErase }))

/-- MON.CMD.ARM starts a gauge from nothing, SNAP copies its running values and disarms it, and is refused where it is not armed; a latency of
an armed gauge of KIND 1 to 4, 7 or 8, capped at 0xFFF_FFF, counts, widens the range and adds to one bin (R378 to R381); that other kinds have
no row is the model's choice (notes/assumptions/62). -/
def Claims.GaugesArmSampleAndSnap : Prop :=
  ∀ (s : State) (m : Master) (g : Fin 32) (w : BitVec 36),
    let cmd := monBase g + 7
    let x := s.gauge g
    (s.canWrite m cmd = true → s.setupOrRun = true →
      exec (.monArm m g) s = .next ((s.updGauge g fun _ => { armed := true }).acceptedAt m) ∧
      (x.armed = true → ∃ u, exec (.monSnap m g) s = .next u ∧
        u.gauge g = { x with snap := x.run, armed := false, valid := true }) ∧
      (x.armed = false → exec (.monSnap m g) s = .next ((s.countRefusal m cmd).refusedAt m cmd))) ∧
    (let v : DWord := BitVec.ofNat 24 (min w.toNat 0xFFFFFF)
     let kind := bitsAt (s.reg (monReg g 1)) 8 4
     let num := gaugeNum kind v
     let lo : Int := (s.reg2 (monReg g 3)).toInt
     let cfg := s.reg (monReg g 0)
     let b := gaugeBin (cfg.getLsbD 11) (bitsAt cfg 6 5) (num - lo)
     (kind = 0 ∨ kind = 5 ∨ kind = 6 ∨ 8 < kind ∨ x.armed = false → exec (.gaugeValue g w) s = .next s) ∧
     (x.armed = true → 1 ≤ kind → kind ≤ 8 → kind ≠ 5 → kind ≠ 6 → ∃ u, exec (.gaugeValue g w) s = .next u ∧
       (u.gauge g).run.count = x.run.count + 1 ∧
       (u.gauge g).run.min = (if x.run.count = 0 ∨ num < gaugeNum kind x.run.min then v else x.run.min) ∧
       (u.gauge g).run.max = (if x.run.count = 0 ∨ gaugeNum kind x.run.max < num then v else x.run.max) ∧
       (∀ k : Fin 16, (u.gauge g).run.bins[k.val] =
         if k = b ∧ x.run.bins[k.val] ≠ 0xFFFFFF then x.run.bins[k.val] + 1 else x.run.bins[k.val]) ∧
       (u.gauge g).alm = (x.alm || (cfg.getLsbD 3 && decide (gaugeNum kind (s.reg2 (monReg g 5)) < num))) ∧
       (u.gauge g).snap = x.snap))

/-! ### The shuttle (R388 to R426) -/

/-- PERST_N: its assertion resets the PCIe core, the rings and the host window, counts a link loss when the link was in L0, and ends the
host-window loads in progress with an error response; the rings it disables set line 26; grants and the secret stay. Its end lets the core
run outside POWER-UP (R390, R391, R418, R474). The reset values of the PCIe function are the PCI family's (notes/assumptions/10), and that
PERST counts as a loss of link is the model's reading (notes/assumptions/44). -/
def Claims.PerstResetsTheLink : Prop :=
  ∀ (s : State) (e : Eng) (t : Thr),
    (s.sht.prst = false → ∃ u, exec .perstAssert s = .next u ∧
      u.sht.prst = true ∧ u.sht.coreUp = false ∧ u.sht.lup = false ∧ u.sht.bme = false ∧ u.sht.d3 = false ∧
      u.sht.mask = 0xFFFFFFFF ∧ u.sht.pba = 0 ∧ u.sht.bar0 = 0 ∧ u.sht.bar2 = 0 ∧ u.sht.grants = s.sht.grants ∧ u.sht.key = s.sht.key ∧
      (∀ n : Fin 8, (u.sht.sq[n.val]).en = false ∧ (u.sht.cq[n.val]).en = false ∧ (u.sht.sq[n.val]).exec = none ∧
        (∀ x, (s.sht.sq[n.val]).exec = some x →
          (u.sht.sq[n.val]).abt = true ∧ (u.sht.sq[n.val]).at_ = x.d.tag.setWidth 12 ∧
            (u.sht.sq[n.val]).ap = BitVec.ofNat 24 x.prog)) ∧
      (∀ l, s.still e = false → s.together e = true → s.loadOf e t = some l → regionOf l.pa = .host →
        (u.thr e t).lsu.load = none ∧ (u.thr e t).lsu.fault = some (0x19, l.va)) ∧
      (s.sht.lup = true → s.up = true → (s.src 104).waiting.length < 5 →
        (u.src 104).waiting = (s.src 104).waiting ++ [⟨0x01, 0, none⟩]) ∧
      ((s.sht.sq.toList.any Sq.en || s.sht.cq.toList.any Cq.en) = true → (s.clu e.cluster).gated = false →
        e ∈ s.targets (bitsAt (s.reg (shtBase + 2)) 0 2) s.selEngines → (u.eng e).lineIn.getLsbD 26 = true) ∧
      (s.sht.lup = false → (u.src 104).waiting = (s.src 104).waiting) ∧ u.mem = s.mem ∧ u.prog = s.prog) ∧
    (s.sht.prst = true → exec .perstDeassert s =
      .next ((s.updSht fun x => { x with prst := false, coreUp := decide (s.dev.phase ≠ .powerUp) }).shtLine 27))

/-- The link: L0 with its speed and width sets line 27 once; leaving it counts a loss unless the host asked for D3hot; a recorded error
counts by its kind (R418, R419). -/
def Claims.TheLinkComesAndGoes : Prop :=
  ∀ (s : State) (spd wid : BitVec 2) (d3 : Bool),
    (s.sht.coreUp = true → s.sht.prst = false → spd ≠ 0 → wid = 1 ∨ wid = 2 →
      let t := s.updSht fun x => { x with lup := true, spd := spd, wid := wid }
      exec (.linkEnterL0 spd wid) s = .next (if s.sht.lup then t else t.shtLine 27)) ∧
    (s.sht.lup = true →
      let t := (s.updSht fun x => { x with lup := false, spd := 0, wid := 0 }).shtLine 27
      exec (.linkLeaveL0 d3) s = .next (if d3 then t else t.raise 104 0x01 0)) ∧
    (s.sht.coreUp = true →
      exec (.linkErrorRecorded false) s = .next (s.raise 104 0x02 0) ∧ exec (.linkErrorRecorded true) s = .next (s.raise 104 0x03 0))

/-- Configuration requests receive retry status until the image header is checked; then the ids read as R388 says, the BARs, Bus Master
Enable and the power state take what is written, and pending messages leave once they may; a host write of a vector's table entry writes
its address, data or mask, and one that unmasks it sends what is pending; it is discarded while the shuttle is in its reset state. The
capability list holds Power Management, PCI Express and MSI-X, and there is no built-in self test, no expansion ROM, no interrupt pin, no
phantom function and no option of Device Capabilities 2 (R388 to R390, R392, R416, R474). The layouts are those of the PCI family, and
the order of the list is the model's choice (notes/assumptions/10 and 60). -/
def Claims.ConfigurationIsAnswered : Prop :=
  ∀ (s : State) (k : Fin 32) (d : Fin 4) (v : BitVec 32), s.sht.coreUp = true → s.sht.prst = false →
    let answer := fun (off : BitVec 12) (v : BitVec 32) =>
      exec (.configRequest (.read off)) s = .next (s.updSht fun x => { x with cfgAnswer := some v })
    let bit : BitVec 32 := BitVec.ofNat 32 (2 ^ k.val)
    (s.sht.retry = true → ∀ q, exec (.configRequest q) s = .next (s.updSht fun x => { x with cfgAnswer := none })) ∧
    (s.sht.retry = false →
      answer 0 0x64121F4D ∧ answer 8 0x118000B0 ∧ answer 0x10 s.sht.bar0 ∧ answer 0x18 s.sht.bar2 ∧ answer 0x2C (s.sht.ssid ++ s.sht.ssvid) ∧
      (exec (.configRequest (.write 0x10 v)) s = .next (s.updSht fun x => { x with bar0 := v &&& 0xFFFFF000 })) ∧
      (exec (.configRequest (.write 0x18 v)) s = .next (s.updSht fun x => { x with bar2 := v &&& 0xFFF00000 })) ∧
      (∀ on, ∃ u, exec (.configRequest (.setBme on)) s = .next u ∧ u.sht.bme = on ∧ u.sht.d3 = s.sht.d3) ∧
      (∀ on, ∃ u, exec (.configRequest (.setD3 on)) s = .next u ∧ u.sht.d3 = on ∧ u.sht.bme = s.sht.bme) ∧
      (s.sht.d3 = false → s.sht.pba = bit → s.sht.mask.getLsbD k.val = false →
        ∃ u, exec (.configRequest (.setBme true)) s = .next u ∧ u.sht.lastMsg = some (some (BitVec.ofNat 5 k.val)) ∧ u.sht.pba = 0)) ∧
    (s.sht.retry = false →
      let low := fun (off : Nat) (w : Nat) => ∃ u, exec (.configRequest (.read (BitVec.ofNat 12 off))) s = .next u ∧
        u = (s.updSht fun y => { y with cfgAnswer := u.sht.cfgAnswer }) ∧ u.sht.cfgAnswer.map (fun x => x.toNat % 65536) = some w
      let pm := 4 * PciCap.place .powerManagement
      let pe := 4 * PciCap.place .pciExpress
      let mx := 4 * PciCap.place .msix
      let word := fun (off : Nat) (p : BitVec 32 → Prop) => ∃ u, exec (.configRequest (.read (BitVec.ofNat 12 off))) s = .next u ∧
        u = (s.updSht fun y => { y with cfgAnswer := u.sht.cfgAnswer }) ∧ u.sht.cfgAnswer.isSome = true ∧
        ∀ w, u.sht.cfgAnswer = some w → p w
      low 0x34 pm ∧ low pm (pe * 256 + 0x01) ∧ low pe (mx * 256 + 0x10) ∧ low mx 0x11 ∧
      word 0x0C (fun w => w.toNat < 256) ∧ word 0x30 (fun w => w = 0) ∧ word 0x3C (fun w => w.toNat < 256) ∧
      word (pe + 4) (fun w => w.toNat % 64 = 1) ∧ word (pe + 0x24) (fun w => w = 0)) ∧
    (s.hostOk = false → exec (.msixVectorUnmask k d v) s = .next s) ∧
    (s.hostOk = true → ∃ u, exec (.msixVectorUnmask k d v) s = .next u ∧
      (d = 0 → u = s.updSht fun x => { x with msixAddr := x.msixAddr.set k.val (((x.msixAddr[k.val]) >>> 32).setWidth 32 ++ (v &&& 0xFFFFFFFC)) }) ∧
      (d = 1 → u = s.updSht fun x => { x with msixAddr := x.msixAddr.set k.val (v ++ (x.msixAddr[k.val]).setWidth 32) }) ∧
      (d = 2 → u = s.updSht fun x => { x with msixData := x.msixData.set k.val v }) ∧
      (d = 3 → v.getLsbD 0 = true → u = s.updSht fun x => { x with mask := x.mask ||| bit }) ∧
      (d = 3 → v.getLsbD 0 = false → u.sht.mask = s.sht.mask &&& ~~~bit ∧
        (s.sht.mask.getLsbD k.val = true → s.sht.bme = true → s.sht.d3 = false → u.sht.pba.getLsbD k.val = false) ∧
        (s.sht.mask.getLsbD k.val = true → s.sht.bme = true → s.sht.d3 = false → s.sht.pba = bit →
          u.sht.lastMsg = some (some (BitVec.ofNat 5 k.val)))))

/-- Doorbells and BAR2 writes while the BARs answer: a tail below the ring's size, a head that releases only written entries, whole
containers that are host-side words reach their register; others count at source 107 or 82, and a bad read is answered with Unsupported
Request; a read of a doorbell gives its tail or head, and of BAR2 the register words whose containers it asks for, where a grant handle reads
0; one that asks for an unassigned register, or one of an isolated cluster, gives no data and counts at source 82; from 0xA0_000 on a read
gives 0 (R13, R171, R326, R390, R392 to R396, R400, R406, R419). -/
def Obligations.HostRequestsReachTheirRegister : Prop :=
  ∀ (s : State) (n : Fin 8) (v : BitVec 32) (off : BitVec 20) (data : BitVec 32) (a : Addr) (r : Bool), s.hostOk = true →
    let fault := fun (s : State) (cause : BitVec 7) (origin value : Nat) =>
      (s.updSht fun x => { x with pecnt := sat12 (x.pecnt.toNat + 1) }).raise 107 cause (BitVec.ofNat 24 (origin * 2 ^ 19 + value % 4096))
    let cq := s.sht.cq[n.val]
    let size := (s.reg (shtBase + 0x205 + 32 * n.val)).toNat + 1
    let written := (cq.tail.toNat + size - cq.head.toNat % size) % size
    let place := off.toNat / 4 * 2
    let lo : Container := data.setWidth 16
    let hi : Container := (data >>> 16).setWidth 16
    let put := fun (s : State) (k : Nat) (c : Container) => (s.writeReg .host (0x800000 + place + k) (c.setWidth 12)).2
    ((s.sht.sq[n.val]).en = true →
      (v.toNat ≤ (s.reg (shtBase + 0x105 + 32 * n.val)).toNat →
        exec (.sqTailDoorbell n v) s = .next (s.updSq n fun q => { q with tail := v.setWidth 12 })) ∧
      ((s.reg (shtBase + 0x105 + 32 * n.val)).toNat < v.toNat → exec (.sqTailDoorbell n v) s = .next (fault s 0x01 n.val v.toNat))) ∧
    ((s.sht.sq[n.val]).en = false → exec (.sqTailDoorbell n v) s = .next s) ∧
    (cq.en = true →
      (∀ k, k ≤ written → v.toNat = (cq.head.toNat + k) % size →
        exec (.cqHeadDoorbell n v) s = .next (s.updCq n fun q => { q with head := v.setWidth 12 })) ∧
      (∀ k, written < k → k < size → v.toNat = (cq.head.toNat + k) % size →
        exec (.cqHeadDoorbell n v) s = .next (fault s 0x01 (8 + n.val) v.toNat))) ∧
    (off.toNat < 0xA0000 →
      (lo.toNat < 4096 → exec (.bar2Write off 3 data) s = .next (put s 0 lo)) ∧
      (hi.toNat < 4096 → exec (.bar2Write off 12 data) s = .next (put s 1 hi)) ∧
      (lo.toNat < 4096 → hi.toNat < 4096 → exec (.bar2Write off 15 data) s = .next (put (put s 0 lo) 1 hi)) ∧
      (4096 ≤ lo.toNat → exec (.bar2Write off 3 data) s = .next (fault s 0x02 0x10 lo.toNat))) ∧
    (0xA0000 ≤ off.toNat → exec (.bar2Write off 15 data) s = .next s) ∧
    exec (.barBadRequest r a) s = .next ((if r then s.updSht fun x => { x with lastUr := some a } else s).raiseOf .host 82 0x01 a) ∧
    s.bar0Read (BitVec.ofNat 12 (16 * n.val)) = ((s.sht.sq[n.val]).tail).setWidth 32 ∧
    s.bar0Read (BitVec.ofNat 12 (0x100 + 16 * n.val)) = (cq.head).setWidth 32 ∧
    (off.toNat < 0xA0000 →
      let at_ := 0x800000 + place
      let bad := fun (x : Nat) => (regInfo x).isNone || s.cutOff .host (BitVec.ofNat 24 x)
      let handle := fun (x : Nat) => decide (shtBase + 0x400 ≤ x) && decide (x < shtBase + 0x800) && decide (8 ≤ x % 16) && decide (x % 16 ≤ 10)
      let word := fun (x : Nat) => if handle x then 0 else s.readReg x
      ∀ be : BitVec 4,
        let asked := (if be.getLsbD 0 then [at_] else []) ++ (if be.getLsbD 2 then [at_ + 1] else [])
        let given := fun (i x : Nat) => if be.getLsbD i then (word x).toNat else 0
        (asked.filter bad = [] → s.bar2Read off be = (some (BitVec.ofNat 32 (given 2 (at_ + 1) * 65536 + given 0 at_)), s)) ∧
        (asked.filter bad ≠ [] → (s.bar2Read off be).1 = none) ∧
        (∀ x, asked.filter bad = [x] → (s.bar2Read off be).2 = s.raiseOf .host 82 0x01 (BitVec.ofNat 24 x))) ∧
    (0xA0000 ≤ off.toNat → ∀ be, s.bar2Read off be = (some 0, s))

/-- CREATE takes the lowest free entry for rights of one kind and, but for a range-free kind, a range inside the kind's limit, and shows its
handle; each thing that R400 refuses has its reason, CREATE and REVOKE together too; REVOKE drops a valid entry and steps its generation, or
retires it at generation 127 (R399 to R401). -/
def Claims.GrantsAreCreatedAndRevoked : Prop :=
  ∀ (s : State) (m : Master) (e : Eng), ownStore e m = true → s.live m = true →
    let p := fun (k : Nat) => s.reg (shtBase + 0x400 + 16 * e.val + k)
    let rights : BitVec 8 := (p 4).setWidth 8
    let base : DWord := p 1 ++ p 0
    let len : DWord := p 3 ++ p 2
    -- the rights of each kind: memory, mailbox, gauge, range-free
    let memory := rights &&& ~~~(0xC0 : BitVec 8) = 0
    let mailbox := rights &&& ~~~(0x11 : BitVec 8) = 0
    let gauge := rights &&& ~~~(0x02 : BitVec 8) = 0
    let free := rights &&& ~~~(0x2C : BitVec 8) = 0
    let one := memory ∨ mailbox ∨ gauge ∨ free
    let limit := if memory then 2 ^ 24 else if mailbox then 256 else 32
    let fits := len ≠ 0 ∧ base.toNat + len.toNat ≤ limit
    let selOnly := rights.getLsbD 2 = true ∧ s.isSel e = false
    let refused := fun (reason : Nat) (u : State) => u = s.updSht fun x => { x with gpst := x.gpst.set e.val (0xC00 ||| BitVec.ofNat 12 reason) }
    let i : Fin 512 := ⟨(p 5).toNat % 512, by omega⟩
    let g := s.sht.grants[i.val]
    (∃ u, exec (.create m e) s = .next u ∧
      (rights = 0 → refused 1 u) ∧
      (rights ≠ 0 → ¬ one → refused 2 u) ∧
      (rights ≠ 0 → free → selOnly → refused 3 u) ∧
      (rights ≠ 0 → one → ¬ free → ¬ fits → refused 4 u) ∧
      (rights ≠ 0 → one → ¬ (free ∧ selOnly) → free ∨ fits →
        ((∀ k : Fin 512, (s.sht.grants[k.val]).v = true ∨ (s.sht.grants[k.val]).ret = true) → refused 5 u) ∧
        (∀ k : Fin 512, (s.sht.grants[k.val]).v = false → (s.sht.grants[k.val]).ret = false →
          (∀ j : Fin 512, j < k → (s.sht.grants[j.val]).v = true ∨ (s.sht.grants[j.val]).ret = true) →
          u.sht.gpst[e.val] = 0x800 ||| BitVec.ofNat 12 k.val ∧
          (let h := u.sht.gph[e.val]
           h.toNat / 2 ^ 27 = k.val ∧ h.toNat / 2 ^ 20 % 128 = (s.sht.grants[k.val]).gen.toNat ∧ u.checkHandle h = none) ∧
          (let y := u.sht.grants[k.val]
           y.v = true ∧ y.rights = rights ∧ y.base = (if free then 0 else base) ∧ y.len = (if free then 0 else len) ∧
             y.owner.toNat = e.val ∧ y.gen = (s.sht.grants[k.val]).gen) ∧
          ∀ j : Fin 512, j ≠ k → u.sht.grants[j.val] = s.sht.grants[j.val])) ∧
      u.regs = s.regs ∧ u.mem = s.mem) ∧
    refused 7 (s.gpCommand e 3) ∧
    (∃ u, exec (.revoke m e) s = .next u ∧
      (g.v = false → refused 6 u) ∧
      (g.v = true → u.sht.gpst[e.val] = 0x800 ||| BitVec.ofNat 12 i.val ∧ (u.sht.grants[i.val]).v = false ∧
        (g.gen ≠ 127 → (u.sht.grants[i.val]).gen = g.gen + 1 ∧ (u.sht.grants[i.val]).ret = g.ret) ∧
        (g.gen = 127 → (u.sht.grants[i.val]).ret = true) ∧
        ∀ j : Fin 512, j ≠ i → u.sht.grants[j.val] = s.sht.grants[j.val]))

/-- Rings: an SQ is enabled with an enabled CQ and a good ring grant, empty and out of quarantine, and else shows what was missing; a CQ
starts with phase 1 and is disabled only while no enabled SQ is bound to it; UNQ lifts a quarantine, of a disabled SQ too (R403, R421). -/
def Claims.RingsAreEnabledAndDisabled : Prop :=
  ∀ (s : State) (m : Master) (n : Fin 8),
    let sq := shtBase + 0x10A + 32 * n.val
    let cq := shtBase + 0x209 + 32 * n.val
    (s.canWrite m sq = true →
      ((s.sq n).en = false → (s.cq (s.sqCq n)).en = true → s.sqGrantOk n = true → exec (.sqEnable m n) s =
        .next (((s.updSq n fun q =>
          { q with en := true, head := 0, tail := 0, qc := 0, quar := false, rge := false, cqoff := false, stopped := false }).shtLine 26).acceptedAt m)) ∧
      ((s.sq n).en = false → (s.cq (s.sqCq n)).en = false → exec (.sqEnable m n) s =
        .next ((s.updSq n fun q => { q with cqoff := true, rge := false }).acceptedAt m)) ∧
      ((s.sq n).en = false → (s.cq (s.sqCq n)).en = true → s.sqGrantOk n = false →
        ∃ u, exec (.sqEnable m n) s = .next u ∧ (u.sq n).en = false ∧ (u.sq n).rge = true ∧ (u.sq n).cqoff = false) ∧
      ((s.sq n).en = true → exec (.sqEnable m n) s = .next (s.acceptedAt m)) ∧
      ((s.sq n).en = true → exec (.sqDisable m n) s =
        .next (((s.updSq n fun q => { q with en := false }).shtLine 26).acceptedAt m)) ∧
      (Master.machineStore m = true → exec (.sqctlUnq m n) s =
        .next ((s.updSq n fun q => { q with quar := false, qc := 0 }).acceptedAt m)) ∧
      (Master.machineStore m = false → exec (.sqctlUnq m n) s = .next ((s.countRefusal m sq).refusedAt m sq))) ∧
    (s.canWrite m cq = true →
      ((s.cq n).en = false → exec (.cqEnable m n) s =
        .next (((s.updCq n fun _ => { en := true, phase := true, thr := (s.reg (cqReg n 7)).setWidth 8 }).shtLine 26).acceptedAt m)) ∧
      ((s.cq n).en = true → (∀ k : Fin 8, s.sqCq k = n → (s.sq k).en = false) → exec (.cqDisable m n) s =
        .next (((s.updCq n fun q => { q with en := false, timer := false }).shtLine 26).acceptedAt m)) ∧
      (∀ k : Fin 8, s.sqCq k = n → (s.sq k).en = true →
        exec (.cqDisable m n) s = .next ((s.countRefusal m cq).refusedAt m cq)))

/-- The fields of a descriptor's 64 bytes. A fetch that may run, when it is its SQ's turn, reads the entry at SQBA + 64 × head and holds the
status of the first check that it fails: a word that is no host-side word 6, a reserved opcode 5, a check mismatch 2, an invalid entry or
generation 3, fields 7, rights or range 4; a read that fails, or is poisoned, is status 8 and counts at source 105; without a good ring grant
the SQ stops; otherwise nothing is fetched (R402, R405, R407 to R413, R421). The cause of a failed read, that a failed ring grant is no grant
fault, and the order of the bad words are the model's reading (notes/assumptions/44). -/
def Claims.DescriptorsAreFetchedAndChecked : Prop :=
  ∀ (s : State) (n : Fin 8) (b : Vector Byte 64),
    let d := Descriptor.ofBytes b
    (d.opc = b[0] ∧ d.flg = b[1] ∧ d.tag = b[3] ++ b[2] ∧ d.grant0 = b[5] ++ b[4] ∧ d.grant1 = b[7] ++ b[6] ∧ d.grant2 = b[9] ++ b[8] ∧
      d.rsv10 = b[11] ++ b[10] ∧ d.count = (b[15] ++ b[14]) ++ (b[13] ++ b[12]) ∧
      d.haddr = ((b[23] ++ b[22]) ++ (b[21] ++ b[20])) ++ ((b[19] ++ b[18]) ++ (b[17] ++ b[16])) ∧
      d.daddr = (b[27] ++ b[26]) ++ (b[25] ++ b[24]) ∧ d.rsv28 = (b[31] ++ b[30]) ++ (b[29] ++ b[28]) ∧
      ∀ k : Fin 16, d.param[k.val] = b[33 + 2 * k.val] ++ b[32 + 2 * k.val]) ∧
    (s.mayFetch n = false ∨ s.fetchTurn n = false → ∀ r, exec (.descriptorFetch n r) s = .next s) ∧
    (s.mayFetch n = true → s.fetchTurn n = true →
    let head : Word := BitVec.ofNat 12 (((s.sq n).head.toNat + 1) % s.sqSize n)
    let h := Descriptor.handle d
    let words := [d.tag, d.grant0, d.grant1, d.grant2]
    let code := d.opc.toNat
    (s.sqGrantOk n = false →
      exec (.descriptorFetch n (.bytes b)) s = .next ((s.updSq n fun q => { q with stopped := true }).shtLine 25)) ∧
    (s.sqGrantOk n = true →
      (∀ r cause, (r = .failed ∧ cause = 0x02) ∨ (r = .poisoned ∧ cause = 0x01) →
        ∃ u x, exec (.descriptorFetch n r) s = .next u ∧ (u.sq n).head = head ∧ (u.sq n).exec = some x ∧ x.status = some (8, 0) ∧
          u.sht.served = n ∧ (s.up = true → (s.src 105).waiting.length < 5 →
            (u.src 105).waiting = (s.src 105).waiting ++ [⟨cause, BitVec.ofNat 24 (n.val * 2 ^ 19), none⟩])) ∧
      (∃ u x, exec (.descriptorFetch n (.bytes b)) s = .next u ∧ u.sht.served = n ∧
        u.sht.hostIn = [(s.base64 (sqReg n 0) + 64 * (s.sq n).head.toNat, 64)] ∧ (u.sq n).head = head ∧ (u.sq n).exec = some x ∧
        x.d = d ∧ x.prog = 0 ∧ x.head = head ∧ x.refused = none ∧
        ((∃ c ∈ words, 4096 ≤ c.toNat) → x.status = some (6, 0)) ∧
        ((∀ c ∈ words, c.toNat < 4096) →
          (code = 0 ∨ 8 < code → x.status = some (5, 0)) ∧
          (1 ≤ code → code ≤ 7 → s.checkHandle h = some 1 → x.status = some (2, 0) ∧
            (u.sq n).qc = (if (s.sq n).qc = 255 then 255 else (s.sq n).qc + 1) ∧
            ((s.reg shtBase).toNat % 256 ≤ (u.sq n).qc.toNat → (u.sq n).quar = true)) ∧
          (1 ≤ code → code ≤ 7 → s.checkHandle h = some 2 → x.status = some (3, 0)) ∧
          (1 ≤ code → code ≤ 8 → code ≠ 8 → s.checkHandle h = none →
            (fieldsOk d = false → x.status = some (7, 0)) ∧
            (fieldsOk d = true → s.rightsOk d = false → x.status = some (4, 0)) ∧
            (fieldsOk d = true → s.rightsOk d = true → x.status = none)) ∧
          (code = 8 → x.status = (if fieldsOk d then none else some (7, 0)) ∧
            ∀ m : Fin 8, x.wait.getLsbD m.val = (decide (m ≠ n) && d.param[0].getLsbD m.val && (s.sq m).exec.isSome))))) ∧
    (code = 1 ∨ code = 2 → (fieldsOk d = true ↔
      d.flg.toNat < 4 ∧ d.rsv10 = 0 ∧ d.rsv28 = 0 ∧ d.haddr.toNat % 2 = 0 ∧ 1 ≤ d.count.toNat ∧ d.count.toNat ≤ 1048576 ∧
        (d.flg.getLsbD 1 = true → d.count.toNat % 2 = 0) ∧ d.daddr.toNat + d.count.toNat ≤ 0xC00000 ∧
        (0x912000 ≤ d.daddr.toNat ∨ d.daddr.toNat + d.count.toNat ≤ 0x910000) ∧ ∀ k : Fin 16, d.param[k.val] = 0)))

/-- COPY_IN: plain host-side words reach a data region and nothing else changes; a device write that fails is reason 1, a host read reason 2
with its count, a poisoned one reason 3, a container that is no host-side word reason 4. The packed form is undone by its inverse (R396,
R411, R414, R415). -/
def Claims.CopyInStoresTheHostsWords : Prop :=
  (∀ (s : State) (n : Fin 8) (x : Exec) (data : List Container) (c : Container), s.memCanonical = true → s.canSend = true →
    (s.sq n).exec = some x → x.status = none → x.d.opc = 1 → x.d.flg.getLsbD 1 = false → x.prog < x.d.count.toNat →
    let a := x.d.daddr.toNat + x.prog
    let need := x.d.count.toNat - x.prog
    let ends := fun (u : State) (k : Nat) (status : BitVec 16) (result : Nat) =>
      (u.sq n).exec = some { x with prog := x.prog + k, status := some (status, BitVec.ofNat 32 result) }
    a + need ≤ 2 ^ 24 →
    (∀ k, k < need → let p : Addr := BitVec.ofNat 24 (a + k)
      (regionOf p).isData = true ∧ s.asleep p = false ∧ s.cutOff .shuttle p = false ∧ s.refuses .shuttle p true = false) →
    (data.length = need → (∀ w ∈ data, w.toNat < 4096) → ∃ u, exec (.copyIn n data .none) s = .next u ∧ ends u need 0 0 ∧
      (∀ k, ∀ h : k < data.length, u.memWord (a + k) = data[k].setWidth 12) ∧
      (∀ b, b < a ∨ a + need ≤ b → u.memWord b = s.memWord b) ∧ u.regs = s.regs ∧ u.prog = s.prog ∧
      u.sht.hostIn = [(x.d.haddr.toNat + 2 * x.prog, 2 * need)]) ∧
    (c.toNat < 4096 → ∃ u, exec (.copyIn n [c] (.deviceWrite 0 .errorResponse)) s = .next u ∧ ends u 0 1 (2 ^ 24 + a % 2 ^ 24) ∧
      u.mem = s.mem) ∧
    (∃ u, exec (.copyIn n [] (.host 0)) s = .next u ∧ ends u 0 1 (2 * 2 ^ 24 + a % 2 ^ 24) ∧ u.mem = s.mem ∧
      (s.up = true → (s.src 105).waiting.length < 5 →
        (u.src 105).waiting = (s.src 105).waiting ++ [⟨0x02, BitVec.ofNat 24 (n.val * 2 ^ 19), none⟩])) ∧
    (∃ u, exec (.copyIn n [] (.poisoned 0)) s = .next u ∧ ends u 0 1 (3 * 2 ^ 24 + a % 2 ^ 24) ∧ u.mem = s.mem ∧
      (s.up = true → (s.src 105).waiting.length < 5 →
        (u.src 105).waiting = (s.src 105).waiting ++ [⟨0x01, BitVec.ofNat 24 (n.val * 2 ^ 19), none⟩])) ∧
    (4096 ≤ c.toNat → ∃ u, exec (.copyIn n [c] .none) s = .next u ∧ ends u 0 1 (4 * 2 ^ 24 + a % 2 ^ 24) ∧ u.mem = s.mem)) ∧
  ∀ ws : List Word, ws.length % 2 = 0 → unpackBytes (packBytes ws) = ws

/-- COPY_OUT sends the words of a data region as host-side words, low byte first, to HADDR onwards and changes no memory (R396, R411,
R415). -/
def Claims.CopyOutSendsTheWords : Prop :=
  ∀ (s : State) (n : Fin 8) (x : Exec), s.canSend = true →
    (s.sq n).exec = some x → x.status = none → x.d.opc = 2 → x.d.flg.getLsbD 1 = false → x.prog ≤ x.d.count.toNat →
    let a := x.d.daddr.toNat + x.prog
    let need := x.d.count.toNat - x.prog
    let h := x.d.haddr.toNat + 2 * x.prog
    a + need ≤ 2 ^ 24 →
    (∀ k, k < need → let p : Addr := BitVec.ofNat 24 (a + k)
      (regionOf p).isData = true ∧ s.asleep p = false ∧ s.cutOff .shuttle p = false ∧ s.refuses .shuttle p false = false ∧
        s.wordGood p = true) →
    ∃ u, exec (.copyOut n .none) s = .next u ∧
      (u.sq n).exec = some { x with prog := x.d.count.toNat, status := some (0, 0) } ∧ u.mem = s.mem ∧ u.regs = s.regs ∧
      u.sht.hostOut.map Prod.fst = [h] ∧ (u.sht.hostOut.flatMap Prod.snd).length = 2 * need ∧
      ∀ k, k < need → let w := s.memWord (a + k)
        (u.sht.hostOut.flatMap Prod.snd)[2 * k]? = some (w.setWidth 8) ∧
        (u.sht.hostOut.flatMap Prod.snd)[2 * k + 1]? = some ((w >>> 8).setWidth 8)

/-- MSG offers its words in order to one mailbox, which takes them while it has room; a word that a full mailbox refuses, or that an isolated
cluster turns away (the model's reading, notes/assumptions/43), is offered again each microsecond and the descriptor ends with reason 5 once
MSGTO is reached (R92, R326, R411, R414). -/
def Claims.MessagesWaitForTheirMailbox : Prop :=
  ∀ (s : State) (n : Fin 8) (x : Exec), (s.sq n).exec = some x → x.status = none → x.d.opc = 3 →
    let i : BitVec 8 := x.d.daddr.setWidth 8
    let e : Eng := ⟨i.toNat / 4, by omega⟩
    let b := i.toNat % 4
    let box := (s.eng e).mbox[b]
    let words := (x.d.param.toList.take x.d.count.toNat).drop x.prog
    let run := if x.refused.isSome then exec (.mailboxRetry n) s else exec (.msg n) s
    let set := fun (y : Exec) => s.updSq n fun q => { q with exec := some y }
    let us := x.refused.getD 0
    (∀ c ∈ words, c.toNat < 4096) → words ≠ [] → s.inRun = true → s.engEn e = true → (s.eng e).locked = false →
      s.together e = true → s.still e = false → (s.eng e).held = [] →
      ((s.clu e.cluster).iso = false → box.length + words.length ≤ 16 → ∃ u, run = .next u ∧
        (u.eng e).mbox[b] = box ++ words.map (fun c => ⟨c.setWidth 12, BitVec.ofNat 12 (0x400 + n.val)⟩) ∧
        (u.eng e).ipend.getLsbD (8 + b) = true ∧ u.mem = s.mem ∧ u.regs = s.regs ∧
        (u.sq n).exec = some { x with prog := x.prog + words.length, refused := none, status := some (0, 0) }) ∧
      (16 ≤ box.length ∨ (s.clu e.cluster).iso = true →
        (x.refused = none → run = .next (set { x with refused := some 0 })) ∧
        (x.refused ≠ none → us + 1 < (s.reg (shtBase + 1)).toNat → run = .next (set { x with refused := some (us + 1) })) ∧
        (x.refused ≠ none → (s.reg (shtBase + 1)).toNat ≤ us + 1 →
          run = .next (set { x with status := some (1, BitVec.ofNat 32 (5 * 2 ^ 24 + i.toNat)) })))

/-- GAUGE_READ sends a gauge's 40 words from MON.ST on; REC_READ a record that a ring holds, and ends with reason 6 at one that none holds;
REC_CLEAR arms a clear, or is refused with R376's reason, where a CLEAR record on its way to the CLEAR log counts as its slot (the model's
choice, notes/assumptions/62); a FENCE ends when every descriptor it waits for has completed (R365, R375, R376,
R411, R414). -/
def Claims.GaugeRecordClearAndFence : Prop :=
  ∀ (s : State) (n : Fin 8) (x : Exec), (s.sq n).exec = some x → x.status = none →
    let ends := fun (u : State) (k : Nat) (status : BitVec 16) (result : BitVec 32) =>
      (u.sq n).exec = some { x with prog := x.prog + k, status := some (status, result) }
    let sent := fun (u : State) (ws : List Word) =>
      u.sht.hostOut.map Prod.fst = [x.d.haddr.toNat] ∧ (u.sht.hostOut.flatMap Prod.snd).length = 2 * ws.length ∧
      ∀ k, ∀ h : k < ws.length, (u.sht.hostOut.flatMap Prod.snd)[2 * k]? = some (ws[k].setWidth 8) ∧
        (u.sht.hostOut.flatMap Prod.snd)[2 * k + 1]? = some ((ws[k] >>> 8).setWidth 8)
    let p := fun (k : Fin 16) => (x.d.param[k.val]).setWidth 12
    let q : BitVec 36 := p 2 ++ (p 1 ++ p 0 : BitVec 24)
    (x.d.opc = 4 → s.canSend = true → ∀ g : Fin 32, x.d.daddr.toNat = g.val →
      ∃ u, exec (.gaugeRead n) s = .next u ∧ ends u 40 0 ((s.readReg (monBase g + 8)).setWidth 32) ∧
        sent u ((List.range 40).map fun k => s.readReg (monBase g + 8 + k)) ∧ u.mem = s.mem ∧ u.regs = s.regs) ∧
    (x.d.opc = 5 → s.canSend = true → x.d.count = 1 → (∀ k : Fin 3, (x.d.param[k.val]).toNat < 4096) →
      (∀ w, s.findRecord q = some w → (∀ k, k < 16 → s.wordGood (BitVec.ofNat 24 (slotAddr q + k)) = true) → ∃ u, exec (.recRead n .none) s = .next u ∧ ends u 16 0 0 ∧ sent u w.toList) ∧
      (s.findRecord q = none → ∃ u, exec (.recRead n .none) s = .next u ∧ ends u 0 1 (BitVec.ofNat 32 (6 * 2 ^ 24 + q.toNat % 2 ^ 24)))) ∧
    (x.d.opc = 6 → s.rcd.clearingFor n = true → exec (.recClear n) s = .next s) ∧
    (x.d.opc = 6 → s.rcd.clearingFor n = false →
      let used := s.rcd.clogUsed + s.rcd.clears.length + s.rcd.confirmed.length
      let why := fun (reason : Nat) => ∃ u, exec (.recClear n) s = .next u ∧ ends u 0 9 (BitVec.ofNat 32 reason) ∧ u.rcd.armed = s.rcd.armed
      (s.dev.sealed = true → why 1) ∧ (s.dev.sealed = false → s.sealOpen = false → why 2) ∧
      (s.dev.sealed = false → s.sealOpen = true → s.rcd.armed ≠ none ∨ s.rcd.erase = true → why 5) ∧
      (s.dev.sealed = false → s.sealOpen = true → s.rcd.armed = none → s.rcd.erase = false →
        (128 ≤ used → why 6) ∧
        (used < 128 → exec (.recClear n) s = .next (s.updRcd fun r => { r with armed := some n, armedLive := true })))) ∧
    (x.d.opc = 8 → x.wait = 0 → ∃ u, exec (.fence n) s = .next u ∧ ends u 0 0 0) ∧
    (x.d.opc = 8 → x.wait ≠ 0 → exec (.fence n) s = .next s)

/-- LOAD_PROGRAM writes its 14-bit words to a program window, each as one pair, and changes no other program word (R179, R396, R411). -/
def Claims.LoadProgramFillsTheWindow : Prop :=
  ∀ (s : State) (n : Fin 8) (x : Exec) (c : Clu) (data : List Container), s.memCanonical = true → s.canSend = true →
    (s.sq n).exec = some x → x.status = none → x.d.opc = 7 → x.prog ≤ x.d.count.toNat → data.length = x.d.count.toNat - x.prog →
    (∀ w ∈ data, w.toNat < 16384) →
    let a := x.d.daddr.toNat + 2 * x.prog
    let base := c.val * 0x100000 + 0x80000
    let word := fun (k : Nat) => (a - base) / 2 + k
    a % 2 = 0 → base ≤ a → a + 2 * data.length ≤ base + 0x40000 →
    (∀ k, k < data.length → s.asleep (BitVec.ofNat 24 (a + 2 * k)) = false) → (s.clu c).iso = false →
    ∃ u, exec (.loadProgram n data .none) s = .next u ∧
      (u.sq n).exec = some { x with prog := x.d.count.toNat, status := some (0, 0) } ∧ u.mem = s.mem ∧ u.regs = s.regs ∧
      (∀ k, ∀ h : k < data.length, u.progWord c (BitVec.ofNat 17 (word k)) = data[k].setWidth 14) ∧
      (∀ d (i : PAddr), d ≠ c ∨ i.toNat < word 0 ∨ word data.length ≤ i.toNat → u.progWord d i = s.progWord d i)

/-- A decided descriptor completes: the entry's sixteen bytes go to its CQ's tail in two writes, the phase word last, with TAG, status,
count, result and phase, the SQ is free, and no fence waits for it; a message leaves when IRQ asks for it or THR is reached. A CQ that
cannot be reached stops with its SQs, and one that has stopped takes nothing (R405, R412, R416, R418, R420). -/
def Claims.CompletionsAreWritten : Prop :=
  ∀ (s : State) (n : Fin 8) (x : Exec) (st : BitVec 16) (res : BitVec 32), (s.sq n).exec = some x → x.status = some (st, res) →
    let c := s.sqCq n
    let q := s.cq c
    let size := s.cqSize c
    let tail := (q.tail.toNat + 1) % size
    let pd : BitVec 8 := if q.pd = 255 then 255 else q.pd + 1
    let now := s.cqIen c && (x.d.flg.getLsbD 0 || decide (s.cqThr c ≤ pd.toNat))
    let vector : BitVec 5 := (s.reg (cqReg c 6)).setWidth 5
    let off := fun (u : State) => (u.sq n).exec = none ∧ ∀ m y, (s.sq m).exec = some y → m ≠ n →
      (u.sq m).exec = some { y with wait := y.wait &&& ~~~BitVec.ofNat 8 (2 ^ n.val) }
    (q.err = true → ∃ u, exec (.completionWrite n) s = .next u ∧ off u ∧ u.sht.lastCpl = s.sht.lastCpl) ∧
    (q.err = false → s.canSend = false → ∃ u, exec (.completionWrite n) s = .next u ∧ off u ∧ (u.cq c).err = true ∧
      (∀ m, s.sqCq m = c → (u.sq m).stopped = true) ∧
      (s.up = true → (s.src 108).waiting.length < 5 → (u.src 108).waiting = (s.src 108).waiting ++ [⟨0x01, 0, none⟩])) ∧
    (q.err = false → s.canSend = true → ∃ u, exec (.completionWrite n) s = .next u ∧ off u ∧
      u.sht.lastCpl = some ⟨c, q.tail, if st = 8 then 0 else x.d.tag, st, BitVec.ofNat 32 x.prog, res,
        BitVec.ofNat 16 (bit1 q.phase * 2 ^ 15 + n.val * 2 ^ 12 + x.head.toNat)⟩ ∧
      (let le := fun (k v : Nat) => (List.range k).map fun i => (BitVec.ofNat 8 (v / 256 ^ i) : Byte)
       let at_ := s.base64 (cqReg c 0) + 16 * q.tail.toNat
       u.sht.hostOut = [(at_, le 2 (if st = 8 then 0 else x.d.tag).toNat ++ le 2 st.toNat ++ le 4 x.prog ++ le 4 res.toNat ++ [0, 0]),
         (at_ + 14, le 2 (bit1 q.phase * 2 ^ 15 + n.val * 2 ^ 12 + x.head.toNat))]) ∧
      (u.cq c).tail = BitVec.ofNat 12 tail ∧ (u.cq c).phase = (if tail = 0 then !q.phase else q.phase) ∧
      (u.cq c).pd = (if now then 0 else pd) ∧
      (now = true → s.sht.mask.getLsbD vector.toNat = false → u.sht.lastMsg = some (some vector)) ∧
      (now = true → s.sht.mask.getLsbD vector.toNat = true → u.sht.pba = s.sht.pba ||| BitVec.ofNat 32 (2 ^ vector.toNat)) ∧
      (now = false → u.sht.lastMsg = s.sht.lastMsg ∧ u.sht.pba = s.sht.pba)) ∧
    ((s.cq n).timer = true → s.cqIen n = true → exec (.cqTimerExpiry n) s =
      .next ((s.updCq n fun q => { q with pd := 0, timer := false }).msix ((s.reg (cqReg n 6)).setWidth 5)))

/-- A transfer that the weft or the host never answers ends with an error response: it is counted at source 83 or 105 and the requester
faults as its access says (R80, R171, R182, R185, R388, R414). -/
def Claims.TransfersTimeOut : Prop :=
  ∀ (s : State) (e : Eng) (t : Thr) (n : Fin 8) (ch : Chan) (second : Bool),
    let counted := fun (u : State) (k : Fin 160) (c : BitVec 7) (a : DWord) (by_ : Option Requester) =>
      s.up = true → (s.src k).waiting.length < 5 → (u.src k).waiting = (s.src k).waiting ++ [⟨c, a, by_⟩]
    (exec (.weftTransferTimeout (.fill e)) s = .next s) ∧
    (exec (.weftTransferTimeout (.bobbin ch second)) s = exec (.bobbinWrite ch second .timeout 0) s) ∧
    (exec (.weftTransferTimeout .wave) s = exec (.waveformCapture .timeout 0) s) ∧
    (∀ l, s.together e = true → s.still e = false → s.loadOf e t = some l → l.second = none →
      let m : Master := .engine e t l.machine
      s.cutOff m l.pa = false → s.refuses m l.pa false = false →
      let failed := fun (u : State) => (u.thr e t).lsu.load = none ∧ (u.thr e t).lsu.fault = some (0x19, l.va) ∧ u.mem = s.mem ∧ u.regs = s.regs
      ((regionOf l.pa).isData = true → crossesWeft m l.pa = true →
        ∃ u, exec (.weftTransferTimeout (.load e t)) s = .next u ∧ failed u ∧ counted u 83 0x01 l.pa (some (.master m))) ∧
      (regionOf l.pa = .host → s.windowOk = true →
        ∃ u, exec (.completionTimeout (.load e t)) s = .next u ∧ failed u ∧ counted u 105 0x02 (BitVec.ofNat 24 (0x10 * 2 ^ 19)) none)) ∧
    (∀ q rest, s.together e = true → s.still e = false → (s.eng e).sbuf = q :: rest → q.sent = true → q.data2 = none → q.half2 = false →
      let m : Master := .engine e q.t q.machine
      (regionOf q.pa).isData = true → s.cutOff m q.pa = false → s.refuses m q.pa true = false → crossesWeft m q.pa = true →
      exec (.weftTransferTimeout (.store e)) s =
        .next (((s.updEng e fun y => { y with sbuf := dropHalf q rest }).raiseOf m 83 0x01 q.pa).imprecise e q.t 0x1A q.pc q.dest q.va)) ∧
    (∀ x, (s.sq n).exec = some x → x.status = none → x.d.opc = 1 →
      let b := x.d.daddr.toNat + x.prog
      (∃ u, exec (.weftTransferTimeout (.shuttle n)) s = .next u ∧ (u.sq n).exec =
        some { x with status := some (1, BitVec.ofNat 32 (2 ^ 24 + b % 2 ^ 24)) } ∧ counted u 83 0x01 (BitVec.ofNat 24 b) (some (.master .shuttle))) ∧
      (s.canSend = true → x.d.flg.getLsbD 1 = false → x.prog < x.d.count.toNat →
        exec (.completionTimeout (.copy n [])) s = exec (.copyIn n [] (.host 0)) s))

/-! ### The Jarsyn ports (R427 to R447) -/

/-- The five symbols of a trip frame's copy. A frame that two of its copies carry acts once, by its kind, and leaves through the other ports
as three fresh copies: ADV takes an arm record, the oldest making room, CFM holds its line and closes the record, and is a fresh trip where
it neither finds one nor repeats a confirm, CXL closes it, and without one is only passed on; a copy that differs counts, and so does a
missing one (the model's reading, notes/assumptions/62); without a majority, from the device itself, or when it came before, it does nothing
(R430, R432 to R436). -/
def Claims.TripFramesActOnce : Prop :=
  ∀ (s : State) (p : Port) (f : TripCopy) (c : Option TripCopy), s.receives p = true →
    let d : Dedupe := ⟨true, f.kind.setWidth 4, f.origin, f.line, f.seq, s.fk⟩
    let same := fun (a : Arm) => a.origin = f.origin ∧ a.line = f.line ∧ a.seq = f.seq
    let close := fun (x : Jarsyn) => x.arms.filter fun a => !decide (same a)
    let bit : BitVec 24 := BitVec.ofNat 24 (2 ^ f.line.toNat)
    let done := fun (s : State) (act : Jarsyn → Jarsyn) => (((s.enterCache d).updJsn act).chainLine.floodTrip f (some p)).fabric
    let arm := fun (x : Jarsyn) =>
      { x with arms := (if 8 ≤ x.arms.length then x.arms.drop 1 else x.arms) ++ [⟨p, f.origin, f.line, f.seq⟩]
               adrop := if 8 ≤ x.arms.length then sat12 (x.adrop.toNat + 1) else x.adrop }
    let confirm := fun (x : Jarsyn) =>
      { x with
        arms := close x, held := x.held ||| bit
        confirms := if (f.origin, f.line, f.seq) ∈ x.confirms then x.confirms else x.confirms ++ [(f.origin, f.line, f.seq)]
        fresh := if (∀ a ∈ x.arms, ¬ same a) ∧ (f.origin, f.line, f.seq) ∉ x.confirms then sat12 (x.fresh.toNat + 1) else x.fresh }
    let cancel := fun (x : Jarsyn) => { x with arms := close x }
    let odd := s.raise (portSrc p) 0x03 0
    (tripSymbols f = [.ctrl 0x3C, .data (BitVec.ofNat 8 (f.kind.toNat * 64 + f.line.toNat)), .data (BitVec.ofNat 8 f.origin.toNat),
      .data (BitVec.ofNat 8 (f.seq.toNat % 16 * 16 + f.origin.toNat / 256)), .data (BitVec.ofNat 8 (f.seq.toNat / 16))]) ∧
    (f.line.toNat ≤ 23 → f.origin ≠ s.jsnId → s.seen d = false →
      (f.kind = 1 → exec (.tripAdv p (some f) (some f) c) s = .next (done s arm)) ∧
      (f.kind = 2 → exec (.tripCfm p (some f) (some f) c) s = .next (done s confirm)) ∧
      (f.kind = 3 → (∃ a ∈ s.jsn.arms, same a) → exec (.tripCxl p (some f) (some f) c) s = .next (done s cancel)) ∧
      (f.kind = 3 → (∀ a ∈ s.jsn.arms, ¬ same a) →
        exec (.tripCxl p (some f) (some f) c) s = .next (((s.enterCache d).updJsn cancel).floodTrip f (some p)).fabric) ∧
      (f.kind = 2 → exec (.tripCfm p none (some f) (some f)) s = .next (done odd confirm) ∧
        exec (.tripCfm p (some f) none (some f)) s = .next (done odd confirm))) ∧
    (f.origin = s.jsnId ∨ s.seen d = true ∨ 23 < f.line.toNat → exec (.tripAdv p (some f) (some f) c) s = .next s) ∧
    (∀ g, g ≠ f → exec (.tripAdv p (some f) (some g) none) s = .next (s.raise (portSrc p) 0x02 0)) ∧
    (exec (.tripAdv p none none c) s = .next (s.raise (portSrc p) 0x02 0))

/-- What time does to the chain: a confirm repeats while its line is asserted, an arm record lapses with an event, a hold ends without
confirms, the dedupe cache drops its oldest key; the synchronisation of a port that takes part comes and goes, a loss counted as a ring break on J0
and J1 of a ring (R428, R429, R433, R435, R436, R444, R445). -/
def Claims.ChainTimersAndSync : Prop :=
  ∀ (s : State) (n : Fin 24) (k : Fin 8) (p : Port),
    let l := s.local_ n
    let chadv := s.regB (trfBase + 0x200 + 16 * n.val + 9) 8
    (l.cfm = true → s.trip.asserted.getLsbD n.val = true → chadv = true → s.solo = false → exec (.confirmRepeat n) s =
      .next (s.floodTrip ⟨2, BitVec.ofNat 5 n.val, s.jsnId, l.seq⟩ none)) ∧
    (l.cfm = false ∨ s.trip.asserted.getLsbD n.val = false ∨ chadv = false ∨ s.solo = true → exec (.confirmRepeat n) s = .next s) ∧
    (∀ a, s.jsn.arms[k.val]? = some a → exec (.armLapse k) s =
      .next ((s.updJsn fun x => { x with arms := x.arms.eraseIdx k.val }).chainLine.raise (portSrc a.port) 0x04
        (BitVec.ofNat 24 (a.origin.toNat * 2 ^ 12 + a.line.toNat)))) ∧
    (s.jsn.held.getLsbD n.val = true → exec (.chainHoldExpiry n) s =
      .next (s.updJsn fun x =>
        { x with held := x.held &&& ~~~BitVec.ofNat 24 (2 ^ n.val)
                 confirms := x.confirms.filter fun q => decide (q.2.1.toNat ≠ n.val) }).fabric) ∧
    (exec .dedupeExpiry s = .next (s.updJsn fun x => { x with dedupe := x.dedupe.drop 1 })) ∧
    (s.portEn p.val = true → exec (.syncAcquire p) s = .next (s.updPort p fun x => { x with sync := true }).fabric) ∧
    (s.portEn p.val = false ∨ (s.jport p).sync = false → exec (.syncLoss p) s = .next s) ∧
    (s.portEn p.val = true → (s.jport p).sync = true →
      let ring := (s.reg (jsnBase + 1)).toNat / 1024 = 1 ∧ p.val < 2
      exec (.syncLoss p) s = .next (((s.updPort p fun x => { x with sync := false }).raise (portSrc p) (if ring then 0x05 else 0x01) 0).fabric)) ∧
    (∀ q : Port, s.portEn q.val = true → (s.jport q).sync = true → (s.jport q).iso = false → p ≠ q → ∀ f,
      ((s.floodTrip f (some p)).jport q).trips = (s.jport q).trips ++ [f] ∧
      ((s.floodTrip f (some p)).jport q).sent = (s.jport q).sent ++ [tripSymbols f ++ (tripSymbols f ++ tripSymbols f)] ∧
      ((s.floodTrip f (some p)).jport p).trips = (s.jport p).trips)

/-- The CRC of a frame covers its type, LSEQ, SRC, FSEQ, count and packed words. A BUDGET, EPOCH or MAIL frame with a good CRC is
acknowledged, one with a bad CRC is nothing; one that is new is kept, or taken at its destination under its grant, or forwarded, or, with
DST 0, a boot frame for J0 alone; one received before, by its LSEQ or by its key in the cache, goes no further, nor does one of the device
itself (R438 to R440, R480). The order of the two bytes of SRC and FSEQ is the model's reading (notes/assumptions/62). -/
def Claims.FramesAreKeptTakenOrForwarded : Prop :=
  (∀ (typ : BitVec 4) (f : Frame), frameGood typ f = true ↔
    f.crc = crc16 ([BitVec.ofNat 8 (typ.toNat * 16 + f.lseq.toNat), BitVec.ofNat 8 f.src.toNat, BitVec.ofNat 8 (f.src.toNat / 256),
      BitVec.ofNat 8 f.fseq.toNat, BitVec.ofNat 8 (f.fseq.toNat / 256), BitVec.ofNat 8 f.words.length] ++
      packBytes (f.words ++ if f.words.length % 2 = 1 then [0] else []))) ∧
  crc16 [] = 0xFFFF ∧ (∀ (bs : List Byte) (b : Byte), crc16 (bs ++ [b]) = (List.range 8).foldl (fun (c : BitVec 16) i =>
    if c.getLsbD 15 = b.getLsbD (7 - i) then c <<< 1 else (c <<< 1) ^^^ 0x1021) (crc16 bs)) ∧
  ∀ (s : State) (p : Port) (f : Frame), s.receives p = true →
    let key := fun (typ : BitVec 4) => (⟨false, typ, f.src, 0, f.fseq, s.fk⟩ : Dedupe)
    let acked := s.updPort p fun x =>
      { x with rxSeq := some f.lseq, acked := some f.lseq, sent := x.sent ++ [frameSymbols [BitVec.ofNat 8 (0x70 + f.lseq.toNat)]] }
    let good := fun (typ : BitVec 4) => frameGood typ f = true
    let old := fun (typ : BitVec 4) => (s.jport p).rxSeq = some f.lseq ∨ f.src = s.jsnId ∨ s.seen (key typ) = true
    let new := fun (typ : BitVec 4) => good typ ∧ ¬ old typ
    let w := fun (k : Nat) => (f.words[k]?).getD 0
    let on := fun (s : State) (typ : BitVec 4) => s.floodFrame ⟨typ, f.src, f.fseq, f.words, false⟩ (some p)
    (¬ good 4 → exec (.budget p f) s = .next s) ∧ (¬ good 5 → exec (.epoch p f) s = .next s) ∧ (¬ good 6 → exec (.mail p f) s = .next s) ∧
    (good 4 → old 4 → exec (.budget p f) s = .next acked) ∧ (good 5 → old 5 → exec (.epoch p f) s = .next acked) ∧
    (good 6 → old 6 → exec (.mail p f) s = .next acked) ∧
    (new 4 → f.words.length = 4 → exec (.budget p f) s = .next (on ((acked.enterCache (key 4)).updJsn fun x =>
      { x with rbud := #v[w 0, w 1, w 2, w 3], rbsrc := f.src }).chainLine 4)) ∧
    (new 5 → f.words.length = 4 → exec (.epoch p f) s = .next (on ((acked.enterCache (key 5)).updJsn fun x =>
      { x with repo := #v[w 0, w 1, w 2, w 3], resrc := f.src }).chainLine 5)) ∧
    (new 6 → 6 ≤ f.words.length → f.words.length ≤ 21 →
      let got := acked.enterCache (key 6)
      let h : BitVec 36 := w 2 ++ (w 1 ++ w 0 : BitVec 24)
      let e : Eng := ⟨(w 4).toNat / 4 % 64, by omega⟩
      let b := (w 4).toNat % 4
      (w 3 = 0 → p ≠ 0 ∨ s.loadsFrom 2 = false → exec (.mail p f) s = .next got) ∧
      (w 3 ≠ 0 → w 3 ≠ s.jsnId → exec (.mail p f) s = .next (on got 6)) ∧
      (w 3 ≠ 0 → w 3 = s.jsnId → (w 4).toNat < 256 →
        (∀ c, s.checkHandle h = some c → exec (.mail p f) s = .next (got.grantFault 0x11 c h)) ∧
        (s.checkHandle h = none → (s.grant (h.toNat / 2 ^ 27)).covers 0 (w 4).toNat 1 = false →
          exec (.mail p f) s = .next (got.grantFault 0x11 3 h)) ∧
        (s.checkHandle h = none → (s.grant (h.toNat / 2 ^ 27)).covers 0 (w 4).toNat 1 = true → s.inRun = true → s.engEn e = true →
          (s.eng e).locked = false → s.together e = true → s.still e = false → (s.eng e).held = [] → (s.clu e.cluster).iso = false →
          ((s.eng e).mbox[b]).length + (f.words.length - 5) ≤ 16 →
          ∃ u, exec (.mail p f) s = .next u ∧
            (u.eng e).mbox[b] = (s.eng e).mbox[b] ++ (f.words.drop 5).map fun v => ⟨v, BitVec.ofNat 12 (0x800 + p.val)⟩)))

/-- The frame a port is sending, K27.7 to K29.7: a good ACK with its LSEQ ends it and the next goes out, a timeout at a port that takes part
sends it again up to three times and then drops it with an event; at a port that is out of sync or isolated, which sends idle alone, a
timeout uses up a resend, or drops the frame, and nothing goes out (that it counts there is the model's choice, notes/assumptions/58);
JSN.TXCTL queues the device's own frame at every port that sends, from a machine-level store alone and one at a time (R428, R438, R439,
R441, R447). -/
def Claims.OwnFramesAreSentAndAcknowledged : Prop :=
  ∀ (s : State) (m : Master) (p : Port) (v : Word),
    let x := s.jport p
    let next := s.updPort p fun x => JPort.sendHead { x with txq := x.txq.drop 1, resends := 0, lseq := x.lseq + 1 }
    let crc := fun (q : BitVec 4) => crc16 [BitVec.ofNat 8 (0x70 + q.toNat)]
    let settle := fun (s : State) => s.updJsn fun x => { x with busy := x.port.toList.any fun p => p.txq.any fun f => f.own }
    let a := jsnBase + 0x25
    let typ := v.toNat / 256
    let n := v.toNat % 32
    let legal := ((typ = 4 ∨ typ = 5) ∧ n = 4) ∨ (typ = 6 ∧ 6 ≤ n ∧ n ≤ 21)
    let frame : TxFrame := ⟨BitVec.ofNat 4 typ, s.jsnId, s.jsn.fseq, (List.range n).map fun k => s.reg (jsnBase + 0x10 + k), true⟩
    (s.receives p = true → x.txq ≠ [] → exec (.ack p x.lseq (crc x.lseq)) s = .next (settle next)) ∧
    (∀ q c, q ≠ x.lseq ∨ c ≠ crc q → exec (.ack p q c) s = .next s) ∧
    (s.portEn p.val = false → exec (.ackTimeout p) s = .next s) ∧
    (∀ (y : JPort) f rest, y.txq = f :: rest → y.sendHead = { y with sent := y.sent ++ [frameSymbols
      (BitVec.ofNat 8 (f.typ.toNat * 16 + y.lseq.toNat) :: (wordBytes f.src ++ wordBytes f.fseq ++ [BitVec.ofNat 8 f.words.length] ++
        packBytes (f.words ++ if f.words.length % 2 = 1 then [0] else [])))] }) ∧
    (s.portEn p.val = true → ∀ f rest, x.txq = f :: rest →
      let sends := x.sync = true ∧ x.iso = false
      (x.resends < 3 → sends → exec (.ackTimeout p) s = .next (s.updPort p fun x => JPort.sendHead { x with resends := x.resends + 1 })) ∧
      (x.resends < 3 → ¬ sends → exec (.ackTimeout p) s = .next (s.updPort p fun x => { x with resends := x.resends + 1 })) ∧
      (3 ≤ x.resends → ∃ u, exec (.ackTimeout p) s = .next u ∧ (u.jport p).txq = rest ∧ (u.jport p).resends = 0 ∧
        (u.jport p).lseq = x.lseq + 1 ∧ (¬ sends ∨ rest = [] → (u.jport p).sent = x.sent) ∧
        (sends → (u.jport p).sent = (JPort.sendHead { x with txq := rest, resends := 0, lseq := x.lseq + 1 }).sent) ∧ (f.own = true → u.jsn.dropped.getLsbD p.val = true) ∧
        (s.up = true → (s.src (portSrc p)).waiting.length < 5 →
          (u.src (portSrc p)).waiting = (s.src (portSrc p)).waiting ++ [⟨0x02, 0, none⟩]))) ∧
    (s.canWrite m a = true →
      (Master.machineStore m = true → s.jsn.busy = false → legal → ∃ u, exec (.jsnTxctl m v) s = .next u ∧
        u.jsn.fseq = s.jsn.fseq + 1 ∧ u.jsn.dropped = 0 ∧ u.regs = s.regs ∧
        (u.jport p).txq = (if s.solo = false ∧ s.portEn p.val = true ∧ x.sync = true ∧ x.iso = false then x.txq ++ [frame] else x.txq)) ∧
      (Master.machineStore m = false ∨ s.jsn.busy = true ∨ ¬ legal →
        exec (.jsnTxctl m v) s = .next ((s.countRefusal m a).refusedAt m a)))

/-! ### Phases, modes and resets (R448 to R468) -/

/-- DEV.GO in SETUP, by engine 0's machine-level store or the monitor, enters RUN: the selvedge is locked and SAFE is set, the threads that
ENG.RUN names start at their entry address at machine level, the others are halted, and each meter goes on from its shadow. Elsewhere it is
refused (R26, R257, R313, R450, R451). -/
def Claims.GoEntersRun : Prop :=
  ∀ (s : State) (m : Master) (v : Word), s.regsCanonical = true → v.getLsbD 0 = true → s.live m = true → isSvp m = false →
    let a := devBase + 3
    let may := isMonitor m || ownStore 0 m
    (may = true → s.dev.phase = .setup → ∃ u, exec (.devGo m v) s = .next u ∧
      u.dev.phase = .run ∧ u.dev.safe = true ∧ u.dev.sealed = s.dev.sealed ∧ u.wdg.running = true ∧ u.wdg.i = 0 ∧
      u.boot.records = [] ∧ (u.reg (selBase + 1)).getLsbD 0 = true ∧
      (∀ (e : Eng) (t : Thr),
        (u.thr e t).run = (if s.engEn e = true ∧ t.val < s.nThreads e ∧ s.regB (engBase e + 1) t.val = true then .running else .halted) ∧
        (u.thr e t).pc = s.entryPc e ∧ (u.thr e t).tm = 0x800 ∧ (u.thr e t).mac.acc = 0 ∧
        ∀ k : Fin 32, (u.thr e t).g[k.val] = 0) ∧
      (∀ k : Fin 2, (u.meter k).acc = s.mtr.shadow.acc[k.val])) ∧
    (may = false ∨ s.dev.phase ≠ .setup → exec (.devGo m v) s = .next ((s.countRefusal m a).refusedAt m a))

/-- DEV.MCTL takes PRECISE, DOZE and DZMASK from the monitor or a machine-level store; a cluster it no longer lets doze runs again. A quiet
cluster other than cluster 0 is gated while it may doze; what waits for one of its engines is a cause that wakes it, and is delivered then;
so is a pending bit that has been set since on an enabled line of a running thread, but not one that was set at the gating (R455 to R457). -/
def Claims.PowerModesAndGating : Prop :=
  ∀ (s : State) (m : Master) (on : Bool) (v : Word) (c : Clu),
    let a := devBase + 5
    let old := s.reg a
    let takes := fun (i : Instr) (w : Word) =>
      (Master.machineStore m = true ∨ isMonitor m = true → ∃ u, exec i s = .next u ∧ u.reg a = w &&& 0xCFF ∧
        (∀ b, b ≠ a → u.reg b = s.reg b) ∧
        ∀ k : Clu, (u.clu k).gated = ((s.clu k).gated && w.getLsbD 10 && w.getLsbD k.val)) ∧
      (Master.machineStore m = false → isMonitor m = false → exec i s = .next ((s.countRefusal m a).refusedAt m a))
    (s.regsCanonical = true → s.live m = true → isSvp m = false →
      takes (.devMctlPrecise m on) ((old &&& 0x7FF) ||| flag 11 on) ∧
      takes (.devMctlDoze m on) ((old &&& 0xBFF) ||| flag 10 on) ∧
      takes (.devMctlDzmask m v) ((old &&& 0xF00) ||| (v &&& 0x0FF))) ∧
    (s.inRun = true → old.getLsbD 10 = true → old.getLsbD c.val = true → c ≠ 0 → (s.clu c).gated = false →
      (∀ e : Eng, e.cluster = c → s.engQuiet e = true) →
      ∃ u, exec (.clusterGate c) s = .next u ∧ u = (s.updClu c fun x => { x with gated := true, pendAt := (u.clu c).pendAt }) ∧
        ∀ e : Eng, e.cluster = c → (u.clu c).pendAt.toList[e.val % 8]? = some (s.eng e).ipend) ∧
    (s.inRun = false ∨ old.getLsbD 10 = false ∨ old.getLsbD c.val = false ∨ c = 0 → exec (.clusterGate c) s = .next s) ∧
    (s.wakeDue c = false → exec (.clusterWake c) s = .next s) ∧
    (s.wakeDue c = true → (s.clu c).gated = true → ∃ u, exec (.clusterWake c) s = .next u ∧ (u.clu c).gated = false ∧
      (∀ k : Clu, k ≠ c → u.clu k = s.clu k) ∧ (∀ e : Eng, e.cluster = c → s.paused e = false → (u.eng e).held = []) ∧
      u.regs = s.regs ∧ u.mem = s.mem) ∧
    (∀ e : Eng, e.cluster = c → (s.eng e).held ≠ [] → s.wakeDue c = true) ∧
    (let new := fun (e : Eng) (n : Nat) => ((s.eng e).ipend.getLsbD n = true ∨ (s.eng e).lineIn.getLsbD n = true) ∧
       ∃ w, (s.clu c).pendAt.toList[e.val % 8]? = some w ∧ w.getLsbD n = false
     ((s.clu c).woken = false → (∀ e : Eng, e.cluster = c → (s.eng e).held = [] ∧ ∀ n : Fin 32, ¬ new e n.val) → s.wakeDue c = false) ∧
     (∀ (e : Eng) (t : Thr) (n : Fin 32), e.cluster = c → new e n.val → (s.reg (engBase e + 0x20 + n.val)).getLsbD 6 = true →
       (s.reg (engBase e + 0x20 + n.val)).toNat % 8 = t.val → s.engEn e = true → (s.thr e t).run = .running → s.wakeDue c = true))

/-- MOD.SEAL over the selvedge port: SEAL sets SEALED, counts the change, clears TETHERED and refuses an armed clear; UNSEAL clears it only
while the seal is open; SOLO ends chain trips and arm records, and drops what waits to be sent (R376, R445, R458, R460). -/
def Claims.SealingAndSolo : Prop :=
  ∀ (s : State) (m : Master) (on : Bool),
    let a := modBase + 1
    (s.canWrite m a = true →
      (∃ u, exec (.modSeal m) s = .next u ∧ u.dev.sealed = true ∧ u.dev.tethered = false ∧
        u.dev.scnt = (if s.dev.sealed then s.dev.scnt else sat12 (s.dev.scnt.toNat + 1)) ∧ u.dev.safe = s.dev.safe ∧ u.regs = s.regs ∧
        (s.clearArmed = true → u.rcd.armed = none) ∧ (s.clearArmed = false → u.rcd.armed = s.rcd.armed)) ∧
      (s.sealOpen = true → ∃ u, exec (.modUnseal m) s = .next u ∧ u.dev.sealed = false ∧ u.dev.tethered = s.dev.tethered ∧
        u.dev.scnt = (if s.dev.sealed then sat12 (s.dev.scnt.toNat + 1) else s.dev.scnt) ∧ u.regs = s.regs) ∧
      (s.sealOpen = false → exec (.modUnseal m) s = .next (s.refusedAt m a))) ∧
    (s.canWrite m modBase = true →
      (on = true → s.solo = false → ∃ u, exec (.modSolo m true) s = .next u ∧ u.jsn.held = 0 ∧ u.jsn.arms = [] ∧
        ∀ p : Port, (u.jport p).txq = []) ∧
      (on = true → s.solo = true ∨ on = false → exec (.modSolo m on) s =
        .next (((s.setReg modBase (flag 0 on)).fabricFrom s).acceptedAt m)))

/-- Resets: each kind returns every register but REC.CFG to its reset value, sets SAFE, leaves RUN and joins, with every reset that is due, the
one of highest rank; a commanded, watchdog or collector reset needs its request; a test-access reset starts with the edge of TCK at which the
TAP leaves its idle states or selects EXTEST, and no other edge starts one, nor does TRST_N. The end of a reset, which comes while the TAP rests,
 enters BOOT with a RESET record, a new grant secret and
TETHERED from DEVELOP unless SEALED (R335, R348, R359, R398, R461, R466 to R468, R512). That the row carries the TAP's inputs is the model's
choice (notes/assumptions/58). -/
def Obligations.ResetsStartAndEnd : Prop :=
  ∀ (s : State) (straps : BitVec 4) (test : Bool),
    let due : List (BitVec 3) := s.dev.inReset.toList ++ (if s.wdg.resetDue then [3] else []) ++
      (if s.col.resetDue.isSome then [4] else []) ++ (if s.col.cmdReset then [5] else [])
    let held := fun (o : Host.Outcome State Fault Refusal) (kind : BitVec 3) => ∃ u, o = .next u ∧
      (∃ j, u.dev.inReset = some j ∧ u.dev.rkind = j ∧ j ∈ kind :: due ∧ ∀ k ∈ kind :: due, resetRank j ≤ resetRank k) ∧
      u.dev.safe = true ∧ u.dev.degraded = false ∧ u.dev.sealed = s.dev.sealed ∧ u.dev.scnt = s.dev.scnt ∧
      u.dev.phase = (if kind = 1 ∨ s.dev.phase = .powerUp then .powerUp else .boot) ∧
      (∀ a, a ≠ recBase → u.reg a = regReset a) ∧ u.reg recBase = s.reg recBase ∧
      (∀ e t, (u.thr e t).run = .halted) ∧ (∀ n : Fin 160, (u.src n).waiting = [] ∧ (u.src n).sev = false) ∧
      u.mtr.shadow = s.mtr.shadow ∧ u.rcd.nseq = s.rcd.nseq ∧ u.jsn = {} ∧ u.wdg = {} ∧ u.flights = [] ∧
      (kind ≠ 1 → u.mem = s.mem ∧ u.prog = s.prog ∧ u.upset = s.upset)
    (s.regsCanonical = true →
      held (exec (.coldReset test) s) 1 ∧ held (exec .warmReset s) 2 ∧ (s.tap.rests = true → held (exec (.testAccessReset tapLeaves) s) 6) ∧
      (s.wdg.resetDue = true → held (exec .watchdogReset s) 3) ∧
      (∀ n, s.col.resetDue = some n → held (exec .collectorReset s) 4) ∧
      (s.col.cmdReset = true → held (exec .commandedReset s) 5) ∧
      ∀ tms tdi : Bool,
        let x := s.tap.edge tms tdi (outPins.map fun p => decide (s.coreLevel p = .high))
        (s.tap.rests = true → x.rests = false → held (exec (.testAccessReset [.edge tms tdi]) s) 6) ∧
        (s.tap.rests = false ∨ x.rests = true → exec (.testAccessReset [.edge tms tdi]) s = .next { s with tap := x })) ∧
    (exec (.testAccessReset [.trst]) s = .next { s with tap := { s.tap with st := .testLogicReset, ir := 2 } }) ∧
    (∀ (i : TapInput) (is : List TapInput) (u : State), exec (.testAccessReset [i]) s = .next u →
      exec (.testAccessReset (i :: is)) s = exec (.testAccessReset is) u) ∧
    (s.wdg.resetDue = false → exec .watchdogReset s = .next s) ∧
    (s.col.resetDue = none → exec .collectorReset s = .next s) ∧
    (s.col.cmdReset = false → exec .commandedReset s = .next s) ∧
    (s.tap.rests = false → exec (.resetEnd straps) s = .next s) ∧
    (∀ k, s.dev.inReset = some k → s.tap.rests = true → ∃ u, exec (.resetEnd straps) s = .next u ∧ u.dev.inReset = none ∧
      (s.dev.latch = true → u.dev.boot = straps.setWidth 3 ∧ u.dev.devl = straps.getLsbD 3) ∧
      (s.dev.latch = false → u.dev.boot = s.dev.boot ∧ u.dev.devl = s.dev.devl) ∧
      (s.dev.phase = .powerUp → u.dev.phase = .powerUp ∧ u.sht.key = s.sht.key) ∧
      (s.dev.phase ≠ .powerUp → u.dev.phase = .boot ∧ u.sht.key = s.sht.key + 1 ∧ u.dev.tethered = (u.dev.devl && !s.dev.sealed) ∧
        (s.rcd.queue.length < 64 → u.dev.tethered = s.dev.tethered → (∀ y ∈ s.rcd.queue, y.fk ≠ s.fk) →
          u.rcd.queue = s.rcd.queue ++ [⟨5, s.dev.rkind.setWidth 7, if s.dev.rkind = 4 then s.dev.rsrc.setWidth 12 else 0, 0, s.fk⟩]))) ∧
    (s.dev.phase = .powerUp → s.dev.inReset = none →
      (∃ u, exec (.powerUpEnd false) s = .next u ∧ u.dev.phase = .boot ∧ u.sht.key = s.sht.key + 1 ∧ u.dev.sealed = s.dev.sealed ∧
        u.rcd.vkl = false ∧ u.mtr.shadow = s.mtr.shadow) ∧
      (∃ u, exec (.powerUpEnd true) s = .next u ∧ u.dev.phase = .boot ∧ u.dev.sealed = false ∧ u.dev.scnt = 0 ∧ u.rcd.vkl = true ∧
        u.rcd.held = true ∧ u.mtr.shadow.lost = true ∧ u.mtr.shadow.acc = Vector.replicate 2 {}))

/-! ### Clocks, supplies, temperature (R490 to R498, R514, R515) -/

/-- Each conversion shows both readings and keeps the highest; the governor steps down from 110 °C as far as its floor and up from 105 °C;
over-temperature and sensors that disagree by more than 8 °C count (R496, R514, R515). That the first conversion gives CLK.TMAX whatever its
reset value is the model's reading (notes/assumptions/49). -/
def Claims.TemperatureAndGovernor : Prop :=
  ∀ (s : State) (r0 r1 : Word),
    let hot : Int := max s.clk.temp0.toInt s.clk.temp1.toInt
    let step := s.clk.step.toNat
    let floor := (s.reg clkBase).toNat / 1024
    let dest := fun (k : BitVec 2) => s.updClk fun c => { c with step := k, steps := sat12 (c.steps.toNat + 1) }
    (s.up = true → ∃ u, exec (.thermalConversion r0 r1) s = .next u ∧ u.clk.temp0 = r0 ∧ u.clk.temp1 = r1 ∧ u.clk.step = s.clk.step ∧
      (s.clk.sensed = true → u.clk.tmax.toInt = max s.clk.tmax.toInt (max r0.toInt r1.toInt)) ∧
      (s.clk.sensed = false → u.clk.tmax.toInt = max r0.toInt r1.toInt)) ∧
    (s.up = true → 110 * 16 ≤ hot → step < floor → exec .governorStepDown s = .next (dest (s.clk.step + 1))) ∧
    (s.up = true → hot ≤ 105 * 16 → step ≠ 0 → exec .governorStepUp s = .next (dest (s.clk.step - 1))) ∧
    (hot < 110 * 16 ∨ floor ≤ step → exec .governorStepDown s = .next s) ∧
    (105 * 16 < hot ∨ step = 0 → exec .governorStepUp s = .next s) ∧
    (125 * 16 < hot → exec (.overTemperature true) s = .next (s.raise 131 0x02 0)) ∧
    (110 * 16 ≤ hot → floor ≤ step → exec (.overTemperature false) s = .next (s.raise 131 0x01 0)) ∧
    (8 * 16 < (s.clk.temp0.toInt - s.clk.temp1.toInt).natAbs → exec .sensorDisagree s = .next (s.raise 130 0x01 0))

/-- A clock that is lost counts 0x01 at its source and one out of range 0x02, and CLK.ST shows it; a stopped fabric clock counts when it
runs again; the REFCLK monitor is idle while PERST_N is low (R492, R493, R515, R524). That FSOK follows the reference is the model's reading
of R489 (notes/assumptions/62). -/
def Claims.ClocksAreMonitored : Prop :=
  ∀ s : State,
    let lost := fun (k : ClockName) (n : Fin 160) (f : Clk → Clk) =>
      exec (.clockLost k) s = .next ((s.updClk f).raise n 0x01 0)
    let off := fun (k : ClockName) (n : Fin 160) (f : Clk → Clk) =>
      exec (.clockOutOfRange k) s = .next ((s.updClk f).raise n 0x02 0)
    let back := fun (k : ClockName) (f : Clk → Clk) => exec (.clockReturn k) s = .next (s.updClk f)
    lost .reference 118 (fun k => { k with xOk := false, fsOk := false }) ∧ lost .pll 119 (fun k => { k with pllOk := false }) ∧
    lost .rc 121 (fun k => { k with rcOk := false }) ∧ lost .khz32 122 (fun k => { k with kOk := false }) ∧
    (s.sht.prst = false → lost .refclk 123 (fun k => { k with refOk := false })) ∧
    (s.sht.prst = true → exec (.clockLost .refclk) s = .next s ∧ exec (.clockOutOfRange .refclk) s = .next s) ∧
    off .reference 118 (fun k => { k with xOk := false, fsOk := false }) ∧ off .rc 121 (fun k => { k with rcOk := false }) ∧
    off .khz32 122 (fun k => { k with kOk := false }) ∧
    (s.sht.prst = false → off .refclk 123 (fun k => { k with refOk := false })) ∧
    exec (.clockOutOfRange .pll) s = .next (s.raise 119 0x02 0) ∧ exec (.clockOutOfRange .fabric) s = .next (s.raise 120 0x02 0) ∧
    back .reference (fun k => { k with xOk := true, fsOk := true }) ∧ back .pll (fun k => { k with pllOk := true }) ∧
    back .rc (fun k => { k with rcOk := true }) ∧ back .khz32 (fun k => { k with kOk := true }) ∧
    back .refclk (fun k => { k with refOk := true }) ∧
    exec (.clockLost .fabric) s = .next (s.updClk fun k => { k with fabOk := false }) ∧
    (s.clk.fabOk = false → exec (.clockReturn .fabric) s = .next ((s.updClk fun k => { k with fabOk := true }).raise 120 0x01 0))

/-- A rail below its good level counts 0x01 at its source and clears its bit of CLK.SUP alone; one above its limit counts 0x02; its return
sets the bit and counts nothing (R498, R515). -/
def Claims.SuppliesAreMonitored : Prop :=
  ∀ (s : State) (r : Rail),
    let place : Fin 160 × Nat := match r with
      | .vcore => (124, 11)
      | .vioA => (125, 10)
      | .vioB => (126, 9)
      | .vdda => (127, 8)
      | .vkeep => (128, 7)
      | .vddSds => (129, 6)
    let shows := fun (u : State) (good : Bool) => ∀ k, 6 ≤ k → k < 12 →
      u.clk.sup.getLsbD (k - 6) = if k = place.2 then good else s.clk.sup.getLsbD (k - 6)
    let counts := fun (u : State) (cause : BitVec 7) => s.up = true → (s.src place.1).waiting.length < 5 →
      (u.src place.1).waiting = (s.src place.1).waiting ++ [⟨cause, 0, none⟩]
    (∃ u, exec (.supplyBelowGood r) s = .next u ∧ shows u false ∧ counts u 0x01 ∧ u.regs = s.regs) ∧
    (∃ u, exec (.supplyAboveLimit r) s = .next u ∧ shows u true ∧ counts u 0x02 ∧ u.regs = s.regs) ∧
    (∃ u, exec (.supplyReturn r) s = .next u ∧ shows u true ∧ (u.src place.1).waiting = (s.src place.1).waiting ∧
      u.regs = s.regs)

/-! ### Boot (R472 to R483) -/

/-- The start of BOOT: the ROM's thread runs on E0.T0 and its stack and staging area hold what the ROM leaves there; a reserved strap fails
with 0x60, strap 3 enters SETUP without an image, and a source begins to load. A failure is shown, stops the records and is recorded with its
image offset (R472, R473, R480, R483). -/
def Claims.BootSelectsItsSource : Prop :=
  ∀ (s : State) (off : Nat), s.dev.phase = .boot → s.dev.inReset = none → s.boot.loading = false → s.boot.stopped = false → s.boot.image = [] →
    let fails := fun (s : State) (code : BitVec 7) (off : Nat) =>
      (s.updBoot fun b => { b with failed := some code, stopped := true, loading := false }).logRec 0x0B code 0 (BitVec.ofNat 48 off)
    let begun := s.romStarts
    (begun.thr 0 0).run = .running ∧ begun.regs = s.regs ∧ begun.dev = s.dev ∧ begun.boot = s.boot ∧ begun.rcd = s.rcd ∧
    (∀ x, x < 0x6000 ∨ 0x8000 ≤ x → begun.memWord x = s.memWord x) ∧
    (4 ≤ s.dev.boot.toNat → exec .bootStart s = .next (fails begun 0x60 0)) ∧
    (s.dev.boot = 3 → exec .bootStart s = .next (begun.updDev fun d => { d with phase := .setup })) ∧
    (s.dev.boot.toNat < 3 → ∃ u, exec .bootStart s = .next u ∧ u.boot.loading = true ∧ u.boot.source = s.dev.boot ∧ u.boot.image = [] ∧
      u.boot.records = [] ∧ u.dev.phase = .boot ∧ (s.dev.boot ≠ 2 → u.regs = s.regs) ∧
      (s.dev.boot = 2 → s.regsCanonical = true → u.reg (jsnBase + 1) = 0x080)) ∧
    (∀ t, t.bootFail 0x67 off = fails t 0x67 off)

/-- Words of an image from each source: short of a header they only wait; a header that fails its checks, or a complete image whose payload
reaches its targets, ends the load as the image says; a stalled or broken source fails with 0x67. The flash is read with READ at 10 MHz
until the header has passed, two words in three bytes; the host at 2 bytes a word, in requests of 256 bytes each; a good new boot frame on
J0 is acknowledged, and taken at the offset of the next word alone (R367, R439, R474 to R483). -/
def Claims.ImagesAreReadAndLoaded : Prop :=
  ∀ (s : State) (ws : List Word) (off : DWord), s.boot.loading = true → s.dev.inReset = none → s.dev.phase = .boot →
    let cs : List Container := ws.map fun w => w.setWidth 16
    let held := s.boot.image.length
    let put := fun (s : State) => s.updBoot fun b => { b with image := b.image ++ ws }
    let l := readImage (s.boot.image ++ ws)
    -- the 256-byte requests to the host that the next n words need beyond those that have been sent
    let asked := fun (n : Nat) =>
      let old := (2 * held + 255) / 256
      let new := (2 * (held + n) + 255) / 256
      if old < new then s.updSht fun x =>
        { x with hostIn := (List.range (new - old)).map fun k => (s.base64 (shtBase + 0x10) + 256 * (old + k), 256) }
      else s
    -- what exec answers from the source's own state `r`, with `fin` after the load
    let run := fun (i : Instr) (r : State) (image fin : State → State) => held < 16 →
      (held + ws.length < 16 → exec i s = .next (fin (put r))) ∧
      (16 ≤ held + ws.length →
        (∀ code k, l.bad = some (code, k) → l.acts = [] → exec i s = .next (fin ((image (put r)).bootFail code k))) ∧
        (∀ t, l.bad = none → l.part = .done → (image (put r)).loadActs none l.acts.reverse = (none, t) →
          exec i s = .next (fin (t.loaded l.head))) ∧
        (∀ t k, l.bad = none → (image (put r)).loadActs none l.acts.reverse = (some k, t) → exec i s = .next (fin (t.bootFail 0x65 k))))
    (∀ bs : List Byte, s.boot.source = 0 → s.boot.rest = [] → bs.length % 3 = 0 → unpackBytes bs = ws → held < 16 →
      -- behind a header that has passed, the image is read on at the header's speed with READ or, as QUAD says, Fast Read Quad
      let more := if 16 ≤ held + ws.length ∧ headBad l.head = none ∧ 24 < s.boot.fetched + bs.length
        then [if (wordAt l.head 10).getLsbD 7 then spiAt 0x6B 24 ++ [0] else spiAt 0x03 24] else []
      s.flashHz = 10000000 ∧
        run (.qspiLoad bs .ok) (s.updBoot fun b => { b with rest := [], fetched := b.fetched + bs.length }) (fun s => s.headChecked l.head)
          fun u => u.updBoot fun b => { b with flash := spiAt 0x03 s.boot.fetched :: more }) ∧
    (s.boot.source = 1 → s.windowOk = true → run (.hostLoad cs .ok) (asked ws.length) (fun s => s) fun u => u) ∧
    (∀ (h : BootHead), s.boot.source = 2 → s.receives 0 = true → ws.length ≤ 15 →
      let f := bootMail off h ws
      let key : Dedupe := ⟨false, 6, h.src, 0, h.fseq, s.fk⟩
      let acked := s.updPort 0 fun x =>
        { x with rxSeq := some h.lseq, acked := some h.lseq, sent := x.sent ++ [frameSymbols [BitVec.ofNat 8 (0x70 + h.lseq.toNat)]] }
      let old := (s.jport 0).rxSeq = some h.lseq ∨ h.src = s.jsnId ∨ s.seen key = true
      (frameGood 6 f = false → exec (.bootFrame off h ws .ok) s = .next s) ∧
      (frameGood 6 f = true → old → exec (.bootFrame off h ws .ok) s = .next acked) ∧
      (frameGood 6 f = true → ¬ old →
        (h.word2 = 0 → off.toNat = held → run (.bootFrame off h ws .ok) (acked.enterCache key) (fun s => s) fun u => u) ∧
        (h.word2 ≠ 0 ∨ off.toNat ≠ held → exec (.bootFrame off h ws .ok) s = .next (acked.enterCache key)))) ∧
    (s.boot.source = 2 → s.boot.image ≠ [] → exec .bootSourceStall s = .next (s.bootFail 0x67 held)) ∧
    (s.boot.source = 1 → s.windowOk = true → exec (.completionTimeout .boot) s =
      .next (((asked 1).hostFault 0x02 0x10).bootFail 0x67 held)) ∧
    (∀ h : List Word, bitsAt (wordAt h 10) 11 1 = 0 → ∃ u, s.loaded h = u ∧ u.dev.phase = .setup ∧ u.boot.loading = false ∧
      u.boot.auto = false ∧ u.boot.mbaud.toNat = bitsAt (wordAt h 10) 8 3 ∧ u.mem = s.mem ∧ u.regs = s.regs)

/-- The reader refuses an image at its first failing check, with the code of R483 and the offset of the word: MAGIC, DEVICE, FORMAT; and it
accepts an image whose header, one empty SETUP section and trailer carry their checks (R475 to R477, R483). -/
def Claims.TheReaderChecksTheImage : Prop :=
  (∀ h : List Word, h.length = 16 →
    (wordAt h 0 ≠ 0xD4C → (readImage h).bad = some (0x61, 0)) ∧
    (wordAt h 0 = 0xD4C → wordAt h 1 ≠ 0x641 → (readImage h).bad = some (0x61, 1)) ∧
    (wordAt h 0 = 0xD4C → wordAt h 1 = 0x641 → wordAt h 2 ≠ 0x001 → (readImage h).bad = some (0x61, 2)) ∧
    (wordAt h 0 = 0xD4C → wordAt h 1 = 0x641 → wordAt h 2 = 0x001 → (h.drop 12).take 3 ≠ crc32Words (headCrc h) →
      (readImage h).bad = some (0x61, 12))) ∧
  (let body : List Word := [0xD4C, 0x641, 0x001, 1, 28, 0, 0, 0, 0, 0, 1, 0]
   let head := body ++ crc32Words (body.foldl crc32Word 0xFFFFFFFF) ++ [0]
   let sec : List Word := [0x300, 0, 0, 0, 0, 0]
   let before := head ++ sec ++ crc32Words (sec.foldl crc32Word 0xFFFFFFFF)
   let l := readImage (before ++ crc32Words (before.foldl crc32Word 0xFFFFFFFF))
   l.bad = none ∧ l.part = .done ∧ l.acts = [])

/-- A setup record is performed as its own write, over the selvedge port for a selvedge or trip register; a refused one fails the boot with
0x66 at its offset; the last one with AUTO writes DEV.GO (R450, R478, R481, R483). -/
def Claims.SetupRecordsArePerformed : Prop :=
  ∀ (s : State) (a : Addr) (v : Word) (off : Nat) (rest : List (Addr × Word × Nat)), s.dev.inReset = none → s.dev.phase = .setup →
    s.boot.loading = false → s.boot.stopped = false → s.boot.records = (a, v, off) :: rest →
    let m : Master := if recordBySvp a.toNat then .svp 0 0 else .engine 0 0 true
    let left := s.stage.updBoot fun b => { b with records := rest }
    let r := left.writeReg m a.toNat v
    (isSv a.toNat = true → s.isSel 0 = false → exec .setupRecord s = .next (left.bootFail 0x66 off)) ∧
    (isSv a.toNat = false ∨ s.isSel 0 = true →
      (r.1 = true → exec .setupRecord s = .next r.2.finishSetup) ∧ (r.1 = false → exec .setupRecord s = .next (r.2.bootFail 0x66 off))) ∧
    (∀ t : State, t.boot.records ≠ [] ∨ t.boot.auto = false ∨ t.dev.phase ≠ .setup → t.finishSetup = t) ∧
    (∀ t : State, t.boot.records = [] → t.boot.stopped = false → t.boot.auto = true → t.dev.phase = .setup →
      t.finishSetup = (t.writeReg (.engine 0 0 true) (devBase + 3) 1).2)

/-! ### The boot monitor (R484 to R488) -/

/-- The monitor's memory commands over words of data regions, none found wrong: E shows them, A shows one, goes on to the next as often as
it is answered with a carriage return alone, ends with ".", and takes a new value, which ends it too, F fills, M between ranges that do not
meet, C lists the first 16 differences, S the words that match, W writes them packed into the flash by erase, program and read-back, and
refuses with error 3 where what is read back differs; a count outside 1 to 4,096, or a W whose place in the flash is not that of a
4,096-byte block, is error 1, an access that ends in an error response error 3 (R183, R485, R486). That a new value ends A, and error 1 for
a count or a place out of range, are the model's reading (notes/assumptions/53). -/
def Claims.TheMonitorReadsAndWritesMemory : Prop :=
  ∀ (s : State) (a b : Addr) (n : Nat) (v m : Word) (o : DWord) (back : List Byte) (x : MonEnds), s.monitorOn = true →
    let plain := fun (a : Addr) => a.toNat + n ≤ 2 ^ 24 ∧ ∀ k, k < n → let p : Addr := BitVec.ofNat 24 (a.toNat + k)
      (regionOf p).isData = true ∧ s.cutOff .monitor p = false ∧ s.refuses .monitor p false = false ∧ s.refuses .monitor p true = false
    let good := fun (a : Addr) => ∀ k, k < n → s.wordGood (BitVec.ofNat 24 (a.toNat + k)) = true
    let at_ := fun (k : Nat) => s.memWord (a.toNat + k)
    let told := fun (i : Instr) (reply : List (BitVec 36)) => ∃ u, exec i s = .next u ∧ u.boot.reply = reply ∧ u.boot.error = none ∧
      u.mem = s.mem ∧ u.regs = s.regs
    let differ := (List.range n).filter fun k => decide (at_ k ≠ s.memWord (b.toNat + k))
    (n = 0 ∨ 4096 < n →
      exec (.monitorE a n x) s = .next (s.reply [] (some 1)) ∧ exec (.monitorF a n v x) s = .next (s.reply [] (some 1)) ∧
      exec (.monitorC a b n x) s = .next (s.reply [] (some 1)) ∧ exec (.monitorM a b n x) s = .next (s.reply [] (some 1)) ∧
      exec (.monitorS a n v m x) s = .next (s.reply [] (some 1)) ∧ exec (.monitorW o n a back x) s = .next (s.reply [] (some 1))) ∧
    (o.toNat % 4096 ≠ 0 → exec (.monitorW o n a back x) s = .next (s.reply [] (some 1))) ∧
    (s.memCanonical = true → 1 ≤ n → n ≤ 4096 → plain a →
      (good a →
        told (.monitorE a n []) ((List.range n).map fun k => shown (at_ k)) ∧
        told (.monitorA a [] []) [shown (at_ 0)] ∧ told (.monitorA a [.stop] []) [shown (at_ 0)] ∧
        (∀ k, k < n → told (.monitorA a (List.replicate k .step) []) ((List.range (k + 1)).map fun j => shown (at_ j))) ∧
        told (.monitorS a n v m [])
          (((List.range n).filter fun k => decide (at_ k &&& ~~~m = v &&& ~~~m)).map fun k => BitVec.ofNat 36 (a.toNat + k)) ∧
        (∀ k, k < n → ∃ u, exec (.monitorA a (List.replicate k .step ++ [.value v]) []) s = .next u ∧
          u.boot.reply = ((List.range (k + 1)).map fun j => shown (at_ j)) ∧ u.boot.error = none ∧
          ∀ x, u.memWord x = if x = a.toNat + k then v else s.memWord x) ∧
        (o.toNat % 4096 = 0 →
          let bs := packBytes ((List.range (n + n % 2)).map fun k => if k < n then at_ k else 0)
          ∃ u, exec (.monitorW o n a back []) s = .next u ∧ u.mem = s.mem ∧ u.regs = s.regs ∧ u.boot.flash = flashWrite o.toNat bs ∧
            (back = bs → u.boot.error = none ∧ u.boot.flashed = some (o.toNat, bs)) ∧
            (back ≠ bs → u.boot.error = some 3 ∧ u.boot.flashed = s.boot.flashed)) ∧
        (plain b → good b → told (.monitorC a b n []) ((differ.take 16).flatMap fun k =>
          [BitVec.ofNat 36 (a.toNat + k), shown (at_ k), shown (s.memWord (b.toNat + k))])) ∧
        (plain b → a.toNat + n ≤ b.toNat ∨ b.toNat + n ≤ a.toNat → ∃ u, exec (.monitorM a b n []) s = .next u ∧ u.boot.error = none ∧
          ∀ x, u.memWord x = if b.toNat ≤ x ∧ x < b.toNat + n then at_ (x - b.toNat) else s.memWord x)) ∧
      (∃ u, exec (.monitorF a n v []) s = .next u ∧ u.boot.error = none ∧
        ∀ x, u.memWord x = if a.toNat ≤ x ∧ x < a.toNat + n then v else s.memWord x) ∧
      (∃ u, exec (.monitorE a n [(0, .read .persistent)]) s = .next u ∧ u.boot.reply = [] ∧ u.boot.error = some 3 ∧ u.mem = s.mem))

/-- The monitor's other commands: I and O reach one register, G enters RUN in SETUP alone, G e t and H write ENG.TCTL in RUN and keep the
breakpoints, the views show their registers, with X taking a snapshot first when asked, V the records; a line that spells no command is
answered with error 1; a carriage return alone answers A with a step and "." with its end; while TETHERED is clear every command, and every
line, is ignored; errors are 1 to 4. A gated cluster whose register is reached runs again (R457, R484 to R487). That H removes the
breakpoints also where ENG.TCTL refuses the write, and the layout of the replies, are the model's reading (notes/assumptions/53). -/
def Claims.TheMonitorReachesTheDevice : Prop :=
  ∀ (s : State) (a a2 : Addr) (v m : Word) (e : Eng) (t : Thr) (b : PAddr) (g : Fin 32) (q : BitVec 36) (n : Nat) (x : MonEnds) (snap : Bool)
    (o : DWord) (back : List Byte) (src : Fin 3) (image : List Word) (outcome : LoadEnd) (line : List Byte) (answers : List (List Byte))
    (vs : List MonAnswer) (ends : LineEnds),
    let err := fun (ok : Bool) (k : Fin 5) => if ok then none else some k
    let reg := fun (s : State) (x : Nat) => shown (s.readReg x)
    let near := s.cutOff .monitor (BitVec.ofNat 24 (engBase e)) = false
    let awake := s.woken (BitVec.ofNat 24 (engBase e))
    let ctl := fun (s : State) (w : Word) => s.writeReg .monitor (engBase e + 4) w
    (s.monitorOn = false → ∀ i,
      i = .monitorA a vs x ∨ i = .monitorE a n x ∨ i = .monitorF a n v x ∨ i = .monitorC a a2 n x ∨
      i = .monitorM a a2 n x ∨ i = .monitorS a n v m x ∨ i = .monitorI a x ∨ i = .monitorO a v x ∨ i = .monitorG x ∨
      i = .monitorGThread e t none x ∨ i = .monitorGThread e t (some b) x ∨ i = .monitorH e t x ∨ i = .monitorL e x ∨
      i = .monitorT e t x ∨ i = .monitorK x ∨ i = .monitorV q n x ∨ i = .monitorX g snap x ∨ i = .monitorW o n a back x ∨
      i = .monitorQ src image outcome → exec i s = .next s) ∧
    (s.monitorOn = false → s.typedLine line answers ends = s) ∧
    (s.monitorOn = true → lineCommand line answers ends = none → s.typedLine line answers ends = s.reply [] (some 1)) ∧
    answerOf [] = some .step ∧ answerOf [0x2E] = some .stop ∧
    (s.monitorOn = true →
      (0x800000 ≤ a.toNat → a.toNat ≤ 0x84FFFF → s.cutOff .monitor a = false →
        ((regInfo a.toNat).isSome = true → exec (.monitorI a []) s =
          .next ((s.woken a).reply [shown ((s.woken a).readRegAs .monitor a.toNat)] none)) ∧
        (let w := (s.woken a).writeReg .monitor a.toNat v
         exec (.monitorO a v []) s = .next (w.2.reply [] (err w.1 2)))) ∧
      (a.toNat < 0x800000 ∨ 0x84FFFF < a.toNat →
        exec (.monitorI a x) s = .next (s.reply [] (some 1)) ∧ exec (.monitorO a v x) s = .next (s.reply [] (some 1))) ∧
      (s.dev.phase = .setup → ∃ u, exec (.monitorG []) s = .next u ∧ u.dev.phase = .run ∧ u.boot.error = none) ∧
      (s.dev.phase ≠ .setup → exec (.monitorG x) s = .next (s.reply [] (some 4))) ∧
      (s.inRun = false → exec (.monitorGThread e t none x) s = .next (s.reply [] (some 4)) ∧
        exec (.monitorH e t x) s = .next (s.reply [] (some 4))) ∧
      (s.inRun = true → near →
        (let w := ctl awake (0x800 ||| BitVec.ofNat 12 t.val)
         exec (.monitorGThread e t none []) s = .next (w.2.reply [] (err w.1 2)) ∧
         (s.boot.breakpoints.length < 4 → (e, b) ∉ s.boot.breakpoints → exec (.monitorGThread e t (some b) []) s =
           .next ((if w.1 then w.2.updBoot fun x => { x with breakpoints := x.breakpoints ++ [(e, b)] } else w.2).reply [] (err w.1 2))) ∧
         (4 ≤ s.boot.breakpoints.length → (e, b) ∉ s.boot.breakpoints →
           exec (.monitorGThread e t (some b) x) s = .next (s.reply [] (some 4)))) ∧
        (let w := ctl (awake.updBoot fun x => { x with breakpoints := x.breakpoints.filter fun p => decide (p.1 ≠ e) })
           (0x400 ||| BitVec.ofNat 12 t.val)
         exec (.monitorH e t []) s = .next (w.2.reply [] (err w.1 2)))) ∧
      (near → exec (.monitorL e []) s = .next (awake.reply ((List.range 7).map fun k => reg awake (engBase e + 0x43 + k)) none)) ∧
      exec (.monitorK []) s = .next (s.reply (reg s (selBase + 2) :: (((List.range 14).map fun k => reg s (fclStBase + 0x200 + k)) ++
        (List.range 5).map fun k => reg s (fclStBase + 0x220 + k))) none) ∧
      (near → awake.currentFrame e t = none → exec (.monitorT e t []) s = .next (awake.reply
        [if (awake.readReg (engBase e + 5)).getLsbD t.val then 1 else 0, reg awake (engBase e + 0x19), shown (awake.thr e t).apri] none)) ∧
      exec (.monitorX g false []) s = .next (s.reply ((List.range 40).map fun k => reg s (monBase g + 8 + k)) none) ∧
      (s.setupOrRun = true → (s.gauge g).armed = true → ∃ u, exec (.monitorX g true []) s = .next u ∧ u.boot.error = none ∧
        u.gauge g = { s.gauge g with snap := (s.gauge g).run, armed := false, valid := true } ∧
        u.boot.reply = (List.range 40).map fun k => reg u (monBase g + 8 + k)) ∧
      (1 ≤ n → n ≤ 4096 → s.findRecord q = none → exec (.monitorV q n x) s = .next ((s.updRcd fun y => y.sent []).reply [] none)) ∧
      (∀ w, s.findRecord q = some w → (∀ k, k < 16 → s.wordGood (BitVec.ofNat 24 (slotAddr q + k)) = true) →
        exec (.monitorV q 1 []) s = .next ((s.updRcd fun y => y.sent (s.readsFrom q 1)).reply (w.toList.map shown) none)) ∧
      (s.inRun = true → exec (.monitorQ 0 [] .ok) s = .next (s.reply [] (some 4))) ∧
      (s.inRun = false → ∃ u, exec (.monitorQ 0 [] .ok) s = .next u ∧ u.boot.loading = true ∧ u.boot.source = 0 ∧ u.boot.image = [] ∧
        u.boot.records = [] ∧ u.boot.failed = none ∧ u.dev.phase = s.dev.phase ∧ u.regs = s.regs))

/-! ### Registers without a row of their own, and rules of the whole machine -/

/-- A register that only stores, and refuses no value, takes an accepted write in its own bits and no other register changes; a read-only
one ignores it; a reserved address, and a writer its access code does not admit, are refused and change no register; at a reserved address
an engine's store is the access fault 0x16 (R10, R13, R171, R449). -/
def Claims.StoredRegistersTakeWrites : Prop :=
  ∀ (s : State) (m : Master) (a : Addr) (v : Word),
    (∀ x : Nat, s.canWrite m x = true →
      let page := x / 0x1000
      let o := x % 0x1000
      let g := x % 0x100
      page = 0x801 ∨ page = 0x816 ∨
        ((page = 0x804 ∨ page = 0x805) ∧ (o % 0x400 = 1 ∨ o % 0x400 = 2)) ∨
        (page = 0x808 ∧ 0x100 ≤ o ∧ o % 8 ≠ 0) ∨
        (page = 0x809 ∧ o < 2) ∨
        (page = 0x810 ∧ (3 ≤ o ∧ o < 0x10 ∨ 0x16 ≤ o ∧ o < 0x100 ∨ 0x200 ≤ o ∧ o < 0x300 ∧ o % 32 = 8)) ∨
        (page = 0x814 ∧ (0x20 ≤ o ∧ o ≤ 0x22 ∨ 0x40 ≤ o ∧ o ≤ 0x43)) ∨
        (page = 0x843 ∧ o < 7) ∨
        (0x820 ≤ page ∧ page ≤ 0x823 ∧ (1 ≤ g ∧ g ≤ 3 ∨ 0x10 ≤ g ∧ g ≤ 0x19)) →
      exec (.registerWrite m (BitVec.ofNat 24 x) v) s = .next (s.wrote m x v) ∧
      (s.regsCanonical = true → (s.wrote m x v).reg x = v &&& regMask x ∧ ∀ b, b ≠ x → (s.wrote m x v).reg b = s.reg b)) ∧
    (regionOf a = .regs ∨ regionOf a = .reserved → s.live m = true → s.cutOff m a = false →
      (∀ r, regInfo a.toNat = some r → r.acc = .ro → s.accOk m a.toNat r = true →
        exec (.registerWrite m a v) s = .next ((s.wakeFor a.toNat).acceptedAt m)) ∧
      (∀ r, regInfo a.toNat = some r → s.accOk m a.toNat r = false → ∃ u, exec (.registerWrite m a v) s = .next u ∧
        u = ((s.wakeFor a.toNat).countRefusal m a.toNat).refusedAt m a.toNat ∧ u.regs = s.regs) ∧
      (regInfo a.toNat = none → ∃ u, exec (.registerWrite m a v) s = .next u ∧
        u = ((s.wakeFor a.toNat).countRefusal m a.toNat).refusedAt m a.toNat ∧ u.regs = s.regs ∧
        ∀ e t mach, m = .engine e t mach → s.inRun = true → s.together e = true → s.mayMove e t = true →
          (s.allocFrame e t).isSome = true →
          ∃ f, (u.thr e t).pfault = some f ∧ f.cause = 0x16)) ∧
    (regionOf a ≠ .regs → regionOf a ≠ .reserved → exec (.registerWrite m a v) s = .next s)

/-- JSN.ID (R427) keeps an id from 1 to 4,095 in SETUP; a write of 0 is refused with an error response and changes nothing. -/
def Claims.DeviceIdIsNeverZero : Prop :=
  ∀ (s : State) (m : Master) (v : Word), s.regsCanonical = true → s.canWrite m jsnBase = true →
    (v ≠ 0 → ∃ u, exec (.registerWrite m (BitVec.ofNat 24 jsnBase) v) s = .next u ∧ u.reg jsnBase = v ∧
      ∀ b, b ≠ jsnBase → u.reg b = s.reg b) ∧
    (v = 0 → ∃ u, exec (.registerWrite m (BitVec.ofNat 24 jsnBase) v) s = .next u ∧
      u = (s.countRefusal m jsnBase).refusedAt m jsnBase ∧ u.regs = s.regs ∧ u.mem = s.mem)

/-- Two cases in which ENG.CFG is refused (R31): RSVEN with a reserved thread that the written shape does not have, and SHAPE 0b11. -/
def Obligations.IllegalShapesAreRefused : Prop :=
  ∀ (s : State) (m : Master) (e : Eng) (v : Word), s.live m = true →
    let a := engBase e
    let threads := if v.toNat / 1024 = 0 then 8 else if v.toNat / 1024 = 1 then 4 else 2
    (v.getLsbD 9 = true ∧ threads ≤ v.toNat / 64 % 8) ∨ v.toNat / 1024 = 3 →
      ∃ u, exec (.engCfgWrite m e v) s = .next u ∧
        (s.cutOff m (BitVec.ofNat 24 a) = false → u = ((s.wakeFor a).countRefusal m a).refusedAt m a) ∧ u.regs = s.regs ∧ u.mem = s.mem ∧
        u.dev = s.dev

/-- The whole of R453: every kind of reset sets SAFE; SAFE stays set through BOOT, SETUP and entry to RUN, whatever the step; and in RUN
only a step that performs a write of SEL.SREL over a selvedge engine's port clears it: a queued operation whose address is SEL.SREL's, once its
request has gone out. -/
def Obligations.OnlySelvedgeSoftwareReleasesSafe : Prop :=
  (∀ (s : State) (kind : BitVec 3) (src : BitVec 8), (s.resetDevice kind src).dev.safe = true) ∧
  (∀ s u : State, s.dev.safe = true → step s = .next u → s.inRun = false → u.dev.safe = true) ∧
  ∀ s u : State, s.dev.safe = true → step s = .next u → u.dev.safe = false →
    (∃ m v rest, s.pending = .selSrel m v :: rest ∧ isSvp m = true) ∨
    (∃ m v rest, s.pending = .registerWrite m (BitVec.ofNat 24 (selBase + 5)) v :: rest ∧ isSvp m = true) ∨
    ∃ e q ops rest, s.pending = .svpTakeEffect e :: rest ∧ s.isSel e = true ∧ (s.eng e).svpq = q :: ops ∧ q.sent = true ∧ q.fence = false ∧
      q.write.isSome = true ∧ q.b.getLsbD 4 = false ∧ 0x840000 + q.b.toNat % 16 * 0x1000 + q.a.toNat = selBase + 5

/-- PCU.TM takes effect from the second following move (R23, R127): the move after the write runs under TM as it stood, and the commit of
that move, unless it writes TM or KR itself, brings the new TM into force. Machine level is TM.LVL of the TM in force. The bits of TM that
are reserved read 0 (notes/assumptions/17). -/
def Claims.TmTakesEffectTwoMovesLater : Prop :=
  (∀ (s : State) (e : Eng) (t : Thr) (v : Word), s.accepts e t 0x5A v = true →
    let x := s.thr e t
    ∃ u, exec (.pcuTm e t v) s = .next u ∧ (u.thr e t).tmNow = x.tm ∧ (u.thr e t).machine = x.tm.getLsbD 11 ∧
      (x.tmNow.getLsbD 11 = true → (u.thr e t).tm = v &&& 0xE00) ∧
      (x.tmNow.getLsbD 11 = false → (u.thr e t).tm.getLsbD 10 = v.getLsbD 10 ∧ ∀ k, k ≠ 10 → (u.thr e t).tm.getLsbD k = x.tm.getLsbD k) ∧
      (∀ k, k ≠ t → u.thr e k = s.thr e k)) ∧
  ∀ (x : Thread) (d : Nat), d ≠ 0x5A → d ≠ 0x5B → (x.afterMove d).tmNow = x.tm ∧ (x.afterMove d).machine = x.tm.getLsbD 11

/-! ### Lanes with a state of their own (R42, R135, R143) -/

/-- A command that each lane runs by itself, in an engine one of whose lanes holds a state of its own: that lane goes on from its own
state, as the same command does for an engine whose lanes hold that state (R135). -/
def Claims.StrayLanesRunTheirOwnState : Prop :=
  ∀ (s : State) (c : Instr) (e : Eng) (l : Lane), laneEng c = some e → (s.heddle e).commits? l = true → (s.eng e).apart l = true →
    ∃ u, exec c s = .next u ∧ ∃ w, exec c (s.asLane e l) = .next w ∧ ((u.eng e).view l).toEngineCore = (w.eng e).toEngineCore

/-- A fault strikes one lane in a move of a literal or a register to a register: where the lane reads another value, it alone holds that
value and goes on; where the word fails the lane's parity check, it alone does not commit, and keeps its PC, its registers and its
signature (R15, R42, R135, R143). -/
def Claims.OneLaneIsStruck : Prop :=
  ∀ (s : State) (e : Eng) (t : Thr) (l k : Lane) (i : Nat) (d : Fin 32) (x : Word), s.together e = true → (s.eng e).cur = some t →
    s.canMove e t = true → s.eventNow e t = none → (s.thr e t).tmNow.getLsbD 10 = false →
    (∀ b ∈ s.boot.breakpoints, b ≠ (e, (s.thr e t).pc)) →
    (∃ q, (s.eng e).line t (s.thr e t).pc = some q ∧ q.good (s.thr e t).pc = true ∧
      q.word (s.thr e t).pc = BitVec.ofNat 14 (i * 128 + d.val)) →
    i < 16 → d.val ≠ 0 → k ≠ l → (s.heddle e).commits? l = true → (s.heddle e).commits? k = true →
    let at_ := fun (u : State) (z : Lane) => ((u.eng e).view z).thr t
    (∃ u, exec (.move e (some (l, .value x))) s = .next u ∧ (at_ u l).g[d.val] = BitVec.ofNat 12 i ^^^ x ∧
      (at_ u k).g[d.val] = BitVec.ofNat 12 i ∧ (at_ u l).pc = (s.thr e t).pc + 1 ∧ (at_ u k).pc = (s.thr e t).pc + 1) ∧
    (∃ u, exec (.move e (some (l, .parity))) s = .next u ∧ (at_ u l).g = (s.thr e t).g ∧ (at_ u l).pc = (s.thr e t).pc ∧
      (u.heddle e).sig[(laneIdx l).val] = (s.heddle e).sig[(laneIdx l).val] ∧ (at_ u k).g[d.val] = BitVec.ofNat 12 i ∧
      (at_ u k).pc = (s.thr e t).pc + 1)

/-! ### What the engine's own memory traffic leaves (R38, R74, R78, R80, R87) -/

/-- At machine level a store trigger whose words lie in data regions that take its write completes: its words wait in the store buffer, P
moves, the general registers, PC, memory and every other thread stand. The oldest one, once its request has gone out, reaches memory, and
the fence ends when none of the thread is left (R74, R78, R80). -/
def Claims.MachineLevelStoresComplete : Prop :=
  ∀ (s : State) (e : Eng) (t : Thr) (v : Word), (s.thr e t).machine = true →
    let x := (s.thr e t).lsu
    let va := fun (off : Word) => joinW x.seg off
    let ok := fun (a : Addr) => (regionOf a).isData = true ∧ s.refuses (.engine e t true) a true = false
    let posts := fun (i : Instr) (d : Nat) (p : Word) (n : Nat) => s.accepts e t d v = true → ∃ u, exec i s = .next u ∧
      (u.thr e t).lsu.p = p ∧ (u.thr e t).g = (s.thr e t).g ∧ (u.thr e t).pc = (s.thr e t).pc ∧ u.mem = s.mem ∧ u.regs = s.regs ∧
      (u.eng e).sbuf.length = (s.eng e).sbuf.length + n ∧ (u.eng e).sbuf.take (s.eng e).sbuf.length = (s.eng e).sbuf ∧
      (∀ q ∈ (u.eng e).sbuf.drop (s.eng e).sbuf.length, q.t = t ∧ q.sent = false) ∧
      (∀ q, (u.eng e).sbuf[(s.eng e).sbuf.length]? = some q → q.pa = va p ∧ q.data = x.d) ∧ ∀ k, k ≠ t → u.thr e k = s.thr e k
    (ok (va (v - 2)) → ok (va (v - 1)) → posts (.lsuStpd e t v) 0x45 (v - 2) (if v.getLsbD 0 then 2 else 1)) ∧
    (ok (va (v - 1)) → posts (.lsuSt1pd e t v) 0x46 (v - 1) 1) ∧
    (x.ctl.getLsbD 3 = false → ok (va (v + x.x)) → posts (.lsuStb e t v) 0x4A (v + x.x) 1) ∧
    (∀ n : Nat, n < 3 → x.ctl.toNat % 4 = n → x.ctl.getLsbD 3 = false → ok (va (v + x.x * BitVec.ofNat 12 (2 ^ n))) →
      posts (.lsuStx e t v) 0x48 (v + x.x * BitVec.ofNat 12 (2 ^ n)) 1) ∧
    (s.accepts e t 0x4B v = true → ∃ u, exec (.lsuFnc e t v) s = .next u ∧ (u.thr e t).lsu.fence = true ∧
      (u.thr e t).g = (s.thr e t).g ∧ (u.thr e t).pc = (s.thr e t).pc ∧ (u.eng e).sbuf = (s.eng e).sbuf ∧ u.mem = s.mem) ∧
    (s.together e = true → s.still e = false →
      (x.fence = true → (s.eng e).sbuf = [] → (s.eng e).out = [] → ∃ u, exec (.fenceComplete e t) s = .next u ∧
        (u.thr e t).lsu.fence = false ∧ u.mem = s.mem ∧ ∀ k, k ≠ t → u.thr e k = s.thr e k) ∧
      (∀ q rest, s.memCanonical = true → (s.eng e).sbuf = q :: rest → q.t = t → q.machine = true → q.sent = true → q.data2 = none →
        ok q.pa → s.asleep q.pa = false → s.cutOff (.engine e t true) q.pa = false → ∃ u, exec (.storeCommit e .ok .ok) s = .next u ∧
          (u.eng e).sbuf = rest ∧ ∀ a, u.memWord a = if a = q.pa.toNat then q.data else s.memWord a))

/-- A fill of a fetch, or of a pin whose set holds fewer than three pinned ways, with good words in an awake bank completes: the engine's
cache holds the line as program memory does, and the fill is over; ICU.INV takes it out again, ICU.PIN finds it, and ICU.SYNC leaves no line
buffer (R37 to R40, R87). -/
def Claims.FillsAndCacheCommandsComplete : Prop :=
  (∀ (s : State) (e : Eng) (f : Fill), s.together e = true → s.still e = false → (s.eng e).nextFill = some f →
    let a := lineAddr e.cluster f.num
    s.asleep a = false → s.cutOff (.engine e f.t true) a = false →
    (∀ k, k < 8 → s.wordGood (a + BitVec.ofNat 24 (2 * k)) = true) →
    ((s.eng e).cached f.num).isNone = true → (f.kind = .fetch ∧ ((s.eng e).set f.num).pins ≤ 3) ∨ (f.kind = .pin ∧ ((s.eng e).set f.num).pins < 3) →
    ∃ u, exec (.fillComplete e .ok) s = .next u ∧ (u.eng e).cached f.num = some (s.memLine e.cluster f.num) ∧
      (u.eng e).fills = (s.eng e).fills.erase f ∧ ((u.eng e).set f.num).pins = ((s.eng e).set f.num).pins + bit1 (decide (f.kind = .pin)) ∧
      u.prog = s.prog ∧ u.mem = s.mem) ∧
  ∀ (s : State) (e : Eng) (t : Thr) (v : Word),
    let l : BitVec 14 := (((s.thr e t).icuAh.setWidth 5 ++ v : BitVec 17) >>> 3).setWidth 14
    let hit := ((s.eng e).cached l).isSome
    (s.accepts e t 0x5D v = true → hit = true → ∃ u, exec (.icuInv e t v) s = .next u ∧ (u.eng e).cached l = none ∧
      (u.thr e t).ist.getLsbD 10 = true ∧ u.prog = s.prog) ∧
    (s.accepts e t 0x5E v = true → hit = true → ((s.eng e).set l).pins < 3 → ∃ u, exec (.icuPin e t v) s = .next u ∧
      ((u.eng e).cached l) = (s.eng e).cached l ∧ (u.thr e t).ist = 0x400 ∧ 1 ≤ ((u.eng e).set l).pins) ∧
    (s.accepts e t 0x5F v = true → ∃ u, exec (.icuSync e t v) s = .next u ∧ (∀ k, (u.thr e k).lb = none) ∧
      (v.getLsbD 0 = true → ∀ l, (u.eng e).cached l = none) ∧ (v.getLsbD 0 = false → (u.eng e).sets = (s.eng e).sets))

/-! ### The obligations -/

/-- Every command completes, and none touches the queue. -/
def Obligations.EveryCommandCompletes : Prop :=
  Claims.EveryCommandEndsInANextState ∧
    Claims.CommandsLeaveTheQueue

/-- What reset leaves, and that the three invariants hold there. -/
def Obligations.ResetStateIsSound : Prop :=
  Claims.ResetIsAsTheSpecSays ∧
    Claims.ResetMeetsTheInvariants

/-- What is written is read back, and nothing else changes. -/
def Obligations.StoredWordsReadBackAsWritten : Prop :=
  Claims.RegisterReadsBackAsWritten ∧
    Claims.MemoryReadsBackAsWritten ∧
    Claims.ProgramReadsBackAsWritten

/-- The eleven ALU triggers. PC and the folded commit are the move's, not the trigger row's (notes/assumptions/19).
The commands that it says complete: aluAdd, aluAdc, aluSub, aluSbc, aluAnd, aluOr, aluXor, aluShl, aluShr, aluSar, aluCmp. -/
def Obligations.AluOperations : Prop :=
  Claims.AluAddsAndSubtracts ∧
    Claims.AluLogicKeepsCarryAndOverflow ∧
    Claims.AluShiftsByFourBits

/-- The multiply units and the approximation unit; the function of an APX result is a free value (notes/assumptions/1) within the bounds of
R72. PC and the folded commit are the move's, not the trigger row's (notes/assumptions/19).
The commands that it says complete: mulGo, macMac, macMsu, macMul, macClr, macShr, macComplete, apxRcp, apxSq, apxL2, apxDiv, apxComplete. -/
def Obligations.MultiplyAndApproximate : Prop :=
  Claims.MultiplyUnitsTakeTheirOperands ∧
    Claims.ApxRunsAndCompletes ∧
    Claims.ApxResultsMeetTheirBounds ∧
    Claims.WaiterForALateResultGoesFirst

/-- Loads, from the trigger to LSU.Q and QH. PC and the folded commit are the move's, not the trigger row's (notes/assumptions/19).
The commands that it says complete: lsuLdpi, lsuLd1pi, lsuLdx, lsuLdb, loadComplete, hostReadComplete. -/
def Obligations.LoadsLeaveAndReturn : Prop :=
  Claims.LoadsLeaveWithTheirAddress ∧
    Claims.LoadsReturnTheStoredWords

/-- Stores, from the trigger to memory, and the fence. PC and the folded commit are the move's, not the trigger row's (notes/assumptions/19).
The commands that it says complete: lsuStpd, lsuSt1pd, lsuStx, lsuStb, lsuFnc, fenceComplete, storeCommit. -/
def Obligations.StoresPostCommitAndFence : Prop :=
  Claims.StoresArePosted ∧
    Claims.StoresCommitInOrder ∧
    Claims.FenceWaitsForTheThreadsStores

/-- The four block operations; a range at machine level (notes/assumptions/47 says how elements are checked). PC and the folded commit are the
move's, not the trigger row's (notes/assumptions/19).
The commands that it says complete: blkMove, blkFill, blkCmp, blkScan, blkElement, blkEnd. -/
def Obligations.BlockOperations : Prop :=
  Claims.BlockOperationsStart ∧
    Claims.BlockElementsAdvanceOrStop ∧
    Claims.BlockCountsAndEnds

/-- The four jumps, on and off the return gate. PC and the folded commit are the move's, not the trigger row's (notes/assumptions/19). That a
JNZ row with CND = 0 leaves PC where it stands is the same choice.
The commands that it says complete: pcuJmp, pcuJal, pcuRet, pcuJnz. -/
def Obligations.JumpsAndTheReturnGate : Prop :=
  Claims.JumpsSetThePc ∧
    Claims.TheReturnGateIsGuarded

/-- Writes of TM and KR and the mode shadow. PC and the folded commit are the move's, not the trigger row's (notes/assumptions/19).
The commands that it says complete: pcuTm, pcuKr. -/
def Obligations.ThreadModeAndKeyRights : Prop :=
  Claims.ThreadModeAndKeyRightsAreWritten ∧
    Claims.TmTakesEffectTwoMovesLater

/-- The instruction cache, its commands and its fills. PC and the folded commit are the move's, not the trigger row's (notes/assumptions/19).
The commands that it says complete: fillComplete, icuInv, icuPin, icuSync. -/
def Obligations.InstructionSupply : Prop :=
  Claims.InstructionCacheCommands ∧
    Claims.FillsTakeProgramMemory

/-- SMP and TMR. PC and the folded commit are the move's, not the trigger row's (notes/assumptions/19). That SMP.SKIP leaves a thread's state
as it stands where its cursor is not attached is the model's reading (notes/assumptions/62), and so is when a timer's expiry is due
(notes/assumptions/50).
The commands that it says complete: smpOpen, smpSkip, smpQ, tmrStart, tmrStop, timerExpiry. -/
def Obligations.SamplesAndTimers : Prop :=
  Claims.SampleCursorsFollowTheBobbin ∧
    Claims.TimersStartStopAndExpire

/-- MSG and INP. PC and the folded commit are the move's, not the trigger row's (notes/assumptions/19). That the mailbox of an isolated
cluster, and of an engine that is disabled or locked up, answers as dead is the model's reading (notes/assumptions/43), and so is the
target in the voted request (notes/assumptions/22).
The commands that it says complete: msgSnd, msgFlush, msgQ, mailboxWordArrive, inpSnap, inputAgreed, inputAgreementTimeout,
msgSndComplete. -/
def Obligations.MailboxesMessagesAndInputs : Prop :=
  Claims.MailboxesAreQueues ∧
    Claims.MessagesReportTheirOutcome ∧
    Claims.InputsAreAgreed

/-- Translation, from the TLB to the faults. PC and the folded commit are the move's, not the trigger row's (notes/assumptions/19).
The commands that it says complete: tableWalk, mmuInvp, mmuInvk, mmuInva. -/
def Obligations.Translation : Prop :=
  Claims.MmuInvalidations ∧
    Claims.TableWalksFillTheTlb ∧
    Claims.TranslationChecksInOrder

/-- The three ports toward the trip fabric, the watchdog and the selvedge. PC and the folded commit are the move's, not the trigger row's
(notes/assumptions/19). That SVP.Q keeps its value after a refused read is the model's reading (notes/assumptions/57), and so is the
target in the voted request (notes/assumptions/22).
The commands that it says complete: trpSet, trpClr, trpSetm, trpSetmh, wdcCheck, wdcServe, svpWr, svpWri, svpRd, svpRdi, svpFnc,
svpTakeEffect. -/
def Obligations.TripWatchdogAndSelvedgePorts : Prop :=
  Claims.TripRequestBits ∧
    Claims.WatchdogAndSelvedgePortsIssue ∧
    Claims.SelvedgePortTakesEffect

/-- A move of the selected thread and the selection after it.
The commands that it says complete: move. -/
def Obligations.MovesAndSelection : Prop :=
  Claims.MovesCommitFaultOrMiss ∧
    Claims.RegisterDestinations ∧
    Claims.SelectionTakesTheNextReadyThread

/-- What the commands of an engine's own slots, stores and lines leave when nothing stands in their way. PC stands in the rows of stores and
of cache commands: it is the move's (notes/assumptions/19). That IDLE_SELECT selects anew where the selected thread is ready no longer is
the model's reading (notes/assumptions/56), and so is when an entry begins (notes/assumptions/24).
The commands that it says complete: move, nop, idleSelect, fillComplete, lsuStpd, lsuSt1pd, lsuStx, lsuStb, lsuFnc, fenceComplete,
storeCommit, icuInv, icuPin, icuSync. -/
def Obligations.MovesStoresAndFillsComplete : Prop :=
  Claims.RegisterMovesComplete ∧
    Claims.NopAndIdleSelection ∧
    Claims.MachineLevelStoresComplete ∧
    Claims.FillsAndCacheCommandsComplete

/-- The lanes of an engine, apart.
The commands that it says complete: move. -/
def Obligations.LanesKeepTheirOwnState : Prop :=
  Claims.StrayLanesRunTheirOwnState ∧
    Claims.OneLaneIsStruck

/-- The entry slot and what it saves.
The commands that it says complete: entrySlot. -/
def Obligations.EntriesSaveTheThread : Prop :=
  Claims.EntrySlotsTakeTheEvent ∧
    Claims.TakingAnExceptionSavesTheThread

/-- The return, and the lockup.
The commands that it says complete: returnGate. -/
def Obligations.ReturnsRestoreTheThread : Prop :=
  Claims.ReturnRestoresWhatTheEntrySaved ∧
    Claims.ReturnsReadTheirFrame ∧
    Claims.LockupStopsTheEngine

/-- The commands of an engine's register block.
The commands that it says complete: engIpendClear, engSwiSet, engSwiClr, engTctlGo, engTctlHalt, engCfgWrite, engHinj. -/
def Obligations.EngineControl : Prop :=
  Claims.EngineConfigurationAndLines ∧
    Claims.ThreadsStartAndHalt ∧
    Claims.InjectionArmsOneLane

/-- The vote over what leaves an engine, and what the voted requests do. That a voted request carries its target is the model's reading
(notes/assumptions/22).
The commands that it says complete: outputVote, pickVerdict. -/
def Obligations.OutputVoting : Prop :=
  Claims.OutputVotingOutvotesOneLane ∧
    Claims.VotedRequestsTakeEffect ∧
    Claims.TwoLanesMustAgree

/-- Signatures and re-threading.
The commands that it says complete: pickClose, pickVerdict, bulkCopyEnd, pauseStart, pauseEnd. -/
def Obligations.PicksAndRethreading : Prop :=
  Claims.PicksCloseAndAreJudged ∧
    Claims.RethreadingRejoinsOrRetires

/-- Retention and the flex arrangement. A lost word is a free value (notes/assumptions/2).
The commands that it says complete: retentionEnter, bankWake, retentionLoss, cluFlexWrite. -/
def Obligations.BanksSleepWakeAndAreArranged : Prop :=
  Claims.BanksSleepWakeAndLose ∧
    Claims.FlexBanksAreArranged

/-- The sensing channels, the converters and the bobbins.
The commands that it says complete: decimationIntervalEnd, groupClockLost, groupClockResume, stuckBitstream, bitstreamTransition,
conversionSlotEnd, bobbinWrite. -/
def Obligations.FiltersConvertersAndBobbins : Prop :=
  Claims.FiltersDeliverEachInterval ∧
    Claims.ClockLossAndStuckBitstreams ∧
    Claims.ConversionsAreShownAndChecked ∧
    Claims.BobbinsAdvance

/-- The two meters.
The commands that it says complete: mtrClr, mtrLatch, meterGapMs. -/
def Obligations.Meters : Prop :=
  Claims.MetersCountLatchAndClear ∧
    Claims.MeterProductsAccumulateBySign

/-- The companion RAM and its port.
The commands that it says complete: loadComplete, busyRepresent, companionRead, companionWrite, cack, snapshot. -/
def Obligations.SnapshotsAndCompanionPort : Prop :=
  Claims.SnapshotsAreWrittenThenNamed ∧
    Claims.CompanionPortReadsAndWrites ∧
    Claims.BusyReadsArePresentedAgain

/-- The trip fabric's lines, its inputs and the pins.
The commands that it says complete: tripRequestArrive, fabricPinLevel, pioEvent. -/
def Obligations.TripLines : Prop :=
  Claims.TripLinesAssertLatchAndSetSafe ∧
    Claims.FabricInputsArrive ∧
    Claims.PinsFollowTheState

/-- The comparators, the writes that configure the fabric, and what its checks report.
The commands that it says complete: comparatorEvaluate, sourceInvalidTimeout, tcCfgWrite, tlrel, tlgWrite, copyDisagree, readbackMismatch,
configCheckScan. -/
def Obligations.ComparatorsAndTripConfiguration : Prop :=
  Claims.ComparatorsCountToTheirPersistence ∧
    Claims.TripConfigurationWrites ∧
    Claims.FabricSelfChecksReport

/-- The vehicle side of the trip fabric. LOCK_FAULT names its cause (notes/assumptions/34).
The commands that it says complete: pioCpcfgWrite, pioImdWrite, pioGdirWrite, lockFault, kdHalfPeriod, safePairHalfPeriod,
estopDiscrepancy, lockHoldEnd, cpPwmPeriod, pilotStale, imdInjToggle. -/
def Obligations.VehicleSide : Prop :=
  Claims.EstopAndDoorLock ∧
    Claims.OutputsToggleInStep ∧
    Claims.PilotAndInsulationMonitor

/-- The collector at work. What FCL.LSRC shows of a notice is the model's reading (notes/assumptions/41).
The commands that it says complete: faultClassify, selfCheckScan, selAliveWrite, collectorStateMismatch, aliveHalfPeriod. -/
def Obligations.ClassificationAndSelfFaults : Prop :=
  Claims.ClassificationShowsTheEventAndReacts ∧
    Claims.CollectorSelfFaults ∧
    Claims.AliveTogglesUnlessFrozen

/-- The registers of SEL page 0. That 1 to SEL.LOCK without a valid set is no intrusion but the monitor's is the model's reading
(notes/assumptions/57).
The commands that it says complete: selEngWrite, selLockWrite, selCmdSafe, selCmdReset, selSrel. -/
def Obligations.SelvedgeCommands : Prop :=
  Claims.SelvedgeEnginesAreChosenAndLocked ∧
    Claims.SafeAndResetAreCommanded

/-- Events, counting and the configuration of the collector. That five events may wait is the model's reading of R319 (notes/assumptions/20).
The commands that it says complete: faultEvent, fclSclr, fclConfigWrite. -/
def Obligations.CollectorEventsAndConfiguration : Prop :=
  Claims.FaultEventsQueueAtTheirSource ∧
    Claims.EventsCountToTheirThreshold ∧
    Claims.CollectorSourcesAreClearedAndConfigured ∧
    Claims.FixedSourcesStayFixed

/-- The watchdog.
The commands that it says complete: checkIn, service, wdgCommit, wdgHold, wdgClockStop, wdgPeriodExpiry, wdgGraceExpiry. -/
def Obligations.Watchdog : Prop :=
  Claims.CheckInsAndServicesAreJudged ∧
    Claims.WatchdogExpiresInTwoSteps ∧
    Claims.WatchdogCommitsAndHolds

/-- Records, from the queue to the ring.
The commands that it says complete: recordWrite. -/
def Obligations.RecordsEnterTheRing : Prop :=
  Claims.RecordsEnterTheirSlot ∧
    Claims.TheRecordQueueHolds64

/-- Fetches and commits. What a cut-off write leaves is the model's reading (notes/assumptions/59).
The commands that it says complete: nvCommit, recFgo, nvRetry, fetchComplete. -/
def Obligations.RecordsAreFetchedAndCommitted : Prop :=
  Claims.FetchesFindTheRecordOrNot ∧
    Claims.RecordsAreCommitted

/-- Clears, gauges.
The commands that it says complete: recCfgWrite, recWtrig, waveformCapture, selRconf, monArm, monSnap, gaugeValue, clearLapse,
nvEraseComplete, opsIncrement. -/
def Obligations.RecorderClearsAndGauges : Prop :=
  Claims.RecorderConfigurationAndWaveforms ∧
    Claims.WaveformsAreCodedAndRecorded ∧
    Claims.ClearsAreArmedConfirmedOrLapse ∧
    Claims.GaugesArmSampleAndSnap

/-- The PCIe side of the shuttle. The register layouts and reset values are the PCI family's (notes/assumptions/10, 60); PERST as a loss of
link is notes/assumptions/44.
The commands that it says complete: configRequest, linkLeaveL0, linkEnterL0, linkErrorRecorded, msixVectorUnmask, perstAssert,
perstDeassert. -/
def Obligations.LinkAndConfiguration : Prop :=
  Claims.PerstResetsTheLink ∧
    Claims.TheLinkComesAndGoes ∧
    Claims.ConfigurationIsAnswered

/-- The grant ports and the ring controls.
The commands that it says complete: create, revoke, sqEnable, sqDisable, cqEnable, cqDisable, sqctlUnq. -/
def Obligations.GrantsAndRings : Prop :=
  Claims.GrantsAreCreatedAndRevoked ∧
    Claims.RingsAreEnabledAndDisabled

/-- A descriptor's start and its end. The corners of causes and orders are the model's reading (notes/assumptions/44).
The commands that it says complete: descriptorFetch, completionWrite, cqTimerExpiry. -/
def Obligations.DescriptorsAreFetchedAndCompleted : Prop :=
  Claims.DescriptorsAreFetchedAndChecked ∧
    Claims.CompletionsAreWritten

/-- The descriptors that move data.
The commands that it says complete: copyIn, copyOut, loadProgram. -/
def Obligations.DataDescriptors : Prop :=
  Claims.CopyInStoresTheHostsWords ∧
    Claims.CopyOutSendsTheWords ∧
    Claims.LoadProgramFillsTheWindow

/-- The other descriptors, and timeouts. Where a transfer crosses the weft is the model's reading (notes/assumptions/46), and so is that an
isolated cluster turns a message's word away (notes/assumptions/43).
The commands that it says complete: weftTransferTimeout, msg, mailboxRetry, gaugeRead, recRead, recClear, fence, completionTimeout. -/
def Obligations.OtherDescriptorsAndTimeouts : Prop :=
  Claims.MessagesWaitForTheirMailbox ∧
    Claims.GaugeRecordClearAndFence ∧
    Claims.TransfersTimeOut

/-- Trip frames over the chain.
The commands that it says complete: syncAcquire, syncLoss, tripAdv, tripCfm, tripCxl, confirmRepeat, armLapse, chainHoldExpiry,
dedupeExpiry. -/
def Obligations.ChainTrips : Prop :=
  Claims.TripFramesActOnce ∧
    Claims.ChainTimersAndSync

/-- The other frames of the chain. That a timeout counts at a port which sends idle alone is the model's reading (notes/assumptions/58).
The commands that it says complete: budget, epoch, mail, ack, ackTimeout, jsnTxctl. -/
def Obligations.ChainFrames : Prop :=
  Claims.FramesAreKeptTakenOrForwarded ∧
    Claims.OwnFramesAreSentAndAcknowledged

/-- The commands that change phase and modes.
The commands that it says complete: devGo, devMctlPrecise, devMctlDoze, devMctlDzmask, clusterGate, clusterWake, modSeal, modUnseal,
modSolo. -/
def Obligations.PhasesAndModes : Prop :=
  Claims.GoEntersRun ∧
    Claims.PowerModesAndGating ∧
    Claims.SealingAndSolo

/-- The monitors. That CLK.TMAX takes the first conversion whatever its reset value is the model's reading (notes/assumptions/49).
The commands that it says complete: thermalConversion, overTemperature, clockLost, clockOutOfRange, supplyBelowGood, supplyAboveLimit,
clockReturn, supplyReturn, governorStepDown, governorStepUp, sensorDisagree. -/
def Obligations.ClocksSuppliesAndTemperature : Prop :=
  Claims.TemperatureAndGovernor ∧
    Claims.ClocksAreMonitored ∧
    Claims.SuppliesAreMonitored

/-- Boot, from the strap to the setup records; the offsets of failing checks are log entry 51's.
The commands that it says complete: qspiLoad, hostLoad, bootFrame, completionTimeout, bootStart, setupRecord, bootSourceStall. -/
def Obligations.Boot : Prop :=
  Claims.BootSelectsItsSource ∧
    Claims.ImagesAreReadAndLoaded ∧
    Claims.TheReaderChecksTheImage ∧
    Claims.SetupRecordsArePerformed

/-- The eighteen commands; the layout of the replies is log entry 53's, and so are error 1 for a bad count or an unaligned W, and that H
removes the breakpoints also where ENG.TCTL refuses the write.
The commands that it says complete: monitorA, monitorE, monitorF, monitorC, monitorM, monitorS, monitorI, monitorO, monitorG,
monitorGThread, monitorH, monitorL, monitorT, monitorK, monitorV, monitorX, monitorW, monitorQ. -/
def Obligations.BootMonitor : Prop :=
  Claims.TheMonitorReadsAndWritesMemory ∧
    Claims.TheMonitorReachesTheDevice

/-- REGISTER_WRITE.
The commands that it says complete: registerWrite. -/
def Obligations.RegisterWrites : Prop :=
  Claims.StoredRegistersTakeWrites ∧
    Claims.DeviceIdIsNeverZero
end

