-- ==== Sys2Proof/Laws/Cells.lean ====
section
/-! SUPPORT. The canonical sparse memories: what a read after a write gives, and that a write and a loss of contents keep the
canonical form. -/

namespace Sys2Proof.Machine

/-- Every key of a canonical list lies above a bound. -/
def Cells.above {w : Nat} (a : Nat) (l : Cells w) : Prop := ∀ p ∈ l, a < p.1

/-- The canonical form as two facts: keys rise strictly and no word equals its default. -/
theorem Cells.wf_iff {w : Nat} (d : Nat → BitVec w) (l : Cells w) :
    Cells.wf d l = true ↔ l.Pairwise (fun p q => p.1 < q.1) ∧ ∀ p ∈ l, p.2 ≠ d p.1 := by
  induction l with
  | nil => simp [Cells.wf]
  | cons p r ih =>
    obtain ⟨k, x⟩ := p
    simp only [Cells.wf, Bool.and_eq_true, decide_eq_true_eq, ih, List.pairwise_cons, List.forall_mem_cons]
    constructor
    · rintro ⟨⟨h1, h2⟩, h3, h4⟩
      refine ⟨⟨?_, h3⟩, h1, h4⟩
      cases r with
      | nil => simp
      | cons q t =>
        simp only [decide_eq_true_eq] at h2
        intro p hp
        rcases List.mem_cons.mp hp with rfl | hp
        · exact h2
        · exact lt_trans h2 ((List.pairwise_cons.mp h3).1 p hp)
    · rintro ⟨⟨h1, h3⟩, h2, h4⟩
      refine ⟨⟨h2, ?_⟩, h3, h4⟩
      cases r with
      | nil => rfl
      | cons q t => simpa using h1 q (by simp)

/-- A word above every listed key reads as its default. -/
theorem Cells.read_above {w : Nat} (d : BitVec w) (l : Cells w) (a : Nat) (h : ∀ p ∈ l, a < p.1) : Cells.read d l a = d := by
  induction l with
  | nil => rfl
  | cons p r ih =>
    obtain ⟨k, x⟩ := p
    have h0 : a < k := h (k, x) (by simp)
    simp only [Cells.read, if_neg (show ¬ a = k by omega)]
    exact ih fun q hq => h q (by simp [hq])

/-- Keys listed after a write were listed before, or are the key written. -/
theorem Cells.mem_write {w : Nat} {d : BitVec w} {l : Cells w} {a : Nat} {v : BitVec w} {p : Nat × BitVec w}
    (h : p ∈ Cells.write d l a v) : p ∈ l ∨ (p = (a, v) ∧ v ≠ d) := by
  induction l with
  | nil =>
    simp only [Cells.write] at h
    split at h
    · simp at h
    · next hv => simp only [List.mem_singleton] at h; exact .inr ⟨h, hv⟩
  | cons q r ih =>
    obtain ⟨k, x⟩ := q
    simp only [Cells.write] at h
    split at h
    · split at h
      · exact .inl h
      · next hv =>
        rcases List.mem_cons.mp h with h | h
        · exact .inr ⟨h, hv⟩
        · exact .inl h
    · split at h
      · split at h
        · exact .inl (by simp [h])
        · next hv =>
          rcases List.mem_cons.mp h with h | h
          · exact .inr ⟨h, hv⟩
          · exact .inl (by simp [h])
      · rcases List.mem_cons.mp h with h | h
        · exact .inl (by simp [h])
        · rcases ih h with h | h
          · exact .inl (by simp [h])
          · exact .inr h

/-- A write keeps the canonical form. -/
theorem Cells.wf_write {w : Nat} (d : Nat → BitVec w) (l : Cells w) (a : Nat) (v : BitVec w) (h : Cells.wf d l = true) :
    Cells.wf d (Cells.write (d a) l a v) = true := by
  rw [Cells.wf_iff] at h ⊢
  refine ⟨?_, ?_⟩
  · obtain ⟨hp, -⟩ := h
    induction l with
    | nil =>
      simp only [Cells.write]
      split <;> simp
    | cons q r ih =>
      obtain ⟨k, x⟩ := q
      obtain ⟨hk, hr⟩ := List.pairwise_cons.mp hp
      simp only [Cells.write]
      split
      · next hak =>
        split
        · exact hp
        · refine List.pairwise_cons.mpr ⟨?_, hp⟩
          intro p hpm
          rcases List.mem_cons.mp hpm with rfl | hpm
          · exact hak
          · exact lt_trans hak (hk p hpm)
      · split
        · next hak =>
          subst hak
          split
          · exact hr
          · exact List.pairwise_cons.mpr ⟨hk, hr⟩
        · next h1 h2 =>
          refine List.pairwise_cons.mpr ⟨?_, ih hr⟩
          intro p hpm
          rcases Cells.mem_write hpm with hpm | ⟨rfl, -⟩
          · exact hk p hpm
          · show k < a; omega
  · intro p hp
    rcases Cells.mem_write hp with hp | ⟨rfl, hv⟩
    · exact h.2 p hp
    · exact hv

/-- What was written is read; every other word is as it was. -/
theorem Cells.read_write {w : Nat} (d : Nat → BitVec w) (l : Cells w) (a b : Nat) (v : BitVec w) (h : Cells.wf d l = true) :
    Cells.read (d b) (Cells.write (d a) l a v) b = if b = a then v else Cells.read (d b) l b := by
  rw [Cells.wf_iff] at h
  obtain ⟨hp, -⟩ := h
  induction l with
  | nil =>
    by_cases hv : v = d a <;> by_cases hb : b = a <;> simp [Cells.write, Cells.read, hv, hb]
  | cons q r ih =>
    obtain ⟨k, x⟩ := q
    obtain ⟨hk, hr⟩ := List.pairwise_cons.mp hp
    simp only [Cells.write]
    split
    · next hak =>
      by_cases hb : b = a
      · subst hb
        have hh : Cells.read (d b) ((k, x) :: r) b = d b := Cells.read_above _ _ _ (by
          intro p hpm
          rcases List.mem_cons.mp hpm with rfl | hpm
          · exact hak
          · exact lt_trans hak (hk p hpm))
        split
        · next hv => rw [hh, if_pos rfl, hv]
        · rw [if_pos rfl]; simp only [Cells.read, if_pos]
      · split
        · rfl
        · rw [Cells.read, if_neg hb]
    · split
      · next hak =>
        subst hak
        by_cases hb : b = a
        · subst hb
          split
          · next hv => rw [if_pos rfl, Cells.read_above _ _ _ hk, hv]
          · rw [if_pos rfl, Cells.read, if_pos rfl]
        · split
          · rw [Cells.read, if_neg hb]
          · rw [Cells.read, if_neg hb, Cells.read, if_neg hb]
      · next h1 h2 =>
        by_cases hbk : b = k
        · have hba : b ≠ a := by omega
          simp only [Cells.read, if_pos hbk, if_neg hba]
        · simp only [Cells.read, if_neg hbk]
          exact ih hr

/-- Words left out keep the form, and a changed default does where no kept word has it. -/
theorem Cells.wf_filter {w : Nat} (d e : Nat → BitVec w) (l : Cells w) (f : Nat × BitVec w → Bool) (h : Cells.wf d l = true)
    (he : ∀ p ∈ l, f p = true → e p.1 = d p.1) : Cells.wf e (l.filter f) = true := by
  rw [Cells.wf_iff] at h ⊢
  refine ⟨h.1.filter _, ?_⟩
  intro p hp
  obtain ⟨hm, hf⟩ := List.mem_filter.mp hp
  rw [he p hm hf]
  exact h.2 p hm

/-- A register write keeps the register file canonical. -/
theorem State.setReg_wf (s : State) (a : Nat) (v : Word) (h : Cells.wf regReset s.regs = true) :
    Cells.wf regReset (s.setReg a v).regs = true :=
  Cells.wf_write regReset s.regs a _ h

/-- A data write keeps the data memory canonical. -/
theorem State.setMem_wf (s : State) (a : Nat) (v : Word) (h : Cells.wf s.memDefault s.mem = true) :
    Cells.wf (s.setMem a v).memDefault (s.setMem a v).mem = true :=
  Cells.wf_write s.memDefault s.mem a v h

/-- A program write keeps the program memory canonical. -/
theorem State.setProg_wf (s : State) (c : Clu) (n : PAddr) (v : PWord) (h : Cells.wf s.progDefault s.prog = true) :
    Cells.wf (s.setProg c n v).progDefault (s.setProg c n v).prog = true :=
  Cells.wf_write s.progDefault s.prog (progKey c n) v h

/-- A word of a bank that was not lost has the default it had. -/
theorem State.loseBank_memDefault (s : State) (c : Clu) (b : Bank) (a : Nat) (h : inBank c b a = false) (ha : a < 0x1000000) :
    (s.loseBank c b).memDefault a = s.memDefault a := by
  have key : ∀ t : State, t.runs = s.runs → t.mtr = s.mtr → t.rcd = s.rcd →
      t.clusters = (s.updClu c fun x => { x with epoch := upd x.epoch b (· + 1) }).clusters →
      t.memDefault a = s.memDefault a := by
    intro t h1 h2 h3 h4
    have hclu : ∀ (c' : Clu) (b' : Bank), ¬ (c = c' ∧ b = b') → (t.clu c').epoch[b'.val]'b'.isLt = (s.clu c').epoch[b'.val]'b'.isLt := by
      intro c' b' hne
      simp only [State.clu, h4, State.updClu]
      by_cases hc : c = c'
      · subst hc
        have hb : b.val ≠ b'.val := fun q => hne ⟨rfl, Fin.ext q⟩
        simp [upd, hb]
      · have : c.val ≠ c'.val := fun q => hc (Fin.ext q)
        simp [this]
    simp only [State.memDefault, h1, h2, h3]
    simp only [inBank] at h
    split
    · next c' b' hb =>
      rw [hb] at h
      have hlow : a < 0x800000 := by
        by_contra hge
        have hmod : a % 2 ^ 24 = a := Nat.mod_eq_of_lt (by omega)
        have : (regionOf (BitVec.ofNat 24 a)).bank = none := by
          simp only [regionOf, BitVec.toNat_ofNat, hmod, if_neg hge]
          repeat' split
          all_goals rfl
        simp [this] at hb
      simp only [hlow, decide_true, Bool.true_and, Bool.and_eq_false_iff, decide_eq_false_iff_not] at h
      have hne : ¬ (c = c' ∧ b = b') := by
        rintro ⟨rfl, rfl⟩
        simp at h
      rw [hclu c' b' hne]
    · rfl
  unfold State.loseBank
  split <;> exact key _ rfl rfl rfl rfl

/-- A loss of a bank's contents keeps the data memory canonical. -/
theorem State.loseBank_mem_wf (s : State) (c : Clu) (b : Bank) (h : Cells.wf s.memDefault s.mem = true) (hb : b ≠ 10)
    (hk : ∀ p ∈ s.mem, p.1 < 0x1000000) : Cells.wf (s.loseBank c b).memDefault (s.loseBank c b).mem = true := by
  have : (s.loseBank c b).mem = s.mem.filter fun p => !inBank c b p.1 := by
    simp only [State.loseBank, if_neg hb]; rfl
  rw [this]
  apply Cells.wf_filter _ _ _ _ h
  intro p hp hf
  exact s.loseBank_memDefault c b p.1 (by simpa using hf) (hk p hp)

/-- A loss of a cluster's program memory keeps it canonical. -/
theorem State.loseBank_prog_wf (s : State) (c : Clu) (h : Cells.wf s.progDefault s.prog = true) (hk : ∀ p ∈ s.prog, p.1 < 0x100000) :
    Cells.wf (s.loseBank c 10).progDefault (s.loseBank c 10).prog = true := by
  have : (s.loseBank c 10).prog = s.prog.filter fun p => p.1 / 131072 ≠ c.val := rfl
  rw [this]
  apply Cells.wf_filter _ _ _ _ h
  intro p hp hf
  have hlt := hk p hp
  have hne : ¬ p.1 / 131072 = c.val := by simpa using hf
  have hc : c.val ≠ p.1 / 131072 % 8 := by omega
  simp only [State.progDefault, State.clu, State.loseBank, State.updClu]
  simp [hc]
  rfl

/-- A data write, a program write, a word found wrong and a loss of contents keep the list of the words that are wrong canonical. -/
theorem State.setMem_upset_wf (s : State) (a : Nat) (v : Word) (h : Cells.wf (fun _ => 0) s.upset = true) :
    Cells.wf (fun _ => 0) (s.setMem a v).upset = true :=
  Cells.wf_write (fun _ => 0) s.upset a 0 h

theorem State.setProg_upset_wf (s : State) (c : Clu) (n : PAddr) (v : PWord) (h : Cells.wf (fun _ => 0) s.upset = true) :
    Cells.wf (fun _ => 0) (s.setProg c n v).upset = true :=
  Cells.wf_write (fun _ => 0) s.upset (upsetKey c n) 0 h

theorem State.spoil_upset_wf (s : State) (a : Addr) (h : Cells.wf (fun _ => 0) s.upset = true) :
    Cells.wf (fun _ => 0) (s.spoil a).upset = true := by
  simp only [State.spoil]
  split
  · exact Cells.wf_write (fun _ => 0) s.upset (storedKey a) _ h
  · exact h

theorem State.loseBank_upset_wf (s : State) (c : Clu) (b : Bank) (h : Cells.wf (fun _ => 0) s.upset = true) :
    Cells.wf (fun _ => 0) (s.loseBank c b).upset = true := by
  unfold State.loseBank
  split <;> exact Cells.wf_filter _ _ _ _ h fun _ _ _ => rfl

/-- Finding a word wrong changes what is stored under its key and nothing of what was written. -/
theorem State.spoil_mem (s : State) (a : Addr) : (s.spoil a).mem = s.mem := by
  simp only [State.spoil]
  split <;> rfl

theorem State.spoil_prog (s : State) (a : Addr) : (s.spoil a).prog = s.prog := by
  simp only [State.spoil]
  split <;> rfl

/-- Reset lists no word. -/
theorem State.reset_mem_wf : Cells.wf State.reset.memDefault State.reset.mem = true := rfl
theorem State.reset_prog_wf : Cells.wf State.reset.progDefault State.reset.prog = true := rfl

end Sys2Proof.Machine
end

