-- ==== Sys2Proof/Laws/Grants.lean ====
section
/-! SUPPORT. Handles of grants: what their fields are, and when a check passes (R397, R398, R410). -/

namespace Sys2Proof.Machine

/-- A handle from its three words is the handle. -/
theorem handleOf_parts (h : BitVec 36) : handleOf (h.extractLsb' 0 12) (h.extractLsb' 12 12) (h.extractLsb' 24 12) = h := by
  apply BitVec.eq_of_getLsbD_eq
  intro i hi
  simp only [handleOf, BitVec.getLsbD_append, BitVec.getLsbD_extractLsb']
  by_cases h0 : i < 12
  · simp [h0, show i < 24 by omega]
  · by_cases h1 : i < 24
    · simp [h0, show i - 12 < 12 by omega, show 12 + (i - 12) = i by omega, h1]
    · simp [h1, show i - 24 < 12 by omega, show 24 + (i - 24) = i by omega]

theorem State.handle_toNat (s : State) {i gen : Nat} (hi : i < 512) (hg : gen < 128) :
    (s.handle i gen).toNat = i * 2 ^ 27 + gen * 2 ^ 20 + (Config.grantCheck s.sht.key i gen).toNat := by
  have := (Config.grantCheck s.sht.key i gen).isLt
  simp only [State.handle, BitVec.toNat_ofNat]
  omega

theorem State.hIndex_handle (s : State) {i gen : Nat} (hi : i < 512) (hg : gen < 128) : hIndex (s.handle i gen) = i := by
  have := (Config.grantCheck s.sht.key i gen).isLt
  simp only [hIndex, bitsAt, s.handle_toNat hi hg]
  omega

theorem State.hGen_handle (s : State) {i gen : Nat} (hi : i < 512) (hg : gen < 128) : hGen (s.handle i gen) = gen := by
  have := (Config.grantCheck s.sht.key i gen).isLt
  simp only [hGen, bitsAt, s.handle_toNat hi hg]
  omega

theorem State.hCheck_handle (s : State) {i gen : Nat} (hi : i < 512) (hg : gen < 128) :
    hCheck (s.handle i gen) = (Config.grantCheck s.sht.key i gen).toNat := by
  have := (Config.grantCheck s.sht.key i gen).isLt
  simp only [hCheck, bitsAt, s.handle_toNat hi hg]
  omega

/-- The handle the Shuttle gave for an entry passes where the entry is valid and of that generation, and fails its generation
check where not. -/
theorem State.checkHandle_handle (s : State) {i gen : Nat} (hi : i < 512) (hg : gen < 128) :
    s.checkHandle (s.handle i gen) = if (s.grant i).v && (s.grant i).gen.toNat = gen then none else some 2 := by
  simp only [State.checkHandle, s.hIndex_handle hi hg, s.hGen_handle hi hg, s.hCheck_handle hi hg]
  simp

/-- A handle whose check field is another one fails its check, whatever the entry holds. -/
theorem State.checkHandle_of_check_ne (s : State) (h : BitVec 36)
    (hc : hCheck h ≠ (Config.grantCheck s.sht.key (hIndex h) (hGen h)).toNat) : s.checkHandle h = some 1 := by
  simp [State.checkHandle, hc]

end Sys2Proof.Machine
end

