-- ==== Sys2Proof/Laws/State.lean ====
section
/-! SUPPORT. For each update of a part of the state, what every field of the state is after it; for each indexed part, what it and its
neighbours are after an update of it. -/

namespace Sys2Proof.Machine

variable (s : State)

/-! ### setEng -/

@[simp] theorem State.setEng_pending (e : Eng) (x : Engine) : (s.setEng e x).pending = s.pending := rfl
@[simp] theorem State.setEng_fk (e : Eng) (x : Engine) : (s.setEng e x).fk = s.fk := rfl
@[simp] theorem State.setEng_runFk (e : Eng) (x : Engine) : (s.setEng e x).runFk = s.runFk := rfl
@[simp] theorem State.setEng_free (e : Eng) (x : Engine) : (s.setEng e x).free = s.free := rfl
@[simp] theorem State.setEng_runs (e : Eng) (x : Engine) : (s.setEng e x).runs = s.runs := rfl
@[simp] theorem State.setEng_regs (e : Eng) (x : Engine) : (s.setEng e x).regs = s.regs := rfl
@[simp] theorem State.setEng_mem (e : Eng) (x : Engine) : (s.setEng e x).mem = s.mem := rfl
@[simp] theorem State.setEng_prog (e : Eng) (x : Engine) : (s.setEng e x).prog = s.prog := rfl
@[simp] theorem State.setEng_upset (e : Eng) (x : Engine) : (s.setEng e x).upset = s.upset := rfl
@[simp] theorem State.setEng_flights (e : Eng) (x : Engine) : (s.setEng e x).flights = s.flights := rfl
@[simp] theorem State.setEng_clusters (e : Eng) (x : Engine) : (s.setEng e x).clusters = s.clusters := rfl
@[simp] theorem State.setEng_chans (e : Eng) (x : Engine) : (s.setEng e x).chans = s.chans := rfl
@[simp] theorem State.setEng_groups (e : Eng) (x : Engine) : (s.setEng e x).groups = s.groups := rfl
@[simp] theorem State.setEng_adc (e : Eng) (x : Engine) : (s.setEng e x).adc = s.adc := rfl
@[simp] theorem State.setEng_mtr (e : Eng) (x : Engine) : (s.setEng e x).mtr = s.mtr := rfl
@[simp] theorem State.setEng_trip (e : Eng) (x : Engine) : (s.setEng e x).trip = s.trip := rfl
@[simp] theorem State.setEng_col (e : Eng) (x : Engine) : (s.setEng e x).col = s.col := rfl
@[simp] theorem State.setEng_wdg (e : Eng) (x : Engine) : (s.setEng e x).wdg = s.wdg := rfl
@[simp] theorem State.setEng_rcd (e : Eng) (x : Engine) : (s.setEng e x).rcd = s.rcd := rfl
@[simp] theorem State.setEng_mon (e : Eng) (x : Engine) : (s.setEng e x).mon = s.mon := rfl
@[simp] theorem State.setEng_sht (e : Eng) (x : Engine) : (s.setEng e x).sht = s.sht := rfl
@[simp] theorem State.setEng_jsn (e : Eng) (x : Engine) : (s.setEng e x).jsn = s.jsn := rfl
@[simp] theorem State.setEng_dev (e : Eng) (x : Engine) : (s.setEng e x).dev = s.dev := rfl
@[simp] theorem State.setEng_boot (e : Eng) (x : Engine) : (s.setEng e x).boot = s.boot := rfl
@[simp] theorem State.setEng_clk (e : Eng) (x : Engine) : (s.setEng e x).clk = s.clk := rfl
@[simp] theorem State.setEng_tap (e : Eng) (x : Engine) : (s.setEng e x).tap = s.tap := rfl

/-! ### updEng -/

@[simp] theorem State.updEng_pending (e : Eng) (f : Engine → Engine) : (s.updEng e f).pending = s.pending := rfl
@[simp] theorem State.updEng_fk (e : Eng) (f : Engine → Engine) : (s.updEng e f).fk = s.fk := rfl
@[simp] theorem State.updEng_runFk (e : Eng) (f : Engine → Engine) : (s.updEng e f).runFk = s.runFk := rfl
@[simp] theorem State.updEng_free (e : Eng) (f : Engine → Engine) : (s.updEng e f).free = s.free := rfl
@[simp] theorem State.updEng_runs (e : Eng) (f : Engine → Engine) : (s.updEng e f).runs = s.runs := rfl
@[simp] theorem State.updEng_regs (e : Eng) (f : Engine → Engine) : (s.updEng e f).regs = s.regs := rfl
@[simp] theorem State.updEng_mem (e : Eng) (f : Engine → Engine) : (s.updEng e f).mem = s.mem := rfl
@[simp] theorem State.updEng_prog (e : Eng) (f : Engine → Engine) : (s.updEng e f).prog = s.prog := rfl
@[simp] theorem State.updEng_upset (e : Eng) (f : Engine → Engine) : (s.updEng e f).upset = s.upset := rfl
@[simp] theorem State.updEng_flights (e : Eng) (f : Engine → Engine) : (s.updEng e f).flights = s.flights := rfl
@[simp] theorem State.updEng_clusters (e : Eng) (f : Engine → Engine) : (s.updEng e f).clusters = s.clusters := rfl
@[simp] theorem State.updEng_chans (e : Eng) (f : Engine → Engine) : (s.updEng e f).chans = s.chans := rfl
@[simp] theorem State.updEng_groups (e : Eng) (f : Engine → Engine) : (s.updEng e f).groups = s.groups := rfl
@[simp] theorem State.updEng_adc (e : Eng) (f : Engine → Engine) : (s.updEng e f).adc = s.adc := rfl
@[simp] theorem State.updEng_mtr (e : Eng) (f : Engine → Engine) : (s.updEng e f).mtr = s.mtr := rfl
@[simp] theorem State.updEng_trip (e : Eng) (f : Engine → Engine) : (s.updEng e f).trip = s.trip := rfl
@[simp] theorem State.updEng_col (e : Eng) (f : Engine → Engine) : (s.updEng e f).col = s.col := rfl
@[simp] theorem State.updEng_wdg (e : Eng) (f : Engine → Engine) : (s.updEng e f).wdg = s.wdg := rfl
@[simp] theorem State.updEng_rcd (e : Eng) (f : Engine → Engine) : (s.updEng e f).rcd = s.rcd := rfl
@[simp] theorem State.updEng_mon (e : Eng) (f : Engine → Engine) : (s.updEng e f).mon = s.mon := rfl
@[simp] theorem State.updEng_sht (e : Eng) (f : Engine → Engine) : (s.updEng e f).sht = s.sht := rfl
@[simp] theorem State.updEng_jsn (e : Eng) (f : Engine → Engine) : (s.updEng e f).jsn = s.jsn := rfl
@[simp] theorem State.updEng_dev (e : Eng) (f : Engine → Engine) : (s.updEng e f).dev = s.dev := rfl
@[simp] theorem State.updEng_boot (e : Eng) (f : Engine → Engine) : (s.updEng e f).boot = s.boot := rfl
@[simp] theorem State.updEng_clk (e : Eng) (f : Engine → Engine) : (s.updEng e f).clk = s.clk := rfl
@[simp] theorem State.updEng_tap (e : Eng) (f : Engine → Engine) : (s.updEng e f).tap = s.tap := rfl

/-! ### updThr -/

@[simp] theorem State.updThr_pending (e : Eng) (t : Thr) (f : Thread → Thread) : (s.updThr e t f).pending = s.pending := rfl
@[simp] theorem State.updThr_fk (e : Eng) (t : Thr) (f : Thread → Thread) : (s.updThr e t f).fk = s.fk := rfl
@[simp] theorem State.updThr_runFk (e : Eng) (t : Thr) (f : Thread → Thread) : (s.updThr e t f).runFk = s.runFk := rfl
@[simp] theorem State.updThr_free (e : Eng) (t : Thr) (f : Thread → Thread) : (s.updThr e t f).free = s.free := rfl
@[simp] theorem State.updThr_runs (e : Eng) (t : Thr) (f : Thread → Thread) : (s.updThr e t f).runs = s.runs := rfl
@[simp] theorem State.updThr_regs (e : Eng) (t : Thr) (f : Thread → Thread) : (s.updThr e t f).regs = s.regs := rfl
@[simp] theorem State.updThr_mem (e : Eng) (t : Thr) (f : Thread → Thread) : (s.updThr e t f).mem = s.mem := rfl
@[simp] theorem State.updThr_prog (e : Eng) (t : Thr) (f : Thread → Thread) : (s.updThr e t f).prog = s.prog := rfl
@[simp] theorem State.updThr_upset (e : Eng) (t : Thr) (f : Thread → Thread) : (s.updThr e t f).upset = s.upset := rfl
@[simp] theorem State.updThr_flights (e : Eng) (t : Thr) (f : Thread → Thread) : (s.updThr e t f).flights = s.flights := rfl
@[simp] theorem State.updThr_clusters (e : Eng) (t : Thr) (f : Thread → Thread) : (s.updThr e t f).clusters = s.clusters := rfl
@[simp] theorem State.updThr_chans (e : Eng) (t : Thr) (f : Thread → Thread) : (s.updThr e t f).chans = s.chans := rfl
@[simp] theorem State.updThr_groups (e : Eng) (t : Thr) (f : Thread → Thread) : (s.updThr e t f).groups = s.groups := rfl
@[simp] theorem State.updThr_adc (e : Eng) (t : Thr) (f : Thread → Thread) : (s.updThr e t f).adc = s.adc := rfl
@[simp] theorem State.updThr_mtr (e : Eng) (t : Thr) (f : Thread → Thread) : (s.updThr e t f).mtr = s.mtr := rfl
@[simp] theorem State.updThr_trip (e : Eng) (t : Thr) (f : Thread → Thread) : (s.updThr e t f).trip = s.trip := rfl
@[simp] theorem State.updThr_col (e : Eng) (t : Thr) (f : Thread → Thread) : (s.updThr e t f).col = s.col := rfl
@[simp] theorem State.updThr_wdg (e : Eng) (t : Thr) (f : Thread → Thread) : (s.updThr e t f).wdg = s.wdg := rfl
@[simp] theorem State.updThr_rcd (e : Eng) (t : Thr) (f : Thread → Thread) : (s.updThr e t f).rcd = s.rcd := rfl
@[simp] theorem State.updThr_mon (e : Eng) (t : Thr) (f : Thread → Thread) : (s.updThr e t f).mon = s.mon := rfl
@[simp] theorem State.updThr_sht (e : Eng) (t : Thr) (f : Thread → Thread) : (s.updThr e t f).sht = s.sht := rfl
@[simp] theorem State.updThr_jsn (e : Eng) (t : Thr) (f : Thread → Thread) : (s.updThr e t f).jsn = s.jsn := rfl
@[simp] theorem State.updThr_dev (e : Eng) (t : Thr) (f : Thread → Thread) : (s.updThr e t f).dev = s.dev := rfl
@[simp] theorem State.updThr_boot (e : Eng) (t : Thr) (f : Thread → Thread) : (s.updThr e t f).boot = s.boot := rfl
@[simp] theorem State.updThr_clk (e : Eng) (t : Thr) (f : Thread → Thread) : (s.updThr e t f).clk = s.clk := rfl
@[simp] theorem State.updThr_tap (e : Eng) (t : Thr) (f : Thread → Thread) : (s.updThr e t f).tap = s.tap := rfl

/-! ### updClu -/

@[simp] theorem State.updClu_pending (c : Clu) (f : Cluster → Cluster) : (s.updClu c f).pending = s.pending := rfl
@[simp] theorem State.updClu_fk (c : Clu) (f : Cluster → Cluster) : (s.updClu c f).fk = s.fk := rfl
@[simp] theorem State.updClu_runFk (c : Clu) (f : Cluster → Cluster) : (s.updClu c f).runFk = s.runFk := rfl
@[simp] theorem State.updClu_free (c : Clu) (f : Cluster → Cluster) : (s.updClu c f).free = s.free := rfl
@[simp] theorem State.updClu_runs (c : Clu) (f : Cluster → Cluster) : (s.updClu c f).runs = s.runs := rfl
@[simp] theorem State.updClu_regs (c : Clu) (f : Cluster → Cluster) : (s.updClu c f).regs = s.regs := rfl
@[simp] theorem State.updClu_mem (c : Clu) (f : Cluster → Cluster) : (s.updClu c f).mem = s.mem := rfl
@[simp] theorem State.updClu_prog (c : Clu) (f : Cluster → Cluster) : (s.updClu c f).prog = s.prog := rfl
@[simp] theorem State.updClu_upset (c : Clu) (f : Cluster → Cluster) : (s.updClu c f).upset = s.upset := rfl
@[simp] theorem State.updClu_engines (c : Clu) (f : Cluster → Cluster) : (s.updClu c f).engines = s.engines := rfl
@[simp] theorem State.updClu_flights (c : Clu) (f : Cluster → Cluster) : (s.updClu c f).flights = s.flights := rfl
@[simp] theorem State.updClu_chans (c : Clu) (f : Cluster → Cluster) : (s.updClu c f).chans = s.chans := rfl
@[simp] theorem State.updClu_groups (c : Clu) (f : Cluster → Cluster) : (s.updClu c f).groups = s.groups := rfl
@[simp] theorem State.updClu_adc (c : Clu) (f : Cluster → Cluster) : (s.updClu c f).adc = s.adc := rfl
@[simp] theorem State.updClu_mtr (c : Clu) (f : Cluster → Cluster) : (s.updClu c f).mtr = s.mtr := rfl
@[simp] theorem State.updClu_trip (c : Clu) (f : Cluster → Cluster) : (s.updClu c f).trip = s.trip := rfl
@[simp] theorem State.updClu_col (c : Clu) (f : Cluster → Cluster) : (s.updClu c f).col = s.col := rfl
@[simp] theorem State.updClu_wdg (c : Clu) (f : Cluster → Cluster) : (s.updClu c f).wdg = s.wdg := rfl
@[simp] theorem State.updClu_rcd (c : Clu) (f : Cluster → Cluster) : (s.updClu c f).rcd = s.rcd := rfl
@[simp] theorem State.updClu_mon (c : Clu) (f : Cluster → Cluster) : (s.updClu c f).mon = s.mon := rfl
@[simp] theorem State.updClu_sht (c : Clu) (f : Cluster → Cluster) : (s.updClu c f).sht = s.sht := rfl
@[simp] theorem State.updClu_jsn (c : Clu) (f : Cluster → Cluster) : (s.updClu c f).jsn = s.jsn := rfl
@[simp] theorem State.updClu_dev (c : Clu) (f : Cluster → Cluster) : (s.updClu c f).dev = s.dev := rfl
@[simp] theorem State.updClu_boot (c : Clu) (f : Cluster → Cluster) : (s.updClu c f).boot = s.boot := rfl
@[simp] theorem State.updClu_clk (c : Clu) (f : Cluster → Cluster) : (s.updClu c f).clk = s.clk := rfl
@[simp] theorem State.updClu_tap (c : Clu) (f : Cluster → Cluster) : (s.updClu c f).tap = s.tap := rfl

/-! ### updChan -/

@[simp] theorem State.updChan_pending (n : Chan) (f : Channel → Channel) : (s.updChan n f).pending = s.pending := rfl
@[simp] theorem State.updChan_fk (n : Chan) (f : Channel → Channel) : (s.updChan n f).fk = s.fk := rfl
@[simp] theorem State.updChan_runFk (n : Chan) (f : Channel → Channel) : (s.updChan n f).runFk = s.runFk := rfl
@[simp] theorem State.updChan_free (n : Chan) (f : Channel → Channel) : (s.updChan n f).free = s.free := rfl
@[simp] theorem State.updChan_runs (n : Chan) (f : Channel → Channel) : (s.updChan n f).runs = s.runs := rfl
@[simp] theorem State.updChan_regs (n : Chan) (f : Channel → Channel) : (s.updChan n f).regs = s.regs := rfl
@[simp] theorem State.updChan_mem (n : Chan) (f : Channel → Channel) : (s.updChan n f).mem = s.mem := rfl
@[simp] theorem State.updChan_prog (n : Chan) (f : Channel → Channel) : (s.updChan n f).prog = s.prog := rfl
@[simp] theorem State.updChan_upset (n : Chan) (f : Channel → Channel) : (s.updChan n f).upset = s.upset := rfl
@[simp] theorem State.updChan_engines (n : Chan) (f : Channel → Channel) : (s.updChan n f).engines = s.engines := rfl
@[simp] theorem State.updChan_flights (n : Chan) (f : Channel → Channel) : (s.updChan n f).flights = s.flights := rfl
@[simp] theorem State.updChan_clusters (n : Chan) (f : Channel → Channel) : (s.updChan n f).clusters = s.clusters := rfl
@[simp] theorem State.updChan_groups (n : Chan) (f : Channel → Channel) : (s.updChan n f).groups = s.groups := rfl
@[simp] theorem State.updChan_adc (n : Chan) (f : Channel → Channel) : (s.updChan n f).adc = s.adc := rfl
@[simp] theorem State.updChan_mtr (n : Chan) (f : Channel → Channel) : (s.updChan n f).mtr = s.mtr := rfl
@[simp] theorem State.updChan_trip (n : Chan) (f : Channel → Channel) : (s.updChan n f).trip = s.trip := rfl
@[simp] theorem State.updChan_col (n : Chan) (f : Channel → Channel) : (s.updChan n f).col = s.col := rfl
@[simp] theorem State.updChan_wdg (n : Chan) (f : Channel → Channel) : (s.updChan n f).wdg = s.wdg := rfl
@[simp] theorem State.updChan_rcd (n : Chan) (f : Channel → Channel) : (s.updChan n f).rcd = s.rcd := rfl
@[simp] theorem State.updChan_mon (n : Chan) (f : Channel → Channel) : (s.updChan n f).mon = s.mon := rfl
@[simp] theorem State.updChan_sht (n : Chan) (f : Channel → Channel) : (s.updChan n f).sht = s.sht := rfl
@[simp] theorem State.updChan_jsn (n : Chan) (f : Channel → Channel) : (s.updChan n f).jsn = s.jsn := rfl
@[simp] theorem State.updChan_dev (n : Chan) (f : Channel → Channel) : (s.updChan n f).dev = s.dev := rfl
@[simp] theorem State.updChan_boot (n : Chan) (f : Channel → Channel) : (s.updChan n f).boot = s.boot := rfl
@[simp] theorem State.updChan_clk (n : Chan) (f : Channel → Channel) : (s.updChan n f).clk = s.clk := rfl
@[simp] theorem State.updChan_tap (n : Chan) (f : Channel → Channel) : (s.updChan n f).tap = s.tap := rfl

/-! ### updCol -/

@[simp] theorem State.updCol_pending (f : Collector → Collector) : (s.updCol f).pending = s.pending := rfl
@[simp] theorem State.updCol_fk (f : Collector → Collector) : (s.updCol f).fk = s.fk := rfl
@[simp] theorem State.updCol_runFk (f : Collector → Collector) : (s.updCol f).runFk = s.runFk := rfl
@[simp] theorem State.updCol_free (f : Collector → Collector) : (s.updCol f).free = s.free := rfl
@[simp] theorem State.updCol_runs (f : Collector → Collector) : (s.updCol f).runs = s.runs := rfl
@[simp] theorem State.updCol_regs (f : Collector → Collector) : (s.updCol f).regs = s.regs := rfl
@[simp] theorem State.updCol_mem (f : Collector → Collector) : (s.updCol f).mem = s.mem := rfl
@[simp] theorem State.updCol_prog (f : Collector → Collector) : (s.updCol f).prog = s.prog := rfl
@[simp] theorem State.updCol_upset (f : Collector → Collector) : (s.updCol f).upset = s.upset := rfl
@[simp] theorem State.updCol_engines (f : Collector → Collector) : (s.updCol f).engines = s.engines := rfl
@[simp] theorem State.updCol_flights (f : Collector → Collector) : (s.updCol f).flights = s.flights := rfl
@[simp] theorem State.updCol_clusters (f : Collector → Collector) : (s.updCol f).clusters = s.clusters := rfl
@[simp] theorem State.updCol_chans (f : Collector → Collector) : (s.updCol f).chans = s.chans := rfl
@[simp] theorem State.updCol_groups (f : Collector → Collector) : (s.updCol f).groups = s.groups := rfl
@[simp] theorem State.updCol_adc (f : Collector → Collector) : (s.updCol f).adc = s.adc := rfl
@[simp] theorem State.updCol_mtr (f : Collector → Collector) : (s.updCol f).mtr = s.mtr := rfl
@[simp] theorem State.updCol_trip (f : Collector → Collector) : (s.updCol f).trip = s.trip := rfl
@[simp] theorem State.updCol_col (f : Collector → Collector) : (s.updCol f).col = f s.col := rfl
@[simp] theorem State.updCol_wdg (f : Collector → Collector) : (s.updCol f).wdg = s.wdg := rfl
@[simp] theorem State.updCol_rcd (f : Collector → Collector) : (s.updCol f).rcd = s.rcd := rfl
@[simp] theorem State.updCol_mon (f : Collector → Collector) : (s.updCol f).mon = s.mon := rfl
@[simp] theorem State.updCol_sht (f : Collector → Collector) : (s.updCol f).sht = s.sht := rfl
@[simp] theorem State.updCol_jsn (f : Collector → Collector) : (s.updCol f).jsn = s.jsn := rfl
@[simp] theorem State.updCol_dev (f : Collector → Collector) : (s.updCol f).dev = s.dev := rfl
@[simp] theorem State.updCol_boot (f : Collector → Collector) : (s.updCol f).boot = s.boot := rfl
@[simp] theorem State.updCol_clk (f : Collector → Collector) : (s.updCol f).clk = s.clk := rfl
@[simp] theorem State.updCol_tap (f : Collector → Collector) : (s.updCol f).tap = s.tap := rfl

/-! ### updSrc -/

@[simp] theorem State.updSrc_pending (n : Fin 160) (f : Source → Source) : (s.updSrc n f).pending = s.pending := rfl
@[simp] theorem State.updSrc_fk (n : Fin 160) (f : Source → Source) : (s.updSrc n f).fk = s.fk := rfl
@[simp] theorem State.updSrc_runFk (n : Fin 160) (f : Source → Source) : (s.updSrc n f).runFk = s.runFk := rfl
@[simp] theorem State.updSrc_free (n : Fin 160) (f : Source → Source) : (s.updSrc n f).free = s.free := rfl
@[simp] theorem State.updSrc_runs (n : Fin 160) (f : Source → Source) : (s.updSrc n f).runs = s.runs := rfl
@[simp] theorem State.updSrc_regs (n : Fin 160) (f : Source → Source) : (s.updSrc n f).regs = s.regs := rfl
@[simp] theorem State.updSrc_mem (n : Fin 160) (f : Source → Source) : (s.updSrc n f).mem = s.mem := rfl
@[simp] theorem State.updSrc_prog (n : Fin 160) (f : Source → Source) : (s.updSrc n f).prog = s.prog := rfl
@[simp] theorem State.updSrc_upset (n : Fin 160) (f : Source → Source) : (s.updSrc n f).upset = s.upset := rfl
@[simp] theorem State.updSrc_engines (n : Fin 160) (f : Source → Source) : (s.updSrc n f).engines = s.engines := rfl
@[simp] theorem State.updSrc_flights (n : Fin 160) (f : Source → Source) : (s.updSrc n f).flights = s.flights := rfl
@[simp] theorem State.updSrc_clusters (n : Fin 160) (f : Source → Source) : (s.updSrc n f).clusters = s.clusters := rfl
@[simp] theorem State.updSrc_chans (n : Fin 160) (f : Source → Source) : (s.updSrc n f).chans = s.chans := rfl
@[simp] theorem State.updSrc_groups (n : Fin 160) (f : Source → Source) : (s.updSrc n f).groups = s.groups := rfl
@[simp] theorem State.updSrc_adc (n : Fin 160) (f : Source → Source) : (s.updSrc n f).adc = s.adc := rfl
@[simp] theorem State.updSrc_mtr (n : Fin 160) (f : Source → Source) : (s.updSrc n f).mtr = s.mtr := rfl
@[simp] theorem State.updSrc_trip (n : Fin 160) (f : Source → Source) : (s.updSrc n f).trip = s.trip := rfl
@[simp] theorem State.updSrc_wdg (n : Fin 160) (f : Source → Source) : (s.updSrc n f).wdg = s.wdg := rfl
@[simp] theorem State.updSrc_rcd (n : Fin 160) (f : Source → Source) : (s.updSrc n f).rcd = s.rcd := rfl
@[simp] theorem State.updSrc_mon (n : Fin 160) (f : Source → Source) : (s.updSrc n f).mon = s.mon := rfl
@[simp] theorem State.updSrc_sht (n : Fin 160) (f : Source → Source) : (s.updSrc n f).sht = s.sht := rfl
@[simp] theorem State.updSrc_jsn (n : Fin 160) (f : Source → Source) : (s.updSrc n f).jsn = s.jsn := rfl
@[simp] theorem State.updSrc_dev (n : Fin 160) (f : Source → Source) : (s.updSrc n f).dev = s.dev := rfl
@[simp] theorem State.updSrc_boot (n : Fin 160) (f : Source → Source) : (s.updSrc n f).boot = s.boot := rfl
@[simp] theorem State.updSrc_clk (n : Fin 160) (f : Source → Source) : (s.updSrc n f).clk = s.clk := rfl
@[simp] theorem State.updSrc_tap (n : Fin 160) (f : Source → Source) : (s.updSrc n f).tap = s.tap := rfl

/-! ### updTrip -/

@[simp] theorem State.updTrip_pending (f : Trip → Trip) : (s.updTrip f).pending = s.pending := rfl
@[simp] theorem State.updTrip_fk (f : Trip → Trip) : (s.updTrip f).fk = s.fk := rfl
@[simp] theorem State.updTrip_runFk (f : Trip → Trip) : (s.updTrip f).runFk = s.runFk := rfl
@[simp] theorem State.updTrip_free (f : Trip → Trip) : (s.updTrip f).free = s.free := rfl
@[simp] theorem State.updTrip_runs (f : Trip → Trip) : (s.updTrip f).runs = s.runs := rfl
@[simp] theorem State.updTrip_regs (f : Trip → Trip) : (s.updTrip f).regs = s.regs := rfl
@[simp] theorem State.updTrip_mem (f : Trip → Trip) : (s.updTrip f).mem = s.mem := rfl
@[simp] theorem State.updTrip_prog (f : Trip → Trip) : (s.updTrip f).prog = s.prog := rfl
@[simp] theorem State.updTrip_upset (f : Trip → Trip) : (s.updTrip f).upset = s.upset := rfl
@[simp] theorem State.updTrip_engines (f : Trip → Trip) : (s.updTrip f).engines = s.engines := rfl
@[simp] theorem State.updTrip_flights (f : Trip → Trip) : (s.updTrip f).flights = s.flights := rfl
@[simp] theorem State.updTrip_clusters (f : Trip → Trip) : (s.updTrip f).clusters = s.clusters := rfl
@[simp] theorem State.updTrip_chans (f : Trip → Trip) : (s.updTrip f).chans = s.chans := rfl
@[simp] theorem State.updTrip_groups (f : Trip → Trip) : (s.updTrip f).groups = s.groups := rfl
@[simp] theorem State.updTrip_adc (f : Trip → Trip) : (s.updTrip f).adc = s.adc := rfl
@[simp] theorem State.updTrip_mtr (f : Trip → Trip) : (s.updTrip f).mtr = s.mtr := rfl
@[simp] theorem State.updTrip_trip (f : Trip → Trip) : (s.updTrip f).trip = f s.trip := rfl
@[simp] theorem State.updTrip_col (f : Trip → Trip) : (s.updTrip f).col = s.col := rfl
@[simp] theorem State.updTrip_wdg (f : Trip → Trip) : (s.updTrip f).wdg = s.wdg := rfl
@[simp] theorem State.updTrip_rcd (f : Trip → Trip) : (s.updTrip f).rcd = s.rcd := rfl
@[simp] theorem State.updTrip_mon (f : Trip → Trip) : (s.updTrip f).mon = s.mon := rfl
@[simp] theorem State.updTrip_sht (f : Trip → Trip) : (s.updTrip f).sht = s.sht := rfl
@[simp] theorem State.updTrip_jsn (f : Trip → Trip) : (s.updTrip f).jsn = s.jsn := rfl
@[simp] theorem State.updTrip_dev (f : Trip → Trip) : (s.updTrip f).dev = s.dev := rfl
@[simp] theorem State.updTrip_boot (f : Trip → Trip) : (s.updTrip f).boot = s.boot := rfl
@[simp] theorem State.updTrip_clk (f : Trip → Trip) : (s.updTrip f).clk = s.clk := rfl
@[simp] theorem State.updTrip_tap (f : Trip → Trip) : (s.updTrip f).tap = s.tap := rfl

/-! ### updRcd -/

@[simp] theorem State.updRcd_pending (f : Recorder → Recorder) : (s.updRcd f).pending = s.pending := rfl
@[simp] theorem State.updRcd_fk (f : Recorder → Recorder) : (s.updRcd f).fk = s.fk := rfl
@[simp] theorem State.updRcd_runFk (f : Recorder → Recorder) : (s.updRcd f).runFk = s.runFk := rfl
@[simp] theorem State.updRcd_free (f : Recorder → Recorder) : (s.updRcd f).free = s.free := rfl
@[simp] theorem State.updRcd_runs (f : Recorder → Recorder) : (s.updRcd f).runs = s.runs := rfl
@[simp] theorem State.updRcd_regs (f : Recorder → Recorder) : (s.updRcd f).regs = s.regs := rfl
@[simp] theorem State.updRcd_mem (f : Recorder → Recorder) : (s.updRcd f).mem = s.mem := rfl
@[simp] theorem State.updRcd_prog (f : Recorder → Recorder) : (s.updRcd f).prog = s.prog := rfl
@[simp] theorem State.updRcd_upset (f : Recorder → Recorder) : (s.updRcd f).upset = s.upset := rfl
@[simp] theorem State.updRcd_engines (f : Recorder → Recorder) : (s.updRcd f).engines = s.engines := rfl
@[simp] theorem State.updRcd_flights (f : Recorder → Recorder) : (s.updRcd f).flights = s.flights := rfl
@[simp] theorem State.updRcd_clusters (f : Recorder → Recorder) : (s.updRcd f).clusters = s.clusters := rfl
@[simp] theorem State.updRcd_chans (f : Recorder → Recorder) : (s.updRcd f).chans = s.chans := rfl
@[simp] theorem State.updRcd_groups (f : Recorder → Recorder) : (s.updRcd f).groups = s.groups := rfl
@[simp] theorem State.updRcd_adc (f : Recorder → Recorder) : (s.updRcd f).adc = s.adc := rfl
@[simp] theorem State.updRcd_mtr (f : Recorder → Recorder) : (s.updRcd f).mtr = s.mtr := rfl
@[simp] theorem State.updRcd_trip (f : Recorder → Recorder) : (s.updRcd f).trip = s.trip := rfl
@[simp] theorem State.updRcd_col (f : Recorder → Recorder) : (s.updRcd f).col = s.col := rfl
@[simp] theorem State.updRcd_wdg (f : Recorder → Recorder) : (s.updRcd f).wdg = s.wdg := rfl
@[simp] theorem State.updRcd_rcd (f : Recorder → Recorder) : (s.updRcd f).rcd = f s.rcd := rfl
@[simp] theorem State.updRcd_mon (f : Recorder → Recorder) : (s.updRcd f).mon = s.mon := rfl
@[simp] theorem State.updRcd_sht (f : Recorder → Recorder) : (s.updRcd f).sht = s.sht := rfl
@[simp] theorem State.updRcd_jsn (f : Recorder → Recorder) : (s.updRcd f).jsn = s.jsn := rfl
@[simp] theorem State.updRcd_dev (f : Recorder → Recorder) : (s.updRcd f).dev = s.dev := rfl
@[simp] theorem State.updRcd_boot (f : Recorder → Recorder) : (s.updRcd f).boot = s.boot := rfl
@[simp] theorem State.updRcd_clk (f : Recorder → Recorder) : (s.updRcd f).clk = s.clk := rfl
@[simp] theorem State.updRcd_tap (f : Recorder → Recorder) : (s.updRcd f).tap = s.tap := rfl

/-! ### updWdg -/

@[simp] theorem State.updWdg_pending (f : Watchdog → Watchdog) : (s.updWdg f).pending = s.pending := rfl
@[simp] theorem State.updWdg_fk (f : Watchdog → Watchdog) : (s.updWdg f).fk = s.fk := rfl
@[simp] theorem State.updWdg_runFk (f : Watchdog → Watchdog) : (s.updWdg f).runFk = s.runFk := rfl
@[simp] theorem State.updWdg_free (f : Watchdog → Watchdog) : (s.updWdg f).free = s.free := rfl
@[simp] theorem State.updWdg_runs (f : Watchdog → Watchdog) : (s.updWdg f).runs = s.runs := rfl
@[simp] theorem State.updWdg_regs (f : Watchdog → Watchdog) : (s.updWdg f).regs = s.regs := rfl
@[simp] theorem State.updWdg_mem (f : Watchdog → Watchdog) : (s.updWdg f).mem = s.mem := rfl
@[simp] theorem State.updWdg_prog (f : Watchdog → Watchdog) : (s.updWdg f).prog = s.prog := rfl
@[simp] theorem State.updWdg_upset (f : Watchdog → Watchdog) : (s.updWdg f).upset = s.upset := rfl
@[simp] theorem State.updWdg_engines (f : Watchdog → Watchdog) : (s.updWdg f).engines = s.engines := rfl
@[simp] theorem State.updWdg_flights (f : Watchdog → Watchdog) : (s.updWdg f).flights = s.flights := rfl
@[simp] theorem State.updWdg_clusters (f : Watchdog → Watchdog) : (s.updWdg f).clusters = s.clusters := rfl
@[simp] theorem State.updWdg_chans (f : Watchdog → Watchdog) : (s.updWdg f).chans = s.chans := rfl
@[simp] theorem State.updWdg_groups (f : Watchdog → Watchdog) : (s.updWdg f).groups = s.groups := rfl
@[simp] theorem State.updWdg_adc (f : Watchdog → Watchdog) : (s.updWdg f).adc = s.adc := rfl
@[simp] theorem State.updWdg_mtr (f : Watchdog → Watchdog) : (s.updWdg f).mtr = s.mtr := rfl
@[simp] theorem State.updWdg_trip (f : Watchdog → Watchdog) : (s.updWdg f).trip = s.trip := rfl
@[simp] theorem State.updWdg_col (f : Watchdog → Watchdog) : (s.updWdg f).col = s.col := rfl
@[simp] theorem State.updWdg_wdg (f : Watchdog → Watchdog) : (s.updWdg f).wdg = f s.wdg := rfl
@[simp] theorem State.updWdg_rcd (f : Watchdog → Watchdog) : (s.updWdg f).rcd = s.rcd := rfl
@[simp] theorem State.updWdg_mon (f : Watchdog → Watchdog) : (s.updWdg f).mon = s.mon := rfl
@[simp] theorem State.updWdg_sht (f : Watchdog → Watchdog) : (s.updWdg f).sht = s.sht := rfl
@[simp] theorem State.updWdg_jsn (f : Watchdog → Watchdog) : (s.updWdg f).jsn = s.jsn := rfl
@[simp] theorem State.updWdg_dev (f : Watchdog → Watchdog) : (s.updWdg f).dev = s.dev := rfl
@[simp] theorem State.updWdg_boot (f : Watchdog → Watchdog) : (s.updWdg f).boot = s.boot := rfl
@[simp] theorem State.updWdg_clk (f : Watchdog → Watchdog) : (s.updWdg f).clk = s.clk := rfl
@[simp] theorem State.updWdg_tap (f : Watchdog → Watchdog) : (s.updWdg f).tap = s.tap := rfl

/-! ### updSht -/

@[simp] theorem State.updSht_pending (f : Shuttle → Shuttle) : (s.updSht f).pending = s.pending := rfl
@[simp] theorem State.updSht_fk (f : Shuttle → Shuttle) : (s.updSht f).fk = s.fk := rfl
@[simp] theorem State.updSht_runFk (f : Shuttle → Shuttle) : (s.updSht f).runFk = s.runFk := rfl
@[simp] theorem State.updSht_free (f : Shuttle → Shuttle) : (s.updSht f).free = s.free := rfl
@[simp] theorem State.updSht_runs (f : Shuttle → Shuttle) : (s.updSht f).runs = s.runs := rfl
@[simp] theorem State.updSht_regs (f : Shuttle → Shuttle) : (s.updSht f).regs = s.regs := rfl
@[simp] theorem State.updSht_mem (f : Shuttle → Shuttle) : (s.updSht f).mem = s.mem := rfl
@[simp] theorem State.updSht_prog (f : Shuttle → Shuttle) : (s.updSht f).prog = s.prog := rfl
@[simp] theorem State.updSht_upset (f : Shuttle → Shuttle) : (s.updSht f).upset = s.upset := rfl
@[simp] theorem State.updSht_engines (f : Shuttle → Shuttle) : (s.updSht f).engines = s.engines := rfl
@[simp] theorem State.updSht_flights (f : Shuttle → Shuttle) : (s.updSht f).flights = s.flights := rfl
@[simp] theorem State.updSht_clusters (f : Shuttle → Shuttle) : (s.updSht f).clusters = s.clusters := rfl
@[simp] theorem State.updSht_chans (f : Shuttle → Shuttle) : (s.updSht f).chans = s.chans := rfl
@[simp] theorem State.updSht_groups (f : Shuttle → Shuttle) : (s.updSht f).groups = s.groups := rfl
@[simp] theorem State.updSht_adc (f : Shuttle → Shuttle) : (s.updSht f).adc = s.adc := rfl
@[simp] theorem State.updSht_mtr (f : Shuttle → Shuttle) : (s.updSht f).mtr = s.mtr := rfl
@[simp] theorem State.updSht_trip (f : Shuttle → Shuttle) : (s.updSht f).trip = s.trip := rfl
@[simp] theorem State.updSht_col (f : Shuttle → Shuttle) : (s.updSht f).col = s.col := rfl
@[simp] theorem State.updSht_wdg (f : Shuttle → Shuttle) : (s.updSht f).wdg = s.wdg := rfl
@[simp] theorem State.updSht_rcd (f : Shuttle → Shuttle) : (s.updSht f).rcd = s.rcd := rfl
@[simp] theorem State.updSht_mon (f : Shuttle → Shuttle) : (s.updSht f).mon = s.mon := rfl
@[simp] theorem State.updSht_sht (f : Shuttle → Shuttle) : (s.updSht f).sht = f s.sht := rfl
@[simp] theorem State.updSht_jsn (f : Shuttle → Shuttle) : (s.updSht f).jsn = s.jsn := rfl
@[simp] theorem State.updSht_dev (f : Shuttle → Shuttle) : (s.updSht f).dev = s.dev := rfl
@[simp] theorem State.updSht_boot (f : Shuttle → Shuttle) : (s.updSht f).boot = s.boot := rfl
@[simp] theorem State.updSht_clk (f : Shuttle → Shuttle) : (s.updSht f).clk = s.clk := rfl
@[simp] theorem State.updSht_tap (f : Shuttle → Shuttle) : (s.updSht f).tap = s.tap := rfl

/-! ### updJsn -/

@[simp] theorem State.updJsn_pending (f : Jarsyn → Jarsyn) : (s.updJsn f).pending = s.pending := rfl
@[simp] theorem State.updJsn_fk (f : Jarsyn → Jarsyn) : (s.updJsn f).fk = s.fk := rfl
@[simp] theorem State.updJsn_runFk (f : Jarsyn → Jarsyn) : (s.updJsn f).runFk = s.runFk := rfl
@[simp] theorem State.updJsn_free (f : Jarsyn → Jarsyn) : (s.updJsn f).free = s.free := rfl
@[simp] theorem State.updJsn_runs (f : Jarsyn → Jarsyn) : (s.updJsn f).runs = s.runs := rfl
@[simp] theorem State.updJsn_regs (f : Jarsyn → Jarsyn) : (s.updJsn f).regs = s.regs := rfl
@[simp] theorem State.updJsn_mem (f : Jarsyn → Jarsyn) : (s.updJsn f).mem = s.mem := rfl
@[simp] theorem State.updJsn_prog (f : Jarsyn → Jarsyn) : (s.updJsn f).prog = s.prog := rfl
@[simp] theorem State.updJsn_upset (f : Jarsyn → Jarsyn) : (s.updJsn f).upset = s.upset := rfl
@[simp] theorem State.updJsn_engines (f : Jarsyn → Jarsyn) : (s.updJsn f).engines = s.engines := rfl
@[simp] theorem State.updJsn_flights (f : Jarsyn → Jarsyn) : (s.updJsn f).flights = s.flights := rfl
@[simp] theorem State.updJsn_clusters (f : Jarsyn → Jarsyn) : (s.updJsn f).clusters = s.clusters := rfl
@[simp] theorem State.updJsn_chans (f : Jarsyn → Jarsyn) : (s.updJsn f).chans = s.chans := rfl
@[simp] theorem State.updJsn_groups (f : Jarsyn → Jarsyn) : (s.updJsn f).groups = s.groups := rfl
@[simp] theorem State.updJsn_adc (f : Jarsyn → Jarsyn) : (s.updJsn f).adc = s.adc := rfl
@[simp] theorem State.updJsn_mtr (f : Jarsyn → Jarsyn) : (s.updJsn f).mtr = s.mtr := rfl
@[simp] theorem State.updJsn_trip (f : Jarsyn → Jarsyn) : (s.updJsn f).trip = s.trip := rfl
@[simp] theorem State.updJsn_col (f : Jarsyn → Jarsyn) : (s.updJsn f).col = s.col := rfl
@[simp] theorem State.updJsn_wdg (f : Jarsyn → Jarsyn) : (s.updJsn f).wdg = s.wdg := rfl
@[simp] theorem State.updJsn_rcd (f : Jarsyn → Jarsyn) : (s.updJsn f).rcd = s.rcd := rfl
@[simp] theorem State.updJsn_mon (f : Jarsyn → Jarsyn) : (s.updJsn f).mon = s.mon := rfl
@[simp] theorem State.updJsn_sht (f : Jarsyn → Jarsyn) : (s.updJsn f).sht = s.sht := rfl
@[simp] theorem State.updJsn_jsn (f : Jarsyn → Jarsyn) : (s.updJsn f).jsn = f s.jsn := rfl
@[simp] theorem State.updJsn_dev (f : Jarsyn → Jarsyn) : (s.updJsn f).dev = s.dev := rfl
@[simp] theorem State.updJsn_boot (f : Jarsyn → Jarsyn) : (s.updJsn f).boot = s.boot := rfl
@[simp] theorem State.updJsn_clk (f : Jarsyn → Jarsyn) : (s.updJsn f).clk = s.clk := rfl
@[simp] theorem State.updJsn_tap (f : Jarsyn → Jarsyn) : (s.updJsn f).tap = s.tap := rfl

/-! ### updDev -/

@[simp] theorem State.updDev_pending (f : Dev → Dev) : (s.updDev f).pending = s.pending := rfl
@[simp] theorem State.updDev_fk (f : Dev → Dev) : (s.updDev f).fk = s.fk := rfl
@[simp] theorem State.updDev_runFk (f : Dev → Dev) : (s.updDev f).runFk = s.runFk := rfl
@[simp] theorem State.updDev_free (f : Dev → Dev) : (s.updDev f).free = s.free := rfl
@[simp] theorem State.updDev_runs (f : Dev → Dev) : (s.updDev f).runs = s.runs := rfl
@[simp] theorem State.updDev_regs (f : Dev → Dev) : (s.updDev f).regs = s.regs := rfl
@[simp] theorem State.updDev_mem (f : Dev → Dev) : (s.updDev f).mem = s.mem := rfl
@[simp] theorem State.updDev_prog (f : Dev → Dev) : (s.updDev f).prog = s.prog := rfl
@[simp] theorem State.updDev_upset (f : Dev → Dev) : (s.updDev f).upset = s.upset := rfl
@[simp] theorem State.updDev_engines (f : Dev → Dev) : (s.updDev f).engines = s.engines := rfl
@[simp] theorem State.updDev_flights (f : Dev → Dev) : (s.updDev f).flights = s.flights := rfl
@[simp] theorem State.updDev_clusters (f : Dev → Dev) : (s.updDev f).clusters = s.clusters := rfl
@[simp] theorem State.updDev_chans (f : Dev → Dev) : (s.updDev f).chans = s.chans := rfl
@[simp] theorem State.updDev_groups (f : Dev → Dev) : (s.updDev f).groups = s.groups := rfl
@[simp] theorem State.updDev_adc (f : Dev → Dev) : (s.updDev f).adc = s.adc := rfl
@[simp] theorem State.updDev_mtr (f : Dev → Dev) : (s.updDev f).mtr = s.mtr := rfl
@[simp] theorem State.updDev_trip (f : Dev → Dev) : (s.updDev f).trip = s.trip := rfl
@[simp] theorem State.updDev_col (f : Dev → Dev) : (s.updDev f).col = s.col := rfl
@[simp] theorem State.updDev_wdg (f : Dev → Dev) : (s.updDev f).wdg = s.wdg := rfl
@[simp] theorem State.updDev_rcd (f : Dev → Dev) : (s.updDev f).rcd = s.rcd := rfl
@[simp] theorem State.updDev_mon (f : Dev → Dev) : (s.updDev f).mon = s.mon := rfl
@[simp] theorem State.updDev_sht (f : Dev → Dev) : (s.updDev f).sht = s.sht := rfl
@[simp] theorem State.updDev_jsn (f : Dev → Dev) : (s.updDev f).jsn = s.jsn := rfl
@[simp] theorem State.updDev_dev (f : Dev → Dev) : (s.updDev f).dev = f s.dev := rfl
@[simp] theorem State.updDev_boot (f : Dev → Dev) : (s.updDev f).boot = s.boot := rfl
@[simp] theorem State.updDev_clk (f : Dev → Dev) : (s.updDev f).clk = s.clk := rfl
@[simp] theorem State.updDev_tap (f : Dev → Dev) : (s.updDev f).tap = s.tap := rfl

/-! ### updBoot -/

@[simp] theorem State.updBoot_pending (f : Boot → Boot) : (s.updBoot f).pending = s.pending := rfl
@[simp] theorem State.updBoot_fk (f : Boot → Boot) : (s.updBoot f).fk = s.fk := rfl
@[simp] theorem State.updBoot_runFk (f : Boot → Boot) : (s.updBoot f).runFk = s.runFk := rfl
@[simp] theorem State.updBoot_free (f : Boot → Boot) : (s.updBoot f).free = s.free := rfl
@[simp] theorem State.updBoot_runs (f : Boot → Boot) : (s.updBoot f).runs = s.runs := rfl
@[simp] theorem State.updBoot_regs (f : Boot → Boot) : (s.updBoot f).regs = s.regs := rfl
@[simp] theorem State.updBoot_mem (f : Boot → Boot) : (s.updBoot f).mem = s.mem := rfl
@[simp] theorem State.updBoot_prog (f : Boot → Boot) : (s.updBoot f).prog = s.prog := rfl
@[simp] theorem State.updBoot_upset (f : Boot → Boot) : (s.updBoot f).upset = s.upset := rfl
@[simp] theorem State.updBoot_engines (f : Boot → Boot) : (s.updBoot f).engines = s.engines := rfl
@[simp] theorem State.updBoot_flights (f : Boot → Boot) : (s.updBoot f).flights = s.flights := rfl
@[simp] theorem State.updBoot_clusters (f : Boot → Boot) : (s.updBoot f).clusters = s.clusters := rfl
@[simp] theorem State.updBoot_chans (f : Boot → Boot) : (s.updBoot f).chans = s.chans := rfl
@[simp] theorem State.updBoot_groups (f : Boot → Boot) : (s.updBoot f).groups = s.groups := rfl
@[simp] theorem State.updBoot_adc (f : Boot → Boot) : (s.updBoot f).adc = s.adc := rfl
@[simp] theorem State.updBoot_mtr (f : Boot → Boot) : (s.updBoot f).mtr = s.mtr := rfl
@[simp] theorem State.updBoot_trip (f : Boot → Boot) : (s.updBoot f).trip = s.trip := rfl
@[simp] theorem State.updBoot_col (f : Boot → Boot) : (s.updBoot f).col = s.col := rfl
@[simp] theorem State.updBoot_wdg (f : Boot → Boot) : (s.updBoot f).wdg = s.wdg := rfl
@[simp] theorem State.updBoot_rcd (f : Boot → Boot) : (s.updBoot f).rcd = s.rcd := rfl
@[simp] theorem State.updBoot_mon (f : Boot → Boot) : (s.updBoot f).mon = s.mon := rfl
@[simp] theorem State.updBoot_sht (f : Boot → Boot) : (s.updBoot f).sht = s.sht := rfl
@[simp] theorem State.updBoot_jsn (f : Boot → Boot) : (s.updBoot f).jsn = s.jsn := rfl
@[simp] theorem State.updBoot_dev (f : Boot → Boot) : (s.updBoot f).dev = s.dev := rfl
@[simp] theorem State.updBoot_boot (f : Boot → Boot) : (s.updBoot f).boot = f s.boot := rfl
@[simp] theorem State.updBoot_clk (f : Boot → Boot) : (s.updBoot f).clk = s.clk := rfl
@[simp] theorem State.updBoot_tap (f : Boot → Boot) : (s.updBoot f).tap = s.tap := rfl

/-! ### updClk -/

@[simp] theorem State.updClk_pending (f : Clk → Clk) : (s.updClk f).pending = s.pending := rfl
@[simp] theorem State.updClk_fk (f : Clk → Clk) : (s.updClk f).fk = s.fk := rfl
@[simp] theorem State.updClk_runFk (f : Clk → Clk) : (s.updClk f).runFk = s.runFk := rfl
@[simp] theorem State.updClk_free (f : Clk → Clk) : (s.updClk f).free = s.free := rfl
@[simp] theorem State.updClk_runs (f : Clk → Clk) : (s.updClk f).runs = s.runs := rfl
@[simp] theorem State.updClk_regs (f : Clk → Clk) : (s.updClk f).regs = s.regs := rfl
@[simp] theorem State.updClk_mem (f : Clk → Clk) : (s.updClk f).mem = s.mem := rfl
@[simp] theorem State.updClk_prog (f : Clk → Clk) : (s.updClk f).prog = s.prog := rfl
@[simp] theorem State.updClk_upset (f : Clk → Clk) : (s.updClk f).upset = s.upset := rfl
@[simp] theorem State.updClk_engines (f : Clk → Clk) : (s.updClk f).engines = s.engines := rfl
@[simp] theorem State.updClk_flights (f : Clk → Clk) : (s.updClk f).flights = s.flights := rfl
@[simp] theorem State.updClk_clusters (f : Clk → Clk) : (s.updClk f).clusters = s.clusters := rfl
@[simp] theorem State.updClk_chans (f : Clk → Clk) : (s.updClk f).chans = s.chans := rfl
@[simp] theorem State.updClk_groups (f : Clk → Clk) : (s.updClk f).groups = s.groups := rfl
@[simp] theorem State.updClk_adc (f : Clk → Clk) : (s.updClk f).adc = s.adc := rfl
@[simp] theorem State.updClk_mtr (f : Clk → Clk) : (s.updClk f).mtr = s.mtr := rfl
@[simp] theorem State.updClk_trip (f : Clk → Clk) : (s.updClk f).trip = s.trip := rfl
@[simp] theorem State.updClk_col (f : Clk → Clk) : (s.updClk f).col = s.col := rfl
@[simp] theorem State.updClk_wdg (f : Clk → Clk) : (s.updClk f).wdg = s.wdg := rfl
@[simp] theorem State.updClk_rcd (f : Clk → Clk) : (s.updClk f).rcd = s.rcd := rfl
@[simp] theorem State.updClk_mon (f : Clk → Clk) : (s.updClk f).mon = s.mon := rfl
@[simp] theorem State.updClk_sht (f : Clk → Clk) : (s.updClk f).sht = s.sht := rfl
@[simp] theorem State.updClk_jsn (f : Clk → Clk) : (s.updClk f).jsn = s.jsn := rfl
@[simp] theorem State.updClk_dev (f : Clk → Clk) : (s.updClk f).dev = s.dev := rfl
@[simp] theorem State.updClk_boot (f : Clk → Clk) : (s.updClk f).boot = s.boot := rfl
@[simp] theorem State.updClk_clk (f : Clk → Clk) : (s.updClk f).clk = f s.clk := rfl

/-! ### updMtr -/

@[simp] theorem State.updMtr_pending (f : Metering → Metering) : (s.updMtr f).pending = s.pending := rfl
@[simp] theorem State.updMtr_fk (f : Metering → Metering) : (s.updMtr f).fk = s.fk := rfl
@[simp] theorem State.updMtr_runFk (f : Metering → Metering) : (s.updMtr f).runFk = s.runFk := rfl
@[simp] theorem State.updMtr_free (f : Metering → Metering) : (s.updMtr f).free = s.free := rfl
@[simp] theorem State.updMtr_runs (f : Metering → Metering) : (s.updMtr f).runs = s.runs := rfl
@[simp] theorem State.updMtr_regs (f : Metering → Metering) : (s.updMtr f).regs = s.regs := rfl
@[simp] theorem State.updMtr_mem (f : Metering → Metering) : (s.updMtr f).mem = s.mem := rfl
@[simp] theorem State.updMtr_prog (f : Metering → Metering) : (s.updMtr f).prog = s.prog := rfl
@[simp] theorem State.updMtr_upset (f : Metering → Metering) : (s.updMtr f).upset = s.upset := rfl
@[simp] theorem State.updMtr_engines (f : Metering → Metering) : (s.updMtr f).engines = s.engines := rfl
@[simp] theorem State.updMtr_flights (f : Metering → Metering) : (s.updMtr f).flights = s.flights := rfl
@[simp] theorem State.updMtr_clusters (f : Metering → Metering) : (s.updMtr f).clusters = s.clusters := rfl
@[simp] theorem State.updMtr_chans (f : Metering → Metering) : (s.updMtr f).chans = s.chans := rfl
@[simp] theorem State.updMtr_groups (f : Metering → Metering) : (s.updMtr f).groups = s.groups := rfl
@[simp] theorem State.updMtr_adc (f : Metering → Metering) : (s.updMtr f).adc = s.adc := rfl
@[simp] theorem State.updMtr_mtr (f : Metering → Metering) : (s.updMtr f).mtr = f s.mtr := rfl
@[simp] theorem State.updMtr_trip (f : Metering → Metering) : (s.updMtr f).trip = s.trip := rfl
@[simp] theorem State.updMtr_col (f : Metering → Metering) : (s.updMtr f).col = s.col := rfl
@[simp] theorem State.updMtr_wdg (f : Metering → Metering) : (s.updMtr f).wdg = s.wdg := rfl
@[simp] theorem State.updMtr_rcd (f : Metering → Metering) : (s.updMtr f).rcd = s.rcd := rfl
@[simp] theorem State.updMtr_mon (f : Metering → Metering) : (s.updMtr f).mon = s.mon := rfl
@[simp] theorem State.updMtr_sht (f : Metering → Metering) : (s.updMtr f).sht = s.sht := rfl
@[simp] theorem State.updMtr_jsn (f : Metering → Metering) : (s.updMtr f).jsn = s.jsn := rfl
@[simp] theorem State.updMtr_dev (f : Metering → Metering) : (s.updMtr f).dev = s.dev := rfl
@[simp] theorem State.updMtr_boot (f : Metering → Metering) : (s.updMtr f).boot = s.boot := rfl
@[simp] theorem State.updMtr_clk (f : Metering → Metering) : (s.updMtr f).clk = s.clk := rfl
@[simp] theorem State.updMtr_tap (f : Metering → Metering) : (s.updMtr f).tap = s.tap := rfl

/-! ### updAdc -/

@[simp] theorem State.updAdc_pending (f : Adc → Adc) : (s.updAdc f).pending = s.pending := rfl
@[simp] theorem State.updAdc_fk (f : Adc → Adc) : (s.updAdc f).fk = s.fk := rfl
@[simp] theorem State.updAdc_runFk (f : Adc → Adc) : (s.updAdc f).runFk = s.runFk := rfl
@[simp] theorem State.updAdc_free (f : Adc → Adc) : (s.updAdc f).free = s.free := rfl
@[simp] theorem State.updAdc_runs (f : Adc → Adc) : (s.updAdc f).runs = s.runs := rfl
@[simp] theorem State.updAdc_regs (f : Adc → Adc) : (s.updAdc f).regs = s.regs := rfl
@[simp] theorem State.updAdc_mem (f : Adc → Adc) : (s.updAdc f).mem = s.mem := rfl
@[simp] theorem State.updAdc_prog (f : Adc → Adc) : (s.updAdc f).prog = s.prog := rfl
@[simp] theorem State.updAdc_upset (f : Adc → Adc) : (s.updAdc f).upset = s.upset := rfl
@[simp] theorem State.updAdc_engines (f : Adc → Adc) : (s.updAdc f).engines = s.engines := rfl
@[simp] theorem State.updAdc_flights (f : Adc → Adc) : (s.updAdc f).flights = s.flights := rfl
@[simp] theorem State.updAdc_clusters (f : Adc → Adc) : (s.updAdc f).clusters = s.clusters := rfl
@[simp] theorem State.updAdc_chans (f : Adc → Adc) : (s.updAdc f).chans = s.chans := rfl
@[simp] theorem State.updAdc_groups (f : Adc → Adc) : (s.updAdc f).groups = s.groups := rfl
@[simp] theorem State.updAdc_adc (f : Adc → Adc) : (s.updAdc f).adc = f s.adc := rfl
@[simp] theorem State.updAdc_mtr (f : Adc → Adc) : (s.updAdc f).mtr = s.mtr := rfl
@[simp] theorem State.updAdc_trip (f : Adc → Adc) : (s.updAdc f).trip = s.trip := rfl
@[simp] theorem State.updAdc_col (f : Adc → Adc) : (s.updAdc f).col = s.col := rfl
@[simp] theorem State.updAdc_wdg (f : Adc → Adc) : (s.updAdc f).wdg = s.wdg := rfl
@[simp] theorem State.updAdc_rcd (f : Adc → Adc) : (s.updAdc f).rcd = s.rcd := rfl
@[simp] theorem State.updAdc_mon (f : Adc → Adc) : (s.updAdc f).mon = s.mon := rfl
@[simp] theorem State.updAdc_sht (f : Adc → Adc) : (s.updAdc f).sht = s.sht := rfl
@[simp] theorem State.updAdc_jsn (f : Adc → Adc) : (s.updAdc f).jsn = s.jsn := rfl
@[simp] theorem State.updAdc_dev (f : Adc → Adc) : (s.updAdc f).dev = s.dev := rfl
@[simp] theorem State.updAdc_boot (f : Adc → Adc) : (s.updAdc f).boot = s.boot := rfl
@[simp] theorem State.updAdc_clk (f : Adc → Adc) : (s.updAdc f).clk = s.clk := rfl
@[simp] theorem State.updAdc_tap (f : Adc → Adc) : (s.updAdc f).tap = s.tap := rfl

/-! ### setReg -/

@[simp] theorem State.setReg_pending (a : Nat) (v : Word) : (s.setReg a v).pending = s.pending := rfl
@[simp] theorem State.setReg_fk (a : Nat) (v : Word) : (s.setReg a v).fk = s.fk := rfl
@[simp] theorem State.setReg_runFk (a : Nat) (v : Word) : (s.setReg a v).runFk = s.runFk := rfl
@[simp] theorem State.setReg_free (a : Nat) (v : Word) : (s.setReg a v).free = s.free := rfl
@[simp] theorem State.setReg_runs (a : Nat) (v : Word) : (s.setReg a v).runs = s.runs := rfl
@[simp] theorem State.setReg_mem (a : Nat) (v : Word) : (s.setReg a v).mem = s.mem := rfl
@[simp] theorem State.setReg_prog (a : Nat) (v : Word) : (s.setReg a v).prog = s.prog := rfl
@[simp] theorem State.setReg_upset (a : Nat) (v : Word) : (s.setReg a v).upset = s.upset := rfl
@[simp] theorem State.setReg_engines (a : Nat) (v : Word) : (s.setReg a v).engines = s.engines := rfl
@[simp] theorem State.setReg_flights (a : Nat) (v : Word) : (s.setReg a v).flights = s.flights := rfl
@[simp] theorem State.setReg_clusters (a : Nat) (v : Word) : (s.setReg a v).clusters = s.clusters := rfl
@[simp] theorem State.setReg_chans (a : Nat) (v : Word) : (s.setReg a v).chans = s.chans := rfl
@[simp] theorem State.setReg_groups (a : Nat) (v : Word) : (s.setReg a v).groups = s.groups := rfl
@[simp] theorem State.setReg_adc (a : Nat) (v : Word) : (s.setReg a v).adc = s.adc := rfl
@[simp] theorem State.setReg_mtr (a : Nat) (v : Word) : (s.setReg a v).mtr = s.mtr := rfl
@[simp] theorem State.setReg_trip (a : Nat) (v : Word) : (s.setReg a v).trip = s.trip := rfl
@[simp] theorem State.setReg_col (a : Nat) (v : Word) : (s.setReg a v).col = s.col := rfl
@[simp] theorem State.setReg_wdg (a : Nat) (v : Word) : (s.setReg a v).wdg = s.wdg := rfl
@[simp] theorem State.setReg_rcd (a : Nat) (v : Word) : (s.setReg a v).rcd = s.rcd := rfl
@[simp] theorem State.setReg_mon (a : Nat) (v : Word) : (s.setReg a v).mon = s.mon := rfl
@[simp] theorem State.setReg_sht (a : Nat) (v : Word) : (s.setReg a v).sht = s.sht := rfl
@[simp] theorem State.setReg_jsn (a : Nat) (v : Word) : (s.setReg a v).jsn = s.jsn := rfl
@[simp] theorem State.setReg_dev (a : Nat) (v : Word) : (s.setReg a v).dev = s.dev := rfl
@[simp] theorem State.setReg_boot (a : Nat) (v : Word) : (s.setReg a v).boot = s.boot := rfl
@[simp] theorem State.setReg_clk (a : Nat) (v : Word) : (s.setReg a v).clk = s.clk := rfl
@[simp] theorem State.setReg_tap (a : Nat) (v : Word) : (s.setReg a v).tap = s.tap := rfl

/-! ### setMem -/

@[simp] theorem State.setMem_pending (a : Nat) (v : Word) : (s.setMem a v).pending = s.pending := rfl
@[simp] theorem State.setMem_fk (a : Nat) (v : Word) : (s.setMem a v).fk = s.fk := rfl
@[simp] theorem State.setMem_runFk (a : Nat) (v : Word) : (s.setMem a v).runFk = s.runFk := rfl
@[simp] theorem State.setMem_free (a : Nat) (v : Word) : (s.setMem a v).free = s.free := rfl
@[simp] theorem State.setMem_runs (a : Nat) (v : Word) : (s.setMem a v).runs = s.runs := rfl
@[simp] theorem State.setMem_regs (a : Nat) (v : Word) : (s.setMem a v).regs = s.regs := rfl
@[simp] theorem State.setMem_prog (a : Nat) (v : Word) : (s.setMem a v).prog = s.prog := rfl
@[simp] theorem State.setMem_engines (a : Nat) (v : Word) : (s.setMem a v).engines = s.engines := rfl
@[simp] theorem State.setMem_flights (a : Nat) (v : Word) : (s.setMem a v).flights = s.flights := rfl
@[simp] theorem State.setMem_clusters (a : Nat) (v : Word) : (s.setMem a v).clusters = s.clusters := rfl
@[simp] theorem State.setMem_chans (a : Nat) (v : Word) : (s.setMem a v).chans = s.chans := rfl
@[simp] theorem State.setMem_groups (a : Nat) (v : Word) : (s.setMem a v).groups = s.groups := rfl
@[simp] theorem State.setMem_adc (a : Nat) (v : Word) : (s.setMem a v).adc = s.adc := rfl
@[simp] theorem State.setMem_mtr (a : Nat) (v : Word) : (s.setMem a v).mtr = s.mtr := rfl
@[simp] theorem State.setMem_trip (a : Nat) (v : Word) : (s.setMem a v).trip = s.trip := rfl
@[simp] theorem State.setMem_col (a : Nat) (v : Word) : (s.setMem a v).col = s.col := rfl
@[simp] theorem State.setMem_wdg (a : Nat) (v : Word) : (s.setMem a v).wdg = s.wdg := rfl
@[simp] theorem State.setMem_rcd (a : Nat) (v : Word) : (s.setMem a v).rcd = s.rcd := rfl
@[simp] theorem State.setMem_mon (a : Nat) (v : Word) : (s.setMem a v).mon = s.mon := rfl
@[simp] theorem State.setMem_sht (a : Nat) (v : Word) : (s.setMem a v).sht = s.sht := rfl
@[simp] theorem State.setMem_jsn (a : Nat) (v : Word) : (s.setMem a v).jsn = s.jsn := rfl
@[simp] theorem State.setMem_dev (a : Nat) (v : Word) : (s.setMem a v).dev = s.dev := rfl
@[simp] theorem State.setMem_boot (a : Nat) (v : Word) : (s.setMem a v).boot = s.boot := rfl
@[simp] theorem State.setMem_clk (a : Nat) (v : Word) : (s.setMem a v).clk = s.clk := rfl
@[simp] theorem State.setMem_tap (a : Nat) (v : Word) : (s.setMem a v).tap = s.tap := rfl

/-! ### setProg -/

@[simp] theorem State.setProg_pending (c : Clu) (n : PAddr) (v : PWord) : (s.setProg c n v).pending = s.pending := rfl
@[simp] theorem State.setProg_fk (c : Clu) (n : PAddr) (v : PWord) : (s.setProg c n v).fk = s.fk := rfl
@[simp] theorem State.setProg_runFk (c : Clu) (n : PAddr) (v : PWord) : (s.setProg c n v).runFk = s.runFk := rfl
@[simp] theorem State.setProg_free (c : Clu) (n : PAddr) (v : PWord) : (s.setProg c n v).free = s.free := rfl
@[simp] theorem State.setProg_runs (c : Clu) (n : PAddr) (v : PWord) : (s.setProg c n v).runs = s.runs := rfl
@[simp] theorem State.setProg_regs (c : Clu) (n : PAddr) (v : PWord) : (s.setProg c n v).regs = s.regs := rfl
@[simp] theorem State.setProg_mem (c : Clu) (n : PAddr) (v : PWord) : (s.setProg c n v).mem = s.mem := rfl
@[simp] theorem State.setProg_engines (c : Clu) (n : PAddr) (v : PWord) : (s.setProg c n v).engines = s.engines := rfl
@[simp] theorem State.setProg_flights (c : Clu) (n : PAddr) (v : PWord) : (s.setProg c n v).flights = s.flights := rfl
@[simp] theorem State.setProg_clusters (c : Clu) (n : PAddr) (v : PWord) : (s.setProg c n v).clusters = s.clusters := rfl
@[simp] theorem State.setProg_chans (c : Clu) (n : PAddr) (v : PWord) : (s.setProg c n v).chans = s.chans := rfl
@[simp] theorem State.setProg_groups (c : Clu) (n : PAddr) (v : PWord) : (s.setProg c n v).groups = s.groups := rfl
@[simp] theorem State.setProg_adc (c : Clu) (n : PAddr) (v : PWord) : (s.setProg c n v).adc = s.adc := rfl
@[simp] theorem State.setProg_mtr (c : Clu) (n : PAddr) (v : PWord) : (s.setProg c n v).mtr = s.mtr := rfl
@[simp] theorem State.setProg_trip (c : Clu) (n : PAddr) (v : PWord) : (s.setProg c n v).trip = s.trip := rfl
@[simp] theorem State.setProg_col (c : Clu) (n : PAddr) (v : PWord) : (s.setProg c n v).col = s.col := rfl
@[simp] theorem State.setProg_wdg (c : Clu) (n : PAddr) (v : PWord) : (s.setProg c n v).wdg = s.wdg := rfl
@[simp] theorem State.setProg_rcd (c : Clu) (n : PAddr) (v : PWord) : (s.setProg c n v).rcd = s.rcd := rfl
@[simp] theorem State.setProg_mon (c : Clu) (n : PAddr) (v : PWord) : (s.setProg c n v).mon = s.mon := rfl
@[simp] theorem State.setProg_sht (c : Clu) (n : PAddr) (v : PWord) : (s.setProg c n v).sht = s.sht := rfl
@[simp] theorem State.setProg_jsn (c : Clu) (n : PAddr) (v : PWord) : (s.setProg c n v).jsn = s.jsn := rfl
@[simp] theorem State.setProg_dev (c : Clu) (n : PAddr) (v : PWord) : (s.setProg c n v).dev = s.dev := rfl
@[simp] theorem State.setProg_boot (c : Clu) (n : PAddr) (v : PWord) : (s.setProg c n v).boot = s.boot := rfl
@[simp] theorem State.setProg_clk (c : Clu) (n : PAddr) (v : PWord) : (s.setProg c n v).clk = s.clk := rfl
@[simp] theorem State.setProg_tap (c : Clu) (n : PAddr) (v : PWord) : (s.setProg c n v).tap = s.tap := rfl

/-! ### logRec -/

@[simp] theorem State.logRec_pending (typ : BitVec 5) (code : BitVec 7) (src : Word) (pay : Quad) : (s.logRec typ code src pay).pending = s.pending := rfl
@[simp] theorem State.logRec_fk (typ : BitVec 5) (code : BitVec 7) (src : Word) (pay : Quad) : (s.logRec typ code src pay).fk = s.fk := rfl
@[simp] theorem State.logRec_runFk (typ : BitVec 5) (code : BitVec 7) (src : Word) (pay : Quad) : (s.logRec typ code src pay).runFk = s.runFk := rfl
@[simp] theorem State.logRec_free (typ : BitVec 5) (code : BitVec 7) (src : Word) (pay : Quad) : (s.logRec typ code src pay).free = s.free := rfl
@[simp] theorem State.logRec_runs (typ : BitVec 5) (code : BitVec 7) (src : Word) (pay : Quad) : (s.logRec typ code src pay).runs = s.runs := rfl
@[simp] theorem State.logRec_regs (typ : BitVec 5) (code : BitVec 7) (src : Word) (pay : Quad) : (s.logRec typ code src pay).regs = s.regs := rfl
@[simp] theorem State.logRec_mem (typ : BitVec 5) (code : BitVec 7) (src : Word) (pay : Quad) : (s.logRec typ code src pay).mem = s.mem := rfl
@[simp] theorem State.logRec_prog (typ : BitVec 5) (code : BitVec 7) (src : Word) (pay : Quad) : (s.logRec typ code src pay).prog = s.prog := rfl
@[simp] theorem State.logRec_upset (typ : BitVec 5) (code : BitVec 7) (src : Word) (pay : Quad) : (s.logRec typ code src pay).upset = s.upset := rfl
@[simp] theorem State.logRec_engines (typ : BitVec 5) (code : BitVec 7) (src : Word) (pay : Quad) : (s.logRec typ code src pay).engines = s.engines := rfl
@[simp] theorem State.logRec_flights (typ : BitVec 5) (code : BitVec 7) (src : Word) (pay : Quad) : (s.logRec typ code src pay).flights = s.flights := rfl
@[simp] theorem State.logRec_clusters (typ : BitVec 5) (code : BitVec 7) (src : Word) (pay : Quad) : (s.logRec typ code src pay).clusters = s.clusters := rfl
@[simp] theorem State.logRec_chans (typ : BitVec 5) (code : BitVec 7) (src : Word) (pay : Quad) : (s.logRec typ code src pay).chans = s.chans := rfl
@[simp] theorem State.logRec_groups (typ : BitVec 5) (code : BitVec 7) (src : Word) (pay : Quad) : (s.logRec typ code src pay).groups = s.groups := rfl
@[simp] theorem State.logRec_adc (typ : BitVec 5) (code : BitVec 7) (src : Word) (pay : Quad) : (s.logRec typ code src pay).adc = s.adc := rfl
@[simp] theorem State.logRec_mtr (typ : BitVec 5) (code : BitVec 7) (src : Word) (pay : Quad) : (s.logRec typ code src pay).mtr = s.mtr := rfl
@[simp] theorem State.logRec_trip (typ : BitVec 5) (code : BitVec 7) (src : Word) (pay : Quad) : (s.logRec typ code src pay).trip = s.trip := rfl
@[simp] theorem State.logRec_col (typ : BitVec 5) (code : BitVec 7) (src : Word) (pay : Quad) : (s.logRec typ code src pay).col = s.col := rfl
@[simp] theorem State.logRec_wdg (typ : BitVec 5) (code : BitVec 7) (src : Word) (pay : Quad) : (s.logRec typ code src pay).wdg = s.wdg := rfl
@[simp] theorem State.logRec_mon (typ : BitVec 5) (code : BitVec 7) (src : Word) (pay : Quad) : (s.logRec typ code src pay).mon = s.mon := rfl
@[simp] theorem State.logRec_sht (typ : BitVec 5) (code : BitVec 7) (src : Word) (pay : Quad) : (s.logRec typ code src pay).sht = s.sht := rfl
@[simp] theorem State.logRec_jsn (typ : BitVec 5) (code : BitVec 7) (src : Word) (pay : Quad) : (s.logRec typ code src pay).jsn = s.jsn := rfl
@[simp] theorem State.logRec_dev (typ : BitVec 5) (code : BitVec 7) (src : Word) (pay : Quad) : (s.logRec typ code src pay).dev = s.dev := rfl
@[simp] theorem State.logRec_boot (typ : BitVec 5) (code : BitVec 7) (src : Word) (pay : Quad) : (s.logRec typ code src pay).boot = s.boot := rfl
@[simp] theorem State.logRec_clk (typ : BitVec 5) (code : BitVec 7) (src : Word) (pay : Quad) : (s.logRec typ code src pay).clk = s.clk := rfl
@[simp] theorem State.logRec_tap (typ : BitVec 5) (code : BitVec 7) (src : Word) (pay : Quad) : (s.logRec typ code src pay).tap = s.tap := rfl

/-! ### msix -/

@[simp] theorem State.msix_pending (v : BitVec 5) : (s.msix v).pending = s.pending := by unfold State.msix; split <;> rfl
@[simp] theorem State.msix_fk (v : BitVec 5) : (s.msix v).fk = s.fk := by unfold State.msix; split <;> rfl
@[simp] theorem State.msix_runFk (v : BitVec 5) : (s.msix v).runFk = s.runFk := by unfold State.msix; split <;> rfl
@[simp] theorem State.msix_free (v : BitVec 5) : (s.msix v).free = s.free := by unfold State.msix; split <;> rfl
@[simp] theorem State.msix_runs (v : BitVec 5) : (s.msix v).runs = s.runs := by unfold State.msix; split <;> rfl
@[simp] theorem State.msix_regs (v : BitVec 5) : (s.msix v).regs = s.regs := by unfold State.msix; split <;> rfl
@[simp] theorem State.msix_mem (v : BitVec 5) : (s.msix v).mem = s.mem := by unfold State.msix; split <;> rfl
@[simp] theorem State.msix_prog (v : BitVec 5) : (s.msix v).prog = s.prog := by unfold State.msix; split <;> rfl
@[simp] theorem State.msix_upset (v : BitVec 5) : (s.msix v).upset = s.upset := by unfold State.msix; split <;> rfl
@[simp] theorem State.msix_engines (v : BitVec 5) : (s.msix v).engines = s.engines := by unfold State.msix; split <;> rfl
@[simp] theorem State.msix_flights (v : BitVec 5) : (s.msix v).flights = s.flights := by unfold State.msix; split <;> rfl
@[simp] theorem State.msix_clusters (v : BitVec 5) : (s.msix v).clusters = s.clusters := by unfold State.msix; split <;> rfl
@[simp] theorem State.msix_chans (v : BitVec 5) : (s.msix v).chans = s.chans := by unfold State.msix; split <;> rfl
@[simp] theorem State.msix_groups (v : BitVec 5) : (s.msix v).groups = s.groups := by unfold State.msix; split <;> rfl
@[simp] theorem State.msix_adc (v : BitVec 5) : (s.msix v).adc = s.adc := by unfold State.msix; split <;> rfl
@[simp] theorem State.msix_mtr (v : BitVec 5) : (s.msix v).mtr = s.mtr := by unfold State.msix; split <;> rfl
@[simp] theorem State.msix_trip (v : BitVec 5) : (s.msix v).trip = s.trip := by unfold State.msix; split <;> rfl
@[simp] theorem State.msix_col (v : BitVec 5) : (s.msix v).col = s.col := by unfold State.msix; split <;> rfl
@[simp] theorem State.msix_wdg (v : BitVec 5) : (s.msix v).wdg = s.wdg := by unfold State.msix; split <;> rfl
@[simp] theorem State.msix_rcd (v : BitVec 5) : (s.msix v).rcd = s.rcd := by unfold State.msix; split <;> rfl
@[simp] theorem State.msix_mon (v : BitVec 5) : (s.msix v).mon = s.mon := by unfold State.msix; split <;> rfl
@[simp] theorem State.msix_jsn (v : BitVec 5) : (s.msix v).jsn = s.jsn := by unfold State.msix; split <;> rfl
@[simp] theorem State.msix_dev (v : BitVec 5) : (s.msix v).dev = s.dev := by unfold State.msix; split <;> rfl
@[simp] theorem State.msix_boot (v : BitVec 5) : (s.msix v).boot = s.boot := by unfold State.msix; split <;> rfl
@[simp] theorem State.msix_clk (v : BitVec 5) : (s.msix v).clk = s.clk := by unfold State.msix; split <;> rfl
@[simp] theorem State.msix_tap (v : BitVec 5) : (s.msix v).tap = s.tap := by unfold State.msix; split <;> rfl

/-! ### takeFree -/

@[simp] theorem State.takeFree_pending : s.takeFree.pending = s.pending := rfl
@[simp] theorem State.takeFree_fk : s.takeFree.fk = s.fk := rfl
@[simp] theorem State.takeFree_runFk : s.takeFree.runFk = s.runFk := rfl
@[simp] theorem State.takeFree_free : s.takeFree.free = s.free + 1 := rfl
@[simp] theorem State.takeFree_runs : s.takeFree.runs = s.runs := rfl
@[simp] theorem State.takeFree_regs : s.takeFree.regs = s.regs := rfl
@[simp] theorem State.takeFree_mem : s.takeFree.mem = s.mem := rfl
@[simp] theorem State.takeFree_prog : s.takeFree.prog = s.prog := rfl
@[simp] theorem State.takeFree_upset : s.takeFree.upset = s.upset := rfl
@[simp] theorem State.takeFree_engines : s.takeFree.engines = s.engines := rfl
@[simp] theorem State.takeFree_flights : s.takeFree.flights = s.flights := rfl
@[simp] theorem State.takeFree_clusters : s.takeFree.clusters = s.clusters := rfl
@[simp] theorem State.takeFree_chans : s.takeFree.chans = s.chans := rfl
@[simp] theorem State.takeFree_groups : s.takeFree.groups = s.groups := rfl
@[simp] theorem State.takeFree_adc : s.takeFree.adc = s.adc := rfl
@[simp] theorem State.takeFree_mtr : s.takeFree.mtr = s.mtr := rfl
@[simp] theorem State.takeFree_trip : s.takeFree.trip = s.trip := rfl
@[simp] theorem State.takeFree_col : s.takeFree.col = s.col := rfl
@[simp] theorem State.takeFree_wdg : s.takeFree.wdg = s.wdg := rfl
@[simp] theorem State.takeFree_rcd : s.takeFree.rcd = s.rcd := rfl
@[simp] theorem State.takeFree_mon : s.takeFree.mon = s.mon := rfl
@[simp] theorem State.takeFree_sht : s.takeFree.sht = s.sht := rfl
@[simp] theorem State.takeFree_jsn : s.takeFree.jsn = s.jsn := rfl
@[simp] theorem State.takeFree_dev : s.takeFree.dev = s.dev := rfl
@[simp] theorem State.takeFree_boot : s.takeFree.boot = s.boot := rfl
@[simp] theorem State.takeFree_clk : s.takeFree.clk = s.clk := rfl
@[simp] theorem State.takeFree_tap : s.takeFree.tap = s.tap := rfl

/-! ### Lanes: outside the engine they change nothing that the lanes that agree do not -/

theorem foldl_keeps {α β : Type} (p : State → β) (f : State → α → State) (h : ∀ s a, p (f s a) = p s) (l : List α) (s : State) :
    p (l.foldl f s) = p s := by
  induction l generalizing s with
  | nil => rfl
  | cons a r ih => exact (ih _).trans (h s a)

/-- What no engine holds is, after a clock of the lanes, what the lanes that agree leave. -/
theorem State.inLanesWith_keeps {β : Type} (p : State → β) (hp : ∀ (s : State) e x, p (s.setEng e x) = p s) (e : Eng) (odd : Option Lane)
    (g f : State → State) : p (s.inLanesWith e odd g f) = p (f s) := by
  unfold State.inLanesWith
  have hu := foldl_keeps p (fun (u : State) l =>
    if (s.eng e).heddle.commits? l && ((s.eng e).apart l || odd = some l) then
      u.updEng e fun x => x.keepLane l (((if odd = some l then g else f) (s.asLane e l)).eng e)
    else u) (fun u l => by
      split
      · exact hp _ _ _
      · rfl) laneList (f s)
  cases odd with
  | none => exact hu
  | some l => exact (hp _ _ _).trans hu


@[simp] theorem State.inLanesWith_pending (e : Eng) (odd : Option Lane) (g f : State → State) : (s.inLanesWith e odd g f).pending = (f s).pending :=
  s.inLanesWith_keeps State.pending (fun _ _ _ => rfl) _ _ _ _
@[simp] theorem State.inLanesWith_fk (e : Eng) (odd : Option Lane) (g f : State → State) : (s.inLanesWith e odd g f).fk = (f s).fk :=
  s.inLanesWith_keeps State.fk (fun _ _ _ => rfl) _ _ _ _
@[simp] theorem State.inLanesWith_runFk (e : Eng) (odd : Option Lane) (g f : State → State) : (s.inLanesWith e odd g f).runFk = (f s).runFk :=
  s.inLanesWith_keeps State.runFk (fun _ _ _ => rfl) _ _ _ _
@[simp] theorem State.inLanesWith_free (e : Eng) (odd : Option Lane) (g f : State → State) : (s.inLanesWith e odd g f).free = (f s).free :=
  s.inLanesWith_keeps State.free (fun _ _ _ => rfl) _ _ _ _
@[simp] theorem State.inLanesWith_runs (e : Eng) (odd : Option Lane) (g f : State → State) : (s.inLanesWith e odd g f).runs = (f s).runs :=
  s.inLanesWith_keeps State.runs (fun _ _ _ => rfl) _ _ _ _
@[simp] theorem State.inLanesWith_regs (e : Eng) (odd : Option Lane) (g f : State → State) : (s.inLanesWith e odd g f).regs = (f s).regs :=
  s.inLanesWith_keeps State.regs (fun _ _ _ => rfl) _ _ _ _
@[simp] theorem State.inLanesWith_mem (e : Eng) (odd : Option Lane) (g f : State → State) : (s.inLanesWith e odd g f).mem = (f s).mem :=
  s.inLanesWith_keeps State.mem (fun _ _ _ => rfl) _ _ _ _
@[simp] theorem State.inLanesWith_prog (e : Eng) (odd : Option Lane) (g f : State → State) : (s.inLanesWith e odd g f).prog = (f s).prog :=
  s.inLanesWith_keeps State.prog (fun _ _ _ => rfl) _ _ _ _
@[simp] theorem State.inLanesWith_upset (e : Eng) (odd : Option Lane) (g f : State → State) : (s.inLanesWith e odd g f).upset = (f s).upset :=
  s.inLanesWith_keeps State.upset (fun _ _ _ => rfl) _ _ _ _
@[simp] theorem State.inLanesWith_flights (e : Eng) (odd : Option Lane) (g f : State → State) : (s.inLanesWith e odd g f).flights = (f s).flights :=
  s.inLanesWith_keeps State.flights (fun _ _ _ => rfl) _ _ _ _
@[simp] theorem State.inLanesWith_clusters (e : Eng) (odd : Option Lane) (g f : State → State) : (s.inLanesWith e odd g f).clusters = (f s).clusters :=
  s.inLanesWith_keeps State.clusters (fun _ _ _ => rfl) _ _ _ _
@[simp] theorem State.inLanesWith_chans (e : Eng) (odd : Option Lane) (g f : State → State) : (s.inLanesWith e odd g f).chans = (f s).chans :=
  s.inLanesWith_keeps State.chans (fun _ _ _ => rfl) _ _ _ _
@[simp] theorem State.inLanesWith_groups (e : Eng) (odd : Option Lane) (g f : State → State) : (s.inLanesWith e odd g f).groups = (f s).groups :=
  s.inLanesWith_keeps State.groups (fun _ _ _ => rfl) _ _ _ _
@[simp] theorem State.inLanesWith_adc (e : Eng) (odd : Option Lane) (g f : State → State) : (s.inLanesWith e odd g f).adc = (f s).adc :=
  s.inLanesWith_keeps State.adc (fun _ _ _ => rfl) _ _ _ _
@[simp] theorem State.inLanesWith_mtr (e : Eng) (odd : Option Lane) (g f : State → State) : (s.inLanesWith e odd g f).mtr = (f s).mtr :=
  s.inLanesWith_keeps State.mtr (fun _ _ _ => rfl) _ _ _ _
@[simp] theorem State.inLanesWith_trip (e : Eng) (odd : Option Lane) (g f : State → State) : (s.inLanesWith e odd g f).trip = (f s).trip :=
  s.inLanesWith_keeps State.trip (fun _ _ _ => rfl) _ _ _ _
@[simp] theorem State.inLanesWith_col (e : Eng) (odd : Option Lane) (g f : State → State) : (s.inLanesWith e odd g f).col = (f s).col :=
  s.inLanesWith_keeps State.col (fun _ _ _ => rfl) _ _ _ _
@[simp] theorem State.inLanesWith_wdg (e : Eng) (odd : Option Lane) (g f : State → State) : (s.inLanesWith e odd g f).wdg = (f s).wdg :=
  s.inLanesWith_keeps State.wdg (fun _ _ _ => rfl) _ _ _ _
@[simp] theorem State.inLanesWith_rcd (e : Eng) (odd : Option Lane) (g f : State → State) : (s.inLanesWith e odd g f).rcd = (f s).rcd :=
  s.inLanesWith_keeps State.rcd (fun _ _ _ => rfl) _ _ _ _
@[simp] theorem State.inLanesWith_mon (e : Eng) (odd : Option Lane) (g f : State → State) : (s.inLanesWith e odd g f).mon = (f s).mon :=
  s.inLanesWith_keeps State.mon (fun _ _ _ => rfl) _ _ _ _
@[simp] theorem State.inLanesWith_sht (e : Eng) (odd : Option Lane) (g f : State → State) : (s.inLanesWith e odd g f).sht = (f s).sht :=
  s.inLanesWith_keeps State.sht (fun _ _ _ => rfl) _ _ _ _
@[simp] theorem State.inLanesWith_jsn (e : Eng) (odd : Option Lane) (g f : State → State) : (s.inLanesWith e odd g f).jsn = (f s).jsn :=
  s.inLanesWith_keeps State.jsn (fun _ _ _ => rfl) _ _ _ _
@[simp] theorem State.inLanesWith_dev (e : Eng) (odd : Option Lane) (g f : State → State) : (s.inLanesWith e odd g f).dev = (f s).dev :=
  s.inLanesWith_keeps State.dev (fun _ _ _ => rfl) _ _ _ _
@[simp] theorem State.inLanesWith_boot (e : Eng) (odd : Option Lane) (g f : State → State) : (s.inLanesWith e odd g f).boot = (f s).boot :=
  s.inLanesWith_keeps State.boot (fun _ _ _ => rfl) _ _ _ _
@[simp] theorem State.inLanesWith_clk (e : Eng) (odd : Option Lane) (g f : State → State) : (s.inLanesWith e odd g f).clk = (f s).clk :=
  s.inLanesWith_keeps State.clk (fun _ _ _ => rfl) _ _ _ _
@[simp] theorem State.inLanesWith_tap (e : Eng) (odd : Option Lane) (g f : State → State) : (s.inLanesWith e odd g f).tap = (f s).tap :=
  s.inLanesWith_keeps State.tap (fun _ _ _ => rfl) _ _ _ _

@[simp] theorem State.inLanes_pending (e : Eng) (f : State → State) : (s.inLanes e f).pending = (f s).pending :=
  s.inLanesWith_keeps State.pending (fun _ _ _ => rfl) _ _ _ _
@[simp] theorem State.inLanes_fk (e : Eng) (f : State → State) : (s.inLanes e f).fk = (f s).fk :=
  s.inLanesWith_keeps State.fk (fun _ _ _ => rfl) _ _ _ _
@[simp] theorem State.inLanes_runFk (e : Eng) (f : State → State) : (s.inLanes e f).runFk = (f s).runFk :=
  s.inLanesWith_keeps State.runFk (fun _ _ _ => rfl) _ _ _ _
@[simp] theorem State.inLanes_free (e : Eng) (f : State → State) : (s.inLanes e f).free = (f s).free :=
  s.inLanesWith_keeps State.free (fun _ _ _ => rfl) _ _ _ _
@[simp] theorem State.inLanes_runs (e : Eng) (f : State → State) : (s.inLanes e f).runs = (f s).runs :=
  s.inLanesWith_keeps State.runs (fun _ _ _ => rfl) _ _ _ _
@[simp] theorem State.inLanes_regs (e : Eng) (f : State → State) : (s.inLanes e f).regs = (f s).regs :=
  s.inLanesWith_keeps State.regs (fun _ _ _ => rfl) _ _ _ _
@[simp] theorem State.inLanes_mem (e : Eng) (f : State → State) : (s.inLanes e f).mem = (f s).mem :=
  s.inLanesWith_keeps State.mem (fun _ _ _ => rfl) _ _ _ _
@[simp] theorem State.inLanes_prog (e : Eng) (f : State → State) : (s.inLanes e f).prog = (f s).prog :=
  s.inLanesWith_keeps State.prog (fun _ _ _ => rfl) _ _ _ _
@[simp] theorem State.inLanes_upset (e : Eng) (f : State → State) : (s.inLanes e f).upset = (f s).upset :=
  s.inLanesWith_keeps State.upset (fun _ _ _ => rfl) _ _ _ _
@[simp] theorem State.inLanes_flights (e : Eng) (f : State → State) : (s.inLanes e f).flights = (f s).flights :=
  s.inLanesWith_keeps State.flights (fun _ _ _ => rfl) _ _ _ _
@[simp] theorem State.inLanes_clusters (e : Eng) (f : State → State) : (s.inLanes e f).clusters = (f s).clusters :=
  s.inLanesWith_keeps State.clusters (fun _ _ _ => rfl) _ _ _ _
@[simp] theorem State.inLanes_chans (e : Eng) (f : State → State) : (s.inLanes e f).chans = (f s).chans :=
  s.inLanesWith_keeps State.chans (fun _ _ _ => rfl) _ _ _ _
@[simp] theorem State.inLanes_groups (e : Eng) (f : State → State) : (s.inLanes e f).groups = (f s).groups :=
  s.inLanesWith_keeps State.groups (fun _ _ _ => rfl) _ _ _ _
@[simp] theorem State.inLanes_adc (e : Eng) (f : State → State) : (s.inLanes e f).adc = (f s).adc :=
  s.inLanesWith_keeps State.adc (fun _ _ _ => rfl) _ _ _ _
@[simp] theorem State.inLanes_mtr (e : Eng) (f : State → State) : (s.inLanes e f).mtr = (f s).mtr :=
  s.inLanesWith_keeps State.mtr (fun _ _ _ => rfl) _ _ _ _
@[simp] theorem State.inLanes_trip (e : Eng) (f : State → State) : (s.inLanes e f).trip = (f s).trip :=
  s.inLanesWith_keeps State.trip (fun _ _ _ => rfl) _ _ _ _
@[simp] theorem State.inLanes_col (e : Eng) (f : State → State) : (s.inLanes e f).col = (f s).col :=
  s.inLanesWith_keeps State.col (fun _ _ _ => rfl) _ _ _ _
@[simp] theorem State.inLanes_wdg (e : Eng) (f : State → State) : (s.inLanes e f).wdg = (f s).wdg :=
  s.inLanesWith_keeps State.wdg (fun _ _ _ => rfl) _ _ _ _
@[simp] theorem State.inLanes_rcd (e : Eng) (f : State → State) : (s.inLanes e f).rcd = (f s).rcd :=
  s.inLanesWith_keeps State.rcd (fun _ _ _ => rfl) _ _ _ _
@[simp] theorem State.inLanes_mon (e : Eng) (f : State → State) : (s.inLanes e f).mon = (f s).mon :=
  s.inLanesWith_keeps State.mon (fun _ _ _ => rfl) _ _ _ _
@[simp] theorem State.inLanes_sht (e : Eng) (f : State → State) : (s.inLanes e f).sht = (f s).sht :=
  s.inLanesWith_keeps State.sht (fun _ _ _ => rfl) _ _ _ _
@[simp] theorem State.inLanes_jsn (e : Eng) (f : State → State) : (s.inLanes e f).jsn = (f s).jsn :=
  s.inLanesWith_keeps State.jsn (fun _ _ _ => rfl) _ _ _ _
@[simp] theorem State.inLanes_dev (e : Eng) (f : State → State) : (s.inLanes e f).dev = (f s).dev :=
  s.inLanesWith_keeps State.dev (fun _ _ _ => rfl) _ _ _ _
@[simp] theorem State.inLanes_boot (e : Eng) (f : State → State) : (s.inLanes e f).boot = (f s).boot :=
  s.inLanesWith_keeps State.boot (fun _ _ _ => rfl) _ _ _ _
@[simp] theorem State.inLanes_clk (e : Eng) (f : State → State) : (s.inLanes e f).clk = (f s).clk :=
  s.inLanesWith_keeps State.clk (fun _ _ _ => rfl) _ _ _ _
@[simp] theorem State.inLanes_tap (e : Eng) (f : State → State) : (s.inLanes e f).tap = (f s).tap :=
  s.inLanesWith_keeps State.tap (fun _ _ _ => rfl) _ _ _ _

@[simp] theorem State.updLanes_pending (e : Eng) (f : Engine → Engine) : (s.updLanes e f).pending = s.pending :=
  (s.inLanes_pending _ _).trans rfl
@[simp] theorem State.updLanes_fk (e : Eng) (f : Engine → Engine) : (s.updLanes e f).fk = s.fk :=
  (s.inLanes_fk _ _).trans rfl
@[simp] theorem State.updLanes_runFk (e : Eng) (f : Engine → Engine) : (s.updLanes e f).runFk = s.runFk :=
  (s.inLanes_runFk _ _).trans rfl
@[simp] theorem State.updLanes_free (e : Eng) (f : Engine → Engine) : (s.updLanes e f).free = s.free :=
  (s.inLanes_free _ _).trans rfl
@[simp] theorem State.updLanes_runs (e : Eng) (f : Engine → Engine) : (s.updLanes e f).runs = s.runs :=
  (s.inLanes_runs _ _).trans rfl
@[simp] theorem State.updLanes_regs (e : Eng) (f : Engine → Engine) : (s.updLanes e f).regs = s.regs :=
  (s.inLanes_regs _ _).trans rfl
@[simp] theorem State.updLanes_mem (e : Eng) (f : Engine → Engine) : (s.updLanes e f).mem = s.mem :=
  (s.inLanes_mem _ _).trans rfl
@[simp] theorem State.updLanes_prog (e : Eng) (f : Engine → Engine) : (s.updLanes e f).prog = s.prog :=
  (s.inLanes_prog _ _).trans rfl
@[simp] theorem State.updLanes_upset (e : Eng) (f : Engine → Engine) : (s.updLanes e f).upset = s.upset :=
  (s.inLanes_upset _ _).trans rfl
@[simp] theorem State.updLanes_flights (e : Eng) (f : Engine → Engine) : (s.updLanes e f).flights = s.flights :=
  (s.inLanes_flights _ _).trans rfl
@[simp] theorem State.updLanes_clusters (e : Eng) (f : Engine → Engine) : (s.updLanes e f).clusters = s.clusters :=
  (s.inLanes_clusters _ _).trans rfl
@[simp] theorem State.updLanes_chans (e : Eng) (f : Engine → Engine) : (s.updLanes e f).chans = s.chans :=
  (s.inLanes_chans _ _).trans rfl
@[simp] theorem State.updLanes_groups (e : Eng) (f : Engine → Engine) : (s.updLanes e f).groups = s.groups :=
  (s.inLanes_groups _ _).trans rfl
@[simp] theorem State.updLanes_adc (e : Eng) (f : Engine → Engine) : (s.updLanes e f).adc = s.adc :=
  (s.inLanes_adc _ _).trans rfl
@[simp] theorem State.updLanes_mtr (e : Eng) (f : Engine → Engine) : (s.updLanes e f).mtr = s.mtr :=
  (s.inLanes_mtr _ _).trans rfl
@[simp] theorem State.updLanes_trip (e : Eng) (f : Engine → Engine) : (s.updLanes e f).trip = s.trip :=
  (s.inLanes_trip _ _).trans rfl
@[simp] theorem State.updLanes_col (e : Eng) (f : Engine → Engine) : (s.updLanes e f).col = s.col :=
  (s.inLanes_col _ _).trans rfl
@[simp] theorem State.updLanes_wdg (e : Eng) (f : Engine → Engine) : (s.updLanes e f).wdg = s.wdg :=
  (s.inLanes_wdg _ _).trans rfl
@[simp] theorem State.updLanes_rcd (e : Eng) (f : Engine → Engine) : (s.updLanes e f).rcd = s.rcd :=
  (s.inLanes_rcd _ _).trans rfl
@[simp] theorem State.updLanes_mon (e : Eng) (f : Engine → Engine) : (s.updLanes e f).mon = s.mon :=
  (s.inLanes_mon _ _).trans rfl
@[simp] theorem State.updLanes_sht (e : Eng) (f : Engine → Engine) : (s.updLanes e f).sht = s.sht :=
  (s.inLanes_sht _ _).trans rfl
@[simp] theorem State.updLanes_jsn (e : Eng) (f : Engine → Engine) : (s.updLanes e f).jsn = s.jsn :=
  (s.inLanes_jsn _ _).trans rfl
@[simp] theorem State.updLanes_dev (e : Eng) (f : Engine → Engine) : (s.updLanes e f).dev = s.dev :=
  (s.inLanes_dev _ _).trans rfl
@[simp] theorem State.updLanes_boot (e : Eng) (f : Engine → Engine) : (s.updLanes e f).boot = s.boot :=
  (s.inLanes_boot _ _).trans rfl
@[simp] theorem State.updLanes_clk (e : Eng) (f : Engine → Engine) : (s.updLanes e f).clk = s.clk :=
  (s.inLanes_clk _ _).trans rfl
@[simp] theorem State.updLanes_tap (e : Eng) (f : Engine → Engine) : (s.updLanes e f).tap = s.tap :=
  (s.inLanes_tap _ _).trans rfl

@[simp] theorem State.updThrs_pending (e : Eng) (t : Thr) (f : Thread → Thread) : (s.updThrs e t f).pending = s.pending :=
  s.updLanes_pending _ _
@[simp] theorem State.updThrs_fk (e : Eng) (t : Thr) (f : Thread → Thread) : (s.updThrs e t f).fk = s.fk :=
  s.updLanes_fk _ _
@[simp] theorem State.updThrs_runFk (e : Eng) (t : Thr) (f : Thread → Thread) : (s.updThrs e t f).runFk = s.runFk :=
  s.updLanes_runFk _ _
@[simp] theorem State.updThrs_free (e : Eng) (t : Thr) (f : Thread → Thread) : (s.updThrs e t f).free = s.free :=
  s.updLanes_free _ _
@[simp] theorem State.updThrs_runs (e : Eng) (t : Thr) (f : Thread → Thread) : (s.updThrs e t f).runs = s.runs :=
  s.updLanes_runs _ _
@[simp] theorem State.updThrs_regs (e : Eng) (t : Thr) (f : Thread → Thread) : (s.updThrs e t f).regs = s.regs :=
  s.updLanes_regs _ _
@[simp] theorem State.updThrs_mem (e : Eng) (t : Thr) (f : Thread → Thread) : (s.updThrs e t f).mem = s.mem :=
  s.updLanes_mem _ _
@[simp] theorem State.updThrs_prog (e : Eng) (t : Thr) (f : Thread → Thread) : (s.updThrs e t f).prog = s.prog :=
  s.updLanes_prog _ _
@[simp] theorem State.updThrs_upset (e : Eng) (t : Thr) (f : Thread → Thread) : (s.updThrs e t f).upset = s.upset :=
  s.updLanes_upset _ _
@[simp] theorem State.updThrs_flights (e : Eng) (t : Thr) (f : Thread → Thread) : (s.updThrs e t f).flights = s.flights :=
  s.updLanes_flights _ _
@[simp] theorem State.updThrs_clusters (e : Eng) (t : Thr) (f : Thread → Thread) : (s.updThrs e t f).clusters = s.clusters :=
  s.updLanes_clusters _ _
@[simp] theorem State.updThrs_chans (e : Eng) (t : Thr) (f : Thread → Thread) : (s.updThrs e t f).chans = s.chans :=
  s.updLanes_chans _ _
@[simp] theorem State.updThrs_groups (e : Eng) (t : Thr) (f : Thread → Thread) : (s.updThrs e t f).groups = s.groups :=
  s.updLanes_groups _ _
@[simp] theorem State.updThrs_adc (e : Eng) (t : Thr) (f : Thread → Thread) : (s.updThrs e t f).adc = s.adc :=
  s.updLanes_adc _ _
@[simp] theorem State.updThrs_mtr (e : Eng) (t : Thr) (f : Thread → Thread) : (s.updThrs e t f).mtr = s.mtr :=
  s.updLanes_mtr _ _
@[simp] theorem State.updThrs_trip (e : Eng) (t : Thr) (f : Thread → Thread) : (s.updThrs e t f).trip = s.trip :=
  s.updLanes_trip _ _
@[simp] theorem State.updThrs_col (e : Eng) (t : Thr) (f : Thread → Thread) : (s.updThrs e t f).col = s.col :=
  s.updLanes_col _ _
@[simp] theorem State.updThrs_wdg (e : Eng) (t : Thr) (f : Thread → Thread) : (s.updThrs e t f).wdg = s.wdg :=
  s.updLanes_wdg _ _
@[simp] theorem State.updThrs_rcd (e : Eng) (t : Thr) (f : Thread → Thread) : (s.updThrs e t f).rcd = s.rcd :=
  s.updLanes_rcd _ _
@[simp] theorem State.updThrs_mon (e : Eng) (t : Thr) (f : Thread → Thread) : (s.updThrs e t f).mon = s.mon :=
  s.updLanes_mon _ _
@[simp] theorem State.updThrs_sht (e : Eng) (t : Thr) (f : Thread → Thread) : (s.updThrs e t f).sht = s.sht :=
  s.updLanes_sht _ _
@[simp] theorem State.updThrs_jsn (e : Eng) (t : Thr) (f : Thread → Thread) : (s.updThrs e t f).jsn = s.jsn :=
  s.updLanes_jsn _ _
@[simp] theorem State.updThrs_dev (e : Eng) (t : Thr) (f : Thread → Thread) : (s.updThrs e t f).dev = s.dev :=
  s.updLanes_dev _ _
@[simp] theorem State.updThrs_boot (e : Eng) (t : Thr) (f : Thread → Thread) : (s.updThrs e t f).boot = s.boot :=
  s.updLanes_boot _ _
@[simp] theorem State.updThrs_clk (e : Eng) (t : Thr) (f : Thread → Thread) : (s.updThrs e t f).clk = s.clk :=
  s.updLanes_clk _ _
@[simp] theorem State.updThrs_tap (e : Eng) (t : Thr) (f : Thread → Thread) : (s.updThrs e t f).tap = s.tap :=
  s.updLanes_tap _ _

@[simp] theorem State.setLine_pending (e : Eng) (n : Nat) : (s.setLine e n).pending = s.pending := by
  unfold State.setLine
  split
  · rfl
  · exact s.updLanes_pending _ _
@[simp] theorem State.setLine_fk (e : Eng) (n : Nat) : (s.setLine e n).fk = s.fk := by
  unfold State.setLine
  split
  · rfl
  · exact s.updLanes_fk _ _
@[simp] theorem State.setLine_runFk (e : Eng) (n : Nat) : (s.setLine e n).runFk = s.runFk := by
  unfold State.setLine
  split
  · rfl
  · exact s.updLanes_runFk _ _
@[simp] theorem State.setLine_free (e : Eng) (n : Nat) : (s.setLine e n).free = s.free := by
  unfold State.setLine
  split
  · rfl
  · exact s.updLanes_free _ _
@[simp] theorem State.setLine_runs (e : Eng) (n : Nat) : (s.setLine e n).runs = s.runs := by
  unfold State.setLine
  split
  · rfl
  · exact s.updLanes_runs _ _
@[simp] theorem State.setLine_regs (e : Eng) (n : Nat) : (s.setLine e n).regs = s.regs := by
  unfold State.setLine
  split
  · rfl
  · exact s.updLanes_regs _ _
@[simp] theorem State.setLine_mem (e : Eng) (n : Nat) : (s.setLine e n).mem = s.mem := by
  unfold State.setLine
  split
  · rfl
  · exact s.updLanes_mem _ _
@[simp] theorem State.setLine_prog (e : Eng) (n : Nat) : (s.setLine e n).prog = s.prog := by
  unfold State.setLine
  split
  · rfl
  · exact s.updLanes_prog _ _
@[simp] theorem State.setLine_upset (e : Eng) (n : Nat) : (s.setLine e n).upset = s.upset := by
  unfold State.setLine
  split
  · rfl
  · exact s.updLanes_upset _ _
@[simp] theorem State.setLine_flights (e : Eng) (n : Nat) : (s.setLine e n).flights = s.flights := by
  unfold State.setLine
  split
  · rfl
  · exact s.updLanes_flights _ _
@[simp] theorem State.setLine_clusters (e : Eng) (n : Nat) : (s.setLine e n).clusters = s.clusters := by
  unfold State.setLine
  split
  · rfl
  · exact s.updLanes_clusters _ _
@[simp] theorem State.setLine_chans (e : Eng) (n : Nat) : (s.setLine e n).chans = s.chans := by
  unfold State.setLine
  split
  · rfl
  · exact s.updLanes_chans _ _
@[simp] theorem State.setLine_groups (e : Eng) (n : Nat) : (s.setLine e n).groups = s.groups := by
  unfold State.setLine
  split
  · rfl
  · exact s.updLanes_groups _ _
@[simp] theorem State.setLine_adc (e : Eng) (n : Nat) : (s.setLine e n).adc = s.adc := by
  unfold State.setLine
  split
  · rfl
  · exact s.updLanes_adc _ _
@[simp] theorem State.setLine_mtr (e : Eng) (n : Nat) : (s.setLine e n).mtr = s.mtr := by
  unfold State.setLine
  split
  · rfl
  · exact s.updLanes_mtr _ _
@[simp] theorem State.setLine_trip (e : Eng) (n : Nat) : (s.setLine e n).trip = s.trip := by
  unfold State.setLine
  split
  · rfl
  · exact s.updLanes_trip _ _
@[simp] theorem State.setLine_col (e : Eng) (n : Nat) : (s.setLine e n).col = s.col := by
  unfold State.setLine
  split
  · rfl
  · exact s.updLanes_col _ _
@[simp] theorem State.setLine_wdg (e : Eng) (n : Nat) : (s.setLine e n).wdg = s.wdg := by
  unfold State.setLine
  split
  · rfl
  · exact s.updLanes_wdg _ _
@[simp] theorem State.setLine_rcd (e : Eng) (n : Nat) : (s.setLine e n).rcd = s.rcd := by
  unfold State.setLine
  split
  · rfl
  · exact s.updLanes_rcd _ _
@[simp] theorem State.setLine_mon (e : Eng) (n : Nat) : (s.setLine e n).mon = s.mon := by
  unfold State.setLine
  split
  · rfl
  · exact s.updLanes_mon _ _
@[simp] theorem State.setLine_sht (e : Eng) (n : Nat) : (s.setLine e n).sht = s.sht := by
  unfold State.setLine
  split
  · rfl
  · exact s.updLanes_sht _ _
@[simp] theorem State.setLine_jsn (e : Eng) (n : Nat) : (s.setLine e n).jsn = s.jsn := by
  unfold State.setLine
  split
  · rfl
  · exact s.updLanes_jsn _ _
@[simp] theorem State.setLine_dev (e : Eng) (n : Nat) : (s.setLine e n).dev = s.dev := by
  unfold State.setLine
  split
  · rfl
  · exact s.updLanes_dev _ _
@[simp] theorem State.setLine_boot (e : Eng) (n : Nat) : (s.setLine e n).boot = s.boot := by
  unfold State.setLine
  split
  · rfl
  · exact s.updLanes_boot _ _
@[simp] theorem State.setLine_clk (e : Eng) (n : Nat) : (s.setLine e n).clk = s.clk := by
  unfold State.setLine
  split
  · rfl
  · exact s.updLanes_clk _ _
@[simp] theorem State.setLine_tap (e : Eng) (n : Nat) : (s.setLine e n).tap = s.tap := by
  unfold State.setLine
  split
  · rfl
  · exact s.updLanes_tap _ _

/-! ### Indexed parts -/

@[simp] theorem upd_self {α : Type} {n : Nat} (v : Vector α n) (i : Fin n) (f : α → α) : (upd v i f)[i.val] = f v[i.val] := by
  simp [upd]
theorem upd_other {α : Type} {n : Nat} (v : Vector α n) {i k : Fin n} (f : α → α) (h : k ≠ i) : (upd v i f)[k.val] = v[k.val] := by
  have : i.val ≠ k.val := fun q => h (Fin.ext q.symm)
  simp [upd, this]

@[simp] theorem State.updEng_eng (e : Eng) (f : Engine → Engine) : (s.updEng e f).eng e = f (s.eng e) := by
  simp [State.eng, State.updEng, State.setEng]
theorem State.updEng_eng_other {e k : Eng} (f : Engine → Engine) (h : k ≠ e) : (s.updEng e f).eng k = s.eng k := by
  have : e.val ≠ k.val := fun q => h (Fin.ext q.symm)
  simp [State.eng, State.updEng, State.setEng, this]

@[simp] theorem Engine.updThr_thr (x : Engine) (t : Thr) (f : Thread → Thread) : (x.updThr t f).thr t = f (x.thr t) := by
  simp [Engine.thr, Engine.updThr]
theorem Engine.updThr_thr_other (x : Engine) {t k : Thr} (f : Thread → Thread) (h : k ≠ t) : (x.updThr t f).thr k = x.thr k := by
  have : t.val ≠ k.val := fun q => h (Fin.ext q.symm)
  simp [Engine.thr, Engine.updThr, this]

@[simp] theorem State.updThr_thr (e : Eng) (t : Thr) (f : Thread → Thread) : (s.updThr e t f).thr e t = f (s.thr e t) := by
  simp [State.thr, State.updThr]
theorem State.updThr_thr_other {e k : Eng} {t u : Thr} (f : Thread → Thread) (h : (k, u) ≠ (e, t)) :
    (s.updThr e t f).thr k u = s.thr k u := by
  by_cases he : k = e
  · subst he
    have : u ≠ t := fun q => h (by rw [q])
    simp [State.thr, State.updThr, Engine.updThr_thr_other _ f this]
  · simp [State.thr, State.updThr, State.updEng_eng_other s _ he]

@[simp] theorem State.updClu_clu (c : Clu) (f : Cluster → Cluster) : (s.updClu c f).clu c = f (s.clu c) := by
  simp [State.clu, State.updClu]
theorem State.updClu_clu_other {c k : Clu} (f : Cluster → Cluster) (h : k ≠ c) : (s.updClu c f).clu k = s.clu k := by
  have : c.val ≠ k.val := fun q => h (Fin.ext q.symm)
  simp [State.clu, State.updClu, this]

@[simp] theorem State.updChan_chan (n : Chan) (f : Channel → Channel) : (s.updChan n f).chan n = f (s.chan n) := by
  simp [State.chan, State.updChan]
theorem State.updChan_chan_other {n k : Chan} (f : Channel → Channel) (h : k ≠ n) : (s.updChan n f).chan k = s.chan k := by
  have : n.val ≠ k.val := fun q => h (Fin.ext q.symm)
  simp [State.chan, State.updChan, this]

@[simp] theorem State.updSrc_src (n : Fin 160) (f : Source → Source) : (s.updSrc n f).src n = f (s.src n) := by
  simp [State.src, State.updSrc]
theorem State.updSrc_src_other {n k : Fin 160} (f : Source → Source) (h : k ≠ n) : (s.updSrc n f).src k = s.src k := by
  have : n.val ≠ k.val := fun q => h (Fin.ext q.symm)
  simp [State.src, State.updSrc, this]

end Sys2Proof.Machine
end

