-- ==== Sys2Proof/Laws/Ops.lean ====
section
/-! SUPPORT. The shared operations, each once: what a port trigger answers, what a register write answers, and which parts of the
state an interrupt line, a fault event, a record, a capture, a snapshot and a mode change leave alone. -/

namespace Sys2Proof.Machine

variable (s : State)

/-! ### Lanes -/

/-- Lanes that agree do one thing. -/
theorem State.inLanes_of_together {s : State} {e : Eng} (h : s.together e = true) (f : State → State) : s.inLanes e f = f s := by
  simp only [State.together, Engine.together, Bool.and_eq_true, Bool.not_eq_true'] at h
  simp [State.inLanes, State.inLanesWith, laneList, h]

theorem State.updLanes_of_together {s : State} {e : Eng} (h : s.together e = true) (f : Engine → Engine) :
    s.updLanes e f = s.updEng e f := s.inLanes_of_together h _

theorem State.updThrs_of_together {s : State} {e : Eng} (h : s.together e = true) (t : Thr) (f : Thread → Thread) :
    s.updThrs e t f = s.updThr e t f := State.updLanes_of_together h _

/-- Lanes that agree ask for one thing, or for nothing: the vote passes. -/
theorem State.voteNow_of_together {α : Type} [DecidableEq α] {s : State} {e : Eng} (h : s.together e = true) (t : Thr)
    (req : State → Option α) (go : α → State → State) : s.voteNow e t req go = match req s with
      | some a => go a s
      | none => s := by
  simp only [State.together, Engine.together, Bool.and_eq_true, Bool.not_eq_true'] at h
  have hl : ∀ l : Lane, (s.eng e).apart l = false := fun l => by cases l <;> simp [h]
  simp only [State.voteNow, State.askOf, hl, Bool.false_eq_true, if_false, decide_true, Bool.true_or, if_true, State.voteEnd]
  match hg : (s.heddle e).good with
  | [] | [_] | [_, _] | [_, _, _] => simp; cases req s <;> rfl
  | _ :: _ :: _ :: _ :: r =>
    have : r.filter (fun _ => false) = [] := List.filter_eq_nil_iff.mpr fun _ _ => Bool.false_ne_true
    simp [this]; cases req s <;> rfl

/-! ### A port trigger -/

/-- An accepted trigger does what its port does under the thread's rights: the port's state, with the pc the port gives and its
requests sent to the vote, or its precise fault, or the start of its table walk. -/
theorem State.fire_of_accepts {s : State} {e : Eng} {t : Thr} {d : Nat} {v : Word} (h : s.accepts e t d v = true)
    (op : State → Force → PortOut) :
    s.fire e t d v op = match op s (s.force e t) with
      | .ok u reqs (some a) => .next ((u.updThr e t fun x => { x with pc := a }).send e t reqs)
      | .ok u reqs none => .next (u.send e t reqs)
      | .fault q bad => .next (s.refuse e t q bad)
      | .miss va w half => .next (s.startWalk e t va w half false v) := by
  simp only [State.accepts, Bool.and_eq_true, Option.isNone_iff_eq_none] at h
  obtain ⟨⟨⟨⟨h0, h1⟩, h2⟩, h3⟩, h4⟩ := h
  simp only [State.fire, State.inLanes_of_together h0, State.fireIn, h1, h2, h3, h4]
  cases op s (s.force e t) with
  | ok u r j => cases j <;> rfl
  | fault q b => rfl
  | miss a b c => rfl

/-- A trigger that sends nothing leaves its port's state. -/
@[simp] theorem State.send_nil (e : Eng) (t : Thr) : s.send e t [] = s := rfl

/-- A thread of lanes that agree and that cannot move now is left as it is. -/
theorem State.fire_of_not_ready {s : State} {e : Eng} {t : Thr} {d : Nat} {v : Word} (op : State → Force → PortOut)
    (h0 : s.together e = true) (h : s.mayMove e t = false) : s.fire e t d v op = .next s := by
  simp [State.fire, State.inLanes_of_together h0, State.fireIn, h]

/-! ### A register write -/

/-- A master that cannot write now changes nothing. -/
theorem State.writeCommand_not_live {s : State} {m : Master} {a : Nat} (v : Word) (h : s.live m = false) :
    s.writeCommand m a v = .next s := by
  simp [State.writeCommand, h]

/-- A write that the master may make answers what the register does with it. -/
theorem State.writeCommand_of_canWrite {s : State} {m : Master} {a : Nat} (v : Word) (h : s.canWrite m a = true) :
    s.writeCommand m a v = match (s.wakeFor a).put m a v with
      | .ok t => .next (t.acceptedAt m)
      | .refused t => .next ((t.countRefusal m a).refusedAt m a) := by
  simp only [State.canWrite, Bool.and_eq_true, Bool.not_eq_true'] at h
  obtain ⟨⟨hl, hc⟩, h⟩ := h
  split at h
  · next r hr =>
    simp only [Bool.and_eq_true, decide_eq_true_eq] at h
    simp only [State.writeCommand, hl, if_true, State.writeReg, hc, hr, h.1, Bool.not_true, Bool.false_eq_true, if_false, h.2]
    cases (s.wakeFor a).put m a v <;> simp
  · exact absurd h (by simp)

/-- A write of an address with no register, or of one that the master may not write, is refused. -/
theorem State.writeCommand_refused {s : State} {m : Master} {a : Nat} (v : Word) (hl : s.live m = true)
    (hc : s.cutOff m (BitVec.ofNat 24 a) = false) (h : ∀ r, regInfo a = some r → s.accOk m a r = false) :
    s.writeCommand m a v = .next (((s.wakeFor a).countRefusal m a).refusedAt m a) := by
  have e : s.writeReg m a v = (false, (s.wakeFor a).countRefusal m a) := by
    unfold State.writeReg
    simp only [hc, Bool.false_eq_true, if_false]
    split
    · rfl
    · next r hr => simp [h r hr]
  simp [State.writeCommand, hl, e]

/-! ### Interrupt lines, events, records, captures, snapshots, modes -/

@[simp] theorem State.setLines_pending (es : List Eng) (n : Nat) : (s.setLines es n).pending = s.pending := by
  induction es generalizing s with
  | nil => rfl
  | cons e r ih => exact (ih _).trans (s.setLine_pending e n)
@[simp] theorem State.setLines_fk (es : List Eng) (n : Nat) : (s.setLines es n).fk = s.fk := by
  induction es generalizing s with
  | nil => rfl
  | cons e r ih => exact (ih _).trans (s.setLine_fk e n)
@[simp] theorem State.setLines_runFk (es : List Eng) (n : Nat) : (s.setLines es n).runFk = s.runFk := by
  induction es generalizing s with
  | nil => rfl
  | cons e r ih => exact (ih _).trans (s.setLine_runFk e n)
@[simp] theorem State.setLines_free (es : List Eng) (n : Nat) : (s.setLines es n).free = s.free := by
  induction es generalizing s with
  | nil => rfl
  | cons e r ih => exact (ih _).trans (s.setLine_free e n)
@[simp] theorem State.setLines_runs (es : List Eng) (n : Nat) : (s.setLines es n).runs = s.runs := by
  induction es generalizing s with
  | nil => rfl
  | cons e r ih => exact (ih _).trans (s.setLine_runs e n)
@[simp] theorem State.setLines_regs (es : List Eng) (n : Nat) : (s.setLines es n).regs = s.regs := by
  induction es generalizing s with
  | nil => rfl
  | cons e r ih => exact (ih _).trans (s.setLine_regs e n)
@[simp] theorem State.setLines_mem (es : List Eng) (n : Nat) : (s.setLines es n).mem = s.mem := by
  induction es generalizing s with
  | nil => rfl
  | cons e r ih => exact (ih _).trans (s.setLine_mem e n)
@[simp] theorem State.setLines_prog (es : List Eng) (n : Nat) : (s.setLines es n).prog = s.prog := by
  induction es generalizing s with
  | nil => rfl
  | cons e r ih => exact (ih _).trans (s.setLine_prog e n)
@[simp] theorem State.setLines_upset (es : List Eng) (n : Nat) : (s.setLines es n).upset = s.upset := by
  induction es generalizing s with
  | nil => rfl
  | cons e r ih => exact (ih _).trans (s.setLine_upset e n)
@[simp] theorem State.setLines_flights (es : List Eng) (n : Nat) : (s.setLines es n).flights = s.flights := by
  induction es generalizing s with
  | nil => rfl
  | cons e r ih => exact (ih _).trans (s.setLine_flights e n)
@[simp] theorem State.setLines_clusters (es : List Eng) (n : Nat) : (s.setLines es n).clusters = s.clusters := by
  induction es generalizing s with
  | nil => rfl
  | cons e r ih => exact (ih _).trans (s.setLine_clusters e n)
@[simp] theorem State.setLines_dev (es : List Eng) (n : Nat) : (s.setLines es n).dev = s.dev := by
  induction es generalizing s with
  | nil => rfl
  | cons e r ih => exact (ih _).trans (s.setLine_dev e n)
@[simp] theorem State.setLines_boot (es : List Eng) (n : Nat) : (s.setLines es n).boot = s.boot := by
  induction es generalizing s with
  | nil => rfl
  | cons e r ih => exact (ih _).trans (s.setLine_boot e n)

@[simp] theorem State.raiseBy_pending (q : Option Requester) (n : Fin 160) (c : BitVec 7) (p : DWord) :
    (s.raiseBy q n c p).pending = s.pending := by
  unfold State.raiseBy
  split
  · rfl
  · split
    · refine (State.updSrc_pending _ _ _).trans ?_
      split
      · exact State.setLines_pending s engList 15
      · rfl
    · rfl
@[simp] theorem State.raiseBy_fk (q : Option Requester) (n : Fin 160) (c : BitVec 7) (p : DWord) :
    (s.raiseBy q n c p).fk = s.fk := by
  unfold State.raiseBy
  split
  · rfl
  · split
    · refine (State.updSrc_fk _ _ _).trans ?_
      split
      · exact State.setLines_fk s engList 15
      · rfl
    · rfl
@[simp] theorem State.raiseBy_runFk (q : Option Requester) (n : Fin 160) (c : BitVec 7) (p : DWord) :
    (s.raiseBy q n c p).runFk = s.runFk := by
  unfold State.raiseBy
  split
  · rfl
  · split
    · refine (State.updSrc_runFk _ _ _).trans ?_
      split
      · exact State.setLines_runFk s engList 15
      · rfl
    · rfl
@[simp] theorem State.raiseBy_free (q : Option Requester) (n : Fin 160) (c : BitVec 7) (p : DWord) :
    (s.raiseBy q n c p).free = s.free := by
  unfold State.raiseBy
  split
  · rfl
  · split
    · refine (State.updSrc_free _ _ _).trans ?_
      split
      · exact State.setLines_free s engList 15
      · rfl
    · rfl
@[simp] theorem State.raiseBy_runs (q : Option Requester) (n : Fin 160) (c : BitVec 7) (p : DWord) :
    (s.raiseBy q n c p).runs = s.runs := by
  unfold State.raiseBy
  split
  · rfl
  · split
    · refine (State.updSrc_runs _ _ _).trans ?_
      split
      · exact State.setLines_runs s engList 15
      · rfl
    · rfl
@[simp] theorem State.raiseBy_regs (q : Option Requester) (n : Fin 160) (c : BitVec 7) (p : DWord) :
    (s.raiseBy q n c p).regs = s.regs := by
  unfold State.raiseBy
  split
  · rfl
  · split
    · refine (State.updSrc_regs _ _ _).trans ?_
      split
      · exact State.setLines_regs s engList 15
      · rfl
    · rfl
@[simp] theorem State.raiseBy_mem (q : Option Requester) (n : Fin 160) (c : BitVec 7) (p : DWord) :
    (s.raiseBy q n c p).mem = s.mem := by
  unfold State.raiseBy
  split
  · rfl
  · split
    · refine (State.updSrc_mem _ _ _).trans ?_
      split
      · exact State.setLines_mem s engList 15
      · rfl
    · rfl
@[simp] theorem State.raiseBy_prog (q : Option Requester) (n : Fin 160) (c : BitVec 7) (p : DWord) :
    (s.raiseBy q n c p).prog = s.prog := by
  unfold State.raiseBy
  split
  · rfl
  · split
    · refine (State.updSrc_prog _ _ _).trans ?_
      split
      · exact State.setLines_prog s engList 15
      · rfl
    · rfl
@[simp] theorem State.raiseBy_upset (q : Option Requester) (n : Fin 160) (c : BitVec 7) (p : DWord) :
    (s.raiseBy q n c p).upset = s.upset := by
  unfold State.raiseBy
  split
  · rfl
  · split
    · refine (State.updSrc_upset _ _ _).trans ?_
      split
      · exact State.setLines_upset s engList 15
      · rfl
    · rfl
@[simp] theorem State.raiseBy_flights (q : Option Requester) (n : Fin 160) (c : BitVec 7) (p : DWord) :
    (s.raiseBy q n c p).flights = s.flights := by
  unfold State.raiseBy
  split
  · rfl
  · split
    · refine (State.updSrc_flights _ _ _).trans ?_
      split
      · exact State.setLines_flights s engList 15
      · rfl
    · rfl
@[simp] theorem State.raiseBy_clusters (q : Option Requester) (n : Fin 160) (c : BitVec 7) (p : DWord) :
    (s.raiseBy q n c p).clusters = s.clusters := by
  unfold State.raiseBy
  split
  · rfl
  · split
    · refine (State.updSrc_clusters _ _ _).trans ?_
      split
      · exact State.setLines_clusters s engList 15
      · rfl
    · rfl
@[simp] theorem State.raiseBy_dev (q : Option Requester) (n : Fin 160) (c : BitVec 7) (p : DWord) :
    (s.raiseBy q n c p).dev = s.dev := by
  unfold State.raiseBy
  split
  · rfl
  · split
    · refine (State.updSrc_dev _ _ _).trans ?_
      split
      · exact State.setLines_dev s engList 15
      · rfl
    · rfl
@[simp] theorem State.raiseBy_boot (q : Option Requester) (n : Fin 160) (c : BitVec 7) (p : DWord) :
    (s.raiseBy q n c p).boot = s.boot := by
  unfold State.raiseBy
  split
  · rfl
  · split
    · refine (State.updSrc_boot _ _ _).trans ?_
      split
      · exact State.setLines_boot s engList 15
      · rfl
    · rfl
@[simp] theorem State.raise_pending (n : Fin 160) (c : BitVec 7) (p : DWord) : (s.raise n c p).pending = s.pending := s.raiseBy_pending _ _ _ _
@[simp] theorem State.raise_fk (n : Fin 160) (c : BitVec 7) (p : DWord) : (s.raise n c p).fk = s.fk := s.raiseBy_fk _ _ _ _
@[simp] theorem State.raise_runFk (n : Fin 160) (c : BitVec 7) (p : DWord) : (s.raise n c p).runFk = s.runFk := s.raiseBy_runFk _ _ _ _
@[simp] theorem State.raise_free (n : Fin 160) (c : BitVec 7) (p : DWord) : (s.raise n c p).free = s.free := s.raiseBy_free _ _ _ _
@[simp] theorem State.raise_runs (n : Fin 160) (c : BitVec 7) (p : DWord) : (s.raise n c p).runs = s.runs := s.raiseBy_runs _ _ _ _
@[simp] theorem State.raise_regs (n : Fin 160) (c : BitVec 7) (p : DWord) : (s.raise n c p).regs = s.regs := s.raiseBy_regs _ _ _ _
@[simp] theorem State.raise_mem (n : Fin 160) (c : BitVec 7) (p : DWord) : (s.raise n c p).mem = s.mem := s.raiseBy_mem _ _ _ _
@[simp] theorem State.raise_prog (n : Fin 160) (c : BitVec 7) (p : DWord) : (s.raise n c p).prog = s.prog := s.raiseBy_prog _ _ _ _
@[simp] theorem State.raise_upset (n : Fin 160) (c : BitVec 7) (p : DWord) : (s.raise n c p).upset = s.upset := s.raiseBy_upset _ _ _ _
@[simp] theorem State.raise_flights (n : Fin 160) (c : BitVec 7) (p : DWord) : (s.raise n c p).flights = s.flights := s.raiseBy_flights _ _ _ _
@[simp] theorem State.raise_clusters (n : Fin 160) (c : BitVec 7) (p : DWord) : (s.raise n c p).clusters = s.clusters := s.raiseBy_clusters _ _ _ _
@[simp] theorem State.raise_dev (n : Fin 160) (c : BitVec 7) (p : DWord) : (s.raise n c p).dev = s.dev := s.raiseBy_dev _ _ _ _
@[simp] theorem State.raise_boot (n : Fin 160) (c : BitVec 7) (p : DWord) : (s.raise n c p).boot = s.boot := s.raiseBy_boot _ _ _ _
@[simp] theorem State.raiseOf_pending (m : Master) (n : Fin 160) (c : BitVec 7) (p : DWord) : (s.raiseOf m n c p).pending = s.pending :=
  s.raiseBy_pending _ _ _ _
@[simp] theorem State.raiseOf_fk (m : Master) (n : Fin 160) (c : BitVec 7) (p : DWord) : (s.raiseOf m n c p).fk = s.fk :=
  s.raiseBy_fk _ _ _ _
@[simp] theorem State.raiseOf_runFk (m : Master) (n : Fin 160) (c : BitVec 7) (p : DWord) : (s.raiseOf m n c p).runFk = s.runFk :=
  s.raiseBy_runFk _ _ _ _
@[simp] theorem State.raiseOf_free (m : Master) (n : Fin 160) (c : BitVec 7) (p : DWord) : (s.raiseOf m n c p).free = s.free :=
  s.raiseBy_free _ _ _ _
@[simp] theorem State.raiseOf_runs (m : Master) (n : Fin 160) (c : BitVec 7) (p : DWord) : (s.raiseOf m n c p).runs = s.runs :=
  s.raiseBy_runs _ _ _ _
@[simp] theorem State.raiseOf_regs (m : Master) (n : Fin 160) (c : BitVec 7) (p : DWord) : (s.raiseOf m n c p).regs = s.regs :=
  s.raiseBy_regs _ _ _ _
@[simp] theorem State.raiseOf_mem (m : Master) (n : Fin 160) (c : BitVec 7) (p : DWord) : (s.raiseOf m n c p).mem = s.mem :=
  s.raiseBy_mem _ _ _ _
@[simp] theorem State.raiseOf_prog (m : Master) (n : Fin 160) (c : BitVec 7) (p : DWord) : (s.raiseOf m n c p).prog = s.prog :=
  s.raiseBy_prog _ _ _ _
@[simp] theorem State.raiseOf_upset (m : Master) (n : Fin 160) (c : BitVec 7) (p : DWord) : (s.raiseOf m n c p).upset = s.upset :=
  s.raiseBy_upset _ _ _ _
@[simp] theorem State.raiseOf_flights (m : Master) (n : Fin 160) (c : BitVec 7) (p : DWord) : (s.raiseOf m n c p).flights = s.flights :=
  s.raiseBy_flights _ _ _ _
@[simp] theorem State.raiseOf_clusters (m : Master) (n : Fin 160) (c : BitVec 7) (p : DWord) : (s.raiseOf m n c p).clusters = s.clusters :=
  s.raiseBy_clusters _ _ _ _
@[simp] theorem State.raiseOf_dev (m : Master) (n : Fin 160) (c : BitVec 7) (p : DWord) : (s.raiseOf m n c p).dev = s.dev :=
  s.raiseBy_dev _ _ _ _
@[simp] theorem State.raiseOf_boot (m : Master) (n : Fin 160) (c : BitVec 7) (p : DWord) : (s.raiseOf m n c p).boot = s.boot :=
  s.raiseBy_boot _ _ _ _

@[simp] theorem State.hirq_pending : (s.hirq).pending = s.pending := by
  unfold State.hirq
  dsimp only
  split
  · exact s.msix_pending _
  · rfl
@[simp] theorem State.hirq_fk : (s.hirq).fk = s.fk := by
  unfold State.hirq
  dsimp only
  split
  · exact s.msix_fk _
  · rfl
@[simp] theorem State.hirq_runFk : (s.hirq).runFk = s.runFk := by
  unfold State.hirq
  dsimp only
  split
  · exact s.msix_runFk _
  · rfl
@[simp] theorem State.hirq_free : (s.hirq).free = s.free := by
  unfold State.hirq
  dsimp only
  split
  · exact s.msix_free _
  · rfl
@[simp] theorem State.hirq_runs : (s.hirq).runs = s.runs := by
  unfold State.hirq
  dsimp only
  split
  · exact s.msix_runs _
  · rfl
@[simp] theorem State.hirq_regs : (s.hirq).regs = s.regs := by
  unfold State.hirq
  dsimp only
  split
  · exact s.msix_regs _
  · rfl
@[simp] theorem State.hirq_mem : (s.hirq).mem = s.mem := by
  unfold State.hirq
  dsimp only
  split
  · exact s.msix_mem _
  · rfl
@[simp] theorem State.hirq_prog : (s.hirq).prog = s.prog := by
  unfold State.hirq
  dsimp only
  split
  · exact s.msix_prog _
  · rfl
@[simp] theorem State.hirq_upset : (s.hirq).upset = s.upset := by
  unfold State.hirq
  dsimp only
  split
  · exact s.msix_upset _
  · rfl
@[simp] theorem State.hirq_flights : (s.hirq).flights = s.flights := by
  unfold State.hirq
  dsimp only
  split
  · exact s.msix_flights _
  · rfl
@[simp] theorem State.hirq_clusters : (s.hirq).clusters = s.clusters := by
  unfold State.hirq
  dsimp only
  split
  · exact s.msix_clusters _
  · rfl
@[simp] theorem State.hirq_dev : (s.hirq).dev = s.dev := by
  unfold State.hirq
  dsimp only
  split
  · exact s.msix_dev _
  · rfl
@[simp] theorem State.hirq_boot : (s.hirq).boot = s.boot := by
  unfold State.hirq
  dsimp only
  split
  · exact s.msix_boot _
  · rfl

@[simp] theorem State.modeRec_pending (c : Nat) (b : Bool) : (s.modeRec c b).pending = s.pending := by
  rfl
@[simp] theorem State.modeRec_fk (c : Nat) (b : Bool) : (s.modeRec c b).fk = s.fk := by
  rfl
@[simp] theorem State.modeRec_runFk (c : Nat) (b : Bool) : (s.modeRec c b).runFk = s.runFk := by
  rfl
@[simp] theorem State.modeRec_free (c : Nat) (b : Bool) : (s.modeRec c b).free = s.free := by
  rfl
@[simp] theorem State.modeRec_runs (c : Nat) (b : Bool) : (s.modeRec c b).runs = s.runs := by
  rfl
@[simp] theorem State.modeRec_regs (c : Nat) (b : Bool) : (s.modeRec c b).regs = s.regs := by
  rfl
@[simp] theorem State.modeRec_mem (c : Nat) (b : Bool) : (s.modeRec c b).mem = s.mem := by
  rfl
@[simp] theorem State.modeRec_prog (c : Nat) (b : Bool) : (s.modeRec c b).prog = s.prog := by
  rfl
@[simp] theorem State.modeRec_upset (c : Nat) (b : Bool) : (s.modeRec c b).upset = s.upset := by
  rfl
@[simp] theorem State.modeRec_flights (c : Nat) (b : Bool) : (s.modeRec c b).flights = s.flights := by
  rfl
@[simp] theorem State.modeRec_clusters (c : Nat) (b : Bool) : (s.modeRec c b).clusters = s.clusters := by
  rfl
@[simp] theorem State.modeRec_dev (c : Nat) (b : Bool) : (s.modeRec c b).dev = s.dev := by
  rfl
@[simp] theorem State.modeRec_boot (c : Nat) (b : Bool) : (s.modeRec c b).boot = s.boot := by
  rfl

@[simp] theorem State.waveTrigger_pending : (s.waveTrigger).pending = s.pending := by
  unfold State.waveTrigger
  split
  · rfl
  · simp only [State.updRcd_pending, State.logRec_pending]
@[simp] theorem State.waveTrigger_fk : (s.waveTrigger).fk = s.fk := by
  unfold State.waveTrigger
  split
  · rfl
  · simp only [State.updRcd_fk, State.logRec_fk]
@[simp] theorem State.waveTrigger_runFk : (s.waveTrigger).runFk = s.runFk := by
  unfold State.waveTrigger
  split
  · rfl
  · simp only [State.updRcd_runFk, State.logRec_runFk]
@[simp] theorem State.waveTrigger_free : (s.waveTrigger).free = s.free := by
  unfold State.waveTrigger
  split
  · rfl
  · simp only [State.updRcd_free, State.logRec_free]
@[simp] theorem State.waveTrigger_runs : (s.waveTrigger).runs = s.runs := by
  unfold State.waveTrigger
  split
  · rfl
  · simp only [State.updRcd_runs, State.logRec_runs]
@[simp] theorem State.waveTrigger_regs : (s.waveTrigger).regs = s.regs := by
  unfold State.waveTrigger
  split
  · rfl
  · simp only [State.updRcd_regs, State.logRec_regs]
@[simp] theorem State.waveTrigger_mem : (s.waveTrigger).mem = s.mem := by
  unfold State.waveTrigger
  split
  · rfl
  · simp only [State.updRcd_mem, State.logRec_mem]
@[simp] theorem State.waveTrigger_prog : (s.waveTrigger).prog = s.prog := by
  unfold State.waveTrigger
  split
  · rfl
  · simp only [State.updRcd_prog, State.logRec_prog]
@[simp] theorem State.waveTrigger_upset : (s.waveTrigger).upset = s.upset := by
  unfold State.waveTrigger
  split
  · rfl
  · simp only [State.updRcd_upset, State.logRec_upset]
@[simp] theorem State.waveTrigger_flights : (s.waveTrigger).flights = s.flights := by
  unfold State.waveTrigger
  split
  · rfl
  · simp only [State.updRcd_flights, State.logRec_flights]
@[simp] theorem State.waveTrigger_clusters : (s.waveTrigger).clusters = s.clusters := by
  unfold State.waveTrigger
  split
  · rfl
  · simp only [State.updRcd_clusters, State.logRec_clusters]
@[simp] theorem State.waveTrigger_dev : (s.waveTrigger).dev = s.dev := by
  unfold State.waveTrigger
  split
  · rfl
  · simp only [State.updRcd_dev, State.logRec_dev]
@[simp] theorem State.waveTrigger_boot : (s.waveTrigger).boot = s.boot := by
  unfold State.waveTrigger
  split
  · rfl
  · simp only [State.updRcd_boot, State.logRec_boot]

@[simp] theorem State.gaugeLine_pending (g : Fin 32) : (s.gaugeLine g).pending = s.pending := by
  simp [State.gaugeLine]
@[simp] theorem State.gaugeLine_fk (g : Fin 32) : (s.gaugeLine g).fk = s.fk := by
  simp [State.gaugeLine]
@[simp] theorem State.gaugeLine_runFk (g : Fin 32) : (s.gaugeLine g).runFk = s.runFk := by
  simp [State.gaugeLine]
@[simp] theorem State.gaugeLine_free (g : Fin 32) : (s.gaugeLine g).free = s.free := by
  simp [State.gaugeLine]
@[simp] theorem State.gaugeLine_runs (g : Fin 32) : (s.gaugeLine g).runs = s.runs := by
  simp [State.gaugeLine]
@[simp] theorem State.gaugeLine_regs (g : Fin 32) : (s.gaugeLine g).regs = s.regs := by
  simp [State.gaugeLine]
@[simp] theorem State.gaugeLine_mem (g : Fin 32) : (s.gaugeLine g).mem = s.mem := by
  simp [State.gaugeLine]
@[simp] theorem State.gaugeLine_prog (g : Fin 32) : (s.gaugeLine g).prog = s.prog := by
  simp [State.gaugeLine]
@[simp] theorem State.gaugeLine_upset (g : Fin 32) : (s.gaugeLine g).upset = s.upset := by
  simp [State.gaugeLine]
@[simp] theorem State.gaugeLine_flights (g : Fin 32) : (s.gaugeLine g).flights = s.flights := by
  simp [State.gaugeLine]
@[simp] theorem State.gaugeLine_clusters (g : Fin 32) : (s.gaugeLine g).clusters = s.clusters := by
  simp [State.gaugeLine]
@[simp] theorem State.gaugeLine_dev (g : Fin 32) : (s.gaugeLine g).dev = s.dev := by
  simp [State.gaugeLine]
@[simp] theorem State.gaugeLine_boot (g : Fin 32) : (s.gaugeLine g).boot = s.boot := by
  simp [State.gaugeLine]

@[simp] theorem State.gaugeSnap_pending (g : Fin 32) : (s.gaugeSnap g).pending = s.pending := by
  unfold State.gaugeSnap
  split
  · simp [State.updGauge]
  · rfl
@[simp] theorem State.gaugeSnap_fk (g : Fin 32) : (s.gaugeSnap g).fk = s.fk := by
  unfold State.gaugeSnap
  split
  · simp [State.updGauge]
  · rfl
@[simp] theorem State.gaugeSnap_runFk (g : Fin 32) : (s.gaugeSnap g).runFk = s.runFk := by
  unfold State.gaugeSnap
  split
  · simp [State.updGauge]
  · rfl
@[simp] theorem State.gaugeSnap_free (g : Fin 32) : (s.gaugeSnap g).free = s.free := by
  unfold State.gaugeSnap
  split
  · simp [State.updGauge]
  · rfl
@[simp] theorem State.gaugeSnap_runs (g : Fin 32) : (s.gaugeSnap g).runs = s.runs := by
  unfold State.gaugeSnap
  split
  · simp [State.updGauge]
  · rfl
@[simp] theorem State.gaugeSnap_regs (g : Fin 32) : (s.gaugeSnap g).regs = s.regs := by
  unfold State.gaugeSnap
  split
  · simp [State.updGauge]
  · rfl
@[simp] theorem State.gaugeSnap_mem (g : Fin 32) : (s.gaugeSnap g).mem = s.mem := by
  unfold State.gaugeSnap
  split
  · simp [State.updGauge]
  · rfl
@[simp] theorem State.gaugeSnap_prog (g : Fin 32) : (s.gaugeSnap g).prog = s.prog := by
  unfold State.gaugeSnap
  split
  · simp [State.updGauge]
  · rfl
@[simp] theorem State.gaugeSnap_upset (g : Fin 32) : (s.gaugeSnap g).upset = s.upset := by
  unfold State.gaugeSnap
  split
  · simp [State.updGauge]
  · rfl
@[simp] theorem State.gaugeSnap_flights (g : Fin 32) : (s.gaugeSnap g).flights = s.flights := by
  unfold State.gaugeSnap
  split
  · simp [State.updGauge]
  · rfl
@[simp] theorem State.gaugeSnap_clusters (g : Fin 32) : (s.gaugeSnap g).clusters = s.clusters := by
  unfold State.gaugeSnap
  split
  · simp [State.updGauge]
  · rfl
@[simp] theorem State.gaugeSnap_dev (g : Fin 32) : (s.gaugeSnap g).dev = s.dev := by
  unfold State.gaugeSnap
  split
  · simp [State.updGauge]
  · rfl
@[simp] theorem State.gaugeSnap_boot (g : Fin 32) : (s.gaugeSnap g).boot = s.boot := by
  unfold State.gaugeSnap
  split
  · simp [State.updGauge]
  · rfl

@[simp] theorem State.gaugesAtSafe_pending : (s.gaugesAtSafe).pending = s.pending := by
  unfold State.gaugesAtSafe
  exact foldl_keeps State.pending _ (fun t g => by split <;> simp) _ s
@[simp] theorem State.gaugesAtSafe_fk : (s.gaugesAtSafe).fk = s.fk := by
  unfold State.gaugesAtSafe
  exact foldl_keeps State.fk _ (fun t g => by split <;> simp) _ s
@[simp] theorem State.gaugesAtSafe_runFk : (s.gaugesAtSafe).runFk = s.runFk := by
  unfold State.gaugesAtSafe
  exact foldl_keeps State.runFk _ (fun t g => by split <;> simp) _ s
@[simp] theorem State.gaugesAtSafe_free : (s.gaugesAtSafe).free = s.free := by
  unfold State.gaugesAtSafe
  exact foldl_keeps State.free _ (fun t g => by split <;> simp) _ s
@[simp] theorem State.gaugesAtSafe_runs : (s.gaugesAtSafe).runs = s.runs := by
  unfold State.gaugesAtSafe
  exact foldl_keeps State.runs _ (fun t g => by split <;> simp) _ s
@[simp] theorem State.gaugesAtSafe_regs : (s.gaugesAtSafe).regs = s.regs := by
  unfold State.gaugesAtSafe
  exact foldl_keeps State.regs _ (fun t g => by split <;> simp) _ s
@[simp] theorem State.gaugesAtSafe_mem : (s.gaugesAtSafe).mem = s.mem := by
  unfold State.gaugesAtSafe
  exact foldl_keeps State.mem _ (fun t g => by split <;> simp) _ s
@[simp] theorem State.gaugesAtSafe_prog : (s.gaugesAtSafe).prog = s.prog := by
  unfold State.gaugesAtSafe
  exact foldl_keeps State.prog _ (fun t g => by split <;> simp) _ s
@[simp] theorem State.gaugesAtSafe_upset : (s.gaugesAtSafe).upset = s.upset := by
  unfold State.gaugesAtSafe
  exact foldl_keeps State.upset _ (fun t g => by split <;> simp) _ s
@[simp] theorem State.gaugesAtSafe_flights : (s.gaugesAtSafe).flights = s.flights := by
  unfold State.gaugesAtSafe
  exact foldl_keeps State.flights _ (fun t g => by split <;> simp) _ s
@[simp] theorem State.gaugesAtSafe_clusters : (s.gaugesAtSafe).clusters = s.clusters := by
  unfold State.gaugesAtSafe
  exact foldl_keeps State.clusters _ (fun t g => by split <;> simp) _ s
@[simp] theorem State.gaugesAtSafe_dev : (s.gaugesAtSafe).dev = s.dev := by
  unfold State.gaugesAtSafe
  exact foldl_keeps State.dev _ (fun t g => by split <;> simp) _ s
@[simp] theorem State.gaugesAtSafe_boot : (s.gaugesAtSafe).boot = s.boot := by
  unfold State.gaugesAtSafe
  exact foldl_keeps State.boot _ (fun t g => by split <;> simp) _ s

/-- Setting SAFE sets it (R333), and keeps every other bit of DEV. -/
@[simp] theorem State.setSafe_safe : s.setSafe.dev.safe = true := by
  unfold State.setSafe
  split
  · assumption
  · dsimp only
    split <;> simp

@[simp] theorem State.setSafe_pending : (s.setSafe).pending = s.pending := by
  unfold State.setSafe
  split
  · rfl
  · dsimp only
    split <;> simp
@[simp] theorem State.setSafe_fk : (s.setSafe).fk = s.fk := by
  unfold State.setSafe
  split
  · rfl
  · dsimp only
    split <;> simp
@[simp] theorem State.setSafe_runFk : (s.setSafe).runFk = s.runFk := by
  unfold State.setSafe
  split
  · rfl
  · dsimp only
    split <;> simp
@[simp] theorem State.setSafe_free : (s.setSafe).free = s.free := by
  unfold State.setSafe
  split
  · rfl
  · dsimp only
    split <;> simp
@[simp] theorem State.setSafe_runs : (s.setSafe).runs = s.runs := by
  unfold State.setSafe
  split
  · rfl
  · dsimp only
    split <;> simp
@[simp] theorem State.setSafe_regs : (s.setSafe).regs = s.regs := by
  unfold State.setSafe
  split
  · rfl
  · dsimp only
    split <;> simp
@[simp] theorem State.setSafe_mem : (s.setSafe).mem = s.mem := by
  unfold State.setSafe
  split
  · rfl
  · dsimp only
    split <;> simp
@[simp] theorem State.setSafe_prog : (s.setSafe).prog = s.prog := by
  unfold State.setSafe
  split
  · rfl
  · dsimp only
    split <;> simp
@[simp] theorem State.setSafe_upset : (s.setSafe).upset = s.upset := by
  unfold State.setSafe
  split
  · rfl
  · dsimp only
    split <;> simp
@[simp] theorem State.setSafe_flights : (s.setSafe).flights = s.flights := by
  unfold State.setSafe
  split
  · rfl
  · dsimp only
    split <;> simp
@[simp] theorem State.setSafe_clusters : (s.setSafe).clusters = s.clusters := by
  unfold State.setSafe
  split
  · rfl
  · dsimp only
    split <;> simp
@[simp] theorem State.setSafe_boot : (s.setSafe).boot = s.boot := by
  unfold State.setSafe
  split
  · rfl
  · dsimp only
    split <;> simp

@[simp] theorem State.setDegraded_pending : (s.setDegraded).pending = s.pending := by
  unfold State.setDegraded
  split <;> rfl
@[simp] theorem State.setDegraded_fk : (s.setDegraded).fk = s.fk := by
  unfold State.setDegraded
  split <;> rfl
@[simp] theorem State.setDegraded_runFk : (s.setDegraded).runFk = s.runFk := by
  unfold State.setDegraded
  split <;> rfl
@[simp] theorem State.setDegraded_free : (s.setDegraded).free = s.free := by
  unfold State.setDegraded
  split <;> rfl
@[simp] theorem State.setDegraded_runs : (s.setDegraded).runs = s.runs := by
  unfold State.setDegraded
  split <;> rfl
@[simp] theorem State.setDegraded_regs : (s.setDegraded).regs = s.regs := by
  unfold State.setDegraded
  split <;> rfl
@[simp] theorem State.setDegraded_mem : (s.setDegraded).mem = s.mem := by
  unfold State.setDegraded
  split <;> rfl
@[simp] theorem State.setDegraded_prog : (s.setDegraded).prog = s.prog := by
  unfold State.setDegraded
  split <;> rfl
@[simp] theorem State.setDegraded_upset : (s.setDegraded).upset = s.upset := by
  unfold State.setDegraded
  split <;> rfl
@[simp] theorem State.setDegraded_flights : (s.setDegraded).flights = s.flights := by
  unfold State.setDegraded
  split <;> rfl
@[simp] theorem State.setDegraded_clusters : (s.setDegraded).clusters = s.clusters := by
  unfold State.setDegraded
  split <;> rfl
@[simp] theorem State.setDegraded_boot : (s.setDegraded).boot = s.boot := by
  unfold State.setDegraded
  split <;> rfl

@[simp] theorem State.endHold_pending : (s.endHold).pending = s.pending := by
  unfold State.endHold
  split <;> rfl
@[simp] theorem State.endHold_fk : (s.endHold).fk = s.fk := by
  unfold State.endHold
  split <;> rfl
@[simp] theorem State.endHold_runFk : (s.endHold).runFk = s.runFk := by
  unfold State.endHold
  split <;> rfl
@[simp] theorem State.endHold_free : (s.endHold).free = s.free := by
  unfold State.endHold
  split <;> rfl
@[simp] theorem State.endHold_runs : (s.endHold).runs = s.runs := by
  unfold State.endHold
  split <;> rfl
@[simp] theorem State.endHold_regs : (s.endHold).regs = s.regs := by
  unfold State.endHold
  split <;> rfl
@[simp] theorem State.endHold_mem : (s.endHold).mem = s.mem := by
  unfold State.endHold
  split <;> rfl
@[simp] theorem State.endHold_prog : (s.endHold).prog = s.prog := by
  unfold State.endHold
  split <;> rfl
@[simp] theorem State.endHold_upset : (s.endHold).upset = s.upset := by
  unfold State.endHold
  split <;> rfl
@[simp] theorem State.endHold_flights : (s.endHold).flights = s.flights := by
  unfold State.endHold
  split <;> rfl
@[simp] theorem State.endHold_clusters : (s.endHold).clusters = s.clusters := by
  unfold State.endHold
  split <;> rfl
@[simp] theorem State.endHold_dev : (s.endHold).dev = s.dev := by
  unfold State.endHold
  split <;> rfl
@[simp] theorem State.endHold_boot : (s.endHold).boot = s.boot := by
  unfold State.endHold
  split <;> rfl

@[simp] theorem State.releaseSafe_pending : (s.releaseSafe).pending = s.pending := by
  unfold State.releaseSafe; split <;> simp
@[simp] theorem State.releaseSafe_fk : (s.releaseSafe).fk = s.fk := by
  unfold State.releaseSafe; split <;> simp
@[simp] theorem State.releaseSafe_runFk : (s.releaseSafe).runFk = s.runFk := by
  unfold State.releaseSafe; split <;> simp
@[simp] theorem State.releaseSafe_free : (s.releaseSafe).free = s.free := by
  unfold State.releaseSafe; split <;> simp
@[simp] theorem State.releaseSafe_runs : (s.releaseSafe).runs = s.runs := by
  unfold State.releaseSafe; split <;> simp
@[simp] theorem State.releaseSafe_regs : (s.releaseSafe).regs = s.regs := by
  unfold State.releaseSafe; split <;> simp
@[simp] theorem State.releaseSafe_mem : (s.releaseSafe).mem = s.mem := by
  unfold State.releaseSafe; split <;> simp
@[simp] theorem State.releaseSafe_prog : (s.releaseSafe).prog = s.prog := by
  unfold State.releaseSafe; split <;> simp
@[simp] theorem State.releaseSafe_upset : (s.releaseSafe).upset = s.upset := by
  unfold State.releaseSafe; split <;> simp
@[simp] theorem State.releaseSafe_flights : (s.releaseSafe).flights = s.flights := by
  unfold State.releaseSafe; split <;> simp
@[simp] theorem State.releaseSafe_clusters : (s.releaseSafe).clusters = s.clusters := by
  unfold State.releaseSafe; split <;> simp
@[simp] theorem State.releaseSafe_boot : (s.releaseSafe).boot = s.boot := by
  unfold State.releaseSafe; split <;> simp

/-- Releasing SAFE clears it, unless an event has set it in the same fabric clock (R334). -/
theorem State.releaseSafe_safe (h : s.dev.safeNow = false) : s.releaseSafe.dev.safe = false := by simp [State.releaseSafe, h]

theorem State.releaseSafe_of_safeNow (h : s.dev.safeNow = true) : s.releaseSafe = s := by simp [State.releaseSafe, h]

end Sys2Proof.Machine
end

