-- ==== Sys2Proof/WellFormed.lean ====
section
/-! DEFINITION. Which commands are well formed: the operands that a pin, a link, a host or an image can present. A meaning does not ask
for well-formedness; it says what the device does with whatever arrives. -/

namespace Sys2Proof

/-- A frame of 4 BUDGET, 5 EPOCH or 6 MAIL as R438 and R440 lay it out: N payload words. -/
def Frame.wf (typ : Nat) (f : Frame) : Bool :=
  if typ = 6 then decide (6 ≤ f.words.length) && decide (f.words.length ≤ 21) else decide (f.words.length = 4)

/-- A stop names a word of the descriptor's count (R408, R414). -/
def XferStop.wf : XferStop → Bool
  | .none => true
  | .device k _ => k < 1048576
  | .deviceWrite k _ => k < 1048576
  | .host k => k < 1048576
  | .poisoned k => k < 1048576

/-- An offset within an image, whose LEN has 24 bits (R476). -/
def LoadEnd.wf : LoadEnd → Bool
  | .ok => true
  | .targetFail k => k < 16777216
  | .sourceFail k => k < 16777216

/-- A well-formed command. -/
def Instr.wf : Instr → Bool
  -- a decimation interval has D group clocks, 4 to 512 (R235, R236)
  | .decimationIntervalEnd _ _ bits _ _ => decide (1 ≤ bits.length) && decide (bits.length ≤ 512)
  -- the event codes of the pins are 0x00 to 0x28 (R301)
  | .pioEvent p _ => decide (p.toNat ≤ 0x28)
  -- the fault sources are 0 to 135 (R320)
  | .faultEvent src _ _ => decide (src.val < 136)
  -- one of the three copies of the fabric may see the other level for a while, and the copies are three (R275)
  | .fabricPinLevel _ _ copies => decide (copies ≠ 0)
  -- 2.5, 5 or 8 GT/s, and x1 or x2 (R388)
  | .linkEnterL0 spd wid => decide (spd ≠ 0) && (decide (wid = 1) || decide (wid = 2))
  | .budget _ f => f.wf 4
  | .epoch _ f => f.wf 5
  | .mail _ f => f.wf 6
  -- a MAIL frame of a boot carries at most 16 data words (R438, R480)
  | .bootFrame _ _ data outcome => decide (1 ≤ data.length) && decide (data.length ≤ 15) && outcome.wf
  | .copyIn _ data stop => decide (data.length ≤ 1048576) && stop.wf
  | .copyOut _ stop => stop.wf
  | .recRead _ stop => stop.wf
  | .loadProgram _ data stop => decide (data.length ≤ 131072) && stop.wf
  | .qspiLoad image outcome => decide (image.length < 16777216) && outcome.wf
  | .hostLoad image outcome => decide (image.length < 16777216) && outcome.wf
  | .monitorQ _ image outcome => decide (image.length < 16777216) && outcome.wf
  | _ => true

end Sys2Proof
end

