-- ==== Sys2Proof/Tests/Slice0.lean ====
section
/-! SUPPORT. Tests: for every statement with hypotheses a state and operands that meet them (clause by
clause), the checks of WellFormed on ill-formed commands, and a few results the spec states.
The states are built by the helpers below; the numbers are examples only. -/

namespace Sys2Proof.Tests
set_option Elab.async false
open Sys2Proof Sys2Proof.Machine

def wr (s : State) (l : List (Nat × Word)) : State := l.foldl (fun s p => s.setReg p.1 p.2) s
def wm (s : State) (l : List (Nat × Word)) : State := l.foldl (fun s p => s.setMem p.1 p.2) s
def thr (s : State) (e : Eng) (t : Thr) (f : Thread → Thread) : State := s.updThr e t f
def run : State :=
  let s := wr { State.reset with dev := { phase := .run, safe := false, tethered := true } }
    [(engBase 0, 0x020), (engBase 1, 0x020), (engBase 8, 0x020), (selBase, 0x003), (selBase + 1, 1)]
  let go := fun (s : State) (e : Eng) (t : Thr) => s.updThr e t fun x => { x with run := .running }
  go (go (go (go (go s 0 0) 0 1) 1 0) 8 0) 8 1
def setup : State := wr { State.reset with dev := { phase := .setup, safe := true, tethered := true } } [(selBase, 0x003)]
def boot : State := State.reset
def live (s : State) : State := { s with sht := { s.sht with ready := true, coreUp := true, lup := true, bme := true, retry := false } }
def eStore (e : Eng) (t : Thr) : Master := .engine e t true
def ckFault : Checked → PFault | .fault q => q | _ => ⟨0, 0, 0, 0⟩
def outState (o : Host.Outcome State Fault Refusal) : State := match o with | .next t => t | _ => State.reset
def a1 := thr run 0 0 fun x => { x with alu := { x.alu with a := 0x7FF, c := true, z := true } }
def m0 := thr run 0 0 fun x => { x with mac := { x.mac with a := 0x123, ah := 0xFFF, bh := 0x012, acc := 0x7FFFFFFFFFFF }, mul := { x.mul with a := 0x800, ah := 0x800, bh := 0x7FF }, apx := { x.apx with xh := 0x100, y := 3 } }
def mp (op : MacOp) (arg acc : Quad) (am : Word) := thr run 0 0 fun x => { x with mac := { x.mac with acc := acc, pend := some ⟨op, arg, 5, 0x33, false⟩ }, exc := { x.exc with amask := am } }
def ap (op : ApxOp) (x : DWord) (y : Word) := { (thr run 0 0 fun q => { q with apx := { q.apx with pend := some ⟨op, x, y, 5, 0x3A, false⟩ } }) with fk := 0 }.updEng 0 fun y => { y with apxOwner := some 0 }
def l0 (seg ctl xx : Word) := thr run 0 0 fun x => { x with lsu := { x.lsu with seg := seg, ctl := ctl, x := xx, d := 0x111, dh := 0x222 } }
def lr (seg ctl xx : Word) (root : Bool) := let s := thr (l0 seg ctl xx) 0 0 fun x => { x with tm := 0 }; if root then wr s [(0x804000 + 0x40, 0x100), (0x804000 + 0x41, 0x800)] else s
def ld (l : Machine.Load) := thr run 0 0 fun x => { x with lsu := { x.lsu with load := some { l with sent := true } } }
def mem0 (s : State) := wm s [(0x100, 0x123), (0x101, 0x456), (0x102, 0x789), (0x40100, 0x321)]
def sb (l : List StoreEntry) := mem0 (run.updEng 0 fun y => { y with sbuf := l })
def se (a : Addr) (d : Word) (d2 : Option Word) : StoreEntry := { t := 0, pa := a, va := a, data := d, data2 := d2, half2 := false, machine := true, pc := 7, dest := 0x45, sent := true }
def fn (s : State) : State := thr s 0 0 fun x => { x with lsu := { x.lsu with fence := true } }
def bk (f : BlkState → BlkState) := thr run 0 0 fun x => { x with blk := f x.blk }
def bA (op : BitVec 2) (src dst cnt pat : Word) (sne : Bool := false) :=
  let s := wm (bk fun b => { b with active := true, op := op, sne := sne, live := { b.live with src := src, dst := dst, cnt := cnt, pat := pat } }) [(0x100, 5), (0x101, 5), (0x102, 7)]
  thr s 0 0 fun x => { x with tm := 0x800 }
def jm (f : Thread → Thread) := thr (thr run 0 0 fun x => { x with lk := 0x33, cnd := 1, tm := 0x800 }) 0 0 f
def gateOf (s : State) : Nat := (s.gate 0).toNat
def gateThi : Word := BitVec.ofNat 12 (gateOf run / 4096)
def gateV : Word := BitVec.ofNat 12 (gateOf run)
def jg (m : Bool) := jm fun x => { x with thi := gateThi, lk := run.gate 0, tm := if m then 0x800 else 0 }
def gfr : State := (run.enter 0 0 .nmi)
def li : Line := ⟨5, Vector.replicate 8 3, 0⟩
def icu (v : Bool) (pins : Nat) := (thr run 0 0 fun x => { x with icuAh := 0 }).updEng 0 fun y =>
  { y with sets := upd y.sets 5 fun c => { c with ways := #v[if v then some ⟨li, false⟩ else none, if 0 < pins then some ⟨{li with num := 64+5}, true⟩ else none, if 1 < pins then some ⟨{li with num := 128+5}, true⟩ else none, if 2 < pins then some ⟨{li with num := 192+5}, true⟩ else none] } }
def fil (s : State) (k : FillKind) := s.updEng 0 fun y => { y with fills := [⟨0, 5, k⟩] }
def fpc (s : State) : State := s.updThr 0 0 fun x => { x with pc := 43 }
def bc2 (s : State) (w2 : Word) (f : Channel → Channel) : State :=
  let s := wr s [(chanReg 0 0, 0xB00), (chanReg 0 2, w2), (chanReg 0 3, 0x004), (chanReg 0 5, 2)]
  { s with chans := upd s.chans 0 f }
def cur (c : Option Chan) (p : Nat) (sel : Word := 0) := thr run 0 0 fun x => { x with smp := { x.smp with sel := sel, chan := c, pos := p } }
def av (n : Nat) : Channel → Channel := fun c => { c with avail0 := n }
def mb (n : Nat) := run.updEng 0 fun y => { y with mbox := Vector.replicate 4 (List.replicate n ⟨5, 0x123⟩) }
def fli (s : State) (o : Option SendEnd) : State := { s with flights := [⟨1, 2, 0, 3, 0x456, o⟩] }
def tm (f : TmrState → TmrState) := thr run 0 0 fun x => { x with tmr := f x.tmr }
def lroot8 (s : State) := wr s [(rootReg 0 0, 0x100), (rootReg 0 0 + 1, 0x800)]
def wlk (d c : Bool) (ent : DWord) (op : Bool := false) : State := (wm (lroot8 run) [(0x2000 + 2*64, ent.setWidth 12), (0x2000 + 2*64+1, (ent >>> 12).setWidth 12)]).updEng 0 fun y =>
  { y with walk := some ⟨0, 0x10001, false, false, false, 0, d, op⟩, wcache := if c then upd y.wcache 0 fun _ => some ⟨0, 0, 0x2000⟩ else y.wcache }
def tl8 (p : DWord) : State := (lroot8 (thr run 0 0 fun x => { x with tm := 0 })).updEng 0 fun y => { y with tlb := upd y.tlb 0 fun _ => some ⟨0, 0x40, p⟩ }
def fo (k : Word) : Force := { (run.force 0 0) with machine := false, kr := #v[k, 0, 0] }
def slp (s : State) : State := { s with clusters := upd s.clusters 0 fun c => { c with banks := Vector.replicate 11 .retained } }
def sv (q : SvpOp) := run.updEng 0 fun y => { y with svpq := [q] }
def q1 : SvpOp := ⟨0, 1, 0, some 2, false, true⟩
def q2 : SvpOp := ⟨0, 1, 0, none, false, true⟩
def q3 : SvpOp := ⟨0, 0xFFF, 0, none, false, true⟩
def q4 : SvpOp := ⟨0, 1, 0, none, true, true⟩
def sel (s : State) : State := s.updEng 0 fun x => { x with cur := some 0 }
def ln (w : PWord) : Line := ⟨0, Vector.replicate 8 w, BitVec.ofNat 8 (((List.range 8).map fun k => bit1 (foldedParity k w) * 2 ^ k).sum)⟩
def mv (w : PWord) (m : Bool) : State := sel (thr run 0 0 fun x => { x with lb := some (ln w), tm := if m then 0x800 else 0, lsu := { x.lsu with seg := 0x300 }})
def cl0 (s : State) (f : Cluster → Cluster) : State := { s with clusters := upd s.clusters 0 f }
def lz : Line := ⟨0, Vector.replicate 8 0, BitVec.ofNat 8 (((List.range 8).map fun k => bit1 (foldedParity k (0 : PWord)) * 2 ^ k).sum)⟩
def lbs (s : State) : State := (s.updThr 0 0 fun x => { x with lb := some lz }).updThr 0 1 fun x => { x with lb := some lz }
def vl (s : State) (ev : Event) : State := s.updEng 0 fun y => y.takeLine (s.memLine 0 (s.vectorLine 0 0 ev)) false
def evs : State := (sel run).updEng 0 fun y => { y with nmi := true, lock := 0 }
def fs0 : FrameSlot := ⟨32512, some 0, false, false⟩
def ent : State := (thr run 0 0 fun x => { x with pc := 0x1234, thi := 9, g := x.g.set 1 77, tm := 0x600 })
def tl9 (s : State) : State := thr (s.enter 0 0 .nmi) 0 0 fun x => { x with ret := true }
def slp10 (s : State) : State := cl0 s fun c => { c with banks := Vector.replicate 11 .retained }
def runR : State := run.updHeddle 0 fun h => { h with retired := #v[true,false,false]}
def rq (a : Addr) (k : BitVec 4) : Request := { addr := a, kind := k, data := 5, parity := true }
def ou (l : List Request) (s : State) : State := s.updEng 0 fun x => { x with out := [⟨3, 0, l⟩], slot := 4, sbuf := [{ t := 0, pa := 1, va := 1, data := 5, data2 := some 6, half2 := false, machine := true, pc := 0, dest := 0x45 }] }
def vf : VoteFault := some (0, { presence := false, addr := 1, kind := 0, data := 0, parity := false, target := 0 })
def vg : VoteFault := some (1, { presence := true, addr := 1, kind := 0, data := 0, parity := false, target := 0 })
def se10 (s : State) : State := s.updEng 0 fun x => { x with sbuf := [{ t := 1, pa := 1, va := 1, data := 5, data2 := none, half2 := false, machine := true, pc := 0, dest := 0x45 }, { t := 0, pa := 1, va := 1, data := 5, data2 := none, half2 := false, machine := true, pc := 0, dest := 0x45 }], trqOut := 0x80, svpq := [{ t := 0, a := 1, b := 2, write := some 3, fence := false}] }
def sf (s : State) : State := s.updEng 0 fun x => { x with svpq := [{ t := 0, a := 1, b := 2, write := none, fence := true}] }
def cls (x y z : DWord) (rj : Bool) (s : State) : State := s.updHeddle 0 fun h => { h with closed := [⟨#v[x,y,z], rj, 0, #v[true,false,false]⟩] }
def runS (s : State) : State := s.updHeddle 0 fun h => { h with odd := some .a, phase := .inStep }
def rt (ph : RtPhase) : State := (run.updHeddle 0 fun h => { h with phase := ph, odd := some .b }).updEng 0 fun x => { x with stray := x.stray.set 1 (some {run.eng 0 with sbuf := [{ t := 0, pa := 1, va := 1, data := 5, data2 := none, half2 := false, machine := true, pc := 0, dest := 0x45 }], trq := 4}) }
def lim (n : Word) : State := wr run [(engBase 0 + 0x40, n <<< 8)]
def doz (s : State) : State := cl0 (wr s [(devBase + 5, 0x400), (cluBase 0 + 1, 0x7FF)]) fun c => { c with gated := true }
def gOn : State := wr run [(chanReg 0 0,0x800),(chanReg 0 1,0x800),(groupReg 0, 0x800)]
def gLost : State := { gOn with groups := gOn.groups.set 0 { lost := true } }
def gStk : State := { gOn with chans := upd gOn.chans 0 fun c => { c with stuck := true } }
def adcOn : State := wr run [(adcBase, 0x800)]
def adcB (l : List (Nat × Word)) (k : Nat) (pr : Option (Nat × Word)) : State := let s := wr run ([(adcBase, 0xC3F), (adcBase+1, 0x004)] ++ l); { s with adc := { s.adc with slotB := k, slotA := k, pairA := pr } }
def bcf (f : Channel → Channel) : State :=
  let s := wr run [(chanReg 0 0, 0xB00), (chanReg 0 2, 0x800), (chanReg 0 3, 0x004), (chanReg 0 5, 2)]
  { s with chans := upd s.chans 0 f }
def bw : BobWrite := ⟨[(4,5),(5,6)],1,0⟩
def bw9 : BobWrite := ⟨[(1,5),(2,6),(3,1),(4,1),(5,1),(6,1),(7,1),(8,1),(0,1)],8,0⟩
def bcb (f : Channel → Channel) : State :=
  let s := wr run [(chanReg 0 0, 0xB00), (chanReg 0 2, 0x804), (chanReg 0 3, 0x004), (chanReg 0 5, 2)]
  { s with chans := upd s.chans 0 f }
def mtrS (f : Metering → Metering) (s : State) : State := s.updMtr f
def gapS : State := mtrS (fun x => { x with m := x.m.set 0 { x.m[0] with on := true, gapMs := true } }) run
def sealed : State := { setup with dev := { setup.dev with sealed := true } }
def cmpOn : State := { run with dev := { run.dev with phase := .run } }
def bsy (k : Option Nat) (r : Option (ReadOutcome × ReadOutcome)) : State := thr run 0 0 fun x => { x with lsu := { x.lsu with load := some { pa := 0x900105, va := 0x900105, second := none, split := false, machine := true, sent := true, tries := k, result := r } } }
def cm (a : Bool) (n : Nat) : Comparator := { act := a, cnt := n }
def estop (f : Trip → Trip) : State := run.updTrip f
def badL : State := (wr run [(lineReg 0 9, 0x200)]).updTrip fun x => { x with badCfg := [0x200] }
def noV : State := { run with clk := { run.clk with sup := 0x1F } }
def noA : State := { run with clk := { run.clk with sup := 0x2F } }
def prs : State := run.updTrip fun x => { x with filt := upd x.filt (⟨0x20, by omega⟩ : Fin 42) fun _ => 7 }
def h60 : State := (wr (wr run [(trf 0x448, 0),(chanReg 0 0,0x800),(groupReg 0, 0x800),(trf 0x449,0xFF)]) []).updTrip fun x => { x with hold := true }
def h61 : State := { h60 with chans := upd h60.chans 0 fun c => { c with precise := { c.precise with skip := 0 } } }
def svp : Master := .svp 0 0
def srcS (n : Fin 160) (f : Source → Source) (s : State) : State := s.updCol fun k => { k with src := upd k.src n f }
def evS (n : Fin 160) (c : BitVec 7) (s : State) : State := srcS n (fun x => { x with waiting := [⟨c,2,none⟩] }) s
def frz : State := srcS 3 (fun x => { x with sev := true }) run
def wd (f : Watchdog → Watchdog) : State := run.updWdg fun w => f { w with running := true }
def ib (s : State) : State := s.updWdg fun w => { w with inbox := [.check 0, .serve 0 0, .serve 8 0] }
def sv12b (s : State) : State := s.updWdg fun w => { w with served := [(0, 0)] }
def stg (p : Word) (s : State) : State := wr s [(wdgBase, p),(wdgBase+1,0)]
def rc (f : Recorder → Recorder) (s : State) : State := { s with rcd := f s.rcd }
def r1 : Record := ⟨0x0B, 3, 5, 0x123456789ABC, 0⟩
def cd (q : BitVec 36) : ClearDue := ⟨q, Vector.replicate 16 0, some 2⟩
def bad (l : List Nat) (s : State) : State := { s with upset := l.map fun k => (k, 1) }
def fx : State := rc (fun r => { r with fetching := true, nv := [(0, slotOf (Vector.replicate 16 0))] }) run
def nvS (nor : Bool) (t : Nat) : State := rc (fun r => { r with nseq := 3, next := 1, tries := t, nv := [(1, slotOf (Vector.replicate 16 0))] }) (wr run [(recBase, 0x800 + (if nor then 0x400 else 0) + 0x05)])
def nv0 : State := rc (fun r => { r with nseq := 200, next := 128, nv := [(5, slotOf (Vector.replicate 16 0)), (130, slotOf (Vector.replicate 16 0))] }) (nvS true 1)
def wv (ok : Bool) (n : Nat) : State := rc (fun r => { r with wave := some ⟨0,0,3,8,2,n,ok⟩ }) (wr run [(chanReg 0 0, 0x800), (chanReg 0 2, 0x800), (chanReg 0 3, 4),(groupReg 0,0x800)])
def wvs (n av : Nat) : State := { wv true n with chans := upd run.chans 0 fun c => { c with precise := { c.precise with skip := 0 }, avail0 := av } }
def arm (s : State) : State := rc (fun r => { r with armed := some 2, armedLive := true }) s
def L : State := live run
def sh (f : Shuttle → Shuttle) (s : State) : State := s.updSht f
def rings : State := sh (fun x => { x with
  sq := x.sq.set 0 { x.sq[0] with en := true, tail := 1 }, cq := x.cq.set 0 { x.cq[0] with en := true, phase := true, tail := 3, head := 1 },
  grants := x.grants.set 3 { x.grants[3] with v := true, rights := 0x20, len := 0 } }) (wr L [(sqReg 0 5, 7), (cqReg 0 5, 7), (sqReg 0 7, 0),(sqReg 0 8,0),(sqReg 0 9, 24)])
def gr (r : Word) (l b i : Word) (s : State) : State := wr s [(shtBase+0x400+4,r),(shtBase+0x400+2,l),(shtBase+0x400+0,b),(shtBase+0x400+5,i)]
def full : State := sh (fun x => { x with grants := Vector.replicate 512 { x.grants[0] with v := true } }) (gr 0x40 5 5 1 L)
def g127 : State := sh (fun x => { x with grants := x.grants.set 1 { x.grants[1] with v := true, gen := 127 } }) (gr 0x40 5 5 1 L)
def hl : State := thr (live run) 0 0 fun x => { x with lsu := { x.lsu with load := some ⟨0xC00000, 0xC00000, none, false, true, true, 0, none, none⟩ } }
def d0 : Descriptor := ⟨1, 0, 0x11, 0, 0, 32, 0, 2, 0x1000, 0x100, 0, Vector.replicate 16 0⟩
def leB (n v : Nat) : List Byte := (List.range n).map fun i => (BitVec.ofNat 8 (v / 256 ^ i) : Byte)
def toB (d : Descriptor) : Vector Byte 64 :=
  let l := leB 1 d.opc.toNat ++ leB 1 d.flg.toNat ++ leB 2 d.tag.toNat ++ leB 2 d.grant0.toNat ++ leB 2 d.grant1.toNat ++ leB 2 d.grant2.toNat ++ leB 2 d.rsv10.toNat ++ leB 4 d.count.toNat ++ leB 8 d.haddr.toNat ++ leB 4 d.daddr.toNat ++ leB 4 d.rsv28.toNat ++ d.param.toList.flatMap fun c => leB 2 c.toNat
  tab 64 fun k => l.getD k 0
def ringsD : State := sh (fun x => { x with grants := x.grants.set 4 { x.grants[3] with v := true, rights := 0xC0, base := 0, len := 0x1000 } }) rings
def ex (d : Descriptor) (p : Nat) (s : State) : State := sh (fun x => { x with sq := x.sq.set 0 { x.sq[0] with exec := some ⟨d, p, none, 1, none, 0⟩ } }) s
def xs (d : Descriptor) (p : Nat) : Exec := ⟨d, p, none, 1, none, 0⟩
def dm : Descriptor := { d0 with opc := 3, daddr := 1, count := 2, param := (Vector.replicate 16 0).set 0 5 }
def xr (r : Option Nat) : Exec := { xs dm 0 with refused := r }
def msgS (r : Option Nat) (k : Nat) (dest : Word) : State := (sh (fun x => { x with sq := x.sq.set 0 { x.sq[0] with exec := some (xr r) } }) (wr rings [(shtBase+1,dest)])).updEng 0 fun y => { y with mbox := y.mbox.set 1 (List.replicate k ⟨1,2⟩) }
def dg (o : BitVec 8) : Descriptor := { d0 with opc := o, daddr := 0, count := 1 }
def dp : Descriptor := { d0 with opc := 7, daddr := 0x80010, count := 2 }
def fin (d : Descriptor) (st : BitVec 16) (s : State) : State := sh (fun x => { x with sq := x.sq.set 0 { x.sq[0] with exec := some { xs d 2 with status := some (st, 7) } } }) s
def xf (d : Descriptor) (st : BitVec 16) : Exec := { xs d 2 with status := some (st, 7) }
def ien : State := wr rings [(cqReg 0 6, 0x203), (cqReg 0 7, 0x801)]
def tmr : State := sh (fun x => { x with cq := x.cq.set 0 { x.cq[0] with timer := true } }) (wr ien [(cqReg 0 8, 5)])
def ldx (a : Addr) : Machine.Load := ⟨a, a, none, false, true, true, 0, none, none⟩
def ldS (a : Addr) : State := thr (wr L [(shtBase+0x15,1)]) 0 0 fun x => { x with lsu := { x.lsu with load := some (ldx a) } }
def ste (a : Addr) : StoreEntry := { t := 0, pa := a, va := a, data := 5, data2 := none, half2 := false, machine := true, pc := 7, dest := 0x45, sent := true }
def pz (s : State) : State := s.updTrip fun x => { x with pio := 0 }
def ien2 : State := wr rings [(cqReg 0 6, 0xFC3), (cqReg 0 7, 0x801)]
def two (s : State) : State := sh (fun x => { x with sq := x.sq.set 1 { x.sq[1] with exec := some (xf d0 0) } }) s
def ch (s : State) : State := (wr s [(jsnBase, 0x111), (jsnBase+1, 0x380)]).updJsn fun x => { x with port := Vector.replicate 3 { sync := true } }
def f1 (k : BitVec 2) (l : BitVec 5) (o : Word) : TripCopy := ⟨k, l, o, 9⟩
def loc (a c : Bool) : State := ((ch run).updJsn fun x => { x with loc := x.loc.set 3 { x.loc[3] with cfm := c } }).updTrip fun x => { x with asserted := if a then 8 else 0 }
def fr (ws : List Word) (l : BitVec 4) : Frame := ⟨l, 5, 7, ws, crc16 (frameBytes (if ws.length = 4 then 4 else 6) l 5 7 ws)⟩
def fr5 (ws : List Word) (l : BitVec 4) : Frame := ⟨l, 5, 7, ws, crc16 (frameBytes 5 l 5 7 ws)⟩
def fro (ws : List Word) (l : BitVec 4) : Frame := ⟨l, 0x111, 7, ws, crc16 (frameBytes 5 l 0x111 7 ws)⟩
def fm (d b : Word) : Frame := fr [0,0,24,d,b,0xAB] 3
def grs (s : State) : State := s.updSht fun x => { x with grants := x.grants.set 3 { x.grants[3] with v := true, rights := 1, base := 0, len := 0x1000 } }
def tf : TxFrame := ⟨4, 0x111, 0, [1,2,3,4], true⟩
def tq (r : Nat) : State := (ch run).updPort 0 fun x => { x with txq := [tf], resends := r }
def gw (s : State) : State := { s.updEng 8 fun y => { y with held := [.mail 0 ⟨5,6⟩] } with clusters := upd s.clusters 1 fun c => { c with gated := true } }
def dz (w : Word) (g : Bool) : State := { wr run [(devBase+5, w)] with clusters := upd run.clusters 1 fun c => { c with gated := g } }
def sl (b : Bool) (s : State) : State := { s with dev := { s.dev with sealed := b } }
def due : State := (run.updWdg fun w => { w with resetDue := true }).updCol fun k => { k with resetDue := some 3, cmdReset := true }
def dv (f : Dev → Dev) (s : State) : State := { s with dev := f s.dev }
def noq (s : State) : State := { s with rcd := { s.rcd with queue := [] } }
def ck (f : Clk → Clk) (s : State) : State := s.updClk f
def hotS (t : Word) (fl : Word) (st : BitVec 2) : State := ck (fun c => { c with temp0 := t, temp1 := 0, step := st, sensed := true, tmax := 5 }) (wr run [(clkBase, fl <<< 10)])
def bs (b : BitVec 3) : State := dv (fun d => { d with boot := b }) boot
def body : List Word := [0xD4C, 0x641, 0x001, 1, 28, 0, 0, 0, 0, 0, 1, 0]
def head : List Word := body ++ crc32Words (body.foldl crc32Word 0xFFFFFFFF) ++ [0]
def sec : List Word := [0x300, 0, 0, 0, 0, 0]
def before : List Word := head ++ sec ++ crc32Words (sec.foldl crc32Word 0xFFFFFFFF)
def img : List Word := before ++ crc32Words (before.foldl crc32Word 0xFFFFFFFF)
def bl (k : BitVec 3) : State := (ch (live boot)).updBoot fun b => { b with loading := true, source := k }
def blw (k : BitVec 3) : State := wr (bl k) [(shtBase+0x15,1)]
def body2 : List Word := [0xD4C, 0x641, 0x001, 1, 29, 0, 0, 0, 0, 0, 1, 0]
def head2 : List Word := body2 ++ crc32Words (body2.foldl crc32Word 0xFFFFFFFF) ++ [0]
def sec2 : List Word := [0x200, 0, 0x100, 0x100, 1, 0, 5]
def before2 : List Word := head2 ++ sec2 ++ crc32Words (sec2.foldl crc32Word 0xFFFFFFFF)
def img2 : List Word := before2 ++ crc32Words (before2.foldl crc32Word 0xFFFFFFFF)
def cutS (s : State) : State := { s with clusters := upd s.clusters 1 fun c => { c with iso := true } }
def hd : BootHead := ⟨3, 5, 7, 0, 0, 0, 0⟩
def fcrc (off : DWord) (h : BootHead) (ws : List Word) : BootHead := { h with crc := crc16 (frameBytes 6 h.lseq h.src h.fseq (bootMail off h ws).words) }
def w3 : List Word := [1,2,3]
def bim (im : List Word) (s : State) : State := s.updBoot fun b => { b with image := im }
def fit : State := bim (head.take 10) (blw 2)
def fit2 : State := bim (img.take 15) (blw 2)
def fit3 : State := cutS (bim (img2.take 15) (blw 2))
def recd (a : Addr) (v : Word) (au : Bool) (s : State) : State := s.updBoot fun b => { b with records := [(a, v, 7)], auto := au }
def mm : State := wm run [(0x100,5),(0x101,6),(0x110,5)]
def strayS (f : EngineCore → EngineCore) (g : State → State) : State := (g (mv 0x287 true)).updEng 0 fun x => { x with stray := x.stray.set 2 (some (f x.toEngineCore)) }
def corA (f : Thread → Thread) (x : EngineCore) : EngineCore := { x with threads := x.threads.set 0 (f x.threads[0]) }
def p1 : State := strayS (corA fun t => { t with alu := { t.alu with a := 77 }, g := t.g.set 5 9 }) id
def ups : State := mv 0x287 true
def fl (s : State) (p : Fin 42) (v : BitVec 3) : State := s.updTrip fun x => { x with filt := x.filt.set p.val v }
def accumulatorWraps1 : State := mp .mul 5 7 0
def accumulatorWraps2 : State := mp .shr 5 0x800000000000 0
def accumulatorWraps3 : State := mp .mac 1 0x7FFFFFFFFFFF 0
def accumulatorWraps4 : State := mp .mac 1 0x7FFFFFFFFFFF 4
def accumulatorWraps6 : State := mp .msu 1 0x800000000000 0
def accumulatorWraps7 : State := mp .msu 1 0x800000000000 4
def apxRuns1 : State := ap .rcp 0 0
def loadsLeave1 : State := l0 0 0 0
def loadsLeave3 : State := lr 0 0 0 true
def loadsLeave4 : State := lr 0 0 0 false
def loadsLeave5 : State := l0 0 8 3
def loadsLeave19 : State := lr 0 8 0 true
def loadsLeave20 : State := lr 0 8 0 false
def loadsLeave29 : State := l0 0 3 0
def storesPoste1 : State := l0 0 0 0
def storesPoste3 : State := lr 0 0 0 true
def storesPoste4 : State := lr 0 0 0 false
def storesPoste5 : State := l0 0x080 0 0
def storesPoste7 : State := l0 0 4 3
def storesPoste8 : State := l0 0x080 4 3
def storesPoste12 : State := lr 0 4 0 true
def storesPoste14 : State := l0 0 12 3
def storesPoste15 : State := l0 0x080 12 3
def storesPoste16 : State := l0 0 12 4
def storesPoste19 : State := lr 0 12 0 true
def storesPoste20 : State := lr 0 12 0 false
def storesPoste53 : State := l0 0 3 0
def loadsRetur1 : State := mem0 (ld { pa := 0x100, va := 0x100, second := none, split := false, machine := true })
def loadsRetur2 : State := mem0 (ld { pa := 0x100, va := 0x100, second := some (0x101, 0x101), split := false, machine := true })
def loadsRetur3 : State := mem0 (ld { pa := 0x101, va := 0x101, second := some (0x102, 0x102), split := true, machine := true })
def loadsRetur4 : State := mem0 (ld { pa := 0x40100, va := 0x40100, second := none, split := false, machine := true })
def loadsRetur5 : State := wr (live (ld { pa := 0xC00000, va := 0xC00000, second := none, split := false, machine := true })) [(0x810015, 1)]
def storesCommi1 : State := sb [se 0x100 5 none, se 0x101 5 none]
def storesCommi2 : State := sb [se 0x100 5 (some 6)]
def storesCommi3 : State := sb [se 0x108100 5 none, se 0x101 5 none]
def fenceWaits1 : State := fn (sb [])
def fenceWaits2 : State := fn (sb [se 0x100 5 none])
def blockEleme1 : State := bA 0 0x100 0x110 1 0
def blockEleme2 : State := bA 1 0x100 0x110 2 9
def blockEleme3 : State := bA 2 0x100 0x101 2 0
def blockEleme5 : State := bA 3 0x100 0 2 5
def blockCount1 : State := bk fun b => { b with active := true, ended := true }
def jumpsSet1 : State := jm id
def jumpsSet2 : State := jm fun x => { x with cnd := 0 }
def returnGate1 : State := jg true
def returnGate2 : State := jg false
def returnGate3 : State := thr gfr 0 0 fun x => { x with thi := 0, lk := 192, cnd := 1 }
def threadMode1 : State := jm id
def threadMode2 : State := jm fun x => { x with tm := 0x200 }
def threadMode5 : State := jm fun x => { x with thi := 3 }
def instructionCache1 : State := icu true 0
def instructionCache3 : State := icu true 3
def fillsTake1 : State := fil (fpc run) .fetch
def fillsTake3 : State := fil (icu false 0) .pin
def fillsTake4 : State := fil run .vector
def fillsTake7 : State := fil (icu false 3) .pin
def sampleCurso1 : State := cur none 0 48
def sampleCurso2 : State := bc2 (cur none 0) 0x800 (av 7)
def sampleCurso3 : State := bc2 (cur (some 0) 5) 0x800 (av 30)
def sampleCurso5 : State := cur none 0 0
def mailboxesQueue1 : State := fli run none
def mailboxesQueue3 : State := fli (mb 16) none
def mailboxesQueue4 : State := fli State.reset none
def mailboxesQueue5 : State := mb 2
def messagesRepor1 : State := thr run 0 0 fun x => { x with msg := { x.msg with dst := 0x3C5 }}
def messagesRepor2 : State := fli run (some .delivered)
def inputsAgree1 : State := run.updEng 0 fun y => { y with inputs := BitVec.allOnes 42, lineIn := 8 }
def timersStart1 : State := tm (fun y => { y with ldh := 5, cfg := 0xA})
def timersStart2 : State := tm (fun y => { y with run := true, due := 1, exp := true, ovf := 15, cfgNow := 12})
def tableWalks1 : Walk := ⟨0, 0x10001, false, false, false, 0, false, false⟩
def tableWalks2 : State := wlk false true 0x800001
def tableWalks3 : State := wlk false true 0x400001
def tableWalks5 : State := wr (wlk false true 0) [(rootReg 0 0 + 1, 0)]
def tableWalks6 : Walk := ⟨0, 0x10001, false, false, false, 0, true, false⟩
def tableWalks7 : State := wlk true true 0x800001
def translationCheck1 : State := tl8 0x840001
def translationCheck3 : State := slp (tl8 0x870001)
def selvedgePort1 : State := sv q1
def selvedgePort2 : State := sv q2
def selvedgePort3 : State := sv q3
def selvedgePort4 : State := sv q4
def registerMoves1 : State := mv 0x287 true
def registerMoves2 : State := (mv 0x1187 true).updThr 0 0 fun x => { x with g := x.g.set 3 77 }
def nopIdle1 : State := mv 0 true
def nopIdle2 : State := (mv 0 true).updBoot fun b => { b with breakpoints := [(0, ((mv 0 true).thr 0 0).pc)] }
def selectionTakes3 : State := (lbs (wr run [(engBase 0, 0x220)])).updEng 0 fun x => { x with last := some 0 }
def selectionTakes4 : State := lbs (wr run [(engBase 0, 0x220)])
def selectionTakes5 : State := thr ((lbs (wr run [(engBase 0, 0x220)])).updEng 0 fun x => { x with last := some 0 }) 0 1 fun x => {x with lb := none}
def entrySlots1 : State := vl evs .nmi
def entrySlots2 : State := vl ((tl9 ent).updEng 0 fun y => { y with cur := some 0, nmi := true, threads := y.threads.set 0 { y.threads[0] with ret := false, tail := some ⟨0, false, 0⟩ }}) .nmi
def entrySlots3 : Tail := ⟨0, false, 0⟩
def returnsRead1 : State := tl9 ent
def returnsRead2 : State := (tl9 ent).updEng 0 fun y => { y with nmi := true }
def lockupStops1 : State := (run.lockup 0 0 3)
def outputVotin1 : State := ou [rq 1 2, rq 2 2] run
def votedReque1 : State := se10 run
def votedReque2 : StoreEntry := { t := 0, pa := 1, va := 1, data := 5, data2 := none, half2 := false, machine := true, pc := 0, dest := 0x45 }
def votedReque3 : State := sf run
def twoLanes1 : State := ou [rq 1 2] runR
def twoLanes2 : State := cls 0 1 1 false runR
def twoLanes3 : State := cls 1 1 2 false runR
def twoLanes4 : State := runS (cls 1 1 1 true run)
def twoLanes5 : State := runS (cls 2 1 1 true run)
def picksClose2 : State := cls 1 1 1 false run
def picksClose3 : State := cls 0 1 1 false run
def picksClose4 : State := cls 1 0 1 true run
def picksClose5 : State := cls 1 1 0 false run
def picksClose6 : State := cls 1 2 3 false run
def rethreadingRejoi1 : State := rt .bulk
def rethreadingRejoi2 : State := rt .copied
def rethreadingRejoi3 : State := rt .paused
def rethreadingRejoi4 : State := (rt .paused).updEng 0 fun x => {x with held := [.mail 0 ⟨1,2⟩]}
def rethreadingRejoi5 : State := lim 1
def banksSleep1 : State := doz run
def banksSleep2 : State := slp10 run
def banksSleep3 : State := cl0 run fun c => { c with banks := Vector.replicate 11 .waking }
def filtersDeliv1 : State := wr run [(chanReg 0 0,0x800),(chanReg 0 1,0x800),(groupReg 0, 0x800)]
def conversionsShown1 : State := wr adcOn [(adcBase + 0x10, 0x10)]
def conversionsShown5 : State := adcB [] 0 none
def conversionsShown6 : State := adcB [(adcBase+0x20,0x010)] 0 none
def conversionsShown7 : State := adcB [(adcBase+0x10,0x020)] 0 (some (0, 4))
def bobbinsAdvan1 : State := bcf fun c => { c with queue0 := [bw] }
def bobbinsAdvan2 : State := thr { (bcf fun c => { c with queue0 := [bw] }) with clusters := upd run.clusters 0 fun c => { c with gated := true } } 0 0 fun x => { x with smp := { x.smp with chan := some 0 } }
def bobbinsAdvan3 : State := bcb fun c => { c with queue0 := [bw9] }
def snapshotsWritt1 : State := wr run [(cmpBase, 0x800)]
def companionPort1 : State := wr run [(cmpBase, 0)]
def companionPort2 : State := wr run [(cmpBase, 0x800)]
def companionPort3 : State := { (wr run [(cmpBase, 0x800)]) with upset := [(0x900105, 1)] }
def busyReads1 : State := bsy none none
def busyReads2 : State := bsy (some 4) (some (.collided, .ok))
def busyReads3 : State := bsy (some 1) (some (.collided, .ok))
def busyReads4 : State := bsy none (some (.ok, .ok))
def busyReads5 : State := bsy none (some (.collided, .ok))
def comparatorsCount1 : State := wr run [(tcReg 0 0, 0x206),(tcReg 0 1, 3)]
def comparatorsCount3 : State := wr run [(tcReg 0 0, 0xC06),(tcReg 0 1, 3)]
def fabricInput3 : State := wr run [(pioBase+0x10,0xC05)]
def outputsToggl1 : State := estop fun x => { x with safeRun := true, kdPhase := true }
def pilotInsul1 : State := wr run [(pioBase+7, 0x80A)]
def pilotInsul3 : State := wr run [(trf 0x206, 1), (trf 0x207,1)]
def faultEvent1 : State := srcS 3 (fun x => { x with waiting := List.replicate 5 ⟨1,2,none⟩ }) run
def faultEvent2 : State := { run with dev := { run.dev with phase := .powerUp } }
def eventsCount1 : Source := {}
def eventsCount2 : Source := { open_ := true, cnt := 2, tOpen := 5 }
def eventsCount3 : Source := { sev := true }
def classificationShows1 : FaultEvent := ⟨1,2,none⟩
def classificationShows2 : State := evS 98 1 run
def classificationShows6 : State := wr (evS 3 1 run) [(fclCfgBase+12, 1),(fclCfgBase+15,0x0E0)]
def collectorSelf1 : CfgHit := ⟨1, 0x123, true⟩
def collectorSelf3 : State := run.updCol fun k => k.struck 5 (some ⟨1, 0x123, true⟩)
def selvedgeEngin1 : State := wr setup [(selBase,1)]
def safeReset2 : State := { run with dev := { run.dev with safe := true, safeNow := true } }
def safeReset3 : State := run.updCol fun k => { k with nosel := true }
def collectorSourc2 : State := srcS 0 (fun x => { x with sev := true, nowEvs := [true] }) setup
def checkIns1 : State := ib (wd fun w => { w with i := 0xFFFFF, now := { w.now with per := 0x1FFFFF } })
def checkIns7 : State := ib run
def checkIns14 : State := sv12b (wd fun w => { w with i := 0xFFFFF, now := { w.now with per := 0x1FFFFF } })
def checkIns16 : State := sv12b (wd fun w => { w with i := 0xFFFFF })
def checkIns17 : State := sv12b (wd fun w => { w with i := 0xFFFFF, now := { w.now with per := 0x1FFFFF, exp := w.now.exp.set 0 2 } })
def checkIns18 : State := sv12b (wd fun w => { w with held := true, cnt := w.cnt.set 0 7})
def checkIns22 : State := sv12b (wd fun w => { w with i := 0xFFFFF, pend := some { per := 9, c := 0, exp := w.now.exp.set 3 2 } })
def checkIns23 : State := sv12b (wd fun w => { w with i := 0xFFFFF, pend := some { per := 9, c := 7 } })
def checkIns25 : State := sv12b (wd fun w => { w with i := 0xFFFFF, grace := true })
def watchdogExpir1 : State := wd id
def watchdogExpir2 : State := wd fun w => { w with i := 0xFFFFF }
def watchdogExpir3 : State := wd fun w => { w with i := 0xFFFFF, grace := true }
def watchdogCommi1 : State := stg 0 run
def watchdogCommi2 : State := stg 5 (wd id)
def watchdogCommi4 : State := stg 5 setup
def watchdogCommi7 : State := wr setup [(wdgBase+1,0),(wdgBase+2,0),(wdgBase,0)]
def watchdogCommi9 : State := run.updWdg fun w => { w with held := true }
def recordsEnter1 : State := rc (fun r => { r with queue := [r1] }) run
def recordsEnter2 : State := rc (fun r => { r with queue := [r1], nseq := 600, next := 50 }) run
def recordsEnter3 : State := rc (fun r => { r with queue := [r1], nseq := 600, next := 50, clears := [cd 3, cd 400] }) run
def recordsEnter4 : State := rc (fun r => { r with queue := [r1], nseq := 600, next := 500, clears := [cd 3, cd 400] }) run
def recordQueue1 : State := rc (fun r => { r with queue := List.replicate 64 r1 }) run
def recordQueue2 : State := rc (fun r => { r with queue := [] }) run
def fetchesFind1 : State := rc (fun r => { r with nseq := 5 }) (bad [0x910003] fx)
def fetchesFind2 : State := rc (fun r => { r with nseq := 5, ramFrom := 3, nv := [(0, slotOf ((Vector.replicate 16 0)))] }) (wr fx [(recBase, 0x805)])
def recordsCommi1 : State := bad [0x910013] (nvS true 1)
def recordsCommi2 : State := { nvS true 1 with dev := { run.dev with testEn := true } }
def recordsCommi4 : State := nvS false 2
def recorderConfi1 : State := rc (fun r => { r with sub := 32769 }) run
def recorderConfi2 : State := { (rc (fun r => { r with subRc := 4000001 }) run) with clk := { run.clk with kOk := false } }
def recorderConfi3 : State := wv false 0
def recorderConfi4 : State := wvs 4 3
def recorderConfi5 : State := wvs 4 20
def recorderConfi6 : Wave := ⟨0,0,3,8,2,4,true⟩
def recorderConfi7 : Wave := ⟨0,0,3,8,2,0,false⟩
def recorderConfi9 : State := rc (fun r => { r with queue := [] }) run
def recorderConfi10 : State := rc (fun r => { r with queue := [], wave := none }) (wr (wvs 4 20) [(recBase+0x11, 5), (recBase+0x12, 4)])
def clearsArmed1 : Record := ⟨8,0,0,0,0⟩
def clearsArmed2 : State := rc (fun r => { r with armedLive := false }) (arm run)
def clearsArmed3 : State := arm run
def clearsArmed5 : State := rc (fun r => { r with erase := true }) run
def clearsArmed7 : State := { arm run with dev := { run.dev with sealed := true } }
def clearsArmed8 : State := rc (fun r => { r with queue := [r1] }) (arm run)
def clearsArmed9 : State := rc (fun r => { r with queue := [{ r1 with typ := 1 }, r1] }) (arm (nvS false 0))
def clearsArmed10 : State := rc (fun r => { r with held := true }) (arm run)
def clearsArmed12 : State := (arm run).updTrip fun x => { x with pio := 0 }
def gaugesArm1 : State := run.updGauge 0 fun _ => { armed := true }
def gaugesArm2 : State := wr (run.updGauge 0 fun _ => { armed := true }) [(monReg 0 1,0x300),(monReg 0 0, 0x808)]
def waveformsCoded1 : Wave := ⟨0,0,3,8,2,4,true⟩
def waveformsCoded2 : State := wvs 4 20
def configurationAnswe1 : State := sh (fun x => { x with retry := true }) L
def configurationAnswe2 : State := sh (fun x => { x with bme := false, pba := 8, mask := 0xFFFFFFF7 }) L
def configurationAnswe3 : State := sh (fun x => { x with pba := 8 }) L
def configurationAnswe4 : State := sh (fun x => { x with ready := false }) L
def grantsCreat1 : State := gr 0x24 5 5 0 L
def grantsCreat5 : State := gr 0x10 7 250 0 L
def grantsCreat8 : State := gr 0x12 1 1 0 L
def grantsCreat17 : State := wr L [(shtBase+0x400+16*8+4,4)]
def ringsEnabl3 : State := sh (fun x => { x with sq := x.sq.set 0 { quar := true, qc := 9 }}) rings
def perstReset1 : State := sh (fun x => { x with prst := true }) run
def perstReset2 : State := sh (fun x => { x with sq := x.sq.set 0 { x.sq[0] with exec := some ⟨d0, 1, none, 1, none, 0⟩ } }) rings
def copyStore1 : State := ex d0 0 rings
def copyOut1 : State := wm (ex {d0 with opc := 2} 0 rings) [(0x100,0xABC)]
def messagesWait1 : State := msgS none 0 5
def messagesWait2 : State := msgS none 16 5
def messagesWait5 : State := msgS (some 1) 16 5
def messagesWait6 : State := msgS (some 1) 16 2
def gaugeRecor1 : State := ex (dg 4) 0 rings
def gaugeRecor2 : State := ex (dg 5) 0 rings
def gaugeRecor3 : State := ex (dg 5) 0 (rc (fun r => { r with nseq := 5 }) rings)
def gaugeRecor4 : State := ex (dg 6) 0 rings
def gaugeRecor7 : State := ex (dg 6) 0 { rings with dev := { rings.dev with sealed := true } }
def gaugeRecor8 : State := ex (dg 8) 0 rings
def gaugeRecor9 : State := sh (fun x => { x with sq := x.sq.set 0 { x.sq[0] with exec := some { xs (dg 8) 0 with wait := 2 } } }) rings
def gaugeRecor10 : State := pz (ex (dg 6) 0 rings)
def gaugeRecor11 : State := pz (ex (dg 6) 0 (rc (fun r => { r with erase := true }) rings))
def gaugeRecor12 : State := pz (ex (dg 6) 0 (rc (fun r => { r with clogUsed := 120, clears := List.replicate 5 ⟨1, Vector.replicate 16 0, none⟩, confirmed := [none, none, none] }) rings))
def gaugeRecor13 : State := pz (ex (dg 6) 0 (rc (fun r => { r with confirmed := [some 0] }) rings))
def loadProgr1 : State := ex dp 0 rings
def completionsWritt1 : State := fin d0 0 rings
def completionsWritt4 : State := fin d0 0 (sh (fun x => { x with bme := false }) rings)
def completionsWritt5 : State := fin d0 0 (sh (fun x => { x with cq := x.cq.set 0 { x.cq[0] with err := true }}) rings)
def completionsWritt9 : State := fin d0 0 (sh (fun x => { x with mask := 0 }) ien2)
def completionsWritt10 : State := fin d0 0 ien2
def completionsWritt11 : State := fin d0 0 (sh (fun x => { x with cq := x.cq.set 0 { x.cq[0] with timer := true } }) (wr ien2 [(cqReg 0 8, 5)]))
def completionsWritt12 : State := two (fin d0 0 ien2)
def completionsWritt13 : State := two (fin d0 0 (sh (fun x => { x with bme := false }) rings))
def completionsWritt14 : State := two (fin d0 0 (sh (fun x => { x with cq := x.cq.set 0 { x.cq[0] with err := true }}) rings))
def transfersTime1 : State := ldS 0x100100
def transfersTime2 : State := ldS 0xC00000
def transfersTime3 : State := run.updEng 0 fun y => { y with sbuf := [ste 0x100100] }
def transfersTime4 : State := ex d0 0 rings
def tripFrame1 : State := ch run
def tripFrame2 : State := (ch run).updJsn fun x => { x with arms := List.replicate 8 ⟨0,5,3,9⟩ }
def chainTimer1 : State := wr (loc true true) [(lineReg 3 9, 0x900)]
def chainTimer2 : State := wr (ch run) [(jsnBase+1,0x700)]
def chainTimer4 : State := (ch run).updJsn fun x => { x with arms := [⟨0,5,3,9⟩], held := 8 }
def ownFrame1 : JPort := { txq := [tf] }
def ownFrame2 : State := ch run
def ownFrame3 : State := tq 0
def ownFrame4 : State := tq 3
def ownFrame7 : State := wr (tq 0) [(jsnBase+1, 0x000)]
def ownFrame8 : State := (tq 0).updPort 0 fun x => { x with iso := true }
def goEnter1 : State := wr setup [(selBase+1,0),(engBase 0, 0x020),(engBase 0+1,1)]
def powerModes1 : State := gw (dz 0x402 false)
def powerModes2 : State := dz 0x402 false
def powerModes6 : State := live (gw (dz 0x402 false))
def sealingSolo2 : State := pz (sl true run)
def sealingSolo4 : State := rc (fun r => { r with armed := some 1 }) run
def sealingSolo5 : State := wr run [(modBase,1)]
def resetsStart1 : State := dv (fun d => { d with inReset := some 2, phase := .boot }) run
def resetsStart2 : State := dv (fun d => { d with inReset := some 1, phase := .powerUp, latch := true }) run
def resetsStart4 : State := dv (fun d => { d with phase := .powerUp }) run
def resetsStart9 : State := noq (dv (fun d => { d with inReset := some 4, rkind := 4, rsrc := 9, phase := .boot, tethered := false }) run)
def temperatureGover1 : State := hotS 0x6E0 2 0
def temperatureGover2 : State := hotS 0x7D1 0 0
def temperatureGover3 : State := hotS 0x100 0 1
def clocksMonit1 : State := run.updSht fun x => { x with prst := true }
def clocksMonit2 : State := ck (fun c => { c with fabOk := false }) run
def bootSelec1 : State := bs 0
def bootSelec3 : State := bs 2
def bootSelec4 : State := bs 3
def bootSelec5 : State := bs 4
def imagesRead1 : List Word := List.replicate 16 0
def imagesRead3 : State := bl 0
def imagesRead4 : State := blw 1
def imagesRead5 : State := cutS (bl 0)
def imagesRead6 : State := cutS (blw 1)
def imagesRead7 : State := blw 2
def imagesRead9 : State := bim [1] (blw 2)
def readerCheck1 : List Word := List.replicate 16 0
def readerCheck2 : List Word := [0xD4C,0x642] ++ List.replicate 14 0
def readerCheck3 : List Word := [0xD4C,0x641,0x002] ++ List.replicate 13 0
def readerCheck4 : List Word := [0xD4C,0x641,0x001] ++ List.replicate 13 0
def setupRecor1 : State := recd (BitVec.ofNat 24 clkBase) 0x400 false setup
def setupRecor4 : State := recd (BitVec.ofNat 24 (selBase+3)) 5 false (wr setup [(selBase,0)])
def setupRecor5 : State := recd (BitVec.ofNat 24 (selBase+3)) 0 false setup
def monitorReach1 : State := run.updGauge 0 fun _ => { armed := true }
def monitorReach3 : State := dv (fun d => { d with tethered := false }) run
def monitorReach4 : State := rc (fun r => { r with nseq := 3 }) run
def monitorReach5 : State := run.updBoot fun b => { b with breakpoints := List.replicate 4 (1,1) }
def tmTakes1 : State := thr run 0 0 fun x => {x with tm := 0x200}
def machineLevel1 : State := l0 0 0 0
def machineLevel6 : State := fn run
def machineLevel7 : State := sb [se 0x100 5 none, se 0x101 5 none]
def fillsCache1 : State := fil (fpc run) .fetch
def fillsCache5 : State := icu true 0

/-- Of an empty list nothing is asked. -/
theorem noneOf {α : Type} {l : List α} {p : α → Prop} (h : l = []) : ∀ b : α, b ∈ l → p b := by
  subst h; simp

/-- The hypotheses of AluAddsAndSubtracts are met together, clause by clause. -/
theorem witness_AluAddsAndSubtracts :
    (a1.accepts 0 0 33 1#12 = true) ∧
    (a1.accepts 0 0 34 1#12 = true) ∧
    (a1.accepts 0 0 35 1#12 = true) ∧
    (a1.accepts 0 0 36 1#12 = true) ∧
    (a1.accepts 0 0 43 1#12 = true) := by
  refine ⟨?_, ?_, ?_, ?_, ?_⟩ <;> decide +kernel

/-- The hypotheses of AluLogicKeepsCarryAndOverflow are met together, clause by clause. -/
theorem witness_AluLogicKeepsCarryAndOverflow :
    (a1.accepts 0 0 37 1#12 = true) ∧
    (a1.accepts 0 0 38 1#12 = true) ∧
    (a1.accepts 0 0 39 1#12 = true) := by
  refine ⟨?_, ?_, ?_⟩ <;> decide +kernel

/-- The hypotheses of AluShiftsByFourBits are met together, clause by clause. -/
theorem witness_AluShiftsByFourBits :
    (a1.accepts 0 0 40 1#12 = true) ∧
    (a1.accepts 0 0 41 1#12 = true) ∧
    (a1.accepts 0 0 42 1#12 = true) := by
  refine ⟨?_, ?_, ?_⟩ <;> decide +kernel

/-- The hypotheses of MultiplyUnitsTakeTheirOperands are met together, clause by clause. -/
theorem witness_MultiplyUnitsTakeTheirOperands :
    (m0.accepts 0 0 47 1#12 = true) ∧
    (m0.accepts 0 0 51 1#12 = true) ∧
    (m0.accepts 0 0 52 1#12 = true) ∧
    (m0.accepts 0 0 53 1#12 = true) ∧
    (m0.accepts 0 0 55 1#12 = true) ∧
    (m0.accepts 0 0 54 1#12 = true) := by
  refine ⟨?_, ?_, ?_, ?_, ?_, ?_⟩ <;> decide +kernel

/-- The hypotheses of AccumulatorWrapsAndReports are met together, clause by clause. -/
theorem witness_AccumulatorWrapsAndReports :
    (accumulatorWraps1.together 0 = true ∧
     accumulatorWraps1.still 0 = false ∧
     (accumulatorWraps1.thr 0 0).mac.pend = some { op := MacOp.mul, arg := 5#48, pc := 5#17, dest := 51#7, precise := false : MacPend }) ∧
    (accumulatorWraps2.together 0 = true ∧
     accumulatorWraps2.still 0 = false ∧
     (accumulatorWraps2.thr 0 0).mac.pend = some { op := MacOp.shr, arg := 5#48, pc := 5#17, dest := 51#7, precise := false : MacPend }) ∧
    (accumulatorWraps3.together 0 = true ∧
     accumulatorWraps3.still 0 = false ∧
     (accumulatorWraps3.thr 0 0).mac.pend = some { op := MacOp.mac, arg := 1#48, pc := 5#17, dest := 51#7, precise := false : MacPend } ∧
     (BitVec.toInt (accumulatorWraps3.thr 0 0).mac.acc + 1 < -140737488355328 ∨ 140737488355328 ≤ BitVec.toInt (accumulatorWraps3.thr 0 0).mac.acc + 1) ∧
     ¬(accumulatorWraps3.thr 0 0).exc.amask.getLsbD 2 = true) ∧
    (accumulatorWraps4.together 0 = true ∧
     accumulatorWraps4.still 0 = false ∧
     (accumulatorWraps4.thr 0 0).mac.pend = some { op := MacOp.mac, arg := 1#48, pc := 5#17, dest := 51#7, precise := false : MacPend } ∧
     (¬(BitVec.toInt (accumulatorWraps4.thr 0 0).mac.acc + 1 < -140737488355328 ∨ 140737488355328 ≤ BitVec.toInt (accumulatorWraps4.thr 0 0).mac.acc + 1) ∨ (accumulatorWraps4.thr 0 0).exc.amask.getLsbD 2 = true)) ∧
    (accumulatorWraps6.together 0 = true ∧
     accumulatorWraps6.still 0 = false ∧
     (accumulatorWraps6.thr 0 0).mac.pend = some { op := MacOp.msu, arg := 1#48, pc := 5#17, dest := 51#7, precise := false : MacPend } ∧
     (BitVec.toInt (accumulatorWraps6.thr 0 0).mac.acc - 1 < -140737488355328 ∨ 140737488355328 ≤ BitVec.toInt (accumulatorWraps6.thr 0 0).mac.acc - 1) ∧
     ¬(accumulatorWraps6.thr 0 0).exc.amask.getLsbD 2 = true) ∧
    (accumulatorWraps7.together 0 = true ∧
     accumulatorWraps7.still 0 = false ∧
     (accumulatorWraps7.thr 0 0).mac.pend = some { op := MacOp.msu, arg := 1#48, pc := 5#17, dest := 51#7, precise := false : MacPend } ∧
     (¬(BitVec.toInt (accumulatorWraps7.thr 0 0).mac.acc - 1 < -140737488355328 ∨ 140737488355328 ≤ BitVec.toInt (accumulatorWraps7.thr 0 0).mac.acc - 1) ∨ (accumulatorWraps7.thr 0 0).exc.amask.getLsbD 2 = true)) := by
  refine ⟨?_, ?_, ?_, ?_, ?_, ?_⟩ <;> decide +kernel

/-- The hypotheses of ApxRunsAndCompletes are met together, clause by clause. -/
theorem witness_ApxRunsAndCompletes :
    (m0.accepts 0 0 58 1#12 = true) ∧
    (m0.accepts 0 0 59 1#12 = true) ∧
    (m0.accepts 0 0 60 1#12 = true) ∧
    (m0.accepts 0 0 61 1#12 = true) ∧
    (¬7#12 = 0#12) ∧
    (apxRuns1.together 0 = true ∧
     apxRuns1.still 0 = false ∧
     (apxRuns1.eng 0).apxOwner = some 0 ∧
     ((apxRuns1.thr 0 0).apx.pend).isSome = true) := by
  refine ⟨?_, ?_, ?_, ?_, ?_, ?_⟩ <;> decide +kernel

/-- The hypotheses of LoadsLeaveWithTheirAddress are met together, clause by clause. -/
theorem witness_LoadsLeaveWithTheirAddress :
    (loadsLeave1.accepts 0 0 67 256#12 = true ∧
     loadsLeave1.check 0 0 (loadsLeave1.force 0 0) false false false 256#12 [joinW (loadsLeave1.thr 0 0).lsu.seg 256#12, joinW (loadsLeave1.thr 0 0).lsu.seg 257#12] false = Checked.go [256#24, 257#24]) ∧
    (loadsLeave1.accepts 0 0 68 256#12 = true ∧
     loadsLeave1.check 0 0 (loadsLeave1.force 0 0) false false false 256#12 [joinW (loadsLeave1.thr 0 0).lsu.seg 256#12] false = Checked.go [256#24]) ∧
    ((loadsLeave1.thr 0 0).lsu.ctl.getLsbD 3 = false ∧
     loadsLeave1.accepts 0 0 73 256#12 = true ∧
     loadsLeave1.check 0 0 (loadsLeave1.force 0 0) false false false 256#12 [joinW (loadsLeave1.thr 0 0).lsu.seg (256#12 + (loadsLeave1.thr 0 0).lsu.x)] false = Checked.go [256#24]) ∧
    ((loadsLeave1.thr 0 0).lsu.ctl.getLsbD 3 = false ∧
     loadsLeave1.accepts 0 0 71 256#12 = true ∧
     loadsLeave1.check 0 0 (loadsLeave1.force 0 0) false false false 256#12 [joinW (loadsLeave1.thr 0 0).lsu.seg (256#12 + (loadsLeave1.thr 0 0).lsu.x * BitVec.ofNat 12 (2 ^ ((loadsLeave1.thr 0 0).lsu.ctl.toNat % 4)))] false = Checked.go [256#24]) ∧
    (loadsLeave3.accepts 0 0 67 256#12 = true ∧
     loadsLeave3.check 0 0 (loadsLeave3.force 0 0) false false false 256#12 [joinW (loadsLeave3.thr 0 0).lsu.seg 256#12, joinW (loadsLeave3.thr 0 0).lsu.seg 257#12] false = Checked.miss (256#24) false) ∧
    (loadsLeave3.accepts 0 0 68 256#12 = true ∧
     loadsLeave3.check 0 0 (loadsLeave3.force 0 0) false false false 256#12 [joinW (loadsLeave3.thr 0 0).lsu.seg 256#12] false = Checked.miss (256#24) false) ∧
    ((loadsLeave3.thr 0 0).lsu.ctl.getLsbD 3 = false ∧
     loadsLeave3.accepts 0 0 73 256#12 = true ∧
     loadsLeave3.check 0 0 (loadsLeave3.force 0 0) false false false 256#12 [joinW (loadsLeave3.thr 0 0).lsu.seg (256#12 + (loadsLeave3.thr 0 0).lsu.x)] false = Checked.miss (256#24) false) ∧
    ((loadsLeave3.thr 0 0).lsu.ctl.getLsbD 3 = false ∧
     loadsLeave3.accepts 0 0 71 256#12 = true ∧
     loadsLeave3.check 0 0 (loadsLeave3.force 0 0) false false false 256#12 [joinW (loadsLeave3.thr 0 0).lsu.seg (256#12 + (loadsLeave3.thr 0 0).lsu.x * BitVec.ofNat 12 (2 ^ ((loadsLeave3.thr 0 0).lsu.ctl.toNat % 4)))] false = Checked.miss (256#24) false) ∧
    (loadsLeave4.accepts 0 0 67 256#12 = true ∧
     loadsLeave4.check 0 0 (loadsLeave4.force 0 0) false false false 256#12 [joinW (loadsLeave4.thr 0 0).lsu.seg 256#12, joinW (loadsLeave4.thr 0 0).lsu.seg 257#12] false = Checked.fault (ckFault (loadsLeave4.check 0 0 (loadsLeave4.force 0 0) false false false 256#12 [joinW (loadsLeave4.thr 0 0).lsu.seg 256#12, joinW (loadsLeave4.thr 0 0).lsu.seg 257#12] false))) ∧
    (loadsLeave4.accepts 0 0 68 256#12 = true ∧
     loadsLeave4.check 0 0 (loadsLeave4.force 0 0) false false false 256#12 [joinW (loadsLeave4.thr 0 0).lsu.seg 256#12] false = Checked.fault (ckFault (loadsLeave4.check 0 0 (loadsLeave4.force 0 0) false false false 256#12 [joinW (loadsLeave4.thr 0 0).lsu.seg 256#12] false))) ∧
    ((loadsLeave4.thr 0 0).lsu.ctl.getLsbD 3 = false ∧
     loadsLeave4.accepts 0 0 73 256#12 = true ∧
     loadsLeave4.check 0 0 (loadsLeave4.force 0 0) false false false 256#12 [joinW (loadsLeave4.thr 0 0).lsu.seg (256#12 + (loadsLeave4.thr 0 0).lsu.x)] false = Checked.fault (ckFault (loadsLeave4.check 0 0 (loadsLeave4.force 0 0) false false false 256#12 [joinW (loadsLeave4.thr 0 0).lsu.seg (256#12 + (loadsLeave4.thr 0 0).lsu.x)] false))) ∧
    ((loadsLeave4.thr 0 0).lsu.ctl.getLsbD 3 = false ∧
     loadsLeave4.accepts 0 0 71 256#12 = true ∧
     loadsLeave4.check 0 0 (loadsLeave4.force 0 0) false false false 256#12 [joinW (loadsLeave4.thr 0 0).lsu.seg (256#12 + (loadsLeave4.thr 0 0).lsu.x * BitVec.ofNat 12 (2 ^ ((loadsLeave4.thr 0 0).lsu.ctl.toNat % 4)))] false = Checked.fault (ckFault (loadsLeave4.check 0 0 (loadsLeave4.force 0 0) false false false 256#12 [joinW (loadsLeave4.thr 0 0).lsu.seg (256#12 + (loadsLeave4.thr 0 0).lsu.x * BitVec.ofNat 12 (2 ^ ((loadsLeave4.thr 0 0).lsu.ctl.toNat % 4)))] false))) ∧
    ((loadsLeave5.thr 0 0).lsu.ctl.getLsbD 3 = true ∧
     loadsLeave5.accepts 0 0 73 256#12 = true ∧
     loadsLeave5.check 0 0 (loadsLeave5.force 0 0) false (BitVec.getLsbD (256#12 + (loadsLeave5.thr 0 0).lsu.x) 0) false 256#12 [joinW (loadsLeave5.thr 0 0).lsu.seg (256#12 + (loadsLeave5.thr 0 0).lsu.x), joinW (loadsLeave5.thr 0 0).lsu.seg (256#12 + (loadsLeave5.thr 0 0).lsu.x + 1#12)] false = Checked.go [259#24, 260#24]) ∧
    ((loadsLeave5.thr 0 0).lsu.ctl.getLsbD 3 = true ∧
     loadsLeave5.accepts 0 0 71 256#12 = true ∧
     loadsLeave5.check 0 0 (loadsLeave5.force 0 0) false (BitVec.getLsbD (256#12 + (loadsLeave5.thr 0 0).lsu.x * BitVec.ofNat 12 (2 ^ ((loadsLeave5.thr 0 0).lsu.ctl.toNat % 4))) 0) false 256#12 [joinW (loadsLeave5.thr 0 0).lsu.seg (256#12 + (loadsLeave5.thr 0 0).lsu.x * BitVec.ofNat 12 (2 ^ ((loadsLeave5.thr 0 0).lsu.ctl.toNat % 4))), joinW (loadsLeave5.thr 0 0).lsu.seg (256#12 + (loadsLeave5.thr 0 0).lsu.x * BitVec.ofNat 12 (2 ^ ((loadsLeave5.thr 0 0).lsu.ctl.toNat % 4)) + 1#12)] false = Checked.go [259#24, 260#24]) ∧
    ((loadsLeave19.thr 0 0).lsu.ctl.getLsbD 3 = true ∧
     loadsLeave19.accepts 0 0 73 256#12 = true ∧
     loadsLeave19.check 0 0 (loadsLeave19.force 0 0) false (BitVec.getLsbD (256#12 + (loadsLeave19.thr 0 0).lsu.x) 0) false 256#12 [joinW (loadsLeave19.thr 0 0).lsu.seg (256#12 + (loadsLeave19.thr 0 0).lsu.x), joinW (loadsLeave19.thr 0 0).lsu.seg (256#12 + (loadsLeave19.thr 0 0).lsu.x + 1#12)] false = Checked.miss (256#24) false) ∧
    ((loadsLeave19.thr 0 0).lsu.ctl.toNat % 4 = 0 ∧
     (loadsLeave19.thr 0 0).lsu.ctl.getLsbD 3 = true ∧
     loadsLeave19.accepts 0 0 71 256#12 = true ∧
     loadsLeave19.check 0 0 (loadsLeave19.force 0 0) false (BitVec.getLsbD (256#12 + (loadsLeave19.thr 0 0).lsu.x * 1#12) 0) false 256#12 [joinW (loadsLeave19.thr 0 0).lsu.seg (256#12 + (loadsLeave19.thr 0 0).lsu.x * 1#12), joinW (loadsLeave19.thr 0 0).lsu.seg (256#12 + (loadsLeave19.thr 0 0).lsu.x * 1#12 + 1#12)] false = Checked.miss (256#24) false) ∧
    ((loadsLeave20.thr 0 0).lsu.ctl.getLsbD 3 = true ∧
     loadsLeave20.accepts 0 0 73 256#12 = true ∧
     loadsLeave20.check 0 0 (loadsLeave20.force 0 0) false (BitVec.getLsbD (256#12 + (loadsLeave20.thr 0 0).lsu.x) 0) false 256#12 [joinW (loadsLeave20.thr 0 0).lsu.seg (256#12 + (loadsLeave20.thr 0 0).lsu.x), joinW (loadsLeave20.thr 0 0).lsu.seg (256#12 + (loadsLeave20.thr 0 0).lsu.x + 1#12)] false = Checked.fault (ckFault (loadsLeave20.check 0 0 (loadsLeave20.force 0 0) false (BitVec.getLsbD (256#12 + (loadsLeave20.thr 0 0).lsu.x) 0) false 256#12 [joinW (loadsLeave20.thr 0 0).lsu.seg (256#12 + (loadsLeave20.thr 0 0).lsu.x), joinW (loadsLeave20.thr 0 0).lsu.seg (256#12 + (loadsLeave20.thr 0 0).lsu.x + 1#12)] false))) ∧
    ((loadsLeave20.thr 0 0).lsu.ctl.toNat % 4 = 0 ∧
     (loadsLeave20.thr 0 0).lsu.ctl.getLsbD 3 = true ∧
     loadsLeave20.accepts 0 0 71 256#12 = true ∧
     loadsLeave20.check 0 0 (loadsLeave20.force 0 0) false (BitVec.getLsbD (256#12 + (loadsLeave20.thr 0 0).lsu.x * 1#12) 0) false 256#12 [joinW (loadsLeave20.thr 0 0).lsu.seg (256#12 + (loadsLeave20.thr 0 0).lsu.x * 1#12), joinW (loadsLeave20.thr 0 0).lsu.seg (256#12 + (loadsLeave20.thr 0 0).lsu.x * 1#12 + 1#12)] false = Checked.fault (ckFault (loadsLeave20.check 0 0 (loadsLeave20.force 0 0) false (BitVec.getLsbD (256#12 + (loadsLeave20.thr 0 0).lsu.x * 1#12) 0) false 256#12 [joinW (loadsLeave20.thr 0 0).lsu.seg (256#12 + (loadsLeave20.thr 0 0).lsu.x * 1#12), joinW (loadsLeave20.thr 0 0).lsu.seg (256#12 + (loadsLeave20.thr 0 0).lsu.x * 1#12 + 1#12)] false))) ∧
    ((loadsLeave29.thr 0 0).lsu.ctl.toNat % 4 = 3 ∧
     loadsLeave29.accepts 0 0 71 256#12 = true) := by
  refine ⟨?_, ?_, ?_, ?_, ?_, ?_, ?_, ?_, ?_, ?_, ?_, ?_, ?_, ?_, ?_, ?_, ?_, ?_, ?_⟩ <;> decide +kernel

/-- The hypotheses of StoresArePosted are met together, clause by clause. -/
theorem witness_StoresArePosted :
    (storesPoste1.accepts 0 0 69 258#12 = true ∧
     storesPoste1.check 0 0 (storesPoste1.force 0 0) true false false 258#12 [joinW (storesPoste1.thr 0 0).lsu.seg 256#12, joinW (storesPoste1.thr 0 0).lsu.seg 257#12] false = Checked.go [256#24, 257#24] ∧
     (progOf 256#24 = none ∧ progOf 257#24 = none ∨ progStoreOk [256#24, 257#24] (storesPoste1.thr 0 0).lsu.dh = true)) ∧
    (storesPoste1.accepts 0 0 70 258#12 = true ∧
     storesPoste1.check 0 0 (storesPoste1.force 0 0) true false false 258#12 [joinW (storesPoste1.thr 0 0).lsu.seg 257#12] false = Checked.go [257#24] ∧
     progOf 257#24 = none) ∧
    (storesPoste1.accepts 0 0 69 259#12 = true ∧
     storesPoste1.check 0 0 (storesPoste1.force 0 0) true true false 259#12 [joinW (storesPoste1.thr 0 0).lsu.seg 257#12, joinW (storesPoste1.thr 0 0).lsu.seg 258#12] false = Checked.go [257#24, 258#24] ∧
     progOf 257#24 = none ∧
     progOf 258#24 = none) ∧
    (storesPoste3.accepts 0 0 69 258#12 = true ∧
     storesPoste3.check 0 0 (storesPoste3.force 0 0) true false false 258#12 [joinW (storesPoste3.thr 0 0).lsu.seg 256#12, joinW (storesPoste3.thr 0 0).lsu.seg 257#12] false = Checked.miss (256#24) false) ∧
    (storesPoste4.accepts 0 0 69 258#12 = true ∧
     storesPoste4.check 0 0 (storesPoste4.force 0 0) true false false 258#12 [joinW (storesPoste4.thr 0 0).lsu.seg 256#12, joinW (storesPoste4.thr 0 0).lsu.seg 257#12] false = Checked.fault (ckFault (storesPoste4.check 0 0 (storesPoste4.force 0 0) true false false 258#12 [joinW (storesPoste4.thr 0 0).lsu.seg 256#12, joinW (storesPoste4.thr 0 0).lsu.seg 257#12] false))) ∧
    (storesPoste4.accepts 0 0 70 258#12 = true ∧
     storesPoste4.check 0 0 (storesPoste4.force 0 0) true false false 258#12 [joinW (storesPoste4.thr 0 0).lsu.seg 257#12] false = Checked.fault (ckFault (storesPoste4.check 0 0 (storesPoste4.force 0 0) true false false 258#12 [joinW (storesPoste4.thr 0 0).lsu.seg 257#12] false))) ∧
    ((storesPoste4.thr 0 0).lsu.ctl.getLsbD 3 = false ∧
     storesPoste4.accepts 0 0 74 258#12 = true ∧
     storesPoste4.check 0 0 (storesPoste4.force 0 0) true false false 258#12 [joinW (storesPoste4.thr 0 0).lsu.seg (258#12 + (storesPoste4.thr 0 0).lsu.x)] false = Checked.fault (ckFault (storesPoste4.check 0 0 (storesPoste4.force 0 0) true false false 258#12 [joinW (storesPoste4.thr 0 0).lsu.seg (258#12 + (storesPoste4.thr 0 0).lsu.x)] false))) ∧
    ((storesPoste4.thr 0 0).lsu.ctl.getLsbD 3 = false ∧
     storesPoste4.accepts 0 0 72 258#12 = true ∧
     storesPoste4.check 0 0 (storesPoste4.force 0 0) true false false 258#12 [joinW (storesPoste4.thr 0 0).lsu.seg (258#12 + (storesPoste4.thr 0 0).lsu.x * BitVec.ofNat 12 (2 ^ ((storesPoste4.thr 0 0).lsu.ctl.toNat % 4)))] false = Checked.fault (ckFault (storesPoste4.check 0 0 (storesPoste4.force 0 0) true false false 258#12 [joinW (storesPoste4.thr 0 0).lsu.seg (258#12 + (storesPoste4.thr 0 0).lsu.x * BitVec.ofNat 12 (2 ^ ((storesPoste4.thr 0 0).lsu.ctl.toNat % 4)))] false))) ∧
    (storesPoste3.accepts 0 0 70 257#12 = true ∧
     storesPoste3.check 0 0 (storesPoste3.force 0 0) true false false 257#12 [joinW (storesPoste3.thr 0 0).lsu.seg 256#12] false = Checked.miss (256#24) false) ∧
    (storesPoste5.accepts 0 0 69 258#12 = true ∧
     storesPoste5.check 0 0 (storesPoste5.force 0 0) true false false 258#12 [joinW (storesPoste5.thr 0 0).lsu.seg 256#12, joinW (storesPoste5.thr 0 0).lsu.seg 257#12] false = Checked.go [524544#24, 524545#24] ∧
     progOf 524544#24 = some 0 ∧
     progStoreOk [524544#24, 524545#24] (storesPoste5.thr 0 0).lsu.dh = false) ∧
    (storesPoste5.accepts 0 0 70 258#12 = true ∧
     storesPoste5.check 0 0 (storesPoste5.force 0 0) true false false 258#12 [joinW (storesPoste5.thr 0 0).lsu.seg 257#12] false = Checked.go [524545#24] ∧
     progOf 524545#24 = some 0) ∧
    ((storesPoste7.thr 0 0).lsu.ctl.getLsbD 3 = false ∧
     storesPoste7.accepts 0 0 74 256#12 = true ∧
     storesPoste7.check 0 0 (storesPoste7.force 0 0) true false false 256#12 [joinW (storesPoste7.thr 0 0).lsu.seg (256#12 + (storesPoste7.thr 0 0).lsu.x)] false = Checked.go [259#24] ∧
     progOf 259#24 = none) ∧
    ((storesPoste7.thr 0 0).lsu.ctl.getLsbD 3 = false ∧
     storesPoste7.accepts 0 0 72 256#12 = true ∧
     storesPoste7.check 0 0 (storesPoste7.force 0 0) true false false 256#12 [joinW (storesPoste7.thr 0 0).lsu.seg (256#12 + (storesPoste7.thr 0 0).lsu.x * BitVec.ofNat 12 (2 ^ ((storesPoste7.thr 0 0).lsu.ctl.toNat % 4)))] false = Checked.go [259#24] ∧
     progOf 259#24 = none) ∧
    ((storesPoste8.thr 0 0).lsu.ctl.getLsbD 3 = false ∧
     storesPoste8.accepts 0 0 74 256#12 = true ∧
     storesPoste8.check 0 0 (storesPoste8.force 0 0) true false false 256#12 [joinW (storesPoste8.thr 0 0).lsu.seg (256#12 + (storesPoste8.thr 0 0).lsu.x)] false = Checked.go [524547#24] ∧
     progOf 524547#24 = some 0) ∧
    ((storesPoste8.thr 0 0).lsu.ctl.getLsbD 3 = false ∧
     storesPoste8.accepts 0 0 72 256#12 = true ∧
     storesPoste8.check 0 0 (storesPoste8.force 0 0) true false false 256#12 [joinW (storesPoste8.thr 0 0).lsu.seg (256#12 + (storesPoste8.thr 0 0).lsu.x * BitVec.ofNat 12 (2 ^ ((storesPoste8.thr 0 0).lsu.ctl.toNat % 4)))] false = Checked.go [524547#24] ∧
     progOf 524547#24 = some 0) ∧
    ((storesPoste12.thr 0 0).lsu.ctl.getLsbD 3 = false ∧
     storesPoste12.accepts 0 0 74 256#12 = true ∧
     storesPoste12.check 0 0 (storesPoste12.force 0 0) true false false 256#12 [joinW (storesPoste12.thr 0 0).lsu.seg (256#12 + (storesPoste12.thr 0 0).lsu.x)] false = Checked.miss (256#24) false) ∧
    ((storesPoste12.thr 0 0).lsu.ctl.getLsbD 3 = false ∧
     storesPoste12.accepts 0 0 72 256#12 = true ∧
     storesPoste12.check 0 0 (storesPoste12.force 0 0) true false false 256#12 [joinW (storesPoste12.thr 0 0).lsu.seg (256#12 + (storesPoste12.thr 0 0).lsu.x * BitVec.ofNat 12 (2 ^ ((storesPoste12.thr 0 0).lsu.ctl.toNat % 4)))] false = Checked.miss (256#24) false) ∧
    ((storesPoste14.thr 0 0).lsu.ctl.getLsbD 3 = true ∧
     storesPoste14.accepts 0 0 74 256#12 = true ∧
     BitVec.getLsbD (256#12 + (storesPoste14.thr 0 0).lsu.x) 0 = true ∧
     storesPoste14.check 0 0 (storesPoste14.force 0 0) true (BitVec.getLsbD (256#12 + (storesPoste14.thr 0 0).lsu.x) 0) false 256#12 [joinW (storesPoste14.thr 0 0).lsu.seg (256#12 + (storesPoste14.thr 0 0).lsu.x), joinW (storesPoste14.thr 0 0).lsu.seg (256#12 + (storesPoste14.thr 0 0).lsu.x + 1#12)] false = Checked.go [259#24, 260#24] ∧
     progOf 259#24 = none ∧
     progOf 260#24 = none) ∧
    ((storesPoste14.thr 0 0).lsu.ctl.getLsbD 3 = true ∧
     storesPoste14.accepts 0 0 72 256#12 = true ∧
     BitVec.getLsbD (256#12 + (storesPoste14.thr 0 0).lsu.x * BitVec.ofNat 12 (2 ^ ((storesPoste14.thr 0 0).lsu.ctl.toNat % 4))) 0 = true ∧
     storesPoste14.check 0 0 (storesPoste14.force 0 0) true (BitVec.getLsbD (256#12 + (storesPoste14.thr 0 0).lsu.x * BitVec.ofNat 12 (2 ^ ((storesPoste14.thr 0 0).lsu.ctl.toNat % 4))) 0) false 256#12 [joinW (storesPoste14.thr 0 0).lsu.seg (256#12 + (storesPoste14.thr 0 0).lsu.x * BitVec.ofNat 12 (2 ^ ((storesPoste14.thr 0 0).lsu.ctl.toNat % 4))), joinW (storesPoste14.thr 0 0).lsu.seg (256#12 + (storesPoste14.thr 0 0).lsu.x * BitVec.ofNat 12 (2 ^ ((storesPoste14.thr 0 0).lsu.ctl.toNat % 4)) + 1#12)] false = Checked.go [259#24, 260#24] ∧
     progOf 259#24 = none ∧
     progOf 260#24 = none) ∧
    ((storesPoste15.thr 0 0).lsu.ctl.getLsbD 3 = true ∧
     storesPoste15.accepts 0 0 74 256#12 = true ∧
     storesPoste15.check 0 0 (storesPoste15.force 0 0) true (BitVec.getLsbD (256#12 + (storesPoste15.thr 0 0).lsu.x) 0) false 256#12 [joinW (storesPoste15.thr 0 0).lsu.seg (256#12 + (storesPoste15.thr 0 0).lsu.x), joinW (storesPoste15.thr 0 0).lsu.seg (256#12 + (storesPoste15.thr 0 0).lsu.x + 1#12)] false = Checked.go [524547#24, 524548#24] ∧
     progOf 524547#24 = some 0 ∧
     progStoreOk [524547#24, 524548#24] (storesPoste15.thr 0 0).lsu.dh = false) ∧
    ((storesPoste15.thr 0 0).lsu.ctl.getLsbD 3 = true ∧
     storesPoste15.accepts 0 0 72 256#12 = true ∧
     storesPoste15.check 0 0 (storesPoste15.force 0 0) true (BitVec.getLsbD (256#12 + (storesPoste15.thr 0 0).lsu.x * BitVec.ofNat 12 (2 ^ ((storesPoste15.thr 0 0).lsu.ctl.toNat % 4))) 0) false 256#12 [joinW (storesPoste15.thr 0 0).lsu.seg (256#12 + (storesPoste15.thr 0 0).lsu.x * BitVec.ofNat 12 (2 ^ ((storesPoste15.thr 0 0).lsu.ctl.toNat % 4))), joinW (storesPoste15.thr 0 0).lsu.seg (256#12 + (storesPoste15.thr 0 0).lsu.x * BitVec.ofNat 12 (2 ^ ((storesPoste15.thr 0 0).lsu.ctl.toNat % 4)) + 1#12)] false = Checked.go [524547#24, 524548#24] ∧
     progOf 524547#24 = some 0 ∧
     progStoreOk [524547#24, 524548#24] (storesPoste15.thr 0 0).lsu.dh = false) ∧
    ((storesPoste16.thr 0 0).lsu.ctl.getLsbD 3 = true ∧
     storesPoste16.accepts 0 0 74 256#12 = true ∧
     BitVec.getLsbD (256#12 + (storesPoste16.thr 0 0).lsu.x) 0 = false ∧
     storesPoste16.check 0 0 (storesPoste16.force 0 0) true (BitVec.getLsbD (256#12 + (storesPoste16.thr 0 0).lsu.x) 0) false 256#12 [joinW (storesPoste16.thr 0 0).lsu.seg (256#12 + (storesPoste16.thr 0 0).lsu.x), joinW (storesPoste16.thr 0 0).lsu.seg (256#12 + (storesPoste16.thr 0 0).lsu.x + 1#12)] false = Checked.go [260#24, 261#24] ∧
     (progOf 260#24 = none ∧ progOf 261#24 = none ∨ progStoreOk [260#24, 261#24] (storesPoste16.thr 0 0).lsu.dh = true)) ∧
    ((storesPoste16.thr 0 0).lsu.ctl.getLsbD 3 = true ∧
     storesPoste16.accepts 0 0 72 256#12 = true ∧
     BitVec.getLsbD (256#12 + (storesPoste16.thr 0 0).lsu.x * BitVec.ofNat 12 (2 ^ ((storesPoste16.thr 0 0).lsu.ctl.toNat % 4))) 0 = false ∧
     storesPoste16.check 0 0 (storesPoste16.force 0 0) true (BitVec.getLsbD (256#12 + (storesPoste16.thr 0 0).lsu.x * BitVec.ofNat 12 (2 ^ ((storesPoste16.thr 0 0).lsu.ctl.toNat % 4))) 0) false 256#12 [joinW (storesPoste16.thr 0 0).lsu.seg (256#12 + (storesPoste16.thr 0 0).lsu.x * BitVec.ofNat 12 (2 ^ ((storesPoste16.thr 0 0).lsu.ctl.toNat % 4))), joinW (storesPoste16.thr 0 0).lsu.seg (256#12 + (storesPoste16.thr 0 0).lsu.x * BitVec.ofNat 12 (2 ^ ((storesPoste16.thr 0 0).lsu.ctl.toNat % 4)) + 1#12)] false = Checked.go [260#24, 261#24] ∧
     (progOf 260#24 = none ∧ progOf 261#24 = none ∨ progStoreOk [260#24, 261#24] (storesPoste16.thr 0 0).lsu.dh = true)) ∧
    ((storesPoste19.thr 0 0).lsu.ctl.getLsbD 3 = true ∧
     storesPoste19.accepts 0 0 74 256#12 = true ∧
     storesPoste19.check 0 0 (storesPoste19.force 0 0) true (BitVec.getLsbD (256#12 + (storesPoste19.thr 0 0).lsu.x) 0) false 256#12 [joinW (storesPoste19.thr 0 0).lsu.seg (256#12 + (storesPoste19.thr 0 0).lsu.x), joinW (storesPoste19.thr 0 0).lsu.seg (256#12 + (storesPoste19.thr 0 0).lsu.x + 1#12)] false = Checked.miss (256#24) false) ∧
    ((storesPoste19.thr 0 0).lsu.ctl.getLsbD 3 = true ∧
     storesPoste19.accepts 0 0 72 256#12 = true ∧
     storesPoste19.check 0 0 (storesPoste19.force 0 0) true (BitVec.getLsbD (256#12 + (storesPoste19.thr 0 0).lsu.x * BitVec.ofNat 12 (2 ^ ((storesPoste19.thr 0 0).lsu.ctl.toNat % 4))) 0) false 256#12 [joinW (storesPoste19.thr 0 0).lsu.seg (256#12 + (storesPoste19.thr 0 0).lsu.x * BitVec.ofNat 12 (2 ^ ((storesPoste19.thr 0 0).lsu.ctl.toNat % 4))), joinW (storesPoste19.thr 0 0).lsu.seg (256#12 + (storesPoste19.thr 0 0).lsu.x * BitVec.ofNat 12 (2 ^ ((storesPoste19.thr 0 0).lsu.ctl.toNat % 4)) + 1#12)] false = Checked.miss (256#24) false) ∧
    ((storesPoste20.thr 0 0).lsu.ctl.getLsbD 3 = true ∧
     storesPoste20.accepts 0 0 74 256#12 = true ∧
     storesPoste20.check 0 0 (storesPoste20.force 0 0) true (BitVec.getLsbD (256#12 + (storesPoste20.thr 0 0).lsu.x) 0) false 256#12 [joinW (storesPoste20.thr 0 0).lsu.seg (256#12 + (storesPoste20.thr 0 0).lsu.x), joinW (storesPoste20.thr 0 0).lsu.seg (256#12 + (storesPoste20.thr 0 0).lsu.x + 1#12)] false = Checked.fault (ckFault (storesPoste20.check 0 0 (storesPoste20.force 0 0) true (BitVec.getLsbD (256#12 + (storesPoste20.thr 0 0).lsu.x) 0) false 256#12 [joinW (storesPoste20.thr 0 0).lsu.seg (256#12 + (storesPoste20.thr 0 0).lsu.x), joinW (storesPoste20.thr 0 0).lsu.seg (256#12 + (storesPoste20.thr 0 0).lsu.x + 1#12)] false))) ∧
    ((storesPoste20.thr 0 0).lsu.ctl.getLsbD 3 = true ∧
     storesPoste20.accepts 0 0 72 256#12 = true ∧
     storesPoste20.check 0 0 (storesPoste20.force 0 0) true (BitVec.getLsbD (256#12 + (storesPoste20.thr 0 0).lsu.x * BitVec.ofNat 12 (2 ^ ((storesPoste20.thr 0 0).lsu.ctl.toNat % 4))) 0) false 256#12 [joinW (storesPoste20.thr 0 0).lsu.seg (256#12 + (storesPoste20.thr 0 0).lsu.x * BitVec.ofNat 12 (2 ^ ((storesPoste20.thr 0 0).lsu.ctl.toNat % 4))), joinW (storesPoste20.thr 0 0).lsu.seg (256#12 + (storesPoste20.thr 0 0).lsu.x * BitVec.ofNat 12 (2 ^ ((storesPoste20.thr 0 0).lsu.ctl.toNat % 4)) + 1#12)] false = Checked.fault (ckFault (storesPoste20.check 0 0 (storesPoste20.force 0 0) true (BitVec.getLsbD (256#12 + (storesPoste20.thr 0 0).lsu.x * BitVec.ofNat 12 (2 ^ ((storesPoste20.thr 0 0).lsu.ctl.toNat % 4))) 0) false 256#12 [joinW (storesPoste20.thr 0 0).lsu.seg (256#12 + (storesPoste20.thr 0 0).lsu.x * BitVec.ofNat 12 (2 ^ ((storesPoste20.thr 0 0).lsu.ctl.toNat % 4))), joinW (storesPoste20.thr 0 0).lsu.seg (256#12 + (storesPoste20.thr 0 0).lsu.x * BitVec.ofNat 12 (2 ^ ((storesPoste20.thr 0 0).lsu.ctl.toNat % 4)) + 1#12)] false))) ∧
    ((storesPoste53.thr 0 0).lsu.ctl.toNat % 4 = 3 ∧
     storesPoste53.accepts 0 0 72 256#12 = true) := by
  refine ⟨?_, ?_, ?_, ?_, ?_, ?_, ?_, ?_, ?_, ?_, ?_, ?_, ?_, ?_, ?_, ?_, ?_, ?_, ?_, ?_, ?_, ?_, ?_, ?_, ?_, ?_, ?_, ?_⟩ <;> decide +kernel

/-- The hypotheses of LoadsReturnTheStoredWords are met together, clause by clause. -/
theorem witness_LoadsReturnTheStoredWords :
    (loadsRetur1.together 0 = true ∧
     loadsRetur1.still 0 = false ∧
     (loadsRetur1.loadOf 0 0).isSome = true ∧
     ((regionOf ((((loadsRetur1.loadOf 0 0)).get (by decide +kernel))).pa).isData = true ∧ loadsRetur1.asleep ((((loadsRetur1.loadOf 0 0)).get (by decide +kernel))).pa = false ∧ loadsRetur1.cutOff (Master.engine 0 0 ((((loadsRetur1.loadOf 0 0)).get (by decide +kernel))).machine) ((((loadsRetur1.loadOf 0 0)).get (by decide +kernel))).pa = false ∧ loadsRetur1.refuses (Master.engine 0 0 ((((loadsRetur1.loadOf 0 0)).get (by decide +kernel))).machine) ((((loadsRetur1.loadOf 0 0)).get (by decide +kernel))).pa false = false) ∧
     ((((loadsRetur1.loadOf 0 0)).get (by decide +kernel))).second = none ∧
     loadsRetur1.wordGood ((((loadsRetur1.loadOf 0 0)).get (by decide +kernel))).pa = true) ∧
    (loadsRetur2.together 0 = true ∧
     loadsRetur2.still 0 = false ∧
     (loadsRetur2.loadOf 0 0).isSome = true ∧
     ((regionOf ((((loadsRetur2.loadOf 0 0)).get (by decide +kernel))).pa).isData = true ∧ loadsRetur2.asleep ((((loadsRetur2.loadOf 0 0)).get (by decide +kernel))).pa = false ∧ loadsRetur2.cutOff (Master.engine 0 0 ((((loadsRetur2.loadOf 0 0)).get (by decide +kernel))).machine) ((((loadsRetur2.loadOf 0 0)).get (by decide +kernel))).pa = false ∧ loadsRetur2.refuses (Master.engine 0 0 ((((loadsRetur2.loadOf 0 0)).get (by decide +kernel))).machine) ((((loadsRetur2.loadOf 0 0)).get (by decide +kernel))).pa false = false) ∧
     (((((loadsRetur2.loadOf 0 0)).get (by decide +kernel))).second).isSome = true ∧
     loadsRetur2.wordGood ((((loadsRetur2.loadOf 0 0)).get (by decide +kernel))).pa = true ∧
     loadsRetur2.wordGood (((((((loadsRetur2.loadOf 0 0)).get (by decide +kernel))).second).get (by decide +kernel))).fst = true ∧
     ((regionOf (((((((loadsRetur2.loadOf 0 0)).get (by decide +kernel))).second).get (by decide +kernel))).fst).isData = true ∧ loadsRetur2.asleep (((((((loadsRetur2.loadOf 0 0)).get (by decide +kernel))).second).get (by decide +kernel))).fst = false ∧ loadsRetur2.cutOff (Master.engine 0 0 ((((loadsRetur2.loadOf 0 0)).get (by decide +kernel))).machine) (((((((loadsRetur2.loadOf 0 0)).get (by decide +kernel))).second).get (by decide +kernel))).fst = false ∧ loadsRetur2.refuses (Master.engine 0 0 ((((loadsRetur2.loadOf 0 0)).get (by decide +kernel))).machine) (((((((loadsRetur2.loadOf 0 0)).get (by decide +kernel))).second).get (by decide +kernel))).fst false = false) ∧
     ((((loadsRetur2.loadOf 0 0)).get (by decide +kernel))).split = false ∧
     BitVec.getLsbD ((((loadsRetur2.loadOf 0 0)).get (by decide +kernel))).pa 0 = false ∧
     (((((((loadsRetur2.loadOf 0 0)).get (by decide +kernel))).second).get (by decide +kernel))).fst = ((((loadsRetur2.loadOf 0 0)).get (by decide +kernel))).pa + 1#24) ∧
    (loadsRetur3.together 0 = true ∧
     loadsRetur3.still 0 = false ∧
     (loadsRetur3.loadOf 0 0).isSome = true ∧
     ((regionOf ((((loadsRetur3.loadOf 0 0)).get (by decide +kernel))).pa).isData = true ∧ loadsRetur3.asleep ((((loadsRetur3.loadOf 0 0)).get (by decide +kernel))).pa = false ∧ loadsRetur3.cutOff (Master.engine 0 0 ((((loadsRetur3.loadOf 0 0)).get (by decide +kernel))).machine) ((((loadsRetur3.loadOf 0 0)).get (by decide +kernel))).pa = false ∧ loadsRetur3.refuses (Master.engine 0 0 ((((loadsRetur3.loadOf 0 0)).get (by decide +kernel))).machine) ((((loadsRetur3.loadOf 0 0)).get (by decide +kernel))).pa false = false) ∧
     (((((loadsRetur3.loadOf 0 0)).get (by decide +kernel))).second).isSome = true ∧
     loadsRetur3.wordGood ((((loadsRetur3.loadOf 0 0)).get (by decide +kernel))).pa = true ∧
     loadsRetur3.wordGood (((((((loadsRetur3.loadOf 0 0)).get (by decide +kernel))).second).get (by decide +kernel))).fst = true ∧
     ((regionOf (((((((loadsRetur3.loadOf 0 0)).get (by decide +kernel))).second).get (by decide +kernel))).fst).isData = true ∧ loadsRetur3.asleep (((((((loadsRetur3.loadOf 0 0)).get (by decide +kernel))).second).get (by decide +kernel))).fst = false ∧ loadsRetur3.cutOff (Master.engine 0 0 ((((loadsRetur3.loadOf 0 0)).get (by decide +kernel))).machine) (((((((loadsRetur3.loadOf 0 0)).get (by decide +kernel))).second).get (by decide +kernel))).fst = false ∧ loadsRetur3.refuses (Master.engine 0 0 ((((loadsRetur3.loadOf 0 0)).get (by decide +kernel))).machine) (((((((loadsRetur3.loadOf 0 0)).get (by decide +kernel))).second).get (by decide +kernel))).fst false = false) ∧
     ((((loadsRetur3.loadOf 0 0)).get (by decide +kernel))).split = true) ∧
    (loadsRetur4.together 0 = true ∧
     loadsRetur4.still 0 = false ∧
     (loadsRetur4.loadOf 0 0).isSome = true ∧
     ((regionOf ((((loadsRetur4.loadOf 0 0)).get (by decide +kernel))).pa).isData = true ∧ loadsRetur4.asleep ((((loadsRetur4.loadOf 0 0)).get (by decide +kernel))).pa = false ∧ loadsRetur4.cutOff (Master.engine 0 0 ((((loadsRetur4.loadOf 0 0)).get (by decide +kernel))).machine) ((((loadsRetur4.loadOf 0 0)).get (by decide +kernel))).pa = false ∧ loadsRetur4.refuses (Master.engine 0 0 ((((loadsRetur4.loadOf 0 0)).get (by decide +kernel))).machine) ((((loadsRetur4.loadOf 0 0)).get (by decide +kernel))).pa false = false) ∧
     ((((loadsRetur4.loadOf 0 0)).get (by decide +kernel))).second = none ∧
     dualPort ((((loadsRetur4.loadOf 0 0)).get (by decide +kernel))).pa = true) ∧
    (loadsRetur5.together 0 = true ∧
     loadsRetur5.still 0 = false ∧
     (loadsRetur5.loadOf 0 0).isSome = true ∧
     regionOf ((((loadsRetur5.loadOf 0 0)).get (by decide +kernel))).pa = Region.host ∧
     ((((loadsRetur5.loadOf 0 0)).get (by decide +kernel))).second = none ∧
     loadsRetur5.windowOk = true) := by
  refine ⟨?_, ?_, ?_, ?_, ?_⟩ <;> decide +kernel

/-- The hypotheses of StoresCommitInOrder are met together, clause by clause. -/
theorem witness_StoresCommitInOrder :
    (storesCommi1.together 0 = true ∧
     storesCommi1.still 0 = false ∧
     (storesCommi1.eng 0).sbuf = (((storesCommi1.eng 0).sbuf).head (by decide +kernel)) :: (storesCommi1.eng 0).sbuf.tail ∧
     ((((storesCommi1.eng 0).sbuf).head (by decide +kernel))).sent = true ∧
     storesCommi1.asleep ((((storesCommi1.eng 0).sbuf).head (by decide +kernel))).pa = false ∧
     (regionOf ((((storesCommi1.eng 0).sbuf).head (by decide +kernel))).pa).isData = true ∧
     storesCommi1.cutOff (Master.engine 0 ((((storesCommi1.eng 0).sbuf).head (by decide +kernel))).t ((((storesCommi1.eng 0).sbuf).head (by decide +kernel))).machine) ((((storesCommi1.eng 0).sbuf).head (by decide +kernel))).pa = false ∧
     storesCommi1.refuses (Master.engine 0 ((((storesCommi1.eng 0).sbuf).head (by decide +kernel))).t ((((storesCommi1.eng 0).sbuf).head (by decide +kernel))).machine) ((((storesCommi1.eng 0).sbuf).head (by decide +kernel))).pa true = false ∧
     ((((storesCommi1.eng 0).sbuf).head (by decide +kernel))).data2 = none ∧
     ((((storesCommi1.eng 0).sbuf).head (by decide +kernel))).half2 = false ∧
     (regionOf ((((storesCommi1.eng 0).sbuf).head (by decide +kernel))).pa).bank = some (0, 0)) ∧
    (storesCommi2.together 0 = true ∧
     storesCommi2.still 0 = false ∧
     (storesCommi2.eng 0).sbuf = (((storesCommi2.eng 0).sbuf).head (by decide +kernel)) :: (storesCommi2.eng 0).sbuf.tail ∧
     ((((storesCommi2.eng 0).sbuf).head (by decide +kernel))).sent = true ∧
     storesCommi2.asleep ((((storesCommi2.eng 0).sbuf).head (by decide +kernel))).pa = false ∧
     (regionOf ((((storesCommi2.eng 0).sbuf).head (by decide +kernel))).pa).isData = true ∧
     storesCommi2.cutOff (Master.engine 0 ((((storesCommi2.eng 0).sbuf).head (by decide +kernel))).t ((((storesCommi2.eng 0).sbuf).head (by decide +kernel))).machine) ((((storesCommi2.eng 0).sbuf).head (by decide +kernel))).pa = false ∧
     storesCommi2.refuses (Master.engine 0 ((((storesCommi2.eng 0).sbuf).head (by decide +kernel))).t ((((storesCommi2.eng 0).sbuf).head (by decide +kernel))).machine) ((((storesCommi2.eng 0).sbuf).head (by decide +kernel))).pa true = false ∧
     (((((storesCommi2.eng 0).sbuf).head (by decide +kernel))).data2).isSome = true ∧
     BitVec.getLsbD ((((storesCommi2.eng 0).sbuf).head (by decide +kernel))).pa 0 = false) ∧
    (storesCommi3.together 0 = true ∧
     storesCommi3.still 0 = false ∧
     (storesCommi3.eng 0).sbuf = (((storesCommi3.eng 0).sbuf).head (by decide +kernel)) :: (storesCommi3.eng 0).sbuf.tail ∧
     ((((storesCommi3.eng 0).sbuf).head (by decide +kernel))).sent = true ∧
     storesCommi3.asleep ((((storesCommi3.eng 0).sbuf).head (by decide +kernel))).pa = false ∧
     (regionOf ((((storesCommi3.eng 0).sbuf).head (by decide +kernel))).pa).isData = true ∧
     storesCommi3.cutOff (Master.engine 0 ((((storesCommi3.eng 0).sbuf).head (by decide +kernel))).t ((((storesCommi3.eng 0).sbuf).head (by decide +kernel))).machine) ((((storesCommi3.eng 0).sbuf).head (by decide +kernel))).pa = false ∧
     storesCommi3.refuses (Master.engine 0 ((((storesCommi3.eng 0).sbuf).head (by decide +kernel))).t ((((storesCommi3.eng 0).sbuf).head (by decide +kernel))).machine) ((((storesCommi3.eng 0).sbuf).head (by decide +kernel))).pa true = false ∧
     ((((storesCommi3.eng 0).sbuf).head (by decide +kernel))).data2 = none ∧
     ((((storesCommi3.eng 0).sbuf).head (by decide +kernel))).half2 = false ∧
     crossesWeft (Master.engine 0 ((((storesCommi3.eng 0).sbuf).head (by decide +kernel))).t ((((storesCommi3.eng 0).sbuf).head (by decide +kernel))).machine) ((((storesCommi3.eng 0).sbuf).head (by decide +kernel))).pa = true) := by
  refine ⟨?_, ?_, ?_⟩ <;> decide +kernel

/-- The hypotheses of FenceWaitsForTheThreadsStores are met together, clause by clause. -/
theorem witness_FenceWaitsForTheThreadsStores :
    (run.accepts 0 0 75 0#12 = true) ∧
    (fenceWaits1.together 0 = true ∧
     fenceWaits1.still 0 = false ∧
     (fenceWaits1.thr 0 0).lsu.fence = true ∧
     (∀ (q : StoreEntry), q ∈ (fenceWaits1.eng 0).sbuf → ¬q.t = 0) ∧
     (∀ (o : Out), o ∈ (fenceWaits1.eng 0).out → ¬o.t = 0)) ∧
    (fenceWaits2.together 0 = true ∧
     fenceWaits2.still 0 = false ∧
     (fenceWaits2.thr 0 0).lsu.fence = true ∧
     ((∃ q, q ∈ (fenceWaits2.eng 0).sbuf ∧ q.t = 0) ∨ ∃ o, o ∈ (fenceWaits2.eng 0).out ∧ o.t = 0)) := by
  refine ⟨?_, ?_, ?_⟩ <;> decide +kernel

/-- The hypotheses of BlockOperationsStart are met together, clause by clause. -/
theorem witness_BlockOperationsStart :
    (run.accepts 0 0 82 0#12 = true) ∧
    (run.accepts 0 0 82 1#12 = true) ∧
    (run.accepts 0 0 82 2#12 = true) ∧
    (run.accepts 0 0 82 3#12 = true) ∧
    (run.accepts 0 0 82 8#12 = true) ∧
    (run.accepts 0 0 82 9#12 = true) ∧
    (run.accepts 0 0 82 10#12 = true) ∧
    (run.accepts 0 0 82 11#12 = true) := by
  refine ⟨?_, ?_, ?_, ?_, ?_, ?_, ?_, ?_⟩ <;> decide +kernel

/-- The hypotheses of BlockElementsAdvanceOrStop are met together, clause by clause. -/
theorem witness_BlockElementsAdvanceOrStop :
    (blockEleme1.together 0 = true ∧
     blockEleme1.blkMay 0 0 = true ∧
     (blockEleme1.thr 0 0).machine = true ∧
     (blockEleme1.thr 0 0).blk.op = 0#2 ∧
     ((regionOf (joinW (blockEleme1.thr 0 0).blk.live.sseg (blockEleme1.thr 0 0).blk.live.src)).isData = true ∧ blockEleme1.asleep (joinW (blockEleme1.thr 0 0).blk.live.sseg (blockEleme1.thr 0 0).blk.live.src) = false ∧ (blockEleme1.eng 0).storesTo (joinW (blockEleme1.thr 0 0).blk.live.sseg (blockEleme1.thr 0 0).blk.live.src) = false ∧ blockEleme1.cutOff (Master.engine 0 0 true) (joinW (blockEleme1.thr 0 0).blk.live.sseg (blockEleme1.thr 0 0).blk.live.src) = false ∧ blockEleme1.refuses (Master.engine 0 0 true) (joinW (blockEleme1.thr 0 0).blk.live.sseg (blockEleme1.thr 0 0).blk.live.src) false = false ∧ blockEleme1.refuses (Master.engine 0 0 true) (joinW (blockEleme1.thr 0 0).blk.live.sseg (blockEleme1.thr 0 0).blk.live.src) true = false ∧ blockEleme1.wordGood (joinW (blockEleme1.thr 0 0).blk.live.sseg (blockEleme1.thr 0 0).blk.live.src) = true) ∧
     ((regionOf (joinW (blockEleme1.thr 0 0).blk.live.dseg (blockEleme1.thr 0 0).blk.live.dst)).isData = true ∧ blockEleme1.asleep (joinW (blockEleme1.thr 0 0).blk.live.dseg (blockEleme1.thr 0 0).blk.live.dst) = false ∧ (blockEleme1.eng 0).storesTo (joinW (blockEleme1.thr 0 0).blk.live.dseg (blockEleme1.thr 0 0).blk.live.dst) = false ∧ blockEleme1.cutOff (Master.engine 0 0 true) (joinW (blockEleme1.thr 0 0).blk.live.dseg (blockEleme1.thr 0 0).blk.live.dst) = false ∧ blockEleme1.refuses (Master.engine 0 0 true) (joinW (blockEleme1.thr 0 0).blk.live.dseg (blockEleme1.thr 0 0).blk.live.dst) false = false ∧ blockEleme1.refuses (Master.engine 0 0 true) (joinW (blockEleme1.thr 0 0).blk.live.dseg (blockEleme1.thr 0 0).blk.live.dst) true = false ∧ blockEleme1.wordGood (joinW (blockEleme1.thr 0 0).blk.live.dseg (blockEleme1.thr 0 0).blk.live.dst) = true) ∧
     (blockEleme1.eng 0).sbuf = []) ∧
    (blockEleme2.together 0 = true ∧
     blockEleme2.blkMay 0 0 = true ∧
     (blockEleme2.thr 0 0).machine = true ∧
     (blockEleme2.thr 0 0).blk.op = 1#2 ∧
     ((regionOf (joinW (blockEleme2.thr 0 0).blk.live.dseg (blockEleme2.thr 0 0).blk.live.dst)).isData = true ∧ blockEleme2.asleep (joinW (blockEleme2.thr 0 0).blk.live.dseg (blockEleme2.thr 0 0).blk.live.dst) = false ∧ (blockEleme2.eng 0).storesTo (joinW (blockEleme2.thr 0 0).blk.live.dseg (blockEleme2.thr 0 0).blk.live.dst) = false ∧ blockEleme2.cutOff (Master.engine 0 0 true) (joinW (blockEleme2.thr 0 0).blk.live.dseg (blockEleme2.thr 0 0).blk.live.dst) = false ∧ blockEleme2.refuses (Master.engine 0 0 true) (joinW (blockEleme2.thr 0 0).blk.live.dseg (blockEleme2.thr 0 0).blk.live.dst) false = false ∧ blockEleme2.refuses (Master.engine 0 0 true) (joinW (blockEleme2.thr 0 0).blk.live.dseg (blockEleme2.thr 0 0).blk.live.dst) true = false ∧ blockEleme2.wordGood (joinW (blockEleme2.thr 0 0).blk.live.dseg (blockEleme2.thr 0 0).blk.live.dst) = true) ∧
     (blockEleme2.eng 0).sbuf = []) ∧
    (blockEleme3.together 0 = true ∧
     blockEleme3.blkMay 0 0 = true ∧
     (blockEleme3.thr 0 0).machine = true ∧
     (blockEleme3.thr 0 0).blk.op = 2#2 ∧
     ((regionOf (joinW (blockEleme3.thr 0 0).blk.live.sseg (blockEleme3.thr 0 0).blk.live.src)).isData = true ∧ blockEleme3.asleep (joinW (blockEleme3.thr 0 0).blk.live.sseg (blockEleme3.thr 0 0).blk.live.src) = false ∧ (blockEleme3.eng 0).storesTo (joinW (blockEleme3.thr 0 0).blk.live.sseg (blockEleme3.thr 0 0).blk.live.src) = false ∧ blockEleme3.cutOff (Master.engine 0 0 true) (joinW (blockEleme3.thr 0 0).blk.live.sseg (blockEleme3.thr 0 0).blk.live.src) = false ∧ blockEleme3.refuses (Master.engine 0 0 true) (joinW (blockEleme3.thr 0 0).blk.live.sseg (blockEleme3.thr 0 0).blk.live.src) false = false ∧ blockEleme3.refuses (Master.engine 0 0 true) (joinW (blockEleme3.thr 0 0).blk.live.sseg (blockEleme3.thr 0 0).blk.live.src) true = false ∧ blockEleme3.wordGood (joinW (blockEleme3.thr 0 0).blk.live.sseg (blockEleme3.thr 0 0).blk.live.src) = true) ∧
     ((regionOf (joinW (blockEleme3.thr 0 0).blk.live.dseg (blockEleme3.thr 0 0).blk.live.dst)).isData = true ∧ blockEleme3.asleep (joinW (blockEleme3.thr 0 0).blk.live.dseg (blockEleme3.thr 0 0).blk.live.dst) = false ∧ (blockEleme3.eng 0).storesTo (joinW (blockEleme3.thr 0 0).blk.live.dseg (blockEleme3.thr 0 0).blk.live.dst) = false ∧ blockEleme3.cutOff (Master.engine 0 0 true) (joinW (blockEleme3.thr 0 0).blk.live.dseg (blockEleme3.thr 0 0).blk.live.dst) = false ∧ blockEleme3.refuses (Master.engine 0 0 true) (joinW (blockEleme3.thr 0 0).blk.live.dseg (blockEleme3.thr 0 0).blk.live.dst) false = false ∧ blockEleme3.refuses (Master.engine 0 0 true) (joinW (blockEleme3.thr 0 0).blk.live.dseg (blockEleme3.thr 0 0).blk.live.dst) true = false ∧ blockEleme3.wordGood (joinW (blockEleme3.thr 0 0).blk.live.dseg (blockEleme3.thr 0 0).blk.live.dst) = true)) ∧
    (blockEleme5.together 0 = true ∧
     blockEleme5.blkMay 0 0 = true ∧
     (blockEleme5.thr 0 0).machine = true ∧
     (blockEleme5.thr 0 0).blk.op = 3#2 ∧
     ((regionOf (joinW (blockEleme5.thr 0 0).blk.live.sseg (blockEleme5.thr 0 0).blk.live.src)).isData = true ∧ blockEleme5.asleep (joinW (blockEleme5.thr 0 0).blk.live.sseg (blockEleme5.thr 0 0).blk.live.src) = false ∧ (blockEleme5.eng 0).storesTo (joinW (blockEleme5.thr 0 0).blk.live.sseg (blockEleme5.thr 0 0).blk.live.src) = false ∧ blockEleme5.cutOff (Master.engine 0 0 true) (joinW (blockEleme5.thr 0 0).blk.live.sseg (blockEleme5.thr 0 0).blk.live.src) = false ∧ blockEleme5.refuses (Master.engine 0 0 true) (joinW (blockEleme5.thr 0 0).blk.live.sseg (blockEleme5.thr 0 0).blk.live.src) false = false ∧ blockEleme5.refuses (Master.engine 0 0 true) (joinW (blockEleme5.thr 0 0).blk.live.sseg (blockEleme5.thr 0 0).blk.live.src) true = false ∧ blockEleme5.wordGood (joinW (blockEleme5.thr 0 0).blk.live.sseg (blockEleme5.thr 0 0).blk.live.src) = true)) := by
  refine ⟨?_, ?_, ?_, ?_⟩ <;> decide +kernel

/-- The hypotheses of BlockCountsAndEnds are met together, clause by clause. -/
theorem witness_BlockCountsAndEnds :
    (blockCount1.together 0 = true ∧
     blockCount1.still 0 = false ∧
     (blockCount1.thr 0 0).blk.active = true ∧
     (blockCount1.thr 0 0).blk.ended = true) := by
  decide +kernel

/-- The hypotheses of JumpsSetThePc are met together, clause by clause. -/
theorem witness_JumpsSetThePc :
    (jumpsSet1.accepts 0 0 86 68#12 = true ∧
     ¬BitVec.setWidth 5 (jumpsSet1.thr 0 0).thi ++ 68#12 = jumpsSet1.gate 0) ∧
    (jumpsSet1.accepts 0 0 87 68#12 = true ∧
     ¬BitVec.setWidth 5 (jumpsSet1.thr 0 0).thi ++ 68#12 = jumpsSet1.gate 0) ∧
    (jumpsSet1.accepts 0 0 88 68#12 = true ∧
     ¬(jumpsSet1.thr 0 0).lk = jumpsSet1.gate 0) ∧
    (jumpsSet1.accepts 0 0 89 68#12 = true ∧
     ¬(jumpsSet1.thr 0 0).cnd = 0#12 ∧
     ¬BitVec.setWidth 5 (jumpsSet1.thr 0 0).thi ++ 68#12 = jumpsSet1.gate 0) ∧
    (jumpsSet2.accepts 0 0 89 68#12 = true ∧
     (jumpsSet2.thr 0 0).cnd = 0#12) := by
  refine ⟨?_, ?_, ?_, ?_, ?_⟩ <;> decide +kernel

/-- The hypotheses of TheReturnGateIsGuarded are met together, clause by clause. -/
theorem witness_TheReturnGateIsGuarded :
    (returnGate1.accepts 0 0 86 gateV = true ∧
     BitVec.setWidth 5 (returnGate1.thr 0 0).thi ++ gateV = returnGate1.gate 0 ∧
     (returnGate1.thr 0 0).machine = true ∧
     returnGate1.currentFrame 0 0 = none) ∧
    (returnGate1.accepts 0 0 88 gateV = true ∧
     (returnGate1.thr 0 0).lk = returnGate1.gate 0 ∧
     (returnGate1.thr 0 0).machine = true ∧
     returnGate1.currentFrame 0 0 = none) ∧
    (returnGate1.accepts 0 0 89 gateV = true ∧
     ¬(returnGate1.thr 0 0).cnd = 0#12 ∧
     BitVec.setWidth 5 (returnGate1.thr 0 0).thi ++ gateV = returnGate1.gate 0 ∧
     (returnGate1.thr 0 0).machine = true ∧
     returnGate1.currentFrame 0 0 = none) ∧
    (returnGate1.accepts 0 0 87 gateV = true ∧
     BitVec.setWidth 5 (returnGate1.thr 0 0).thi ++ gateV = returnGate1.gate 0) ∧
    (returnGate2.accepts 0 0 86 gateV = true ∧
     BitVec.setWidth 5 (returnGate2.thr 0 0).thi ++ gateV = returnGate2.gate 0 ∧
     (returnGate2.thr 0 0).machine = false) ∧
    (returnGate2.accepts 0 0 88 gateV = true ∧
     (returnGate2.thr 0 0).lk = returnGate2.gate 0 ∧
     (returnGate2.thr 0 0).machine = false) ∧
    (returnGate2.accepts 0 0 89 gateV = true ∧
     ¬(returnGate2.thr 0 0).cnd = 0#12 ∧
     BitVec.setWidth 5 (returnGate2.thr 0 0).thi ++ gateV = returnGate2.gate 0 ∧
     (returnGate2.thr 0 0).machine = false) ∧
    (returnGate3.accepts 0 0 86 192#12 = true ∧
     BitVec.setWidth 5 (returnGate3.thr 0 0).thi ++ 192#12 = returnGate3.gate 0 ∧
     (returnGate3.thr 0 0).machine = true ∧
     ¬returnGate3.currentFrame 0 0 = none) ∧
    (returnGate3.accepts 0 0 88 192#12 = true ∧
     (returnGate3.thr 0 0).lk = returnGate3.gate 0 ∧
     (returnGate3.thr 0 0).machine = true ∧
     ¬returnGate3.currentFrame 0 0 = none) ∧
    (returnGate3.accepts 0 0 89 192#12 = true ∧
     ¬(returnGate3.thr 0 0).cnd = 0#12 ∧
     BitVec.setWidth 5 (returnGate3.thr 0 0).thi ++ 192#12 = returnGate3.gate 0 ∧
     (returnGate3.thr 0 0).machine = true ∧
     ¬returnGate3.currentFrame 0 0 = none) := by
  refine ⟨?_, ?_, ?_, ?_, ?_, ?_, ?_, ?_, ?_, ?_⟩ <;> decide +kernel

/-- The hypotheses of ThreadModeAndKeyRightsAreWritten are met together, clause by clause. -/
theorem witness_ThreadModeAndKeyRightsAreWritten :
    (threadMode1.accepts 0 0 90 4095#12 = true) ∧
    (threadMode1.accepts 0 0 91 4095#12 = true ∧
     (threadMode1.thr 0 0).machine = true ∧
     (threadMode1.thr 0 0).thi.toNat % 4 < 3) ∧
    (threadMode2.accepts 0 0 91 4095#12 = true ∧
     (threadMode2.thr 0 0).machine = false) ∧
    (threadMode5.accepts 0 0 91 4095#12 = true ∧
     (threadMode5.thr 0 0).machine = true ∧
     (threadMode5.thr 0 0).thi.toNat % 4 = 3) := by
  refine ⟨?_, ?_, ?_, ?_⟩ <;> decide +kernel

/-- The hypotheses of InstructionCacheCommands are met together, clause by clause. -/
theorem witness_InstructionCacheCommands :
    (run.accepts 0 0 93 40#12 = true) ∧
    (run.accepts 0 0 94 40#12 = true ∧
     decide (3 ≤ ((run.eng 0).set (BitVec.setWidth 14 ((BitVec.setWidth 5 (run.thr 0 0).icuAh ++ 40#12) >>> 3))).pins) = false ∧
     ((run.eng 0).cached (BitVec.setWidth 14 ((BitVec.setWidth 5 (run.thr 0 0).icuAh ++ 40#12) >>> 3))).isSome = false) ∧
    (run.accepts 0 0 95 40#12 = true) ∧
    (instructionCache1.accepts 0 0 94 40#12 = true ∧
     decide (3 ≤ ((instructionCache1.eng 0).set (BitVec.setWidth 14 ((BitVec.setWidth 5 (instructionCache1.thr 0 0).icuAh ++ 40#12) >>> 3))).pins) = false ∧
     ((instructionCache1.eng 0).cached (BitVec.setWidth 14 ((BitVec.setWidth 5 (instructionCache1.thr 0 0).icuAh ++ 40#12) >>> 3))).isSome = true) ∧
    (instructionCache3.accepts 0 0 94 40#12 = true ∧
     decide (3 ≤ ((instructionCache3.eng 0).set (BitVec.setWidth 14 ((BitVec.setWidth 5 (instructionCache3.thr 0 0).icuAh ++ 40#12) >>> 3))).pins) = true) := by
  refine ⟨?_, ?_, ?_, ?_, ?_⟩ <;> decide +kernel

/-- The hypotheses of FillsTakeProgramMemory are met together, clause by clause. -/
theorem witness_FillsTakeProgramMemory :
    (fillsTake1.together 0 = true ∧
     fillsTake1.still 0 = false ∧
     ((fillsTake1.eng 0).nextFill).isSome = true ∧
     fillsTake1.asleep (lineAddr (Eng.cluster 0) ((((fillsTake1.eng 0).nextFill).get (by decide +kernel))).num) = false ∧
     fillsTake1.cutOff (Master.engine 0 ((((fillsTake1.eng 0).nextFill).get (by decide +kernel))).t true) (lineAddr (Eng.cluster 0) ((((fillsTake1.eng 0).nextFill).get (by decide +kernel))).num) = false ∧
     (List.map (fun k => lineAddr (Eng.cluster 0) ((((fillsTake1.eng 0).nextFill).get (by decide +kernel))).num + BitVec.ofNat 24 (2 * k)) (List.range 8)).all (fun a => fillsTake1.wordGood a) = true ∧
     ¬((((fillsTake1.eng 0).nextFill).get (by decide +kernel))).kind = FillKind.pin) ∧
    (fillsTake1.together 0 = true ∧
     fillsTake1.still 0 = false ∧
     ((fillsTake1.eng 0).nextFill).isSome = true ∧
     fillsTake1.asleep (lineAddr (Eng.cluster 0) ((((fillsTake1.eng 0).nextFill).get (by decide +kernel))).num) = false ∧
     fillsTake1.cutOff (Master.engine 0 ((((fillsTake1.eng 0).nextFill).get (by decide +kernel))).t true) (lineAddr (Eng.cluster 0) ((((fillsTake1.eng 0).nextFill).get (by decide +kernel))).num) = false ∧
     (List.map (fun k => lineAddr (Eng.cluster 0) ((((fillsTake1.eng 0).nextFill).get (by decide +kernel))).num + BitVec.ofNat 24 (2 * k)) (List.range 8)).all (fun a => fillsTake1.wordGood a) = true ∧
     ((((fillsTake1.eng 0).nextFill).get (by decide +kernel))).kind = FillKind.fetch ∧
     (((fillsTake1.countRead (Master.engine 0 ((((fillsTake1.eng 0).nextFill).get (by decide +kernel))).t true) (List.map (fun k => lineAddr (Eng.cluster 0) ((((fillsTake1.eng 0).nextFill).get (by decide +kernel))).num + BitVec.ofNat 24 (2 * k)) (List.range 8)) ReadOutcome.persistent false).updEng 0 fun y => { y with fills := y.fills.erase ((((fillsTake1.eng 0).nextFill).get (by decide +kernel))) }).thr 0 ((((fillsTake1.eng 0).nextFill).get (by decide +kernel))).t).run = RunState.running ∧
     (((fillsTake1.countRead (Master.engine 0 ((((fillsTake1.eng 0).nextFill).get (by decide +kernel))).t true) (List.map (fun k => lineAddr (Eng.cluster 0) ((((fillsTake1.eng 0).nextFill).get (by decide +kernel))).num + BitVec.ofNat 24 (2 * k)) (List.range 8)) ReadOutcome.persistent false).updEng 0 fun y => { y with fills := y.fills.erase ((((fillsTake1.eng 0).nextFill).get (by decide +kernel))) }).thr 0 ((((fillsTake1.eng 0).nextFill).get (by decide +kernel))).t).pfault = none ∧
     ((fillsTake1.countRead (Master.engine 0 ((((fillsTake1.eng 0).nextFill).get (by decide +kernel))).t true) (List.map (fun k => lineAddr (Eng.cluster 0) ((((fillsTake1.eng 0).nextFill).get (by decide +kernel))).num + BitVec.ofNat 24 (2 * k)) (List.range 8)) ReadOutcome.persistent false).updEng 0 fun y => { y with fills := y.fills.erase ((((fillsTake1.eng 0).nextFill).get (by decide +kernel))) }).missingLine 0 ((((fillsTake1.eng 0).nextFill).get (by decide +kernel))).t = some ((((fillsTake1.eng 0).nextFill).get (by decide +kernel))).num) ∧
    (fillsTake3.together 0 = true ∧
     fillsTake3.still 0 = false ∧
     ((fillsTake3.eng 0).nextFill).isSome = true ∧
     fillsTake3.asleep (lineAddr (Eng.cluster 0) ((((fillsTake3.eng 0).nextFill).get (by decide +kernel))).num) = false ∧
     fillsTake3.cutOff (Master.engine 0 ((((fillsTake3.eng 0).nextFill).get (by decide +kernel))).t true) (lineAddr (Eng.cluster 0) ((((fillsTake3.eng 0).nextFill).get (by decide +kernel))).num) = false ∧
     (List.map (fun k => lineAddr (Eng.cluster 0) ((((fillsTake3.eng 0).nextFill).get (by decide +kernel))).num + BitVec.ofNat 24 (2 * k)) (List.range 8)).all (fun a => fillsTake3.wordGood a) = true ∧
     ((((fillsTake3.eng 0).nextFill).get (by decide +kernel))).kind = FillKind.pin ∧
     ((fillsTake3.eng 0).set ((((fillsTake3.eng 0).nextFill).get (by decide +kernel))).num).pins < 3) ∧
    (fillsTake4.together 0 = true ∧
     fillsTake4.still 0 = false ∧
     ((fillsTake4.eng 0).nextFill).isSome = true ∧
     fillsTake4.asleep (lineAddr (Eng.cluster 0) ((((fillsTake4.eng 0).nextFill).get (by decide +kernel))).num) = false ∧
     fillsTake4.cutOff (Master.engine 0 ((((fillsTake4.eng 0).nextFill).get (by decide +kernel))).t true) (lineAddr (Eng.cluster 0) ((((fillsTake4.eng 0).nextFill).get (by decide +kernel))).num) = false ∧
     (List.map (fun k => lineAddr (Eng.cluster 0) ((((fillsTake4.eng 0).nextFill).get (by decide +kernel))).num + BitVec.ofNat 24 (2 * k)) (List.range 8)).all (fun a => fillsTake4.wordGood a) = true ∧
     ((((fillsTake4.eng 0).nextFill).get (by decide +kernel))).kind = FillKind.vector) ∧
    (fillsTake7.together 0 = true ∧
     fillsTake7.still 0 = false ∧
     ((fillsTake7.eng 0).nextFill).isSome = true ∧
     fillsTake7.asleep (lineAddr (Eng.cluster 0) ((((fillsTake7.eng 0).nextFill).get (by decide +kernel))).num) = false ∧
     fillsTake7.cutOff (Master.engine 0 ((((fillsTake7.eng 0).nextFill).get (by decide +kernel))).t true) (lineAddr (Eng.cluster 0) ((((fillsTake7.eng 0).nextFill).get (by decide +kernel))).num) = false ∧
     (List.map (fun k => lineAddr (Eng.cluster 0) ((((fillsTake7.eng 0).nextFill).get (by decide +kernel))).num + BitVec.ofNat 24 (2 * k)) (List.range 8)).all (fun a => fillsTake7.wordGood a) = true ∧
     ((((fillsTake7.eng 0).nextFill).get (by decide +kernel))).kind = FillKind.pin ∧
     3 ≤ ((fillsTake7.eng 0).set ((((fillsTake7.eng 0).nextFill).get (by decide +kernel))).num).pins) := by
  refine ⟨?_, ?_, ?_, ?_, ?_⟩ <;> decide +kernel

/-- The hypotheses of SampleCursorsFollowTheBobbin are met together, clause by clause. -/
theorem witness_SampleCursorsFollowTheBobbin :
    (sampleCurso1.accepts 0 0 97 0#12 = true ∧
     48 ≤ (sampleCurso1.thr 0 0).smp.sel.toNat % 64) ∧
    (sampleCurso1.accepts 0 0 98 0#12 = true ∧
     (sampleCurso1.thr 0 0).smp.chan = none) ∧
    (sampleCurso2.accepts 0 0 97 0#12 = true ∧
     (sampleCurso2.thr 0 0).smp.sel.toNat % 64 = 0 ∧
     sampleCurso2.bobFeeds 0 (Eng.cluster 0) = true) ∧
    (sampleCurso3.accepts 0 0 98 0#12 = true ∧
     (sampleCurso3.thr 0 0).smp.chan = some 0) ∧
    (sampleCurso3.together 0 = true ∧
     sampleCurso3.mayMove 0 0 = true ∧
     sampleCurso3.srcReady 0 0 96 = true ∧
     (sampleCurso3.thr 0 0).smp.chan = some 0 ∧
     (sampleCurso3.thr 0 0).smp.pos < sampleCurso3.bobAvail 0 (Eng.cluster 0) ∧
     sampleCurso3.popBad 0 (Eng.cluster 0) (sampleCurso3.thr 0 0).smp.pos = none ∧
     (sampleCurso3.popPlace 0 0).all (fun a => sampleCurso3.wordGood a) = true) ∧
    (sampleCurso5.accepts 0 0 97 0#12 = true ∧
     (sampleCurso5.thr 0 0).smp.sel.toNat % 64 = 0 ∧
     sampleCurso5.bobFeeds 0 (Eng.cluster 0) = false) := by
  refine ⟨?_, ?_, ?_, ?_, ?_, ?_⟩ <;> decide +kernel

/-- The hypotheses of MailboxesAreQueues are met together, clause by clause. -/
theorem witness_MailboxesAreQueues :
    (mailboxesQueue1.flights = [{ src := 1, t := 2, dst := 0, box := 3, v := 1110#12 : Flight }] ∧
     mailboxesQueue1.inRun = true ∧
     mailboxesQueue1.engEn 0 = true ∧
     (mailboxesQueue1.eng 0).locked = false ∧
     mailboxesQueue1.together 0 = true ∧
     mailboxesQueue1.still 0 = false ∧
     (mailboxesQueue1.eng 0).held = [] ∧
     (Eng.cluster 1 = Eng.cluster 0 ∨ (mailboxesQueue1.clu (Eng.cluster 0)).iso = false) ∧
     (mailboxesQueue1.eng 0).mbox[↑3].length < 16) ∧
    (mailboxesQueue3.flights = [{ src := 1, t := 2, dst := 0, box := 3, v := 1110#12 : Flight }] ∧
     mailboxesQueue3.inRun = true ∧
     mailboxesQueue3.engEn 0 = true ∧
     (mailboxesQueue3.eng 0).locked = false ∧
     mailboxesQueue3.together 0 = true ∧
     mailboxesQueue3.still 0 = false ∧
     (mailboxesQueue3.eng 0).held = [] ∧
     (Eng.cluster 1 = Eng.cluster 0 ∨ (mailboxesQueue3.clu (Eng.cluster 0)).iso = false) ∧
     16 ≤ (mailboxesQueue3.eng 0).mbox[↑3].length) ∧
    (mailboxesQueue4.flights = [{ src := 1, t := 2, dst := 0, box := 3, v := 1110#12 : Flight }] ∧
     (mailboxesQueue4.inRun = false ∨ mailboxesQueue4.engEn 0 = false ∨ (mailboxesQueue4.eng 0).locked = true ∨ ¬Eng.cluster 1 = Eng.cluster 0 ∧ (mailboxesQueue4.clu (Eng.cluster 0)).iso = true)) ∧
    (bitsAt (run.thr 0 0).msg.sel 0 2 = 0 ∧
     run.accepts 0 0 103 0#12 = true) ∧
    (bitsAt (mailboxesQueue5.thr 0 0).msg.sel 0 2 = 0 ∧
     mailboxesQueue5.together 0 = true ∧
     mailboxesQueue5.mayMove 0 0 = true ∧
     (mailboxesQueue5.eng 0).mbox[0] ≠ []) := by
  refine ⟨?_, ?_, ?_, ?_, ?_⟩ <;> decide +kernel

/-- The hypotheses of MessagesReportTheirOutcome are met together, clause by clause. -/
theorem witness_MessagesReportTheirOutcome :
    (messagesRepor1.accepts 0 0 101 7#12 = true) ∧
    (messagesRepor2.flights = [{ src := 1, t := 2, dst := 0, box := 3, v := 1110#12, done := some SendEnd.delivered : Flight }] ∧
     messagesRepor2.together 1 = true ∧
     messagesRepor2.still 1 = false) := by
  refine ⟨?_, ?_⟩ <;> decide +kernel

/-- The hypotheses of InputsAreAgreed are met together, clause by clause. -/
theorem witness_InputsAreAgreed :
    (run.accepts 0 0 119 0#12 = true) ∧
    (run.together 0 = true ∧
     run.still 0 = false ∧
     (run.inputsOk = true ∨ ↑3 = 41)) ∧
    (run.together 0 = true ∧
     run.still 0 = false ∧
     run.inputsOk = true ∧
     (run.heddle 0).commits? Lane.a = true ∧
     (laneList.any fun k => decide ¬k = Lane.a && (run.heddle 0).commits? k) = true ∧
     ¬(run.eng 0).inputs.getLsbD ↑3 = true) ∧
    ((run.heddle 0).votes Lane.a = true ∧
     (run.clu (Eng.cluster 0)).gated = false) ∧
    (inputsAgree1.together 0 = true ∧
     inputsAgree1.still 0 = false ∧
     (inputsAgree1.eng 0).lineIn.getLsbD ↑3 = true) := by
  refine ⟨?_, ?_, ?_, ?_, ?_⟩ <;> decide +kernel

/-- The hypotheses of TimersStartStopAndExpire are met together, clause by clause. -/
theorem witness_TimersStartStopAndExpire :
    (timersStart1.accepts 0 0 105 291#12 = true) ∧
    (timersStart1.accepts 0 0 107 291#12 = true) ∧
    (timersStart2.together 0 = true ∧
     timersStart2.paused 0 = false ∧
     (timersStart2.thr 0 0).tmr.run = true ∧
     ¬(timersStart2.thr 0 0).tmr.due = 0) := by
  refine ⟨?_, ?_, ?_⟩ <;> decide +kernel

/-- The hypotheses of MmuInvalidations are met together, clause by clause. -/
theorem witness_MmuInvalidations :
    (run.accepts 0 0 109 0#12 = true) ∧
    (run.accepts 0 0 110 0#12 = true) ∧
    (run.accepts 0 0 111 0#12 = true) ∧
    (run.accepts 0 0 111 1#12 = true) := by
  refine ⟨?_, ?_, ?_, ?_⟩ <;> decide +kernel

/-- The hypotheses of TableWalksFillTheTlb are met together, clause by clause. -/
theorem witness_TableWalksFillTheTlb :
    (tableWalks2.together 0 = true ∧
     tableWalks2.still 0 = false ∧
     (tableWalks2.eng 0).walk = some tableWalks1 ∧
     tableWalks1.discard = false ∧
     (tableWalks2.rootAddr 0 (tableWalks2.rootOf 0 tableWalks1.t)).isSome = true ∧
     ((tableWalks2.eng 0).wcFind (BitVec.ofNat 2 (tableWalks2.rootOf 0 tableWalks1.t)) (BitVec.ofNat 6 (bitsAt tableWalks1.va 18 6))).isSome = true ∧
     (regionOf (BitVec.ofNat 24 (BitVec.toNat (((((tableWalks2.eng 0).wcFind (BitVec.ofNat 2 (tableWalks2.rootOf 0 tableWalks1.t)) (BitVec.ofNat 6 (bitsAt tableWalks1.va 18 6)))).get (by decide +kernel))) + 2 * bitsAt tableWalks1.va 10 8))).isData = true ∧
     tableWalks2.refuses (Master.engine 0 tableWalks1.t true) (BitVec.ofNat 24 (BitVec.toNat (((((tableWalks2.eng 0).wcFind (BitVec.ofNat 2 (tableWalks2.rootOf 0 tableWalks1.t)) (BitVec.ofNat 6 (bitsAt tableWalks1.va 18 6)))).get (by decide +kernel))) + 2 * bitsAt tableWalks1.va 10 8)) false = false ∧
     tableWalks2.cutOff (Master.engine 0 tableWalks1.t true) (BitVec.ofNat 24 (BitVec.toNat (((((tableWalks2.eng 0).wcFind (BitVec.ofNat 2 (tableWalks2.rootOf 0 tableWalks1.t)) (BitVec.ofNat 6 (bitsAt tableWalks1.va 18 6)))).get (by decide +kernel))) + 2 * bitsAt tableWalks1.va 10 8)) = false ∧
     tableWalks2.wordGood (BitVec.ofNat 24 (BitVec.toNat (((((tableWalks2.eng 0).wcFind (BitVec.ofNat 2 (tableWalks2.rootOf 0 tableWalks1.t)) (BitVec.ofNat 6 (bitsAt tableWalks1.va 18 6)))).get (by decide +kernel))) + 2 * bitsAt tableWalks1.va 10 8)) = true ∧
     tableWalks2.wordGood (BitVec.ofNat 24 (BitVec.toNat (((((tableWalks2.eng 0).wcFind (BitVec.ofNat 2 (tableWalks2.rootOf 0 tableWalks1.t)) (BitVec.ofNat 6 (bitsAt tableWalks1.va 18 6)))).get (by decide +kernel))) + 2 * bitsAt tableWalks1.va 10 8) + 1#24) = true ∧
     (tableWalks2.eng 0).storesTo (BitVec.ofNat 24 (BitVec.toNat (((((tableWalks2.eng 0).wcFind (BitVec.ofNat 2 (tableWalks2.rootOf 0 tableWalks1.t)) (BitVec.ofNat 6 (bitsAt tableWalks1.va 18 6)))).get (by decide +kernel))) + 2 * bitsAt tableWalks1.va 10 8)) = false ∧
     (tableWalks2.eng 0).storesTo (BitVec.ofNat 24 (BitVec.toNat (((((tableWalks2.eng 0).wcFind (BitVec.ofNat 2 (tableWalks2.rootOf 0 tableWalks1.t)) (BitVec.ofNat 6 (bitsAt tableWalks1.va 18 6)))).get (by decide +kernel))) + 2 * bitsAt tableWalks1.va 10 8) + 1#24) = false ∧
     tableWalks2.asleep (BitVec.ofNat 24 (BitVec.toNat (((((tableWalks2.eng 0).wcFind (BitVec.ofNat 2 (tableWalks2.rootOf 0 tableWalks1.t)) (BitVec.ofNat 6 (bitsAt tableWalks1.va 18 6)))).get (by decide +kernel))) + 2 * bitsAt tableWalks1.va 10 8)) = false ∧
     2 ≤ entType (tableWalks2.memWord (((BitVec.ofNat 24 (BitVec.toNat (((((tableWalks2.eng 0).wcFind (BitVec.ofNat 2 (tableWalks2.rootOf 0 tableWalks1.t)) (BitVec.ofNat 6 (bitsAt tableWalks1.va 18 6)))).get (by decide +kernel))) + 2 * bitsAt tableWalks1.va 10 8)).toNat + 1) % 16777216) ++ tableWalks2.memWord (BitVec.ofNat 24 (BitVec.toNat (((((tableWalks2.eng 0).wcFind (BitVec.ofNat 2 (tableWalks2.rootOf 0 tableWalks1.t)) (BitVec.ofNat 6 (bitsAt tableWalks1.va 18 6)))).get (by decide +kernel))) + 2 * bitsAt tableWalks1.va 10 8)).toNat) ∧
     targetOk (tableWalks2.memWord (((BitVec.ofNat 24 (BitVec.toNat (((((tableWalks2.eng 0).wcFind (BitVec.ofNat 2 (tableWalks2.rootOf 0 tableWalks1.t)) (BitVec.ofNat 6 (bitsAt tableWalks1.va 18 6)))).get (by decide +kernel))) + 2 * bitsAt tableWalks1.va 10 8)).toNat + 1) % 16777216) ++ tableWalks2.memWord (BitVec.ofNat 24 (BitVec.toNat (((((tableWalks2.eng 0).wcFind (BitVec.ofNat 2 (tableWalks2.rootOf 0 tableWalks1.t)) (BitVec.ofNat 6 (bitsAt tableWalks1.va 18 6)))).get (by decide +kernel))) + 2 * bitsAt tableWalks1.va 10 8)).toNat) = true) ∧
    (tableWalks3.together 0 = true ∧
     tableWalks3.still 0 = false ∧
     (tableWalks3.eng 0).walk = some tableWalks1 ∧
     tableWalks1.discard = false ∧
     (tableWalks3.rootAddr 0 (tableWalks3.rootOf 0 tableWalks1.t)).isSome = true ∧
     ((tableWalks3.eng 0).wcFind (BitVec.ofNat 2 (tableWalks3.rootOf 0 tableWalks1.t)) (BitVec.ofNat 6 (bitsAt tableWalks1.va 18 6))).isSome = true ∧
     (regionOf (BitVec.ofNat 24 (BitVec.toNat (((((tableWalks3.eng 0).wcFind (BitVec.ofNat 2 (tableWalks3.rootOf 0 tableWalks1.t)) (BitVec.ofNat 6 (bitsAt tableWalks1.va 18 6)))).get (by decide +kernel))) + 2 * bitsAt tableWalks1.va 10 8))).isData = true ∧
     tableWalks3.refuses (Master.engine 0 tableWalks1.t true) (BitVec.ofNat 24 (BitVec.toNat (((((tableWalks3.eng 0).wcFind (BitVec.ofNat 2 (tableWalks3.rootOf 0 tableWalks1.t)) (BitVec.ofNat 6 (bitsAt tableWalks1.va 18 6)))).get (by decide +kernel))) + 2 * bitsAt tableWalks1.va 10 8)) false = false ∧
     tableWalks3.cutOff (Master.engine 0 tableWalks1.t true) (BitVec.ofNat 24 (BitVec.toNat (((((tableWalks3.eng 0).wcFind (BitVec.ofNat 2 (tableWalks3.rootOf 0 tableWalks1.t)) (BitVec.ofNat 6 (bitsAt tableWalks1.va 18 6)))).get (by decide +kernel))) + 2 * bitsAt tableWalks1.va 10 8)) = false ∧
     tableWalks3.wordGood (BitVec.ofNat 24 (BitVec.toNat (((((tableWalks3.eng 0).wcFind (BitVec.ofNat 2 (tableWalks3.rootOf 0 tableWalks1.t)) (BitVec.ofNat 6 (bitsAt tableWalks1.va 18 6)))).get (by decide +kernel))) + 2 * bitsAt tableWalks1.va 10 8)) = true ∧
     tableWalks3.wordGood (BitVec.ofNat 24 (BitVec.toNat (((((tableWalks3.eng 0).wcFind (BitVec.ofNat 2 (tableWalks3.rootOf 0 tableWalks1.t)) (BitVec.ofNat 6 (bitsAt tableWalks1.va 18 6)))).get (by decide +kernel))) + 2 * bitsAt tableWalks1.va 10 8) + 1#24) = true ∧
     (tableWalks3.eng 0).storesTo (BitVec.ofNat 24 (BitVec.toNat (((((tableWalks3.eng 0).wcFind (BitVec.ofNat 2 (tableWalks3.rootOf 0 tableWalks1.t)) (BitVec.ofNat 6 (bitsAt tableWalks1.va 18 6)))).get (by decide +kernel))) + 2 * bitsAt tableWalks1.va 10 8)) = false ∧
     (tableWalks3.eng 0).storesTo (BitVec.ofNat 24 (BitVec.toNat (((((tableWalks3.eng 0).wcFind (BitVec.ofNat 2 (tableWalks3.rootOf 0 tableWalks1.t)) (BitVec.ofNat 6 (bitsAt tableWalks1.va 18 6)))).get (by decide +kernel))) + 2 * bitsAt tableWalks1.va 10 8) + 1#24) = false ∧
     tableWalks3.asleep (BitVec.ofNat 24 (BitVec.toNat (((((tableWalks3.eng 0).wcFind (BitVec.ofNat 2 (tableWalks3.rootOf 0 tableWalks1.t)) (BitVec.ofNat 6 (bitsAt tableWalks1.va 18 6)))).get (by decide +kernel))) + 2 * bitsAt tableWalks1.va 10 8)) = false ∧
     (entType (tableWalks3.memWord (((BitVec.ofNat 24 (BitVec.toNat (((((tableWalks3.eng 0).wcFind (BitVec.ofNat 2 (tableWalks3.rootOf 0 tableWalks1.t)) (BitVec.ofNat 6 (bitsAt tableWalks1.va 18 6)))).get (by decide +kernel))) + 2 * bitsAt tableWalks1.va 10 8)).toNat + 1) % 16777216) ++ tableWalks3.memWord (BitVec.ofNat 24 (BitVec.toNat (((((tableWalks3.eng 0).wcFind (BitVec.ofNat 2 (tableWalks3.rootOf 0 tableWalks1.t)) (BitVec.ofNat 6 (bitsAt tableWalks1.va 18 6)))).get (by decide +kernel))) + 2 * bitsAt tableWalks1.va 10 8)).toNat) < 2 ∨ targetOk (tableWalks3.memWord (((BitVec.ofNat 24 (BitVec.toNat (((((tableWalks3.eng 0).wcFind (BitVec.ofNat 2 (tableWalks3.rootOf 0 tableWalks1.t)) (BitVec.ofNat 6 (bitsAt tableWalks1.va 18 6)))).get (by decide +kernel))) + 2 * bitsAt tableWalks1.va 10 8)).toNat + 1) % 16777216) ++ tableWalks3.memWord (BitVec.ofNat 24 (BitVec.toNat (((((tableWalks3.eng 0).wcFind (BitVec.ofNat 2 (tableWalks3.rootOf 0 tableWalks1.t)) (BitVec.ofNat 6 (bitsAt tableWalks1.va 18 6)))).get (by decide +kernel))) + 2 * bitsAt tableWalks1.va 10 8)).toNat) = false)) ∧
    (tableWalks5.together 0 = true ∧
     tableWalks5.still 0 = false ∧
     (tableWalks5.eng 0).walk = some tableWalks1 ∧
     tableWalks1.discard = false ∧
     tableWalks5.rootAddr 0 (tableWalks5.rootOf 0 tableWalks1.t) = none) ∧
    (tableWalks7.together 0 = true ∧
     tableWalks7.still 0 = false ∧
     (tableWalks7.eng 0).walk = some tableWalks6 ∧
     tableWalks6.discard = true) := by
  refine ⟨?_, ?_, ?_, ?_⟩ <;> decide +kernel

/-- The hypotheses of TranslationChecksInOrder are met together, clause by clause. -/
theorem witness_TranslationChecksInOrder :
    ((fo 0#12).machine = false ∧
     ¬translationCheck1.rootAddr 0 (translationCheck1.rootOf 0 0) = none ∧
     (translationCheck1.eng 0).tlbFind (BitVec.ofNat 2 (translationCheck1.rootOf 0 0)) 64#14 = some 8650753#24 ∧
     (decide ¬1 = 0 && (decide (krCode (fo 0#12).kr 1 = 3) || decide (krCode (fo 0#12).kr 1 = 1) && !true)) = false) ∧
    ((fo 12#12).machine = false ∧
     ¬translationCheck1.rootAddr 0 (translationCheck1.rootOf 0 0) = none ∧
     (translationCheck1.eng 0).tlbFind (BitVec.ofNat 2 (translationCheck1.rootOf 0 0)) 64#14 = some 8650753#24 ∧
     (decide ¬1 = 0 && (decide (krCode (fo 12#12).kr 1 = 3) || decide (krCode (fo 12#12).kr 1 = 1) && !true)) = true) ∧
    ((fo 12#12).machine = false ∧
     ¬translationCheck1.rootAddr 0 (translationCheck1.rootOf 0 0) = none ∧
     (translationCheck1.eng 0).tlbFind (BitVec.ofNat 2 (translationCheck1.rootOf 0 0)) 64#14 = some 8650753#24 ∧
     (decide ¬1 = 0 && (decide (krCode (fo 12#12).kr 1 = 3) || decide (krCode (fo 12#12).kr 1 = 1) && !false)) = true ∧
     (false = true → false = true) ∧
     (false = true → translationCheck1.asleep 1025#24 = false)) ∧
    ((fo 12#12).machine = false ∧
     ¬translationCheck3.rootAddr 0 (translationCheck3.rootOf 0 0) = none ∧
     (translationCheck3.eng 0).tlbFind (BitVec.ofNat 2 (translationCheck3.rootOf 0 0)) 64#14 = some 8847361#24 ∧
     (decide ¬1 = 0 && (decide (krCode (fo 12#12).kr 1 = 3) || decide (krCode (fo 12#12).kr 1 = 1) && !true)) = true ∧
     (true = true → true = true) ∧
     translationCheck3.asleep 1025#24 = true) := by
  refine ⟨?_, ?_, ?_, ?_⟩ <;> decide +kernel

/-- The hypotheses of TripRequestBits are met together, clause by clause. -/
theorem witness_TripRequestBits :
    (run.accepts 0 0 112 0#12 = true) ∧
    (run.accepts 0 0 113 0#12 = true) ∧
    (run.accepts 0 0 114 0#12 = true) ∧
    (run.accepts 0 0 115 0#12 = true) := by
  refine ⟨?_, ?_, ?_, ?_⟩ <;> decide +kernel

/-- The hypotheses of WatchdogAndSelvedgePortsIssue are met together, clause by clause. -/
theorem witness_WatchdogAndSelvedgePortsIssue :
    (run.accepts 0 0 116 0#12 = true) ∧
    (run.accepts 0 0 117 0#12 = true) ∧
    (run.accepts 0 0 122 0#12 = true) ∧
    (run.accepts 0 0 123 0#12 = true) ∧
    (run.accepts 0 0 124 0#12 = true) ∧
    (run.accepts 0 0 125 0#12 = true) ∧
    (run.accepts 0 0 126 0#12 = true) := by
  refine ⟨?_, ?_, ?_, ?_, ?_, ?_, ?_⟩ <;> decide +kernel

/-- The hypotheses of SelvedgePortTakesEffect are met together, clause by clause. -/
theorem witness_SelvedgePortTakesEffect :
    (selvedgePort1.together 0 = true ∧
     selvedgePort1.still 0 = false ∧
     (selvedgePort1.eng 0).svpq = q1 :: (selvedgePort1.eng 0).svpq.tail ∧
     q1.sent = true) ∧
    (selvedgePort2.together 0 = true ∧
     selvedgePort2.still 0 = false ∧
     (selvedgePort2.eng 0).svpq = q2 :: (selvedgePort2.eng 0).svpq.tail ∧
     q2.sent = true ∧
     q2.fence = false ∧
     q2.write = none ∧
     (regInfo ((if q2.b.getLsbD 4 = true then 8437760 + q2.b.toNat % 2 * 4096 else 8650752 + q2.b.toNat % 16 * 4096) + q2.a.toNat)).isSome = true) ∧
    (selvedgePort3.together 0 = true ∧
     selvedgePort3.still 0 = false ∧
     (selvedgePort3.eng 0).svpq = q3 :: (selvedgePort3.eng 0).svpq.tail ∧
     q3.sent = true ∧
     q3.fence = false ∧
     q3.write = none ∧
     (regInfo ((if q3.b.getLsbD 4 = true then 8437760 + q3.b.toNat % 2 * 4096 else 8650752 + q3.b.toNat % 16 * 4096) + q3.a.toNat)).isSome = false) ∧
    (selvedgePort4.together 0 = true ∧
     selvedgePort4.still 0 = false ∧
     (selvedgePort4.eng 0).svpq = q4 :: (selvedgePort4.eng 0).svpq.tail ∧
     q4.sent = true ∧
     q4.fence = true) := by
  refine ⟨?_, ?_, ?_, ?_⟩ <;> decide +kernel

/-- The hypotheses of RegisterMovesComplete are met together, clause by clause. -/
theorem witness_RegisterMovesComplete :
    (registerMoves1.together 0 = true ∧
     (registerMoves1.eng 0).cur = some 0 ∧
     registerMoves1.canMove 0 0 = true ∧
     registerMoves1.eventNow 0 0 = none ∧
     (registerMoves1.thr 0 0).tmNow.getLsbD 10 = false ∧
     (∀ (b : Eng × PAddr), b ∈ registerMoves1.boot.breakpoints → ¬b = (0, (registerMoves1.thr 0 0).pc)) ∧
     (∃ l, (registerMoves1.eng 0).line 0 (registerMoves1.thr 0 0).pc = some l ∧ l.good (registerMoves1.thr 0 0).pc = true ∧ l.word (registerMoves1.thr 0 0).pc = BitVec.ofNat 14 (640 + ↑7)) ∧
     ¬↑7 = 0) ∧
    (registerMoves2.together 0 = true ∧
     (registerMoves2.eng 0).cur = some 0 ∧
     registerMoves2.canMove 0 0 = true ∧
     registerMoves2.eventNow 0 0 = none ∧
     (registerMoves2.thr 0 0).tmNow.getLsbD 10 = false ∧
     (∀ (b : Eng × PAddr), b ∈ registerMoves2.boot.breakpoints → ¬b = (0, (registerMoves2.thr 0 0).pc)) ∧
     (∃ l, (registerMoves2.eng 0).line 0 (registerMoves2.thr 0 0).pc = some l ∧ l.good (registerMoves2.thr 0 0).pc = true ∧ l.word (registerMoves2.thr 0 0).pc = BitVec.ofNat 14 (4480 + ↑7)) ∧
     ¬↑7 = 0 ∧
     ¬↑3 = 0 ∧
     35 = 32 + ↑3) := by
  refine ⟨?_, ?_⟩ <;> refine ⟨?_, ?_, ?_, ?_, ?_, noneOf ?_, ?_⟩ <;> decide +kernel

/-- The hypotheses of NopAndIdleSelection are met together, clause by clause. -/
theorem witness_NopAndIdleSelection :
    (nopIdle1.together 0 = true ∧
     nopIdle1.mayMove 0 0 = true ∧
     (¬∃ b, b ∈ nopIdle1.boot.breakpoints ∧ b = (0, (nopIdle1.thr 0 0).pc))) ∧
    (run.together 0 = true ∧
     run.engRuns 0 = true ∧
     (∀ (q : Thr), (run.eng 0).cur = some q → run.ready 0 q = false)) ∧
    (nopIdle2.together 0 = true ∧
     nopIdle2.mayMove 0 0 = true ∧
     (∃ b, b ∈ nopIdle2.boot.breakpoints ∧ b = (0, (nopIdle2.thr 0 0).pc))) := by
  refine ⟨?_, ?_, ?_⟩ <;> decide +kernel

/-- The hypotheses of SelectionTakesTheNextReadyThread are met together, clause by clause. -/
theorem witness_SelectionTakesTheNextReadyThread :
    (run.rsv 0 = none ∧
     (run.choose 0).fst = none ∧
     0 < run.nThreads 0) ∧
    (selectionTakes3.rsv 0 = some 0 ∧
     selectionTakes3.ready 0 0 = true ∧
     (selectionTakes3.eng 0).last = some 0 ∧
     0 < selectionTakes3.nThreads 0 ∧
     ¬(⟨(↑(selectionTakes3.eng (0 : Eng)).rr + 1) % selectionTakes3.nThreads (0 : Eng) % 8, by decide +kernel⟩ : Fin 8) = (0 : Thr) ∧
     selectionTakes3.ready (0 : Eng) (⟨(↑(selectionTakes3.eng (0 : Eng)).rr + 1) % selectionTakes3.nThreads (0 : Eng) % 8, by decide +kernel⟩ : Fin 8) = true) ∧
    (selectionTakes4.rsv 0 = some 0 ∧
     selectionTakes4.ready 0 0 = true ∧
     ¬(selectionTakes4.eng 0).last = some 0) ∧
    (selectionTakes5.rsv 0 = some 0 ∧
     selectionTakes5.ready 0 0 = true ∧
     (selectionTakes5.eng 0).last = some 0 ∧
     (∀ (k : Nat), k < selectionTakes5.nThreads (0 : Eng) → ¬(⟨(↑(selectionTakes5.eng (0 : Eng)).rr + 1 + k) % selectionTakes5.nThreads (0 : Eng) % 8, Nat.mod_lt _ (by decide)⟩ : Fin 8) = (0 : Thr) → selectionTakes5.ready (0 : Eng) (⟨(↑(selectionTakes5.eng (0 : Eng)).rr + 1 + k) % selectionTakes5.nThreads (0 : Eng) % 8, Nat.mod_lt _ (by decide)⟩ : Fin 8) = false)) := by
  refine ⟨?_, ?_, ?_, ?_⟩ <;> decide +kernel

/-- The hypotheses of EntrySlotsTakeTheEvent are met together, clause by clause. -/
theorem witness_EntrySlotsTakeTheEvent :
    (entrySlots1.together 0 = true ∧
     (entrySlots1.eng 0).cur = some 0 ∧
     entrySlots1.eventNow 0 0 = some Event.nmi ∧
     entrySlots1.engRuns 0 = true ∧
     ((entrySlots1.eng 0).cached (entrySlots1.vectorLine 0 0 Event.nmi)).isSome = true ∧
     (entrySlots1.thr 0 0).tail = none ∧
     entrySlots1.allocFrame 0 0 = some fs0 ∧
     (regionOf (BitVec.ofNat 24 fs0.addr)).isData = true ∧
     entrySlots1.asleep (BitVec.ofNat 24 fs0.addr) = false) ∧
    (entrySlots2.together 0 = true ∧
     (entrySlots2.eng 0).cur = some 0 ∧
     entrySlots2.eventNow 0 0 = some Event.nmi ∧
     entrySlots2.engRuns 0 = true ∧
     ((entrySlots2.eng 0).cached (entrySlots2.vectorLine 0 0 Event.nmi)).isSome = true ∧
     (entrySlots2.thr 0 0).tail = some entrySlots3 ∧
     entrySlots2.currentFrame 0 0 = some fs0 ∧
     entrySlots2.asleep (BitVec.ofNat 24 fs0.addr) = false) := by
  refine ⟨?_, ?_⟩ <;> decide +kernel

/-- The hypotheses of TakingAnExceptionSavesTheThread are met together, clause by clause. -/
theorem witness_TakingAnExceptionSavesTheThread :
    (ent.memCanonical = true ∧
     ent.allocFrame 0 0 = some fs0 ∧
     fs0.ovr = false ∧
     (32511 < fs0.addr ∨ fs0.addr + 26 ≤ 32511)) ∧
    (ent.memCanonical = true ∧
     ent.allocFrame 0 0 = some fs0 ∧
     fs0.ovr = false ∧
     3 ≤ ↑3) := by
  refine ⟨?_, ?_⟩ <;> decide +kernel

/-- The hypotheses of ReturnRestoresWhatTheEntrySaved are met together, clause by clause. -/
theorem witness_ReturnRestoresWhatTheEntrySaved :
    (ent.memCanonical = true ∧
     ent.allocFrame 0 0 = some fs0 ∧
     fs0.ovr = false ∧
     (ent.thr 0 0).blk.active = false ∧
     (ent.thr 0 0).lsu.delay = false ∧
     (ent.thr 0 0).lsu.newQ = none) := by
  decide +kernel

/-- The hypotheses of ReturnsReadTheirFrame are met together, clause by clause. -/
theorem witness_ReturnsReadTheirFrame :
    (returnsRead1.together 0 = true ∧
     (returnsRead1.thr 0 0).ret = true ∧
     (returnsRead1.eng 0).posted 0 = 0 ∧
     returnsRead1.engRuns 0 = true ∧
     returnsRead1.currentFrame 0 0 = some fs0 ∧
     returnsRead1.asleep (BitVec.ofNat 24 fs0.addr) = false ∧
     (returnsRead1.frameReads fs0.addr).all (fun a => returnsRead1.wordGood a) = true ∧
     (BitVec.getLsbD (returnsRead1.memWord (fs0.addr + 1)) 11 = true ∨ returnsRead1.pickEvent 0 0 (BitVec.getLsbD (returnsRead1.memWord (fs0.addr + 2)) 9) (BitVec.ofNat 4 (bitsAt (returnsRead1.memWord (fs0.addr + 1)) 5 4)) true = none) ∧
     (regionOf (BitVec.ofNat 24 fs0.addr)).isData = true) ∧
    (returnsRead2.together 0 = true ∧
     (returnsRead2.thr 0 0).ret = true ∧
     (returnsRead2.eng 0).posted 0 = 0 ∧
     returnsRead2.engRuns 0 = true ∧
     returnsRead2.currentFrame 0 0 = some fs0 ∧
     returnsRead2.asleep (BitVec.ofNat 24 fs0.addr) = false ∧
     (returnsRead2.frameReads fs0.addr).all (fun a => returnsRead2.wordGood a) = true ∧
     BitVec.getLsbD (returnsRead2.memWord (fs0.addr + 1)) 11 = false ∧
     returnsRead2.pickEvent 0 0 (BitVec.getLsbD (returnsRead2.memWord (fs0.addr + 2)) 9) (BitVec.ofNat 4 (bitsAt (returnsRead2.memWord (fs0.addr + 1)) 5 4)) true = some Event.nmi) := by
  refine ⟨?_, ?_⟩ <;> decide +kernel

/-- The hypotheses of LockupStopsTheEngine are met together, clause by clause. -/
theorem witness_LockupStopsTheEngine :
    ((run.eng 0).locked = false ∧
     run.up = true ∧
     (run.src (engSrc 0)).waiting.length < 5) ∧
    ((lockupStops1.eng 0).locked = true) := by
  refine ⟨?_, ?_⟩ <;> decide +kernel

/-- The hypotheses of EngineConfigurationAndLines are met together, clause by clause. -/
theorem witness_EngineConfigurationAndLines :
    (setup.canWrite (eStore 0 0) (engBase 0) = true ∧
     (decide ¬0 = 3 && (!false || decide (0 < 8))) = true) ∧
    (setup.canWrite (eStore 0 0) (engBase 0 + 26) = true ∧
     (setup.inRun = false ∨ ownStore 0 (eStore 0 0) = true ∨ isMonitor (eStore 0 0) = true) ∧
     (setup.wakeFor (engBase 0 + 26)).together 0 = true) ∧
    (setup.canWrite (eStore 0 0) (engBase 0 + 29) = true ∧
     (isMonitor (eStore 0 0) = true ∨ ∃ a t l, eStore 0 0 = Master.engine a t l) ∧
     (setup.wakeFor (engBase 0 + 29)).together 0 = true) ∧
    (setup.canWrite (eStore 0 0) (engBase 0) = true ∧
     (decide ¬3 = 3 && (!false || decide (0 < 1))) = false) := by
  refine ⟨?_, ?_, ?_, ?_⟩ <;> decide +kernel

/-- The hypotheses of InjectionArmsOneLane are met together, clause by clause. -/
theorem witness_InjectionArmsOneLane :
    (run.canWrite (eStore 0 0) (engBase 0 + 75) = true ∧
     1 = laneCode Lane.a ∧
     ((run.wakeFor (engBase 0 + 75)).selStore (eStore 0 0) = true ∨ isMonitor (eStore 0 0) = true) ∧
     ((run.wakeFor (engBase 0 + 75)).heddle 0).state = 0) := by
  decide +kernel

/-- The hypotheses of ThreadsStartAndHalt are met together, clause by clause. -/
theorem witness_ThreadsStartAndHalt :
    (run.canWrite (eStore 0 0) (engBase 0 + 4) = true ∧
     (run.wakeFor (engBase 0 + 4)).inRun = true ∧
     (run.wakeFor (engBase 0 + 4)).engEn 0 = true ∧
     ((run.wakeFor (engBase 0 + 4)).eng 0).locked = false ∧
     0 < (run.wakeFor (engBase 0 + 4)).nThreads 0 ∧
     (run.wakeFor (engBase 0 + 4)).together 0 = true ∧
     (ownStore 0 (eStore 0 0) = true ∨ (run.wakeFor (engBase 0 + 4)).selStore (eStore 0 0) = true ∨ isMonitor (eStore 0 0) = true) ∧
     ((run.wakeFor (engBase 0 + 4)).thr 0 0).run = RunState.running) ∧
    (run.canWrite (eStore 0 0) (engBase 0 + 4) = true ∧
     (run.wakeFor (engBase 0 + 4)).inRun = true ∧
     (run.wakeFor (engBase 0 + 4)).engEn 0 = true ∧
     ((run.wakeFor (engBase 0 + 4)).eng 0).locked = false ∧
     2 < (run.wakeFor (engBase 0 + 4)).nThreads 0 ∧
     (run.wakeFor (engBase 0 + 4)).together 0 = true ∧
     (ownStore 0 (eStore 0 0) = true ∨ (run.wakeFor (engBase 0 + 4)).selStore (eStore 0 0) = true ∨ isMonitor (eStore 0 0) = true) ∧
     ((run.wakeFor (engBase 0 + 4)).thr 0 2).run = RunState.halted) := by
  refine ⟨?_, ?_⟩ <;> decide +kernel

/-- The hypotheses of OutputVotingOutvotesOneLane are met together, clause by clause. -/
theorem witness_OutputVotingOutvotesOneLane :
    (outputVotin1.engRuns 0 = true ∧
     (outputVotin1.heddle 0).good = [Lane.a, Lane.b, Lane.c] ∧
     outputVotin1.together 0 = true ∧
     (outputVotin1.eng 0).out = (((outputVotin1.eng 0).out).head (by decide +kernel)) :: (outputVotin1.eng 0).out.tail ∧
     (outputVotin1.eng 0).batch ((((outputVotin1.eng 0).out).head (by decide +kernel))).slot none = #v[voteRequest ((outputVotin1.eng 0).batch ((((outputVotin1.eng 0).out).head (by decide +kernel))).slot none)[0] ((outputVotin1.eng 0).batch ((((outputVotin1.eng 0).out).head (by decide +kernel))).slot none)[0] ((outputVotin1.eng 0).batch ((((outputVotin1.eng 0).out).head (by decide +kernel))).slot none)[0], voteRequest ((outputVotin1.eng 0).batch ((((outputVotin1.eng 0).out).head (by decide +kernel))).slot none)[1] ((outputVotin1.eng 0).batch ((((outputVotin1.eng 0).out).head (by decide +kernel))).slot none)[1] ((outputVotin1.eng 0).batch ((((outputVotin1.eng 0).out).head (by decide +kernel))).slot none)[1]]) ∧
    (outputVotin1.engRuns 0 = true ∧
     (outputVotin1.heddle 0).good = [Lane.a, Lane.b, Lane.c] ∧
     outputVotin1.together 0 = true ∧
     (outputVotin1.eng 0).out = (((outputVotin1.eng 0).out).head (by decide +kernel)) :: (outputVotin1.eng 0).out.tail ∧
     ((((outputVotin1.eng 0).out).head (by decide +kernel))).reqs = [rq 1#24 2#4, rq 2#24 2#4]) ∧
    (outputVotin1.engRuns 0 = true ∧
     (outputVotin1.heddle 0).good = [Lane.a, Lane.b, Lane.c] ∧
     outputVotin1.together 0 = true ∧
     (outputVotin1.eng 0).out = (((outputVotin1.eng 0).out).head (by decide +kernel)) :: (outputVotin1.eng 0).out.tail ∧
     (outputVotin1.eng 0).batch ((((outputVotin1.eng 0).out).head (by decide +kernel))).slot none = #v[voteRequest ((outputVotin1.eng 0).batch ((((outputVotin1.eng 0).out).head (by decide +kernel))).slot none)[0] ((outputVotin1.eng 0).batch ((((outputVotin1.eng 0).out).head (by decide +kernel))).slot none)[0] ((outputVotin1.eng 0).batch ((((outputVotin1.eng 0).out).head (by decide +kernel))).slot vg)[0], voteRequest ((outputVotin1.eng 0).batch ((((outputVotin1.eng 0).out).head (by decide +kernel))).slot none)[1] ((outputVotin1.eng 0).batch ((((outputVotin1.eng 0).out).head (by decide +kernel))).slot none)[1] ((outputVotin1.eng 0).batch ((((outputVotin1.eng 0).out).head (by decide +kernel))).slot vg)[1]] ∧
     ¬(outputVotin1.eng 0).batch ((((outputVotin1.eng 0).out).head (by decide +kernel))).slot vg = #v[voteRequest ((outputVotin1.eng 0).batch ((((outputVotin1.eng 0).out).head (by decide +kernel))).slot none)[0] ((outputVotin1.eng 0).batch ((((outputVotin1.eng 0).out).head (by decide +kernel))).slot none)[0] ((outputVotin1.eng 0).batch ((((outputVotin1.eng 0).out).head (by decide +kernel))).slot vg)[0], voteRequest ((outputVotin1.eng 0).batch ((((outputVotin1.eng 0).out).head (by decide +kernel))).slot none)[1] ((outputVotin1.eng 0).batch ((((outputVotin1.eng 0).out).head (by decide +kernel))).slot none)[1] ((outputVotin1.eng 0).batch ((((outputVotin1.eng 0).out).head (by decide +kernel))).slot vg)[1]]) ∧
    (outputVotin1.engRuns 0 = true ∧
     (outputVotin1.heddle 0).good = [Lane.a, Lane.b, Lane.c] ∧
     outputVotin1.together 0 = true ∧
     (outputVotin1.eng 0).out = (((outputVotin1.eng 0).out).head (by decide +kernel)) :: (outputVotin1.eng 0).out.tail ∧
     (outputVotin1.eng 0).batch ((((outputVotin1.eng 0).out).head (by decide +kernel))).slot none = #v[voteRequest ((outputVotin1.eng 0).batch ((((outputVotin1.eng 0).out).head (by decide +kernel))).slot none)[0] ((outputVotin1.eng 0).batch ((((outputVotin1.eng 0).out).head (by decide +kernel))).slot vf)[0] ((outputVotin1.eng 0).batch ((((outputVotin1.eng 0).out).head (by decide +kernel))).slot none)[0], voteRequest ((outputVotin1.eng 0).batch ((((outputVotin1.eng 0).out).head (by decide +kernel))).slot none)[1] ((outputVotin1.eng 0).batch ((((outputVotin1.eng 0).out).head (by decide +kernel))).slot vf)[1] ((outputVotin1.eng 0).batch ((((outputVotin1.eng 0).out).head (by decide +kernel))).slot none)[1]] ∧
     ¬(outputVotin1.eng 0).batch ((((outputVotin1.eng 0).out).head (by decide +kernel))).slot vf = #v[voteRequest ((outputVotin1.eng 0).batch ((((outputVotin1.eng 0).out).head (by decide +kernel))).slot none)[0] ((outputVotin1.eng 0).batch ((((outputVotin1.eng 0).out).head (by decide +kernel))).slot vf)[0] ((outputVotin1.eng 0).batch ((((outputVotin1.eng 0).out).head (by decide +kernel))).slot none)[0], voteRequest ((outputVotin1.eng 0).batch ((((outputVotin1.eng 0).out).head (by decide +kernel))).slot none)[1] ((outputVotin1.eng 0).batch ((((outputVotin1.eng 0).out).head (by decide +kernel))).slot vf)[1] ((outputVotin1.eng 0).batch ((((outputVotin1.eng 0).out).head (by decide +kernel))).slot none)[1]]) ∧
    (outputVotin1.engRuns 0 = true ∧
     (outputVotin1.heddle 0).good = [Lane.a, Lane.b, Lane.c] ∧
     outputVotin1.together 0 = true ∧
     (outputVotin1.eng 0).out = (((outputVotin1.eng 0).out).head (by decide +kernel)) :: (outputVotin1.eng 0).out.tail ∧
     (¬(outputVotin1.eng 0).batch ((((outputVotin1.eng 0).out).head (by decide +kernel))).slot none = #v[voteRequest ((outputVotin1.eng 0).batch ((((outputVotin1.eng 0).out).head (by decide +kernel))).slot none)[0] ((outputVotin1.eng 0).batch ((((outputVotin1.eng 0).out).head (by decide +kernel))).slot vf)[0] ((outputVotin1.eng 0).batch ((((outputVotin1.eng 0).out).head (by decide +kernel))).slot vg)[0], voteRequest ((outputVotin1.eng 0).batch ((((outputVotin1.eng 0).out).head (by decide +kernel))).slot none)[1] ((outputVotin1.eng 0).batch ((((outputVotin1.eng 0).out).head (by decide +kernel))).slot vf)[1] ((outputVotin1.eng 0).batch ((((outputVotin1.eng 0).out).head (by decide +kernel))).slot vg)[1]] ∧ ¬(outputVotin1.eng 0).batch ((((outputVotin1.eng 0).out).head (by decide +kernel))).slot vf = #v[voteRequest ((outputVotin1.eng 0).batch ((((outputVotin1.eng 0).out).head (by decide +kernel))).slot none)[0] ((outputVotin1.eng 0).batch ((((outputVotin1.eng 0).out).head (by decide +kernel))).slot vf)[0] ((outputVotin1.eng 0).batch ((((outputVotin1.eng 0).out).head (by decide +kernel))).slot vg)[0], voteRequest ((outputVotin1.eng 0).batch ((((outputVotin1.eng 0).out).head (by decide +kernel))).slot none)[1] ((outputVotin1.eng 0).batch ((((outputVotin1.eng 0).out).head (by decide +kernel))).slot vf)[1] ((outputVotin1.eng 0).batch ((((outputVotin1.eng 0).out).head (by decide +kernel))).slot vg)[1]] ∨ ¬(outputVotin1.eng 0).batch ((((outputVotin1.eng 0).out).head (by decide +kernel))).slot none = #v[voteRequest ((outputVotin1.eng 0).batch ((((outputVotin1.eng 0).out).head (by decide +kernel))).slot none)[0] ((outputVotin1.eng 0).batch ((((outputVotin1.eng 0).out).head (by decide +kernel))).slot vf)[0] ((outputVotin1.eng 0).batch ((((outputVotin1.eng 0).out).head (by decide +kernel))).slot vg)[0], voteRequest ((outputVotin1.eng 0).batch ((((outputVotin1.eng 0).out).head (by decide +kernel))).slot none)[1] ((outputVotin1.eng 0).batch ((((outputVotin1.eng 0).out).head (by decide +kernel))).slot vf)[1] ((outputVotin1.eng 0).batch ((((outputVotin1.eng 0).out).head (by decide +kernel))).slot vg)[1]] ∧ ¬(outputVotin1.eng 0).batch ((((outputVotin1.eng 0).out).head (by decide +kernel))).slot vg = #v[voteRequest ((outputVotin1.eng 0).batch ((((outputVotin1.eng 0).out).head (by decide +kernel))).slot none)[0] ((outputVotin1.eng 0).batch ((((outputVotin1.eng 0).out).head (by decide +kernel))).slot vf)[0] ((outputVotin1.eng 0).batch ((((outputVotin1.eng 0).out).head (by decide +kernel))).slot vg)[0], voteRequest ((outputVotin1.eng 0).batch ((((outputVotin1.eng 0).out).head (by decide +kernel))).slot none)[1] ((outputVotin1.eng 0).batch ((((outputVotin1.eng 0).out).head (by decide +kernel))).slot vf)[1] ((outputVotin1.eng 0).batch ((((outputVotin1.eng 0).out).head (by decide +kernel))).slot vg)[1]] ∨ ¬(outputVotin1.eng 0).batch ((((outputVotin1.eng 0).out).head (by decide +kernel))).slot vf = #v[voteRequest ((outputVotin1.eng 0).batch ((((outputVotin1.eng 0).out).head (by decide +kernel))).slot none)[0] ((outputVotin1.eng 0).batch ((((outputVotin1.eng 0).out).head (by decide +kernel))).slot vf)[0] ((outputVotin1.eng 0).batch ((((outputVotin1.eng 0).out).head (by decide +kernel))).slot vg)[0], voteRequest ((outputVotin1.eng 0).batch ((((outputVotin1.eng 0).out).head (by decide +kernel))).slot none)[1] ((outputVotin1.eng 0).batch ((((outputVotin1.eng 0).out).head (by decide +kernel))).slot vf)[1] ((outputVotin1.eng 0).batch ((((outputVotin1.eng 0).out).head (by decide +kernel))).slot vg)[1]] ∧ ¬(outputVotin1.eng 0).batch ((((outputVotin1.eng 0).out).head (by decide +kernel))).slot vg = #v[voteRequest ((outputVotin1.eng 0).batch ((((outputVotin1.eng 0).out).head (by decide +kernel))).slot none)[0] ((outputVotin1.eng 0).batch ((((outputVotin1.eng 0).out).head (by decide +kernel))).slot vf)[0] ((outputVotin1.eng 0).batch ((((outputVotin1.eng 0).out).head (by decide +kernel))).slot vg)[0], voteRequest ((outputVotin1.eng 0).batch ((((outputVotin1.eng 0).out).head (by decide +kernel))).slot none)[1] ((outputVotin1.eng 0).batch ((((outputVotin1.eng 0).out).head (by decide +kernel))).slot vf)[1] ((outputVotin1.eng 0).batch ((((outputVotin1.eng 0).out).head (by decide +kernel))).slot vg)[1]])) ∧
    (outputVotin1.engRuns 0 = true ∧
     (outputVotin1.heddle 0).good = [Lane.a, Lane.b, Lane.c] ∧
     outputVotin1.together 0 = true ∧
     (outputVotin1.eng 0).out = (((outputVotin1.eng 0).out).head (by decide +kernel)) :: (outputVotin1.eng 0).out.tail ∧
     ¬(outputVotin1.eng 0).batch ((((outputVotin1.eng 0).out).head (by decide +kernel))).slot vf = #v[voteRequest ((outputVotin1.eng 0).batch ((((outputVotin1.eng 0).out).head (by decide +kernel))).slot vf)[0] ((outputVotin1.eng 0).batch ((((outputVotin1.eng 0).out).head (by decide +kernel))).slot none)[0] ((outputVotin1.eng 0).batch ((((outputVotin1.eng 0).out).head (by decide +kernel))).slot none)[0], voteRequest ((outputVotin1.eng 0).batch ((((outputVotin1.eng 0).out).head (by decide +kernel))).slot vf)[1] ((outputVotin1.eng 0).batch ((((outputVotin1.eng 0).out).head (by decide +kernel))).slot none)[1] ((outputVotin1.eng 0).batch ((((outputVotin1.eng 0).out).head (by decide +kernel))).slot none)[1]] ∧
     (outputVotin1.eng 0).batch ((((outputVotin1.eng 0).out).head (by decide +kernel))).slot none = #v[voteRequest ((outputVotin1.eng 0).batch ((((outputVotin1.eng 0).out).head (by decide +kernel))).slot vf)[0] ((outputVotin1.eng 0).batch ((((outputVotin1.eng 0).out).head (by decide +kernel))).slot none)[0] ((outputVotin1.eng 0).batch ((((outputVotin1.eng 0).out).head (by decide +kernel))).slot none)[0], voteRequest ((outputVotin1.eng 0).batch ((((outputVotin1.eng 0).out).head (by decide +kernel))).slot vf)[1] ((outputVotin1.eng 0).batch ((((outputVotin1.eng 0).out).head (by decide +kernel))).slot none)[1] ((outputVotin1.eng 0).batch ((((outputVotin1.eng 0).out).head (by decide +kernel))).slot none)[1]]) := by
  refine ⟨?_, ?_, ?_, ?_, ?_, ?_⟩ <;> decide +kernel

/-- The hypotheses of VotedRequestsTakeEffect are met together, clause by clause. -/
theorem witness_VotedRequestsTakeEffect :
    (votedReque1.together 0 = true ∧
     (rq 7#24 1#4).kind = 1#4) ∧
    (votedReque1.together 0 = true ∧
     (rq 7#24 2#4).kind = 2#4 ∧
     (votedReque1.eng 0).sbuf = [{ t := 1, pa := 1#24, va := 1#24, data := 5#12, data2 := none, half2 := false, machine := true, pc := 0#17, dest := 69#7 : StoreEntry }, votedReque2] ∧
     (∀ (p : StoreEntry), p ∈ [{ t := 1, pa := 1#24, va := 1#24, data := 5#12, data2 := none, half2 := false, machine := true, pc := 0#17, dest := 69#7 : StoreEntry }] → ¬p.t = 0 ∨ p.sent = true) ∧
     votedReque2.t = 0 ∧
     votedReque2.sent = false) ∧
    (votedReque1.together 0 = true ∧
     (rq 15728741#24 3#4).kind = 3#4) ∧
    (votedReque1.together 0 = true ∧
     (rq 15728752#24 4#4).kind = 4#4 ∧
     (rq 15728752#24 4#4).addr = 15728752#24) ∧
    (votedReque1.together 0 = true ∧
     (rq 15728753#24 4#4).kind = 4#4 ∧
     (rq 15728753#24 4#4).addr = 15728753#24) ∧
    (votedReque1.together 0 = true ∧
     (rq 15728754#24 4#4).kind = 4#4 ∧
     (rq 15728754#24 4#4).addr = 15728754#24) ∧
    (votedReque1.together 0 = true ∧
     (rq 15728755#24 4#4).kind = 4#4 ∧
     (rq 15728755#24 4#4).addr = 15728755#24) ∧
    (votedReque1.together 0 = true ∧
     (rq 15728756#24 5#4).kind = 5#4 ∧
     (rq 15728756#24 5#4).addr = 15728756#24) ∧
    (votedReque1.together 0 = true ∧
     (rq 15728757#24 5#4).kind = 5#4 ∧
     (rq 15728757#24 5#4).addr = 15728757#24) ∧
    (votedReque1.together 0 = true ∧
     (rq 15728762#24 6#4).kind = 6#4 ∧
     (votedReque1.eng 0).svpq = (((votedReque1.eng 0).svpq).head (by decide +kernel)) :: (votedReque1.eng 0).svpq.tail ∧
     ((((votedReque1.eng 0).svpq).head (by decide +kernel))).t = 0 ∧
     ((((votedReque1.eng 0).svpq).head (by decide +kernel))).sent = false) ∧
    (votedReque3.together 0 = true ∧
     (rq 15728766#24 7#4).kind = 7#4 ∧
     (rq 15728766#24 7#4).addr = 15728766#24 ∧
     (votedReque3.eng 0).svpq = (((votedReque3.eng 0).svpq).head (by decide +kernel)) :: (votedReque3.eng 0).svpq.tail ∧
     ((((votedReque3.eng 0).svpq).head (by decide +kernel))).t = 0 ∧
     ((((votedReque3.eng 0).svpq).head (by decide +kernel))).sent = false ∧
     ((((votedReque3.eng 0).svpq).head (by decide +kernel))).fence = true) ∧
    (votedReque3.together 0 = true ∧
     (rq 15728715#24 7#4).kind = 7#4 ∧
     (rq 15728715#24 7#4).addr = 15728715#24) := by
  refine ⟨?_, ?_, ?_, ?_, ?_, ?_, ?_, ?_, ?_, ?_, ?_, ?_⟩ <;> decide +kernel

/-- The hypotheses of TwoLanesMustAgree are met together, clause by clause. -/
theorem witness_TwoLanesMustAgree :
    (twoLanes1.engRuns 0 = true ∧
     (twoLanes1.heddle 0).good = [Lane.b, Lane.c] ∧
     twoLanes1.together 0 = true ∧
     (twoLanes1.eng 0).out = (((twoLanes1.eng 0).out).head (by decide +kernel)) :: (twoLanes1.eng 0).out.tail ∧
     ¬(twoLanes1.eng 0).batch ((((twoLanes1.eng 0).out).head (by decide +kernel))).slot none = (twoLanes1.eng 0).batch ((((twoLanes1.eng 0).out).head (by decide +kernel))).slot vf) ∧
    (twoLanes2.engRuns 0 = true ∧
     (twoLanes2.heddle 0).good = [Lane.b, Lane.c] ∧
     (twoLanes2.heddle 0).closed = (((twoLanes2.heddle 0).closed).head (by decide +kernel)) :: (twoLanes2.heddle 0).closed.tail ∧
     ((((twoLanes2.heddle 0).closed).head (by decide +kernel))).sigs[↑(laneIdx Lane.b)] = ((((twoLanes2.heddle 0).closed).head (by decide +kernel))).sigs[↑(laneIdx Lane.c)] ∧
     ((((twoLanes2.heddle 0).closed).head (by decide +kernel))).rejoin = false) ∧
    (twoLanes3.engRuns 0 = true ∧
     (twoLanes3.heddle 0).good = [Lane.b, Lane.c] ∧
     (twoLanes3.heddle 0).closed = (((twoLanes3.heddle 0).closed).head (by decide +kernel)) :: (twoLanes3.heddle 0).closed.tail ∧
     ¬((((twoLanes3.heddle 0).closed).head (by decide +kernel))).sigs[↑(laneIdx Lane.b)] = ((((twoLanes3.heddle 0).closed).head (by decide +kernel))).sigs[↑(laneIdx Lane.c)]) ∧
    (twoLanes4.engRuns 0 = true ∧
     (twoLanes4.heddle 0).good = [Lane.b, Lane.c] ∧
     (twoLanes4.heddle 0).closed = (((twoLanes4.heddle 0).closed).head (by decide +kernel)) :: (twoLanes4.heddle 0).closed.tail ∧
     ((((twoLanes4.heddle 0).closed).head (by decide +kernel))).sigs[↑(laneIdx Lane.b)] = ((((twoLanes4.heddle 0).closed).head (by decide +kernel))).sigs[↑(laneIdx Lane.c)] ∧
     ((((twoLanes4.heddle 0).closed).head (by decide +kernel))).rejoin = true ∧
     (twoLanes4.heddle 0).odd = some Lane.a ∧
     (twoLanes4.heddle 0).phase = RtPhase.inStep ∧
     ((((twoLanes4.heddle 0).closed).head (by decide +kernel))).sigs[↑(laneIdx Lane.a)] = ((((twoLanes4.heddle 0).closed).head (by decide +kernel))).sigs[↑(laneIdx Lane.b)]) ∧
    (twoLanes5.engRuns 0 = true ∧
     (twoLanes5.heddle 0).good = [Lane.b, Lane.c] ∧
     (twoLanes5.heddle 0).closed = (((twoLanes5.heddle 0).closed).head (by decide +kernel)) :: (twoLanes5.heddle 0).closed.tail ∧
     ((((twoLanes5.heddle 0).closed).head (by decide +kernel))).sigs[↑(laneIdx Lane.b)] = ((((twoLanes5.heddle 0).closed).head (by decide +kernel))).sigs[↑(laneIdx Lane.c)] ∧
     ((((twoLanes5.heddle 0).closed).head (by decide +kernel))).rejoin = true ∧
     (twoLanes5.heddle 0).odd = some Lane.a ∧
     (twoLanes5.heddle 0).phase = RtPhase.inStep ∧
     ¬((((twoLanes5.heddle 0).closed).head (by decide +kernel))).sigs[↑(laneIdx Lane.a)] = ((((twoLanes5.heddle 0).closed).head (by decide +kernel))).sigs[↑(laneIdx Lane.b)]) := by
  refine ⟨?_, ?_, ?_, ?_, ?_⟩ <;> decide +kernel

/-- The hypotheses of PicksCloseAndAreJudged are met together, clause by clause. -/
theorem witness_PicksCloseAndAreJudged :
    (run.engRuns 0 = true ∧
     (true = true ∨ run.pickW 0 ≤ (run.heddle 0).commits)) ∧
    (picksClose2.engRuns 0 = true ∧
     (picksClose2.heddle 0).closed = (((picksClose2.heddle 0).closed).head (by decide +kernel)) :: (picksClose2.heddle 0).closed.tail ∧
     (picksClose2.heddle 0).good = [Lane.a, Lane.b, Lane.c] ∧
     ((((picksClose2.heddle 0).closed).head (by decide +kernel))).sigs[0] = ((((picksClose2.heddle 0).closed).head (by decide +kernel))).sigs[1] ∧
     ((((picksClose2.heddle 0).closed).head (by decide +kernel))).sigs[1] = ((((picksClose2.heddle 0).closed).head (by decide +kernel))).sigs[2]) ∧
    (picksClose3.engRuns 0 = true ∧
     (picksClose3.heddle 0).closed = (((picksClose3.heddle 0).closed).head (by decide +kernel)) :: (picksClose3.heddle 0).closed.tail ∧
     (picksClose3.heddle 0).good = [Lane.a, Lane.b, Lane.c] ∧
     ((((picksClose3.heddle 0).closed).head (by decide +kernel))).sigs[1] = ((((picksClose3.heddle 0).closed).head (by decide +kernel))).sigs[2] ∧
     ¬((((picksClose3.heddle 0).closed).head (by decide +kernel))).sigs[0] = ((((picksClose3.heddle 0).closed).head (by decide +kernel))).sigs[2]) ∧
    (picksClose4.engRuns 0 = true ∧
     (picksClose4.heddle 0).closed = (((picksClose4.heddle 0).closed).head (by decide +kernel)) :: (picksClose4.heddle 0).closed.tail ∧
     (picksClose4.heddle 0).good = [Lane.a, Lane.b, Lane.c] ∧
     ((((picksClose4.heddle 0).closed).head (by decide +kernel))).sigs[0] = ((((picksClose4.heddle 0).closed).head (by decide +kernel))).sigs[2] ∧
     ¬((((picksClose4.heddle 0).closed).head (by decide +kernel))).sigs[1] = ((((picksClose4.heddle 0).closed).head (by decide +kernel))).sigs[2]) ∧
    (picksClose5.engRuns 0 = true ∧
     (picksClose5.heddle 0).closed = (((picksClose5.heddle 0).closed).head (by decide +kernel)) :: (picksClose5.heddle 0).closed.tail ∧
     (picksClose5.heddle 0).good = [Lane.a, Lane.b, Lane.c] ∧
     ((((picksClose5.heddle 0).closed).head (by decide +kernel))).sigs[0] = ((((picksClose5.heddle 0).closed).head (by decide +kernel))).sigs[1] ∧
     ¬((((picksClose5.heddle 0).closed).head (by decide +kernel))).sigs[1] = ((((picksClose5.heddle 0).closed).head (by decide +kernel))).sigs[2]) ∧
    (picksClose6.engRuns 0 = true ∧
     (picksClose6.heddle 0).closed = (((picksClose6.heddle 0).closed).head (by decide +kernel)) :: (picksClose6.heddle 0).closed.tail ∧
     (picksClose6.heddle 0).good = [Lane.a, Lane.b, Lane.c] ∧
     ¬((((picksClose6.heddle 0).closed).head (by decide +kernel))).sigs[0] = ((((picksClose6.heddle 0).closed).head (by decide +kernel))).sigs[1] ∧
     ¬((((picksClose6.heddle 0).closed).head (by decide +kernel))).sigs[1] = ((((picksClose6.heddle 0).closed).head (by decide +kernel))).sigs[2] ∧
     ¬((((picksClose6.heddle 0).closed).head (by decide +kernel))).sigs[0] = ((((picksClose6.heddle 0).closed).head (by decide +kernel))).sigs[2]) := by
  refine ⟨?_, ?_, ?_, ?_, ?_, ?_⟩ <;> decide +kernel

/-- The hypotheses of RethreadingRejoinsOrRetires are met together, clause by clause. -/
theorem witness_RethreadingRejoinsOrRetires :
    ((rethreadingRejoi1.clu (Eng.cluster 0)).gated = false ∧
     (rethreadingRejoi1.heddle 0).phase = RtPhase.bulk ∧
     (rethreadingRejoi1.heddle 0).odd = some Lane.b ∧
     ((rethreadingRejoi1.eng 0).stray[↑(laneIdx Lane.b)]).isSome = true) ∧
    ((rethreadingRejoi1.updHeddle 0 fun h => { h with cnt := upd h.cnt (laneIdx Lane.b) fun c => sat12 (c.toNat + 1), times := upd h.times (laneIdx Lane.b) fun ts => rethreadingRejoi1.fk :: List.take 14 ts }).recentDetections 0 Lane.b < bitsAt (rethreadingRejoi1.reg (engBase 0 + 64)) 8 4) ∧
    ((rethreadingRejoi2.clu (Eng.cluster 0)).gated = false ∧
     (rethreadingRejoi2.heddle 0).phase = RtPhase.copied) ∧
    ((rethreadingRejoi3.clu (Eng.cluster 0)).gated = false ∧
     (rethreadingRejoi3.heddle 0).phase = RtPhase.paused ∧
     (rethreadingRejoi3.heddle 0).odd = some Lane.b ∧
     (rethreadingRejoi3.heddle 0).good = (((rethreadingRejoi3.heddle 0).good).head (by decide +kernel)) :: (rethreadingRejoi3.heddle 0).good.tail ∧
     (rethreadingRejoi3.eng 0).apart ((((rethreadingRejoi3.heddle 0).good).head (by decide +kernel))) = false ∧
     (rethreadingRejoi3.eng 0).held = []) ∧
    ((rethreadingRejoi4.clu (Eng.cluster 0)).gated = false ∧
     (rethreadingRejoi4.heddle 0).phase = RtPhase.paused ∧
     (rethreadingRejoi4.heddle 0).odd = some Lane.b ∧
     (rethreadingRejoi4.heddle 0).good = (((rethreadingRejoi4.heddle 0).good).head (by decide +kernel)) :: (rethreadingRejoi4.heddle 0).good.tail ∧
     (rethreadingRejoi4.eng 0).apart ((((rethreadingRejoi4.heddle 0).good).head (by decide +kernel))) = false ∧
     (rethreadingRejoi4.eng 0).held = [(((rethreadingRejoi4.eng 0).held).head (by decide +kernel))]) ∧
    (bitsAt (rethreadingRejoi5.reg (engBase 0 + 64)) 8 4 ≤ (rethreadingRejoi5.updHeddle 0 fun h => { h with cnt := upd h.cnt (laneIdx Lane.b) fun c => sat12 (c.toNat + 1), times := upd h.times (laneIdx Lane.b) fun ts => rethreadingRejoi5.fk :: List.take 14 ts }).recentDetections 0 Lane.b) := by
  refine ⟨?_, ?_, ?_, ?_, ?_, ?_⟩ <;> decide +kernel

/-- The hypotheses of BanksSleepWakeAndLose are met together, clause by clause. -/
theorem witness_BanksSleepWakeAndLose :
    (banksSleep1.doze = true ∧
     banksSleep1.regB (cluBase 0 + 1) ↑3 = true ∧
     (banksSleep1.clu 0).gated = true ∧
     (banksSleep1.clu 0).banks[↑3] = BankMode.active ∧
     banksSleep1.retainable 0 3 = true) ∧
    ((banksSleep2.clu 0).banks[1] = BankMode.retained ∧
     (regionOf 36865#24).bank = some (0, 1)) ∧
    (¬(banksSleep2.clu 0).banks[1] = BankMode.active ∧
     banksSleep2.up = true ∧
     (banksSleep2.src (dataSrc 0)).waiting.length < 5) ∧
    ((banksSleep3.clu 0).banks[1] = BankMode.waking) := by
  refine ⟨?_, ?_, ?_, ?_⟩ <;> decide +kernel

/-- The hypotheses of FlexBanksAreArranged are met together, clause by clause. -/
theorem witness_FlexBanksAreArranged :
    (setup.canWrite Master.monitor (cluBase 0) = true ∧
     (0 = 0 ∧ 0 ≤ 8 ∧ (0 ≤ 9 ∨ 0 = 15) ∨ 0 = 1 ∧ (¬0 = 0 ∨ 0 = 15) ∧ (0 ≤ 9 ∨ 0 = 15) ∧ (0 ≤ 9 ∨ 0 = 15))) ∧
    (setup.canWrite Master.monitor (cluBase 0) = true ∧
     (¬(1 = 0 ∧ 1 ≤ 8 ∧ (1 ≤ 9 ∨ 1 = 15) ∨ 1 = 1 ∧ (¬1 = 1 ∨ 1 = 15) ∧ (1 ≤ 9 ∨ 1 = 15) ∧ (1 ≤ 9 ∨ 1 = 15)))) := by
  refine ⟨?_, ?_⟩ <;> decide +kernel

/-- The hypotheses of FiltersDeliverEachInterval are met together, clause by clause. -/
theorem witness_FiltersDeliverEachInterval :
    (filtersDeliv1.inRun = true ∧
     filtersDeliv1.pathEn 0 true = true ∧
     filtersDeliv1.regB (groupReg ↑(groupOf 0)) 11 = true ∧
     (filtersDeliv1.groupAt (groupOf 0)).lost = false ∧
     filtersDeliv1.endDue 0 true = true ∧
     (4 = 2 ^ filtersDeliv1.pathK 0 true ∨ (filtersDeliv1.chan 0).fast.part = true ∧ 1 ≤ 4 ∧ 4 ≤ 2 ^ filtersDeliv1.pathK 0 true)) := by
  decide +kernel

/-- The hypotheses of ClockLossAndStuckBitstreams are met together, clause by clause. -/
theorem witness_ClockLossAndStuckBitstreams :
    (gOn.inRun = true ∧
     gOn.regB (groupReg 0) 11 = true ∧
     (gOn.groupAt 0).lost = false) ∧
    (gOn.inRun = true ∧
     gOn.regB (groupReg 0) 11 = true ∧
     (gOn.groupAt (groupOf 0)).lost = false ∧
     (gOn.chan 0).stuck = false) ∧
    (gLost.inRun = true ∧
     (gLost.groupAt 0).lost = true ∧
     gLost.sdcDriven 0 = false) ∧
    (gStk.inRun = true ∧
     (gStk.chan 0).stuck = true) := by
  refine ⟨?_, ?_, ?_, ?_⟩ <;> decide +kernel

/-- The hypotheses of ConversionsAreShownAndChecked are met together, clause by clause. -/
theorem witness_ConversionsAreShownAndChecked :
    (conversionsShown1.regB adcBase 11 = true ∧
     conversionsShown1.adc.isoA = false ∧
     (conversionsShown1.adcSlot false conversionsShown1.adc.slotA).snd.fst = 16 ∧
     (0 < 2032 ∨ 2064 < 0) ∧
     conversionsShown1.up = true ∧
     (conversionsShown1.src 96).waiting.length < 5) ∧
    (adcOn.regB adcBase 11 = true ∧
     adcOn.adc.isoA = false ∧
     (adcOn.adcSlot false adcOn.adc.slotA).snd.fst = 0 ∧
     adcOn.up = true ∧
     (adcOn.src 96).waiting.length < 5) ∧
    (conversionsShown5.regB adcBase 10 = true ∧
     conversionsShown5.adc.isoB = false ∧
     (conversionsShown5.adcSlot true conversionsShown5.adc.slotB).snd.fst = 0 ∧
     ((conversionsShown5.adcSlot true conversionsShown5.adc.slotB).fst = false ∨ ∀ (c : Word), ¬conversionsShown5.adc.pairA = some (conversionsShown5.adc.slotB, c))) ∧
    (conversionsShown5.regB adcBase 10 = true ∧
     conversionsShown5.adc.isoB = false ∧
     (conversionsShown5.adcSlot true conversionsShown5.adc.slotB).snd.fst = 0 ∧
     conversionsShown5.up = true ∧
     (conversionsShown5.src 97).waiting.length < 5) ∧
    (conversionsShown6.regB adcBase 10 = true ∧
     conversionsShown6.adc.isoB = false ∧
     (conversionsShown6.adcSlot true conversionsShown6.adc.slotB).snd.fst = 16 ∧
     (0 < 2032 ∨ 2064 < 0) ∧
     conversionsShown6.up = true ∧
     (conversionsShown6.src 97).waiting.length < 5) ∧
    (conversionsShown7.regB adcBase 10 = true ∧
     conversionsShown7.adc.isoB = false ∧
     (conversionsShown7.adcSlot true conversionsShown7.adc.slotB).snd.fst = 0 ∧
     (conversionsShown7.adcSlot true conversionsShown7.adc.slotB).fst = true ∧
     conversionsShown7.adc.pairA = some (conversionsShown7.adc.slotB, 4#12)) := by
  refine ⟨?_, ?_, ?_, ?_, ?_, ?_⟩ <;> decide +kernel

/-- The hypotheses of BobbinsAdvance are met together, clause by clause. -/
theorem witness_BobbinsAdvance :
    (bobbinsAdvan1.bobCluster 0 false = some 0 ∧
     (bobbinsAdvan1.chan 0).queue0 = [bw] ∧
     bobbinsAdvan1.bobTurn 0 false bw = true ∧
     (bobbinsAdvan1.clu 0).iso = false ∧
     (bobbinsAdvan1.clu 0).gated = false) ∧
    (bobbinsAdvan2.bobCluster 0 false = some 0 ∧
     (bobbinsAdvan2.chan 0).queue0 = [bw] ∧
     bobbinsAdvan2.bobTurn 0 false bw = true ∧
     (bobbinsAdvan2.clu 0).iso = false ∧
     (bobbinsAdvan2.clu 0).gated = true ∧
     Eng.cluster 0 = 0 ∧
     (bobbinsAdvan2.thr 0 0).smp.chan = some 0) ∧
    (bobbinsAdvan3.bobCluster 0 false = some 0 ∧
     (bobbinsAdvan3.chan 0).queue0 = [bw9] ∧
     bobbinsAdvan3.bobTurn 0 false bw9 = true ∧
     (bobbinsAdvan3.clu 0).iso = false ∧
     (bobbinsAdvan3.clu 0).gated = false ∧
     bw9.words[2]? = some (3, 1#12)) := by
  refine ⟨?_, ?_, ?_⟩ <;> decide +kernel

/-- The hypotheses of MetersCountLatchAndClear are met together, clause by clause. -/
theorem witness_MetersCountLatchAndClear :
    (gapS.inRun = true) ∧
    (gapS.canWrite Master.monitor (mtrBase + 13) = true) ∧
    (setup.canWrite Master.monitor (mtrBase + 12) = true ∧
     setup.dev.phase = Phase.setup ∧
     setup.dev.sealed = false) ∧
    (sealed.live Master.monitor = true ∧
     sealed.dev.sealed = true) := by
  refine ⟨?_, ?_, ?_, ?_⟩ <;> decide +kernel

/-- The hypotheses of MeterProductsAccumulateBySign are met together, clause by clause. -/
theorem witness_MeterProductsAccumulateBySign :
    ((0 : Int) ≤ (0 : Int)) ∧
    (-1 < 0) := by
  refine ⟨?_, ?_⟩ <;> decide +kernel

/-- The hypotheses of SnapshotsAreWrittenThenNamed are met together, clause by clause. -/
theorem witness_SnapshotsAreWrittenThenNamed :
    (snapshotsWritt1.inRun = true ∧
     snapshotsWritt1.memCanonical = true) := by
  decide +kernel

/-- The hypotheses of CompanionPortReadsAndWrites are met together, clause by clause. -/
theorem witness_CompanionPortReadsAndWrites :
    (companionPort1.cmpOn = false) ∧
    (companionPort2.cmpOn = true ∧
     companionPort2.memGood 9437189 = true) ∧
    (companionPort3.cmpOn = true ∧
     companionPort3.memGood 9437445 = false) := by
  refine ⟨?_, ?_, ?_⟩ <;> decide +kernel

/-- The hypotheses of BusyReadsArePresentedAgain are met together, clause by clause. -/
theorem witness_BusyReadsArePresentedAgain :
    (busyReads1.together 0 = true ∧
     busyReads1.still 0 = false ∧
     (busyReads1.loadOf 0 0).isSome = true ∧
     ((((busyReads1.loadOf 0 0)).get (by decide +kernel))).second = none ∧
     regionOf ((((busyReads1.loadOf 0 0)).get (by decide +kernel))).pa = Region.companion ∧
     ((((busyReads1.loadOf 0 0)).get (by decide +kernel))).tries = none ∧
     ((((busyReads1.loadOf 0 0)).get (by decide +kernel))).result = none) ∧
    (busyReads2.together 0 = true ∧
     busyReads2.still 0 = false ∧
     (busyReads2.loadOf 0 0).isSome = true ∧
     ((((busyReads2.loadOf 0 0)).get (by decide +kernel))).second = none ∧
     regionOf ((((busyReads2.loadOf 0 0)).get (by decide +kernel))).pa = Region.companion ∧
     (((((busyReads2.loadOf 0 0)).get (by decide +kernel))).tries).isSome = true ∧
     ((((busyReads2.loadOf 0 0)).get (by decide +kernel))).result = some (ReadOutcome.collided, ReadOutcome.ok) ∧
     1 < ((((((busyReads2.loadOf 0 0)).get (by decide +kernel))).tries).get (by decide +kernel))) ∧
    (busyReads3.together 0 = true ∧
     busyReads3.still 0 = false ∧
     (busyReads3.loadOf 0 0).isSome = true ∧
     ((((busyReads3.loadOf 0 0)).get (by decide +kernel))).second = none ∧
     regionOf ((((busyReads3.loadOf 0 0)).get (by decide +kernel))).pa = Region.companion ∧
     (((((busyReads3.loadOf 0 0)).get (by decide +kernel))).tries).isSome = true ∧
     ((((busyReads3.loadOf 0 0)).get (by decide +kernel))).result = some (ReadOutcome.collided, ReadOutcome.ok) ∧
     ((((((busyReads3.loadOf 0 0)).get (by decide +kernel))).tries).get (by decide +kernel)) ≤ 1) ∧
    (busyReads4.together 0 = true ∧
     busyReads4.still 0 = false ∧
     (busyReads4.loadOf 0 0).isSome = true ∧
     ((((busyReads4.loadOf 0 0)).get (by decide +kernel))).second = none ∧
     regionOf ((((busyReads4.loadOf 0 0)).get (by decide +kernel))).pa = Region.companion ∧
     ((((busyReads4.loadOf 0 0)).get (by decide +kernel))).tries = none ∧
     ((((busyReads4.loadOf 0 0)).get (by decide +kernel))).result = some (ReadOutcome.ok, ReadOutcome.ok) ∧
     busyReads4.wordGood ((((busyReads4.loadOf 0 0)).get (by decide +kernel))).pa = true) ∧
    (busyReads5.together 0 = true ∧
     busyReads5.still 0 = false ∧
     (busyReads5.loadOf 0 0).isSome = true ∧
     ((((busyReads5.loadOf 0 0)).get (by decide +kernel))).second = none ∧
     regionOf ((((busyReads5.loadOf 0 0)).get (by decide +kernel))).pa = Region.companion ∧
     ((((busyReads5.loadOf 0 0)).get (by decide +kernel))).tries = none ∧
     ((((busyReads5.loadOf 0 0)).get (by decide +kernel))).result = some (ReadOutcome.collided, ReadOutcome.ok)) := by
  refine ⟨?_, ?_, ?_, ?_, ?_⟩ <;> decide +kernel

/-- The hypotheses of TripLinesAssertLatchAndSetSafe are met together, clause by clause. -/
theorem witness_TripLinesAssertLatchAndSetSafe :
    (run.trip.lockFault = 0#2) ∧
    (State.reset.dev.safe = true) ∧
    ((State.reset.fabricFrom run).dev.safe = true) ∧
    (((badL.fabricFrom run).trip.asserted.getLsbD 0 = true ∧ badL.trip.asserted.getLsbD 0 = false ∧ badL.lineSafe 0 = true)) := by
  refine ⟨?_, ?_, ?_, ?_⟩ <;> decide +kernel

/-- The hypotheses of ComparatorsCountToTheirPersistence are met together, clause by clause. -/
theorem witness_ComparatorsCountToTheirPersistence :
    ((cm false 0).cnt < 1 ∧
     (¬if (cm false 0).act = true then (true = false ∨ (0 : Int) ≤ (8 : Int)) ∧ (true = false ∨ (-8 : Int) ≤ (0 : Int)) else true = true ∧ (10 : Int) < (0 : Int) ∨ true = true ∧ (0 : Int) < (-10 : Int))) ∧
    ((cm false 0).cnt < 1 ∧
     (if (cm false 0).act = true then (true = false ∨ (11 : Int) ≤ (8 : Int)) ∧ (true = false ∨ (-8 : Int) ≤ (11 : Int)) else true = true ∧ (10 : Int) < (11 : Int) ∨ true = true ∧ (11 : Int) < (-10 : Int)) ∧
     (cm false 0).cnt + 1 = 1) ∧
    ((cm false 0).cnt < 3 ∧
     (if (cm false 0).act = true then (true = false ∨ (11 : Int) ≤ (8 : Int)) ∧ (true = false ∨ (-8 : Int) ≤ (11 : Int)) else true = true ∧ (10 : Int) < (11 : Int) ∨ true = true ∧ (11 : Int) < (-10 : Int)) ∧
     (cm false 0).cnt + 1 < 3) ∧
    (1 ≤ comparatorsCount1.tcKind 0 ∧
     comparatorsCount1.tcKind 0 ≤ 5) ∧
    (¬comparatorsCount3.tcKind 0 = 0 ∧
     comparatorsCount3.badCmp 0 = false ∧
     (comparatorsCount3.updTc 0 fun c => c).tcInvalid 0 = false) := by
  refine ⟨?_, ?_, ?_, ?_, ?_⟩ <;> decide +kernel

/-- The hypotheses of FabricInputsArrive are met together, clause by clause. -/
theorem witness_FabricInputsArrive :
    (fabricPin ↑26 = true ∧
     run.inputsOk = true) ∧
    (run.inputsOk = true ∧
     ¬run.trip.pio.getLsbD 5 = true) ∧
    (run.trip.pio.getLsbD 5 = false) ∧
    (noV.inputsOk = false) ∧
    (fabricInput3.inputsOk = true ∧
     ¬fabricInput3.trip.pio.getLsbD 5 = true ∧
     bitsAt (fabricInput3.reg (pioBase + 16)) 0 6 = 5 ∧
     fabricInput3.regB (pioBase + 16) 10 = true) := by
  refine ⟨?_, ?_, ?_, ?_, ?_⟩ <;> decide +kernel

/-- The hypotheses of TripConfigurationWrites are met together, clause by clause. -/
theorem witness_TripConfigurationWrites :
    (setup.canWrite (Master.svp 0 0) trfBase = true ∧
     tcCfgOk 518#12 = true) ∧
    (setup.canWrite (Master.svp 0 0) (trfBase + 1) = true ∧
     ¬6 = 0) ∧
    (setup.canWrite (Master.svp 0 0) (trfBase + (518 + bit1 true)) = true) ∧
    (setup.canWrite (Master.svp 0 0) (trfBase + 1184 + bit1 true) = true) ∧
    (setup.canWrite (Master.svp 0 0) trfBase = true ∧
     tcCfgOk 3584#12 = false) := by
  refine ⟨?_, ?_, ?_, ?_, ?_⟩ <;> decide +kernel

/-- The hypotheses of FabricSelfChecksReport are met together, clause by clause. -/
theorem witness_FabricSelfChecksReport :
    (trfConfigWord 0 = true ∧
     run.up = true ∧
     (run.src 100).waiting.length < 5) ∧
    (trfConfigWord 528 = true ∧
     run.trip.asserted.getLsbD 1 = false) ∧
    (trfConfigWord 1024 = true ∧
     (1024 = 1024 ∨ 1024 = 1025)) ∧
    (trfConfigWord 1088 = true) := by
  refine ⟨?_, ?_, ?_, ?_⟩ <;> decide +kernel

/-- The hypotheses of EstopAndDoorLock are met together, clause by clause. -/
theorem witness_EstopAndDoorLock :
    (run.pressedA = run.pressedB) ∧
    (run.holds60 = true) ∧
    (¬prs.pressedA = prs.pressedB ∧
     prs.up = true ∧
     (prs.src 103).waiting.length < 5) ∧
    (h61.trip.hold = true ∧
     h61.holds60 = false) := by
  refine ⟨?_, ?_, ?_, ?_⟩ <;> decide +kernel

/-- The hypotheses of OutputsToggleInStep are met together, clause by clause. -/
theorem witness_OutputsToggleInStep :
    (run.inRun = true) ∧
    (run.trip.safeRun = false) ∧
    (setup.inRun = false) ∧
    (outputsToggl1.trip.safeRun = true) := by
  refine ⟨?_, ?_, ?_, ?_⟩ <;> decide +kernel

/-- The hypotheses of PilotAndInsulationMonitor are met together, clause by clause. -/
theorem witness_PilotAndInsulationMonitor :
    (run.canWrite (Master.svp 0 0) (pioBase + 6) = true ∧
     run.setupOrRun = true ∧
     (decide ¬0 = 3 && (decide ¬0 = 2 || decide (1 ≤ 0) && decide (0 ≤ 999))) = true) ∧
    (run.canWrite (Master.svp 0 0) (pioBase + bit1 true) = true ∧
     run.setupOrRun = true ∧
     ((List.range 12).any fun i => (0#12).getLsbD i && run.gpioSelected (12 + i)) = false) ∧
    (run.canWrite (Master.svp 0 0) (pioBase + 6) = true ∧
     run.setupOrRun = true ∧
     (decide ¬3 = 3 && (decide ¬3 = 2 || decide (1 ≤ 0) && decide (0 ≤ 999))) = false) ∧
    (run.canWrite (Master.svp 0 0) (pioBase + 7) = true ∧
     run.setupOrRun = true ∧
     run.regB (pioBase + 7) 11 = false) ∧
    (pilotInsul1.canWrite (Master.svp 0 0) (pioBase + 7) = true ∧
     pilotInsul1.setupOrRun = true ∧
     pilotInsul1.regB (pioBase + 7) 11 = true) ∧
    (pilotInsul3.canWrite (Master.svp 0 0) (pioBase + bit1 true) = true ∧
     pilotInsul3.setupOrRun = true ∧
     ((List.range 12).any fun i => (1#12).getLsbD i && pilotInsul3.gpioSelected (12 + i)) = true) := by
  refine ⟨?_, ?_, ?_, ?_, ?_, ?_⟩ <;> decide +kernel

/-- The hypotheses of PinsFollowTheState are met together, clause by clause. -/
theorem witness_PinsFollowTheState :
    (run.vioAOk = true) ∧
    (State.reset.vioAOk = true ∧
     State.reset.dev.safe = true) ∧
    (noV.vioAOk = true ∧
     noV.vcoreOk = false) ∧
    ((OutPin.gd 3).onVioA = true ∧
     noA.vioAOk = false) := by
  refine ⟨?_, ?_, ?_, ?_⟩ <;> decide +kernel

/-- The hypotheses of FaultEventsQueueAtTheirSource are met together, clause by clause. -/
theorem witness_FaultEventsQueueAtTheirSource :
    (↑3 < 136 ∧
     ¬(3 : Fin 160) = (132 : Fin 160) ∧
     ¬(3 : Fin 160) = (133 : Fin 160)) ∧
    (run.up = true ∧
     (run.src 3).waiting.length < 5 ∧
     ¬(4 : Fin 160) = (3 : Fin 160)) ∧
    ((run.up = false ∨ 136 ≤ ↑140)) ∧
    (run.up = true ∧
     ((132 : Fin 160) = (132 : Fin 160) ∨ (132 : Fin 160) = (133 : Fin 160)) ∧
     (run.src 132).waiting.length < 5) ∧
    (faultEvent1.up = true ∧
     5 ≤ (faultEvent1.src 3).waiting.length) ∧
    (faultEvent2.up = false) := by
  refine ⟨?_, ?_, ?_, ?_, ?_, ?_⟩ <;> decide +kernel

/-- The hypotheses of EventsCountToTheirThreshold are met together, clause by clause. -/
theorem witness_EventsCountToTheirThreshold :
    (eventsCount1.cnt.toNat < 3 ∧
     eventsCount1.sev = false ∧
     (true = true ∨ (if eventsCount1.open_ = true ∧ 6 ≤ eventsCount1.tOpen + 300000 then eventsCount1.cnt.toNat + 1 else 1) = 3)) ∧
    (eventsCount1.cnt.toNat < 3 ∧
     eventsCount1.sev = false ∧
     (¬(if eventsCount1.open_ = true ∧ 6 ≤ eventsCount1.tOpen + 300000 then eventsCount1.cnt.toNat + 1 else 1) = 3) ∧
     (¬(eventsCount1.open_ = true ∧ 6 ≤ eventsCount1.tOpen + 300000))) ∧
    (eventsCount2.cnt.toNat < 255 ∧
     eventsCount2.sev = false ∧
     (¬(if eventsCount2.open_ = true ∧ 6 ≤ eventsCount2.tOpen + 300000 then eventsCount2.cnt.toNat + 1 else 1) = 255) ∧
     (eventsCount2.open_ = true ∧ 6 ≤ eventsCount2.tOpen + 300000)) ∧
    (eventsCount3.cnt.toNat < 3 ∧
     eventsCount3.sev = true) := by
  refine ⟨?_, ?_, ?_, ?_⟩ <;> decide +kernel

/-- The hypotheses of ClassificationShowsTheEventAndReacts are met together, clause by clause. -/
theorem witness_ClassificationShowsTheEventAndReacts :
    (classificationShows2.colRuns = true ∧
     (classificationShows2.src 98).waiting = [classificationShows1] ∧
     (classificationShows2.updCol fun k => { k with strays := List.filter (fun p => decide ¬p.fst = 4 * ↑98 + 2 || decide ¬p.snd.copy = 1) k.strays ++ [(4 * ↑98 + 2, { copy := 1, word := 291#12, parity := true : CfgHit })] }).cfgFails (4 * ↑98 + 2) = true ∧
     classificationShows2.col.self = false) ∧
    (classificationShows6.colRuns = true ∧
     (classificationShows6.src 3).waiting = [classificationShows1] ∧
     (if isNotice 3 classificationShows1.cause = true then (classificationShows6.updCol fun k => { k with strays := List.filter (fun p => decide ¬p.fst = 4 * ↑3 + 2 || decide ¬p.snd.copy = 1) k.strays ++ [(4 * ↑3 + 2, { copy := 1, word := 291#12, parity := true : CfgHit })] }).fclSet 3 false % 4 else (classificationShows6.updCol fun k => { k with strays := List.filter (fun p => decide ¬p.fst = 4 * ↑3 + 2 || decide ¬p.snd.copy = 1) k.strays ++ [(4 * ↑3 + 2, { copy := 1, word := 291#12, parity := true : CfgHit })] }).fclSet 3 (!isNotice 3 classificationShows1.cause && (countEvent (classificationShows6.src 3) ((classificationShows6.updCol fun k => { k with strays := List.filter (fun p => decide ¬p.fst = 4 * ↑3 + 2 || decide ¬p.snd.copy = 1) k.strays ++ [(4 * ↑3 + 2, { copy := 1, word := 291#12, parity := true : CfgHit })] }).fclN 3) ((classificationShows6.updCol fun k => { k with strays := List.filter (fun p => decide ¬p.fst = 4 * ↑3 + 2 || decide ¬p.snd.copy = 1) k.strays ++ [(4 * ↑3 + 2, { copy := 1, word := 291#12, parity := true : CfgHit })] }).fclW 3) classificationShows6.fk (alwaysSevere 3 classificationShows1.cause)).snd)).testBit 5 = true) ∧
    (classificationShows6.colRuns = true ∧
     (classificationShows6.src 3).waiting = [classificationShows1] ∧
     (if isNotice 3 classificationShows1.cause = true then (classificationShows6.updCol fun k => { k with strays := List.filter (fun p => decide ¬p.fst = 4 * ↑3 + 2 || decide ¬p.snd.copy = 1) k.strays ++ [(4 * ↑3 + 2, { copy := 1, word := 291#12, parity := true : CfgHit })] }).fclSet 3 false % 4 else (classificationShows6.updCol fun k => { k with strays := List.filter (fun p => decide ¬p.fst = 4 * ↑3 + 2 || decide ¬p.snd.copy = 1) k.strays ++ [(4 * ↑3 + 2, { copy := 1, word := 291#12, parity := true : CfgHit })] }).fclSet 3 (!isNotice 3 classificationShows1.cause && (countEvent (classificationShows6.src 3) ((classificationShows6.updCol fun k => { k with strays := List.filter (fun p => decide ¬p.fst = 4 * ↑3 + 2 || decide ¬p.snd.copy = 1) k.strays ++ [(4 * ↑3 + 2, { copy := 1, word := 291#12, parity := true : CfgHit })] }).fclN 3) ((classificationShows6.updCol fun k => { k with strays := List.filter (fun p => decide ¬p.fst = 4 * ↑3 + 2 || decide ¬p.snd.copy = 1) k.strays ++ [(4 * ↑3 + 2, { copy := 1, word := 291#12, parity := true : CfgHit })] }).fclW 3) classificationShows6.fk (alwaysSevere 3 classificationShows1.cause)).snd)).testBit 6 = true ∧
     classificationShows6.col.resetDue = none) := by
  refine ⟨?_, ?_, ?_⟩ <;> decide +kernel

/-- The hypotheses of CollectorSelfFaults are met together, clause by clause. -/
theorem witness_CollectorSelfFaults :
    (run.col.self = false ∧
     run.colRuns = true ∧
     run.cfgFails 5 = false) ∧
    (run.col.self = false ∧
     run.colRuns = true ∧
     (∀ (p : Nat × CfgHit), p ∈ run.col.strays → ¬p.fst = 5) ∧
     (¬collectorSelf1.word = run.reg (fclCfgBase + 5) ∨ collectorSelf1.parity = false)) ∧
    (collectorSelf3.col.self = false ∧
     collectorSelf3.colRuns = true ∧
     collectorSelf3.cfgFails 5 = true) := by
  refine ⟨?_, ?_, ?_⟩ <;> decide +kernel

/-- The hypotheses of AliveTogglesUnlessFrozen are met together, clause by clause. -/
theorem witness_AliveTogglesUnlessFrozen :
    (run.inRun = true ∧
     run.frozen = false) ∧
    (run.canWrite svp (selBase + 3) = true) ∧
    (frz.frozen = true) := by
  refine ⟨?_, ?_, ?_⟩ <;> decide +kernel

/-- The hypotheses of SelvedgeEnginesAreChosenAndLocked are met together, clause by clause. -/
theorem witness_SelvedgeEnginesAreChosenAndLocked :
    (run.live Master.monitor = true ∧
     run.selLocked = true ∧
     isSvp Master.monitor = false) ∧
    (setup.canWrite svp selBase = true ∧
     selValid 0#12 = false) ∧
    (setup.canWrite svp (selBase + 1) = true ∧
     (false = false ∨ selValid (setup.reg selBase) = true)) ∧
    (setup.canWrite svp selBase = true ∧
     selValid 3#12 = true) ∧
    (selvedgeEngin1.canWrite svp (selBase + 1) = true ∧
     selValid (selvedgeEngin1.reg selBase) = false) := by
  refine ⟨?_, ?_, ?_, ?_, ?_⟩ <;> decide +kernel

/-- The hypotheses of SafeAndResetAreCommanded are met together, clause by clause. -/
theorem witness_SafeAndResetAreCommanded :
    (run.canWrite svp (selBase + 4) = true) ∧
    (run.canWrite svp (selBase + 5) = true ∧
     run.inRun = true ∧
     run.sblk = 0#12 ∧
     run.dev.safeNow = false) ∧
    (safeReset2.canWrite svp (selBase + 5) = true ∧
     safeReset2.inRun = true ∧
     safeReset2.sblk = 0#12 ∧
     safeReset2.dev.safeNow = true) ∧
    (safeReset3.canWrite svp (selBase + 5) = true ∧
     safeReset3.inRun = true ∧
     ¬safeReset3.sblk = 0#12) := by
  refine ⟨?_, ?_, ?_, ?_⟩ <;> decide +kernel

/-- The hypotheses of CollectorSourcesAreClearedAndConfigured are met together, clause by clause. -/
theorem witness_CollectorSourcesAreClearedAndConfigured :
    (setup.canWrite svp (fclStBase + 528) = true ∧
     (0 = 0 ∧ true = true) ∧
     (setup.src 0).nowEvs = []) ∧
    (setup.canWrite svp (fclStBase + 528) = true ∧
     (¬(↑13 / 12 = 0 ∧ (1#12).getLsbD (↑13 % 12) = true))) ∧
    (↑3 < 136 ∧
     setup.canWrite svp (fclCfgBase + 4 * ↑3) = true ∧
     ¬1 = 0 ∧
     (¬0 = 0 ∨ ¬setup.reg (fclCfgBase + 4 * ↑3 + 1) = 0#12) ∧
     (srcFixed ↑3 = true → 1 = 1)) ∧
    (↑3 < 136 ∧
     setup.canWrite svp (fclCfgBase + 4 * ↑3 + 1) = true ∧
     (¬1#12 = 0#12 ∨ ¬BitVec.toNat (setup.reg (fclCfgBase + 4 * ↑3)) / 256 = 0)) ∧
    (↑3 < 136 ∧
     setup.canWrite svp (fclCfgBase + 4 * ↑3 + 2) = true ∧
     ¬0 = 3 ∧
     (64 ≤ ↑3 → false = false ∧ false = false)) ∧
    (↑3 < 136 ∧
     setup.canWrite svp (fclCfgBase + 4 * ↑3 + 3) = true ∧
     (64 ≤ ↑3 → false = false ∧ false = false) ∧
     (srcFixed ↑3 = true → true = true ∧ false = true)) ∧
    (12 = 4 * ↑3) ∧
    (collectorSourc2.canWrite svp (fclStBase + 528) = true ∧
     (0 = 0 ∧ true = true) ∧
     (collectorSourc2.src 0).nowEvs = [true]) := by
  refine ⟨?_, ?_, ?_, ?_, ?_, ?_, ?_, ?_⟩ <;> decide +kernel

/-- The hypotheses of FixedSourcesStayFixed are met together, clause by clause. -/
theorem witness_FixedSourcesStayFixed :
    (srcFixed ↑100 = true ∧
     ↑100 < 136 ∧
     setup.live svp = true ∧
     isSvp svp = true ∧
     setup.setupOrRun = true ∧
     (true = false ∨ false = false)) ∧
    (srcFixed ↑100 = true ∧
     ↑100 < 136 ∧
     setup.live svp = true ∧
     isSvp svp = true ∧
     setup.setupOrRun = true ∧
     ¬33 = 1) ∧
    (srcFixed ↑100 = true ∧
     ↑100 < 136 ∧
     setup.live svp = true ∧
     isSvp svp = true ∧
     setup.setupOrRun = true ∧
     (64 ≤ ↑100 → false = false ∧ false = false)) := by
  refine ⟨?_, ?_, ?_⟩ <;> decide +kernel

/-- The hypotheses of CheckInsAndServicesAreJudged are met together, clause by clause. -/
theorem witness_CheckInsAndServicesAreJudged :
    (WdgMsg.check 0 ∈ checkIns1.wdg.inbox ∧
     checkIns1.wdg.running = true ∧
     checkIns1.wdg.expired = false) ∧
    (WdgMsg.serve 0 0 ∈ checkIns1.wdg.inbox) ∧
    (checkIns1.pending = [] ∧
     checkIns1.clk.fabOk = true) ∧
    (checkIns1.wdg.served = []) ∧
    (¬WdgMsg.serve 1 0 ∈ checkIns1.wdg.inbox) ∧
    (¬WdgMsg.check 1 ∈ checkIns1.wdg.inbox) ∧
    (WdgMsg.check 0 ∈ checkIns7.wdg.inbox ∧
     (checkIns7.wdg.running = false ∨ checkIns7.wdg.expired = true)) ∧
    (checkIns14.wdg.served = [(0, 0)] ∧
     checkIns14.wdgExpired = false ∧
     (checkIns14.wdg.held || checkIns14.wdg.restart || decide (checkIns14.wdg.i.toNat < checkIns14.wdgK) || checkIns14.wdg.judged) = false ∧
     (∀ (k : Fin 16), checkIns14.wdg.now.exp[↑k] = 0#2 ∨ checkIns14.wdg.cnt[↑k].toNat = checkIns14.wdg.now.exp[↑k].toNat) ∧
     checkIns14.still 0 = false ∧
     checkIns14.together 0 = true) ∧
    (checkIns16.wdg.served = [(0, 0)] ∧
     checkIns16.wdgExpired = true ∧
     checkIns16.wdg.grace = false ∧
     checkIns16.up = true ∧
     (checkIns16.src 115).waiting.length < 5) ∧
    (checkIns16.wdg.served = [(0, 0)] ∧
     checkIns16.wdgExpired = true ∧
     checkIns16.wdg.grace = false ∧
     checkIns16.isSel 0 = true) ∧
    (checkIns16.wdg.served = [(0, 0)] ∧
     checkIns16.wdgExpired = true ∧
     checkIns16.wdg.grace = false ∧
     checkIns16.wdg.judged = false ∧
     { checkIns16 with wdg := { checkIns16.wdg with now := checkIns16.wdg.pend.getD checkIns16.wdg.now } }.wdgK = 0 ∧
     (∀ (k : Fin 16), (checkIns16.wdg.pend.getD checkIns16.wdg.now).exp[↑k] = 0#2) ∧
     checkIns16.still 0 = false ∧
     checkIns16.together 0 = true) ∧
    (checkIns17.wdg.served = [(0, 0)] ∧
     checkIns17.wdgExpired = false ∧
     ((checkIns17.wdg.held || checkIns17.wdg.restart || decide (checkIns17.wdg.i.toNat < checkIns17.wdgK) || checkIns17.wdg.judged) = true ∨ ¬∀ (k : Fin 16), checkIns17.wdg.now.exp[↑k] = 0#2 ∨ checkIns17.wdg.cnt[↑k].toNat = checkIns17.wdg.now.exp[↑k].toNat) ∧
     checkIns17.still 0 = false ∧
     checkIns17.together 0 = true) ∧
    (checkIns17.wdg.served = [(0, 0)] ∧
     checkIns17.wdgExpired = false ∧
     ((checkIns17.wdg.held || checkIns17.wdg.restart || decide (checkIns17.wdg.i.toNat < checkIns17.wdgK) || checkIns17.wdg.judged) = true ∨ ¬∀ (k : Fin 16), checkIns17.wdg.now.exp[↑k] = 0#2 ∨ checkIns17.wdg.cnt[↑k].toNat = checkIns17.wdg.now.exp[↑k].toNat) ∧
     (checkIns17.wdg.held || checkIns17.wdg.restart || decide (checkIns17.wdg.i.toNat < checkIns17.wdgK) || checkIns17.wdg.judged) = false ∧
     checkIns17.up = true ∧
     ((checkIns17.src (116 : Fin 160)).waiting.length + (List.map (fun (k : Fin 16) => { cause := if checkIns17.wdg.now.exp[↑k].toNat < checkIns17.wdg.cnt[↑k].toNat then BitVec.ofNat 7 2 else BitVec.ofNat 7 3, payload := BitVec.ofNat 24 k.val, req := none : FaultEvent }) (List.filter (fun (k : Fin 16) => decide (¬checkIns17.wdg.now.exp[↑k] = BitVec.ofNat 2 0 ∧ ¬checkIns17.wdg.cnt[↑k].toNat = checkIns17.wdg.now.exp[↑k].toNat)) (List.finRange 16))).length ≤ 5)) ∧
    (checkIns18.wdg.served = [(0, 0)] ∧
     checkIns18.wdgExpired = false ∧
     ((checkIns18.wdg.held || checkIns18.wdg.restart || decide (checkIns18.wdg.i.toNat < checkIns18.wdgK) || checkIns18.wdg.judged) = true ∨ ¬∀ (k : Fin 16), checkIns18.wdg.now.exp[↑k] = 0#2 ∨ checkIns18.wdg.cnt[↑k].toNat = checkIns18.wdg.now.exp[↑k].toNat) ∧
     (checkIns18.wdg.held || checkIns18.wdg.restart || decide (checkIns18.wdg.i.toNat < checkIns18.wdgK) || checkIns18.wdg.judged) = true ∧
     checkIns18.up = true ∧
     (checkIns18.src 116).waiting.length < 5) ∧
    (checkIns22.wdg.served = [(0, 0)] ∧
     checkIns22.wdgExpired = true ∧
     checkIns22.wdg.grace = false ∧
     checkIns22.wdg.judged = false ∧
     { checkIns22 with wdg := { checkIns22.wdg with now := checkIns22.wdg.pend.getD checkIns22.wdg.now } }.wdgK = 0 ∧
     (¬∀ (k : Fin 16), (checkIns22.wdg.pend.getD checkIns22.wdg.now).exp[↑k] = 0#2) ∧
     checkIns22.still 0 = false ∧
     checkIns22.together 0 = true) ∧
    (checkIns23.wdg.served = [(0, 0)] ∧
     checkIns23.wdgExpired = true ∧
     checkIns23.wdg.grace = false ∧
     (checkIns23.wdg.judged = true ∨ 0 < { checkIns23 with wdg := { checkIns23.wdg with now := checkIns23.wdg.pend.getD checkIns23.wdg.now } }.wdgK) ∧
     checkIns23.still 0 = false ∧
     checkIns23.together 0 = true) ∧
    (checkIns23.wdg.served = [(0, 0)] ∧
     checkIns23.wdgExpired = true ∧
     checkIns23.wdg.grace = false ∧
     (checkIns23.wdg.judged = true ∨ 0 < { checkIns23 with wdg := { checkIns23.wdg with now := checkIns23.wdg.pend.getD checkIns23.wdg.now } }.wdgK) ∧
     checkIns23.up = true ∧
     (checkIns23.src 116).waiting.length < 5) ∧
    (checkIns25.wdg.served = [(0, 0)] ∧
     checkIns25.wdgExpired = true ∧
     checkIns25.wdg.grace = true ∧
     checkIns25.wdg.resetDue = false) := by
  refine ⟨?_, ?_, ?_, ?_, ?_, ?_, ?_, ?_, ?_, ?_, ?_, ?_, ?_, ?_, ?_, ?_, ?_, ?_⟩ <;> decide +kernel

/-- The hypotheses of WatchdogExpiresInTwoSteps are met together, clause by clause. -/
theorem witness_WatchdogExpiresInTwoSteps :
    (watchdogExpir1.wdgExpired = false) ∧
    (watchdogExpir1.inRun = true ∧
     watchdogExpir1.wdg.mstop = false) ∧
    (watchdogExpir2.wdgExpired = true ∧
     watchdogExpir2.wdg.grace = false ∧
     watchdogExpir2.isSel 0 = true) ∧
    (watchdogExpir3.wdgExpired = true ∧
     watchdogExpir3.wdg.grace = true ∧
     watchdogExpir3.wdg.resetDue = false) := by
  refine ⟨?_, ?_, ?_, ?_⟩ <;> decide +kernel

/-- The hypotheses of WatchdogCommitsAndHolds are met together, clause by clause. -/
theorem witness_WatchdogCommitsAndHolds :
    (watchdogCommi1.canWrite svp (wdgBase + 7) = true ∧
     watchdogCommi1.wdgExpired = false ∧
     (decide (1 ≤ watchdogCommi1.wdgStaged.per.toNat) && decide (watchdogCommi1.wdgStaged.per.toNat ≤ 4000000)) = true ∧
     watchdogCommi1.inRun = true ∧
     (watchdogCommi1.wdgOpen = false ∨ watchdogCommi1.wdg.grace = true ∨ ¬watchdogCommi1.wdg.pend = none)) ∧
    (watchdogCommi1.canWrite svp (wdgBase + 8) = true ∧
     (watchdogCommi1.dev.tethered = false ∨ watchdogCommi1.dev.safe = false ∨ watchdogCommi1.dev.sealed = true)) ∧
    (watchdogCommi2.canWrite svp (wdgBase + 7) = true ∧
     watchdogCommi2.wdgExpired = false ∧
     (decide (1 ≤ watchdogCommi2.wdgStaged.per.toNat) && decide (watchdogCommi2.wdgStaged.per.toNat ≤ 4000000)) = true ∧
     watchdogCommi2.inRun = true ∧
     watchdogCommi2.wdgOpen = true ∧
     watchdogCommi2.wdg.grace = false ∧
     watchdogCommi2.wdg.pend = none) ∧
    (watchdogCommi4.canWrite svp (wdgBase + 7) = true ∧
     watchdogCommi4.wdgExpired = false ∧
     (decide (1 ≤ watchdogCommi4.wdgStaged.per.toNat) && decide (watchdogCommi4.wdgStaged.per.toNat ≤ 4000000)) = true ∧
     watchdogCommi4.inRun = false) ∧
    (watchdogCommi4.canWrite svp (wdgBase + 8) = true ∧
     watchdogCommi4.dev.tethered = true ∧
     watchdogCommi4.dev.safe = true ∧
     watchdogCommi4.dev.sealed = false) ∧
    (watchdogCommi7.canWrite svp (wdgBase + 7) = true ∧
     watchdogCommi7.wdgExpired = false ∧
     (decide (1 ≤ watchdogCommi7.wdgStaged.per.toNat) && decide (watchdogCommi7.wdgStaged.per.toNat ≤ 4000000)) = false) ∧
    (watchdogCommi9.wdg.held = true) := by
  refine ⟨?_, ?_, ?_, ?_, ?_, ?_, ?_⟩ <;> decide +kernel

/-- The hypotheses of RecordsEnterTheirSlot are met together, clause by clause. -/
theorem witness_RecordsEnterTheirSlot :
    (recordsEnter1.memCanonical = true ∧
     recordsEnter1.rcd.held = false ∧
     recordsEnter1.dev.testEn = false ∧
     recordsEnter1.rcd.queue = [r1] ∧
     ¬r1.typ = 8#5 ∧
     (9504320 < 9502720 + 16 * (recordsEnter1.rcd.nseq.toNat % 512) ∨ 9502720 + 16 * (recordsEnter1.rcd.nseq.toNat % 512) + 16 ≤ 9504320)) ∧
    (recordsEnter1.memCanonical = true ∧
     recordsEnter1.rcd.held = false ∧
     recordsEnter1.dev.testEn = false ∧
     recordsEnter1.rcd.queue = [r1] ∧
     ¬r1.typ = 8#5 ∧
     ¬recordsEnter1.rcd.next.toNat + 512 ≤ recordsEnter1.rcd.nseq.toNat ∧
     ¬Option.map (fun c => decide (c.seq.toNat + 512 ≤ recordsEnter1.rcd.nseq.toNat)) recordsEnter1.rcd.clears.head? = some true) ∧
    (recordsEnter2.memCanonical = true ∧
     recordsEnter2.rcd.held = false ∧
     recordsEnter2.dev.testEn = false ∧
     recordsEnter2.rcd.queue = [r1] ∧
     ¬r1.typ = 8#5 ∧
     recordsEnter2.rcd.next.toNat + 512 ≤ recordsEnter2.rcd.nseq.toNat ∧
     ¬Option.map (fun c => decide (c.seq.toNat + 512 ≤ recordsEnter2.rcd.nseq.toNat)) recordsEnter2.rcd.clears.head? = some true) ∧
    (recordsEnter2.memCanonical = true ∧
     recordsEnter2.rcd.held = false ∧
     recordsEnter2.dev.testEn = false ∧
     recordsEnter2.rcd.queue = [r1] ∧
     ¬r1.typ = 8#5 ∧
     (recordsEnter2.rcd.next.toNat + 512 ≤ recordsEnter2.rcd.nseq.toNat ∨ Option.map (fun c => decide (c.seq.toNat + 512 ≤ recordsEnter2.rcd.nseq.toNat)) recordsEnter2.rcd.clears.head? = some true)) ∧
    (recordsEnter3.memCanonical = true ∧
     recordsEnter3.rcd.held = false ∧
     recordsEnter3.dev.testEn = false ∧
     recordsEnter3.rcd.queue = [r1] ∧
     ¬r1.typ = 8#5 ∧
     recordsEnter3.rcd.next.toNat + 512 ≤ recordsEnter3.rcd.nseq.toNat ∧
     Option.map (fun c => decide (c.seq.toNat + 512 ≤ recordsEnter3.rcd.nseq.toNat)) recordsEnter3.rcd.clears.head? = some true) ∧
    (recordsEnter4.memCanonical = true ∧
     recordsEnter4.rcd.held = false ∧
     recordsEnter4.dev.testEn = false ∧
     recordsEnter4.rcd.queue = [r1] ∧
     ¬r1.typ = 8#5 ∧
     ¬recordsEnter4.rcd.next.toNat + 512 ≤ recordsEnter4.rcd.nseq.toNat ∧
     Option.map (fun c => decide (c.seq.toNat + 512 ≤ recordsEnter4.rcd.nseq.toNat)) recordsEnter4.rcd.clears.head? = some true) := by
  refine ⟨?_, ?_, ?_, ?_, ?_, ?_⟩ <;> decide +kernel

/-- The hypotheses of TheRecordQueueHolds64 are met together, clause by clause. -/
theorem witness_TheRecordQueueHolds64 :
    (run.rcd.queue.length < 64) ∧
    (64 ≤ recordQueue1.rcd.queue.length) ∧
    (recordQueue2.rcd.queue.length < 64 ∧
     (∀ (y : Record), y ∈ recordQueue2.rcd.queue → ¬y.fk = recordQueue2.fk)) ∧
    ((recordQueue2.rcd.held = true ∨ recordQueue2.dev.testEn = true ∨ recordQueue2.rcd.queue = [])) := by
  refine ⟨?_, ?_, ?_, ?_⟩ <;> decide +kernel

/-- The hypotheses of SoftRecordsComeFromMachineLevel are met together, clause by clause. -/
theorem witness_SoftRecordsComeFromMachineLevel :
    (eStore 0 0 = Master.engine 0 0 true ∧
     run.live (eStore 0 0) = true) ∧
    ((∀ (e : Eng) (t : Thr), ¬Master.monitor = Master.engine e t true) ∧
     run.live Master.monitor = true) := by
  refine ⟨?_, ?_⟩ <;> decide +kernel

/-- The hypotheses of FetchesFindTheRecordOrNot are met together, clause by clause. -/
theorem witness_FetchesFindTheRecordOrNot :
    (fetchesFind1.canWrite (eStore 0 0) (recBase + 35) = true ∧
     fetchesFind1.rcd.fetching = true) ∧
    (fetchesFind1.rcd.fetching = true ∧
     fetchesFind1.inRing fetchesFind1.fseq = true ∧
     fetchesFind1.memGood (slotAddr fetchesFind1.fseq) = true) ∧
    (fetchesFind1.rcd.fetching = true ∧
     fetchesFind1.inRing fetchesFind1.fseq = true ∧
     (∀ (j : Fin 16), fetchesFind1.memGood (slotAddr fetchesFind1.fseq + ↑j) = decide ¬j = 3) ∧
     fetchesFind1.up = true ∧
     (fetchesFind1.src 113).waiting.length < 5) ∧
    (fetchesFind2.rcd.fetching = true ∧
     fetchesFind2.findRecord fetchesFind2.fseq = some (Vector.replicate 16 0#12) ∧
     (fetchesFind2.inRing fetchesFind2.fseq = false ∨ ∀ (k : Fin 16), fetchesFind2.memGood (slotAddr fetchesFind2.fseq + ↑k) = true)) ∧
    (fetchesFind2.rcd.fetching = true ∧
     fetchesFind2.inNv fetchesFind2.fseq = true) ∧
    (run.canWrite (eStore 0 0) (recBase + 35) = true ∧
     run.rcd.fetching = false) ∧
    (fx.rcd.fetching = true ∧
     fx.findRecord fx.fseq = none) := by
  refine ⟨?_, ?_, ?_, ?_, ?_, ?_, ?_⟩ <;> decide +kernel

/-- The hypotheses of RecordsAreCommitted are met together, clause by clause. -/
theorem witness_RecordsAreCommitted :
    ((recordsCommi2.dev.testEn = true ∨ recordsCommi2.up = false)) ∧
    (recordsCommi1.nvOn = true ∧
     recordsCommi1.rcd.iso = false ∧
     recordsCommi1.rcd.silent = false ∧
     recordsCommi1.rcd.held = false ∧
     recordsCommi1.up = true ∧
     recordsCommi1.dev.testEn = false ∧
     recordsCommi1.rcd.clears = [] ∧
     recordsCommi1.rcd.erase = false ∧
     recordsCommi1.rcd.next.toNat < recordsCommi1.rcd.nseq.toNat ∧
     recordsCommi1.memGood (slotAddr recordsCommi1.rcd.next) = true) ∧
    (recordsCommi1.nvOn = true ∧
     recordsCommi1.rcd.iso = false ∧
     recordsCommi1.rcd.silent = false ∧
     recordsCommi1.rcd.held = false ∧
     recordsCommi1.up = true ∧
     recordsCommi1.dev.testEn = false ∧
     recordsCommi1.rcd.clears = [] ∧
     recordsCommi1.rcd.erase = false ∧
     recordsCommi1.rcd.next.toNat < recordsCommi1.rcd.nseq.toNat ∧
     ¬1#208 = 0#208 ∧
     (recordsCommi1.src 114).waiting.length < 5) ∧
    (recordsCommi1.nvOn = true ∧
     recordsCommi1.rcd.iso = false ∧
     recordsCommi1.rcd.silent = false ∧
     recordsCommi1.rcd.held = false ∧
     recordsCommi1.up = true ∧
     recordsCommi1.dev.testEn = false ∧
     recordsCommi1.rcd.clears = [] ∧
     recordsCommi1.rcd.erase = false ∧
     recordsCommi1.rcd.next.toNat < recordsCommi1.rcd.nseq.toNat ∧
     ¬1#208 = 0#208 ∧
     (recordsCommi1.nvNor = true ∨ recordsCommi1.rcd.tries = 0)) ∧
    (recordsCommi1.nvOn = true ∧
     recordsCommi1.rcd.iso = false ∧
     recordsCommi1.rcd.silent = false ∧
     recordsCommi1.rcd.held = false ∧
     recordsCommi1.up = true ∧
     recordsCommi1.dev.testEn = false ∧
     recordsCommi1.rcd.clears = [] ∧
     recordsCommi1.rcd.erase = false ∧
     recordsCommi1.rcd.next.toNat < recordsCommi1.rcd.nseq.toNat ∧
     ¬1#208 = 0#208 ∧
     recordsCommi1.nvNor = true) ∧
    (recordsCommi4.nvOn = true ∧
     recordsCommi4.rcd.iso = false ∧
     recordsCommi4.rcd.silent = false ∧
     recordsCommi4.rcd.held = false ∧
     recordsCommi4.up = true ∧
     recordsCommi4.dev.testEn = false ∧
     recordsCommi4.rcd.clears = [] ∧
     recordsCommi4.rcd.erase = false ∧
     recordsCommi4.rcd.next.toNat < recordsCommi4.rcd.nseq.toNat ∧
     ¬1#208 = 0#208 ∧
     recordsCommi4.nvNor = false ∧
     0 < recordsCommi4.rcd.tries) ∧
    (nv0.nvOn = true ∧
     nv0.rcd.iso = false ∧
     nv0.rcd.silent = false ∧
     nv0.rcd.held = false ∧
     nv0.up = true ∧
     nv0.dev.testEn = false ∧
     nv0.rcd.clears = [] ∧
     nv0.rcd.erase = false ∧
     nv0.rcd.next.toNat < nv0.rcd.nseq.toNat ∧
     (nv0.nvNor = true ∧ nv0.rcd.next.toNat % nv0.nvQ % 128 = 0) ∧
     (5, slotOf (Vector.replicate 16 0#12)) ∈ (outState (exec (Instr.nvCommit NvOutcome.silentErase) nv0)).rcd.nv) := by
  refine ⟨?_, ?_, ?_, ?_, ?_, ?_, ?_⟩ <;> decide +kernel

/-- The hypotheses of RecorderConfigurationAndWaveforms are met together, clause by clause. -/
theorem witness_RecorderConfigurationAndWaveforms :
    (recorderConfi1.canWrite (eStore 0 0) (recBase + 19) = true ∧
     Master.machineStore (eStore 0 0) = true) ∧
    (recorderConfi1.rcd.wave = none) ∧
    (recorderConfi1.vcoreOk = true ∧
     recorderConfi1.clk.kOk = true ∧
     32768 ≤ recorderConfi1.rcd.sub) ∧
    (recorderConfi1.canWrite Master.monitor (recBase + 19) = true ∧
     Master.machineStore Master.monitor = false) ∧
    (recorderConfi2.vcoreOk = true ∧
     recorderConfi2.clk.kOk = false ∧
     4000000 ≤ recorderConfi2.rcd.subRc) ∧
    (setup.canWrite (eStore 0 0) recBase = true ∧
     (8 < 0 ∨ 1 < 5)) ∧
    ((setup.vcoreOk = false ∨ if setup.clk.kOk = true then setup.rcd.sub < 32768 else setup.rcd.subRc < 4000000)) ∧
    (recorderConfi3.rcd.wave = some recorderConfi7 ∧
     (recorderConfi7.ok = false ∨ recorderConfi3.pathValid recorderConfi7.ch (recorderConfi3.bobFast recorderConfi7.ch) = false)) ∧
    (recorderConfi4.rcd.wave = some recorderConfi6 ∧
     recorderConfi6.ok = true ∧
     recorderConfi4.pathValid recorderConfi6.ch (recorderConfi4.bobFast recorderConfi6.ch) = true ∧
     recorderConfi4.bobAvail recorderConfi6.ch recorderConfi6.cl < recorderConfi6.t + recorderConfi6.a) ∧
    (recorderConfi5.rcd.wave = some recorderConfi6 ∧
     recorderConfi6.ok = true ∧
     recorderConfi5.pathValid recorderConfi6.ch (recorderConfi5.bobFast recorderConfi6.ch) = true ∧
     recorderConfi6.t + recorderConfi6.a ≤ recorderConfi5.bobAvail recorderConfi6.ch recorderConfi6.cl) ∧
    (recorderConfi9.rcd.wave = none ∧
     recorderConfi9.rcd.queue = []) ∧
    (recorderConfi10.rcd.wave = none ∧
     recorderConfi10.rcd.queue = [] ∧
     BitVec.toNat (recorderConfi10.reg (recBase + 17)) % 2048 ≤ (if (decide (BitVec.toNat (recorderConfi10.reg (recBase + 16)) % 64 < 48) && recorderConfi10.bobFeeds (⟨BitVec.toNat (recorderConfi10.reg (recBase + 16)) % 64 % 48, by decide +kernel⟩ : Fin 48) (⟨BitVec.toNat (recorderConfi10.reg (recBase + 16)) / 64 % 8, by decide +kernel⟩ : Fin 8)) = true then recorderConfi10.bobAvail (⟨BitVec.toNat (recorderConfi10.reg (recBase + 16)) % 64 % 48, by decide +kernel⟩ : Fin 48) (⟨BitVec.toNat (recorderConfi10.reg (recBase + 16)) / 64 % 8, by decide +kernel⟩ : Fin 8) else 0) + BitVec.toNat (recorderConfi10.reg (recBase + 18)) % 1024) := by
  refine ⟨?_, ?_, ?_, ?_, ?_, ?_, ?_, ?_, ?_, ?_, ?_, ?_⟩ <;> decide +kernel

/-- The hypotheses of ClearsAreArmedConfirmedOrLapse are met together, clause by clause. -/
theorem witness_ClearsAreArmedConfirmedOrLapse :
    (run.canWrite svp rconfBase = true ∧
     run.clearArmed = false) ∧
    (run.rcd.erase = false) ∧
    (clearsArmed2.canWrite svp rconfBase = true ∧
     clearsArmed2.clearArmed = true ∧
     clearsArmed2.sealOpen = false ∧
     clearsArmed2.dev.sealed = false) ∧
    (clearsArmed2.rcd.armed = some 2 ∧
     clearsArmed2.rcd.armedLive = false) ∧
    (clearsArmed3.rcd.armed = some 2 ∧
     clearsArmed3.rcd.armedLive = true) ∧
    (clearsArmed5.rcd.erase = true) ∧
    (clearsArmed7.canWrite svp rconfBase = true ∧
     clearsArmed7.clearArmed = true ∧
     clearsArmed7.dev.sealed = true) ∧
    (clearsArmed8.rcd.held = false ∧
     clearsArmed8.dev.testEn = false ∧
     clearsArmed8.rcd.confirmed = [] ∧
     insertRec { typ := 8#5, code := 0#7, src := 0#12, pay := 0#48, fk := clearsArmed8.fk : Record } clearsArmed8.rcd.queue = [clearsArmed1, r1] ∧
     clearsArmed1.typ = 8#5 ∧
     (∀ (y : Record), y ∈ [] → ¬y.typ = 8#5) ∧
     clearsArmed8.rcd.nseq.toNat + 1 < 68719476736 ∧
     clearsArmed8.nvOn = false ∧
     clearsArmed8.rcd.clears = [] ∧
     clearsArmed8.rcd.armedSq = some 2) ∧
    (clearsArmed9.rcd.held = false ∧
     clearsArmed9.dev.testEn = false ∧
     clearsArmed9.rcd.confirmed = [] ∧
     insertRec { typ := 8#5, code := 0#7, src := 0#12, pay := 0#48, fk := clearsArmed9.fk : Record } clearsArmed9.rcd.queue = [{ r1 with typ := 1#5 }, clearsArmed1, r1] ∧
     clearsArmed1.typ = 8#5 ∧
     (∀ (y : Record), y ∈ [{ r1 with typ := 1#5 }] → ¬y.typ = 8#5) ∧
     clearsArmed9.rcd.nseq.toNat + 1 + 1 < 68719476736 ∧
     clearsArmed9.nvOn = true) ∧
    ((clearsArmed10.rcd.held = true ∨ clearsArmed10.dev.testEn = true)) ∧
    (clearsArmed12.canWrite svp rconfBase = true ∧
     clearsArmed12.clearArmed = true ∧
     clearsArmed12.sealOpen = true ∧
     clearsArmed12.dev.sealed = false) := by
  refine ⟨?_, ?_, ?_, ?_, ?_, ?_, ?_, ?_, ?_, ?_, ?_⟩ <;> decide +kernel

/-- The hypotheses of GaugesArmSampleAndSnap are met together, clause by clause. -/
theorem witness_GaugesArmSampleAndSnap :
    (run.canWrite (eStore 0 0) (monBase 0 + 7) = true ∧
     run.setupOrRun = true ∧
     (run.gauge 0).armed = false) ∧
    ((bitsAt (run.reg (monReg 0 1)) 8 4 = 0 ∨ bitsAt (run.reg (monReg 0 1)) 8 4 = 5 ∨ bitsAt (run.reg (monReg 0 1)) 8 4 = 6 ∨ 8 < bitsAt (run.reg (monReg 0 1)) 8 4 ∨ (run.gauge 0).armed = false)) ∧
    (gaugesArm1.canWrite (eStore 0 0) (monBase 0 + 7) = true ∧
     gaugesArm1.setupOrRun = true ∧
     (gaugesArm1.gauge 0).armed = true) ∧
    ((gaugesArm2.gauge 0).armed = true ∧
     1 ≤ bitsAt (gaugesArm2.reg (monReg 0 1)) 8 4 ∧
     bitsAt (gaugesArm2.reg (monReg 0 1)) 8 4 ≤ 8 ∧
     ¬bitsAt (gaugesArm2.reg (monReg 0 1)) 8 4 = 5 ∧
     ¬bitsAt (gaugesArm2.reg (monReg 0 1)) 8 4 = 6) := by
  refine ⟨?_, ?_, ?_, ?_⟩ <;> decide +kernel

/-- The hypotheses of TheLinkComesAndGoes are met together, clause by clause. -/
theorem witness_TheLinkComesAndGoes :
    (L.sht.lup = true) ∧
    (L.sht.coreUp = true ∧
     L.sht.prst = false ∧
     ¬2#2 = 0#2 ∧
     (1#2 = 1#2 ∨ 1#2 = 2#2)) := by
  refine ⟨?_, ?_⟩ <;> decide +kernel

/-- The hypotheses of ConfigurationIsAnswered are met together, clause by clause. -/
theorem witness_ConfigurationIsAnswered :
    (L.sht.coreUp = true ∧
     L.sht.prst = false ∧
     L.sht.retry = false ∧
     ((outState (exec (Instr.configRequest (CfgRequest.read 12#12)) L)).sht.cfgAnswer).isSome = true) ∧
    (L.sht.coreUp = true ∧
     L.sht.prst = false ∧
     L.sht.retry = false ∧
     ((outState (exec (Instr.configRequest (CfgRequest.read 48#12)) L)).sht.cfgAnswer).isSome = true) ∧
    (L.sht.coreUp = true ∧
     L.sht.prst = false ∧
     L.sht.retry = false ∧
     ((outState (exec (Instr.configRequest (CfgRequest.read 60#12)) L)).sht.cfgAnswer).isSome = true) ∧
    (L.sht.coreUp = true ∧
     L.sht.prst = false ∧
     L.sht.retry = false ∧
     ((outState (exec (Instr.configRequest (CfgRequest.read (BitVec.ofNat 12 (4 * PciCap.pciExpress.place + 4)))) L)).sht.cfgAnswer).isSome = true) ∧
    (L.sht.coreUp = true ∧
     L.sht.prst = false ∧
     L.sht.retry = false ∧
     ((outState (exec (Instr.configRequest (CfgRequest.read (BitVec.ofNat 12 (4 * PciCap.pciExpress.place + 36)))) L)).sht.cfgAnswer).isSome = true) ∧
    (L.sht.coreUp = true ∧
     L.sht.prst = false ∧
     L.hostOk = true ∧
     L.sht.mask.getLsbD ↑3 = true ∧
     L.sht.bme = true ∧
     L.sht.d3 = false) ∧
    (configurationAnswe1.sht.coreUp = true ∧
     configurationAnswe1.sht.prst = false ∧
     configurationAnswe1.sht.retry = true) ∧
    (configurationAnswe2.sht.coreUp = true ∧
     configurationAnswe2.sht.prst = false ∧
     configurationAnswe2.sht.retry = false ∧
     configurationAnswe2.sht.d3 = false ∧
     configurationAnswe2.sht.pba = BitVec.ofNat 32 (2 ^ ↑3) ∧
     configurationAnswe2.sht.mask.getLsbD ↑3 = false) ∧
    (configurationAnswe3.sht.coreUp = true ∧
     configurationAnswe3.sht.prst = false ∧
     configurationAnswe3.hostOk = true ∧
     configurationAnswe3.sht.mask.getLsbD ↑3 = true ∧
     configurationAnswe3.sht.bme = true ∧
     configurationAnswe3.sht.d3 = false ∧
     configurationAnswe3.sht.pba = BitVec.ofNat 32 (2 ^ ↑3)) ∧
    (configurationAnswe4.sht.coreUp = true ∧
     configurationAnswe4.sht.prst = false ∧
     configurationAnswe4.hostOk = false) := by
  refine ⟨?_, ?_, ?_, ?_, ?_, ?_, ?_, ?_, ?_, ?_⟩ <;> decide +kernel

/-- The hypotheses of HostRequestsReachTheirRegister are met together, clause by clause. -/
theorem witness_HostRequestsReachTheirRegister :
    (rings.hostOk = true ∧
     rings.sht.sq[0].en = true ∧
     2 ≤ BitVec.toNat (rings.reg (shtBase + 261))) ∧
    (rings.hostOk = true ∧
     rings.sht.cq[0].en = true ∧
     1 ≤ (BitVec.toNat rings.sht.cq[0].tail + (BitVec.toNat (rings.reg (shtBase + 517)) + 1) - BitVec.toNat rings.sht.cq[0].head % (BitVec.toNat (rings.reg (shtBase + 517)) + 1)) % (BitVec.toNat (rings.reg (shtBase + 517)) + 1) ∧
     2 = (BitVec.toNat rings.sht.cq[0].head + 1) % (BitVec.toNat (rings.reg (shtBase + 517)) + 1)) ∧
    (rings.hostOk = true ∧
     ¬List.filter (fun x => (regInfo x).isNone || rings.cutOff Master.host (BitVec.ofNat 24 x)) [8552960, 8552961] = []) ∧
    (rings.hostOk = true ∧
     List.filter (fun x => (regInfo x).isNone || rings.cutOff Master.host (BitVec.ofNat 24 x)) [8552960] = [8552960]) ∧
    (rings.hostOk = true ∧
     List.filter (fun x => (regInfo x).isNone || rings.cutOff Master.host (BitVec.ofNat 24 x)) [8519680, 8519681] = []) ∧
    (rings.hostOk = true ∧
     rings.sht.cq[0].en = true ∧
     (BitVec.toNat rings.sht.cq[0].tail + (BitVec.toNat (rings.reg (shtBase + 517)) + 1) - BitVec.toNat rings.sht.cq[0].head % (BitVec.toNat (rings.reg (shtBase + 517)) + 1)) % (BitVec.toNat (rings.reg (shtBase + 517)) + 1) < 4 ∧
     4 < BitVec.toNat (rings.reg (shtBase + 517)) + 1 ∧
     5 = (BitVec.toNat rings.sht.cq[0].head + 4) % (BitVec.toNat (rings.reg (shtBase + 517)) + 1)) ∧
    (rings.hostOk = true ∧
     rings.sht.sq[0].en = true ∧
     BitVec.toNat (rings.reg (shtBase + 261)) < 9) ∧
    (rings.hostOk = true ∧
     rings.sht.sq[1].en = false) := by
  refine ⟨?_, ?_, ?_, ?_, ?_, ?_, ?_, ?_⟩ <;> decide +kernel

/-- The hypotheses of GrantsAreCreatedAndRevoked are met together, clause by clause. -/
theorem witness_GrantsAreCreatedAndRevoked :
    (ownStore 0 (eStore 0 0) = true ∧
     grantsCreat1.live (eStore 0 0) = true ∧
     ¬BitVec.setWidth 8 (grantsCreat1.reg (shtBase + 1024 + 4)) = 0#8 ∧
     (BitVec.setWidth 8 (grantsCreat1.reg (shtBase + 1024 + 4)) &&& 63#8 = 0#8 ∨ BitVec.setWidth 8 (grantsCreat1.reg (shtBase + 1024 + 4)) &&& 238#8 = 0#8 ∨ BitVec.setWidth 8 (grantsCreat1.reg (shtBase + 1024 + 4)) &&& 253#8 = 0#8 ∨ BitVec.setWidth 8 (grantsCreat1.reg (shtBase + 1024 + 4)) &&& 211#8 = 0#8) ∧
     (¬(BitVec.setWidth 8 (grantsCreat1.reg (shtBase + 1024 + 4)) &&& 211#8 = 0#8 ∧ (BitVec.setWidth 8 (grantsCreat1.reg (shtBase + 1024 + 4))).getLsbD 2 = true ∧ grantsCreat1.isSel 0 = false)) ∧
     (BitVec.setWidth 8 (grantsCreat1.reg (shtBase + 1024 + 4)) &&& 211#8 = 0#8 ∨ ¬grantsCreat1.reg (shtBase + 1024 + 3) ++ grantsCreat1.reg (shtBase + 1024 + 2) = 0#24 ∧ (grantsCreat1.reg (shtBase + 1024 + 1) ++ grantsCreat1.reg (shtBase + 1024)).toNat + (grantsCreat1.reg (shtBase + 1024 + 3) ++ grantsCreat1.reg (shtBase + 1024 + 2)).toNat ≤ if BitVec.setWidth 8 (grantsCreat1.reg (shtBase + 1024 + 4)) &&& 63#8 = 0#8 then 16777216 else if BitVec.setWidth 8 (grantsCreat1.reg (shtBase + 1024 + 4)) &&& 238#8 = 0#8 then 256 else 32) ∧
     grantsCreat1.sht.grants[0].v = false ∧
     grantsCreat1.sht.grants[0].ret = false ∧
     (∀ (j : Fin 512), j < 0 → grantsCreat1.sht.grants[↑j].v = true ∨ grantsCreat1.sht.grants[↑j].ret = true) ∧
     ¬(3 : Fin 512) = (0 : Fin 512)) ∧
    (ownStore 0 (eStore 0 0) = true ∧
     grantsCreat1.live (eStore 0 0) = true ∧
     grantsCreat1.sht.grants[BitVec.toNat (grantsCreat1.reg (shtBase + 1024 + 5)) % 512].v = false) ∧
    (ownStore 0 (eStore 0 0) = true ∧
     grantsCreat5.live (eStore 0 0) = true ∧
     ¬BitVec.setWidth 8 (grantsCreat5.reg (shtBase + 1024 + 4)) = 0#8 ∧
     (BitVec.setWidth 8 (grantsCreat5.reg (shtBase + 1024 + 4)) &&& 63#8 = 0#8 ∨ BitVec.setWidth 8 (grantsCreat5.reg (shtBase + 1024 + 4)) &&& 238#8 = 0#8 ∨ BitVec.setWidth 8 (grantsCreat5.reg (shtBase + 1024 + 4)) &&& 253#8 = 0#8 ∨ BitVec.setWidth 8 (grantsCreat5.reg (shtBase + 1024 + 4)) &&& 211#8 = 0#8) ∧
     ¬BitVec.setWidth 8 (grantsCreat5.reg (shtBase + 1024 + 4)) &&& 211#8 = 0#8 ∧
     (¬(¬grantsCreat5.reg (shtBase + 1024 + 3) ++ grantsCreat5.reg (shtBase + 1024 + 2) = 0#24 ∧ (grantsCreat5.reg (shtBase + 1024 + 1) ++ grantsCreat5.reg (shtBase + 1024)).toNat + (grantsCreat5.reg (shtBase + 1024 + 3) ++ grantsCreat5.reg (shtBase + 1024 + 2)).toNat ≤ if BitVec.setWidth 8 (grantsCreat5.reg (shtBase + 1024 + 4)) &&& 63#8 = 0#8 then 16777216 else if BitVec.setWidth 8 (grantsCreat5.reg (shtBase + 1024 + 4)) &&& 238#8 = 0#8 then 256 else 32))) ∧
    (ownStore 0 (eStore 0 0) = true ∧
     grantsCreat8.live (eStore 0 0) = true ∧
     ¬BitVec.setWidth 8 (grantsCreat8.reg (shtBase + 1024 + 4)) = 0#8 ∧
     (¬(BitVec.setWidth 8 (grantsCreat8.reg (shtBase + 1024 + 4)) &&& 63#8 = 0#8 ∨ BitVec.setWidth 8 (grantsCreat8.reg (shtBase + 1024 + 4)) &&& 238#8 = 0#8 ∨ BitVec.setWidth 8 (grantsCreat8.reg (shtBase + 1024 + 4)) &&& 253#8 = 0#8 ∨ BitVec.setWidth 8 (grantsCreat8.reg (shtBase + 1024 + 4)) &&& 211#8 = 0#8))) ∧
    (ownStore 0 (eStore 0 0) = true ∧
     L.live (eStore 0 0) = true ∧
     BitVec.setWidth 8 (L.reg (shtBase + 1024 + 4)) = 0#8) ∧
    (ownStore 0 (eStore 0 0) = true ∧
     g127.live (eStore 0 0) = true ∧
     g127.sht.grants[BitVec.toNat (g127.reg (shtBase + 1024 + 5)) % 512].v = true ∧
     g127.sht.grants[BitVec.toNat (g127.reg (shtBase + 1024 + 5)) % 512].gen = 127#7) ∧
    (ownStore 0 (eStore 0 0) = true ∧
     g127.live (eStore 0 0) = true ∧
     g127.sht.grants[BitVec.toNat (g127.reg (shtBase + 1024 + 5)) % 512].v = true ∧
     ¬(0 : Fin 512) = (⟨BitVec.toNat (g127.reg (shtBase + 1024 + 5)) % 512, by decide +kernel⟩ : Fin 512)) ∧
    (ownStore 0 (eStore 0 0) = true ∧
     full.live (eStore 0 0) = true ∧
     ¬BitVec.setWidth 8 (full.reg (shtBase + 1024 + 4)) = 0#8 ∧
     (BitVec.setWidth 8 (full.reg (shtBase + 1024 + 4)) &&& 63#8 = 0#8 ∨ BitVec.setWidth 8 (full.reg (shtBase + 1024 + 4)) &&& 238#8 = 0#8 ∨ BitVec.setWidth 8 (full.reg (shtBase + 1024 + 4)) &&& 253#8 = 0#8 ∨ BitVec.setWidth 8 (full.reg (shtBase + 1024 + 4)) &&& 211#8 = 0#8) ∧
     (¬(BitVec.setWidth 8 (full.reg (shtBase + 1024 + 4)) &&& 211#8 = 0#8 ∧ (BitVec.setWidth 8 (full.reg (shtBase + 1024 + 4))).getLsbD 2 = true ∧ full.isSel 0 = false)) ∧
     (BitVec.setWidth 8 (full.reg (shtBase + 1024 + 4)) &&& 211#8 = 0#8 ∨ ¬full.reg (shtBase + 1024 + 3) ++ full.reg (shtBase + 1024 + 2) = 0#24 ∧ (full.reg (shtBase + 1024 + 1) ++ full.reg (shtBase + 1024)).toNat + (full.reg (shtBase + 1024 + 3) ++ full.reg (shtBase + 1024 + 2)).toNat ≤ if BitVec.setWidth 8 (full.reg (shtBase + 1024 + 4)) &&& 63#8 = 0#8 then 16777216 else if BitVec.setWidth 8 (full.reg (shtBase + 1024 + 4)) &&& 238#8 = 0#8 then 256 else 32) ∧
     (∀ (k : Fin 512), full.sht.grants[↑k].v = true ∨ full.sht.grants[↑k].ret = true)) ∧
    (ownStore 0 (eStore 0 0) = true ∧
     full.live (eStore 0 0) = true ∧
     full.sht.grants[BitVec.toNat (full.reg (shtBase + 1024 + 5)) % 512].v = true ∧
     ¬full.sht.grants[BitVec.toNat (full.reg (shtBase + 1024 + 5)) % 512].gen = 127#7) ∧
    (ownStore 8 (eStore 8 0) = true ∧
     grantsCreat17.live (eStore 8 0) = true ∧
     ¬BitVec.setWidth 8 (grantsCreat17.reg (shtBase + 1024 + 16 * ↑8 + 4)) = 0#8 ∧
     BitVec.setWidth 8 (grantsCreat17.reg (shtBase + 1024 + 16 * ↑8 + 4)) &&& 211#8 = 0#8 ∧
     ((BitVec.setWidth 8 (grantsCreat17.reg (shtBase + 1024 + 16 * ↑8 + 4))).getLsbD 2 = true ∧ grantsCreat17.isSel 8 = false)) := by
  refine ⟨?_, ?_, ?_, ?_, ?_, ?_, ?_, ?_, ?_, ?_⟩ <;> decide +kernel

/-- The hypotheses of PerstResetsTheLink are met together, clause by clause. -/
theorem witness_PerstResetsTheLink :
    (hl.sht.prst = false ∧
     hl.still 0 = false ∧
     hl.together 0 = true ∧
     hl.loadOf 0 0 = some { pa := 12582912#24, va := 12582912#24, second := none, split := false, machine := true, sent := true : Load } ∧
     regionOf 12582912#24 = Region.host) ∧
    (hl.sht.prst = false ∧
     hl.sht.lup = true ∧
     hl.up = true ∧
     (hl.src 104).waiting.length < 5) ∧
    (run.sht.prst = false ∧
     run.sht.lup = false) ∧
    (perstReset1.sht.prst = true) ∧
    (rings.sht.prst = false ∧
     (rings.sht.sq.toList.any Sq.en || rings.sht.cq.toList.any Cq.en) = true ∧
     (rings.clu (Eng.cluster 0)).gated = false ∧
     0 ∈ rings.targets (bitsAt (rings.reg (shtBase + 2)) 0 2) rings.selEngines) ∧
    (perstReset2.sht.prst = false ∧
     (perstReset2.sht.sq[0].exec).isSome = true) := by
  refine ⟨?_, ?_, ?_, ?_, ?_, ?_⟩ <;> decide +kernel

/-- The hypotheses of CopyInStoresTheHostsWords are met together, clause by clause. -/
theorem witness_CopyInStoresTheHostsWords :
    (copyStore1.memCanonical = true ∧
     copyStore1.canSend = true ∧
     (copyStore1.sq 0).exec = some (xs d0 0) ∧
     (xs d0 0).status = none ∧
     (xs d0 0).d.opc = 1#8 ∧
     (xs d0 0).d.flg.getLsbD 1 = false ∧
     (xs d0 0).prog < (xs d0 0).d.count.toNat ∧
     (xs d0 0).d.daddr.toNat + (xs d0 0).prog + ((xs d0 0).d.count.toNat - (xs d0 0).prog) ≤ 16777216 ∧
     (∀ (k : Nat), k < (xs d0 0).d.count.toNat - (xs d0 0).prog → (regionOf (BitVec.ofNat 24 ((xs d0 0).d.daddr.toNat + (xs d0 0).prog + k))).isData = true ∧ copyStore1.asleep (BitVec.ofNat 24 ((xs d0 0).d.daddr.toNat + (xs d0 0).prog + k)) = false ∧ copyStore1.cutOff Master.shuttle (BitVec.ofNat 24 ((xs d0 0).d.daddr.toNat + (xs d0 0).prog + k)) = false ∧ copyStore1.refuses Master.shuttle (BitVec.ofNat 24 ((xs d0 0).d.daddr.toNat + (xs d0 0).prog + k)) true = false) ∧
     2 = (xs d0 0).d.count.toNat - (xs d0 0).prog ∧
     ([5#16, 6#16]).all (fun c => decide (c.toNat < 4096)) = true ∧
     (255 < (xs d0 0).d.daddr.toNat + (xs d0 0).prog ∨ (xs d0 0).d.daddr.toNat + (xs d0 0).prog + ((xs d0 0).d.count.toNat - (xs d0 0).prog) ≤ 255)) ∧
    (copyStore1.memCanonical = true ∧
     copyStore1.canSend = true ∧
     (copyStore1.sq 0).exec = some (xs d0 0) ∧
     (xs d0 0).status = none ∧
     (xs d0 0).d.opc = 1#8 ∧
     (xs d0 0).d.flg.getLsbD 1 = false ∧
     (xs d0 0).prog < (xs d0 0).d.count.toNat ∧
     (xs d0 0).d.daddr.toNat + (xs d0 0).prog + ((xs d0 0).d.count.toNat - (xs d0 0).prog) ≤ 16777216 ∧
     (∀ (k : Nat), k < (xs d0 0).d.count.toNat - (xs d0 0).prog → (regionOf (BitVec.ofNat 24 ((xs d0 0).d.daddr.toNat + (xs d0 0).prog + k))).isData = true ∧ copyStore1.asleep (BitVec.ofNat 24 ((xs d0 0).d.daddr.toNat + (xs d0 0).prog + k)) = false ∧ copyStore1.cutOff Master.shuttle (BitVec.ofNat 24 ((xs d0 0).d.daddr.toNat + (xs d0 0).prog + k)) = false ∧ copyStore1.refuses Master.shuttle (BitVec.ofNat 24 ((xs d0 0).d.daddr.toNat + (xs d0 0).prog + k)) true = false) ∧
     copyStore1.up = true ∧
     (copyStore1.src 105).waiting.length < 5) := by
  refine ⟨?_, ?_⟩ <;> decide +kernel

/-- The hypotheses of CopyOutSendsTheWords are met together, clause by clause. -/
theorem witness_CopyOutSendsTheWords :
    (copyOut1.canSend = true ∧
     (copyOut1.sq 0).exec = some (xs { d0 with opc := 2#8 } 0) ∧
     (xs { d0 with opc := 2#8 } 0).status = none ∧
     (xs { d0 with opc := 2#8 } 0).d.opc = 2#8 ∧
     (xs { d0 with opc := 2#8 } 0).d.flg.getLsbD 1 = false ∧
     (xs { d0 with opc := 2#8 } 0).prog ≤ (xs { d0 with opc := 2#8 } 0).d.count.toNat ∧
     (xs { d0 with opc := 2#8 } 0).d.daddr.toNat + (xs { d0 with opc := 2#8 } 0).prog + ((xs { d0 with opc := 2#8 } 0).d.count.toNat - (xs { d0 with opc := 2#8 } 0).prog) ≤ 16777216 ∧
     (∀ (k : Nat), k < (xs { d0 with opc := 2#8 } 0).d.count.toNat - (xs { d0 with opc := 2#8 } 0).prog → (regionOf (BitVec.ofNat 24 ((xs { d0 with opc := 2#8 } 0).d.daddr.toNat + (xs { d0 with opc := 2#8 } 0).prog + k))).isData = true ∧ copyOut1.asleep (BitVec.ofNat 24 ((xs { d0 with opc := 2#8 } 0).d.daddr.toNat + (xs { d0 with opc := 2#8 } 0).prog + k)) = false ∧ copyOut1.cutOff Master.shuttle (BitVec.ofNat 24 ((xs { d0 with opc := 2#8 } 0).d.daddr.toNat + (xs { d0 with opc := 2#8 } 0).prog + k)) = false ∧ copyOut1.refuses Master.shuttle (BitVec.ofNat 24 ((xs { d0 with opc := 2#8 } 0).d.daddr.toNat + (xs { d0 with opc := 2#8 } 0).prog + k)) false = false ∧ copyOut1.wordGood (BitVec.ofNat 24 ((xs { d0 with opc := 2#8 } 0).d.daddr.toNat + (xs { d0 with opc := 2#8 } 0).prog + k)) = true) ∧
     0 < (xs { d0 with opc := 2#8 } 0).d.count.toNat - (xs { d0 with opc := 2#8 } 0).prog) := by
  decide +kernel

/-- The hypotheses of MessagesWaitForTheirMailbox are met together, clause by clause. -/
theorem witness_MessagesWaitForTheirMailbox :
    ((messagesWait1.sq 0).exec = some (xr none) ∧
     (xr none).status = none ∧
     (xr none).d.opc = 3#8 ∧
     (List.drop (xr none).prog (List.take (xr none).d.count.toNat (xr none).d.param.toList)).all (fun c => decide (c.toNat < 4096)) = true ∧
     ¬List.drop (xr none).prog (List.take (xr none).d.count.toNat (xr none).d.param.toList) = [] ∧
     messagesWait1.inRun = true ∧
     messagesWait1.engEn (⟨(BitVec.setWidth 8 (xr none).d.daddr).toNat / 4, by decide +kernel⟩ : Fin 64) = true ∧
     (messagesWait1.eng (⟨(BitVec.setWidth 8 (xr none).d.daddr).toNat / 4, by decide +kernel⟩ : Fin 64)).locked = false ∧
     messagesWait1.together (⟨(BitVec.setWidth 8 (xr none).d.daddr).toNat / 4, by decide +kernel⟩ : Fin 64) = true ∧
     messagesWait1.still (⟨(BitVec.setWidth 8 (xr none).d.daddr).toNat / 4, by decide +kernel⟩ : Fin 64) = false ∧
     (messagesWait1.eng (⟨(BitVec.setWidth 8 (xr none).d.daddr).toNat / 4, by decide +kernel⟩ : Fin 64)).held = [] ∧
     (messagesWait1.clu (Eng.cluster (⟨(BitVec.setWidth 8 (xr none).d.daddr).toNat / 4, by decide +kernel⟩ : Fin 64))).iso = false ∧
     (messagesWait1.eng (⟨(BitVec.setWidth 8 (xr none).d.daddr).toNat / 4, by decide +kernel⟩ : Fin 64)).mbox[(BitVec.setWidth 8 (xr none).d.daddr).toNat % 4].length + (List.drop (xr none).prog (List.take (xr none).d.count.toNat (xr none).d.param.toList)).length ≤ 16) ∧
    ((messagesWait2.sq 0).exec = some (xr none) ∧
     (xr none).status = none ∧
     (xr none).d.opc = 3#8 ∧
     (List.drop (xr none).prog (List.take (xr none).d.count.toNat (xr none).d.param.toList)).all (fun c => decide (c.toNat < 4096)) = true ∧
     ¬List.drop (xr none).prog (List.take (xr none).d.count.toNat (xr none).d.param.toList) = [] ∧
     messagesWait2.inRun = true ∧
     messagesWait2.engEn (⟨(BitVec.setWidth 8 (xr none).d.daddr).toNat / 4, by decide +kernel⟩ : Fin 64) = true ∧
     (messagesWait2.eng (⟨(BitVec.setWidth 8 (xr none).d.daddr).toNat / 4, by decide +kernel⟩ : Fin 64)).locked = false ∧
     messagesWait2.together (⟨(BitVec.setWidth 8 (xr none).d.daddr).toNat / 4, by decide +kernel⟩ : Fin 64) = true ∧
     messagesWait2.still (⟨(BitVec.setWidth 8 (xr none).d.daddr).toNat / 4, by decide +kernel⟩ : Fin 64) = false ∧
     (messagesWait2.eng (⟨(BitVec.setWidth 8 (xr none).d.daddr).toNat / 4, by decide +kernel⟩ : Fin 64)).held = [] ∧
     (16 ≤ (messagesWait2.eng (⟨(BitVec.setWidth 8 (xr none).d.daddr).toNat / 4, by decide +kernel⟩ : Fin 64)).mbox[(BitVec.setWidth 8 (xr none).d.daddr).toNat % 4].length ∨ (messagesWait2.clu (Eng.cluster (⟨(BitVec.setWidth 8 (xr none).d.daddr).toNat / 4, by decide +kernel⟩ : Fin 64))).iso = true) ∧
     (xr none).refused = none) ∧
    ((messagesWait5.sq 0).exec = some (xr (some 1)) ∧
     (xr (some 1)).status = none ∧
     (xr (some 1)).d.opc = 3#8 ∧
     (List.drop (xr (some 1)).prog (List.take (xr (some 1)).d.count.toNat (xr (some 1)).d.param.toList)).all (fun c => decide (c.toNat < 4096)) = true ∧
     ¬List.drop (xr (some 1)).prog (List.take (xr (some 1)).d.count.toNat (xr (some 1)).d.param.toList) = [] ∧
     messagesWait5.inRun = true ∧
     messagesWait5.engEn (⟨(BitVec.setWidth 8 (xr (some 1)).d.daddr).toNat / 4, by decide +kernel⟩ : Fin 64) = true ∧
     (messagesWait5.eng (⟨(BitVec.setWidth 8 (xr (some 1)).d.daddr).toNat / 4, by decide +kernel⟩ : Fin 64)).locked = false ∧
     messagesWait5.together (⟨(BitVec.setWidth 8 (xr (some 1)).d.daddr).toNat / 4, by decide +kernel⟩ : Fin 64) = true ∧
     messagesWait5.still (⟨(BitVec.setWidth 8 (xr (some 1)).d.daddr).toNat / 4, by decide +kernel⟩ : Fin 64) = false ∧
     (messagesWait5.eng (⟨(BitVec.setWidth 8 (xr (some 1)).d.daddr).toNat / 4, by decide +kernel⟩ : Fin 64)).held = [] ∧
     (16 ≤ (messagesWait5.eng (⟨(BitVec.setWidth 8 (xr (some 1)).d.daddr).toNat / 4, by decide +kernel⟩ : Fin 64)).mbox[(BitVec.setWidth 8 (xr (some 1)).d.daddr).toNat % 4].length ∨ (messagesWait5.clu (Eng.cluster (⟨(BitVec.setWidth 8 (xr (some 1)).d.daddr).toNat / 4, by decide +kernel⟩ : Fin 64))).iso = true) ∧
     ¬(xr (some 1)).refused = none ∧
     (xr (some 1)).refused.getD 0 + 1 < BitVec.toNat (messagesWait5.reg (shtBase + 1))) ∧
    ((messagesWait6.sq 0).exec = some (xr (some 1)) ∧
     (xr (some 1)).status = none ∧
     (xr (some 1)).d.opc = 3#8 ∧
     (List.drop (xr (some 1)).prog (List.take (xr (some 1)).d.count.toNat (xr (some 1)).d.param.toList)).all (fun c => decide (c.toNat < 4096)) = true ∧
     ¬List.drop (xr (some 1)).prog (List.take (xr (some 1)).d.count.toNat (xr (some 1)).d.param.toList) = [] ∧
     messagesWait6.inRun = true ∧
     messagesWait6.engEn (⟨(BitVec.setWidth 8 (xr (some 1)).d.daddr).toNat / 4, by decide +kernel⟩ : Fin 64) = true ∧
     (messagesWait6.eng (⟨(BitVec.setWidth 8 (xr (some 1)).d.daddr).toNat / 4, by decide +kernel⟩ : Fin 64)).locked = false ∧
     messagesWait6.together (⟨(BitVec.setWidth 8 (xr (some 1)).d.daddr).toNat / 4, by decide +kernel⟩ : Fin 64) = true ∧
     messagesWait6.still (⟨(BitVec.setWidth 8 (xr (some 1)).d.daddr).toNat / 4, by decide +kernel⟩ : Fin 64) = false ∧
     (messagesWait6.eng (⟨(BitVec.setWidth 8 (xr (some 1)).d.daddr).toNat / 4, by decide +kernel⟩ : Fin 64)).held = [] ∧
     (16 ≤ (messagesWait6.eng (⟨(BitVec.setWidth 8 (xr (some 1)).d.daddr).toNat / 4, by decide +kernel⟩ : Fin 64)).mbox[(BitVec.setWidth 8 (xr (some 1)).d.daddr).toNat % 4].length ∨ (messagesWait6.clu (Eng.cluster (⟨(BitVec.setWidth 8 (xr (some 1)).d.daddr).toNat / 4, by decide +kernel⟩ : Fin 64))).iso = true) ∧
     ¬(xr (some 1)).refused = none ∧
     BitVec.toNat (messagesWait6.reg (shtBase + 1)) ≤ (xr (some 1)).refused.getD 0 + 1) := by
  refine ⟨?_, ?_, ?_, ?_⟩ <;> decide +kernel

/-- The hypotheses of GaugeRecordClearAndFence are met together, clause by clause. -/
theorem witness_GaugeRecordClearAndFence :
    ((gaugeRecor1.sq 0).exec = some (xs (dg 4#8) 0) ∧
     (xs (dg 4#8) 0).status = none ∧
     (xs (dg 4#8) 0).d.opc = 4#8 ∧
     gaugeRecor1.canSend = true ∧
     (xs (dg 4#8) 0).d.daddr.toNat = 0 ∧
     0 < (List.map (fun k => gaugeRecor1.readReg (monBase 0 + 8 + k)) (List.range 40)).length) ∧
    ((gaugeRecor2.sq 0).exec = some (xs (dg 5#8) 0) ∧
     (xs (dg 5#8) 0).status = none ∧
     (xs (dg 5#8) 0).d.opc = 5#8 ∧
     gaugeRecor2.canSend = true ∧
     (xs (dg 5#8) 0).d.count = 1#32 ∧
     (∀ (k : Fin 3), BitVec.toNat (xs (dg 5#8) 0).d.param[↑k] < 4096) ∧
     gaugeRecor2.findRecord (BitVec.setWidth 12 (xs (dg 5#8) 0).d.param[2] ++ (BitVec.setWidth 12 (xs (dg 5#8) 0).d.param[1] ++ BitVec.setWidth 12 (xs (dg 5#8) 0).d.param[0])) = none) ∧
    ((gaugeRecor3.sq 0).exec = some (xs (dg 5#8) 0) ∧
     (xs (dg 5#8) 0).status = none ∧
     (xs (dg 5#8) 0).d.opc = 5#8 ∧
     gaugeRecor3.canSend = true ∧
     (xs (dg 5#8) 0).d.count = 1#32 ∧
     (∀ (k : Fin 3), BitVec.toNat (xs (dg 5#8) 0).d.param[↑k] < 4096) ∧
     gaugeRecor3.findRecord (BitVec.setWidth 12 (xs (dg 5#8) 0).d.param[2] ++ (BitVec.setWidth 12 (xs (dg 5#8) 0).d.param[1] ++ BitVec.setWidth 12 (xs (dg 5#8) 0).d.param[0])) = some (Vector.replicate 16 0#12) ∧
     (∀ (k : Nat), k < 16 → gaugeRecor3.wordGood (BitVec.ofNat 24 (slotAddr (BitVec.setWidth 12 (xs (dg 5#8) 0).d.param[2] ++ (BitVec.setWidth 12 (xs (dg 5#8) 0).d.param[1] ++ BitVec.setWidth 12 (xs (dg 5#8) 0).d.param[0])) + k)) = true)) ∧
    ((gaugeRecor4.sq 0).exec = some (xs (dg 6#8) 0) ∧
     (xs (dg 6#8) 0).status = none ∧
     (xs (dg 6#8) 0).d.opc = 6#8 ∧
     gaugeRecor4.rcd.clearingFor 0 = false ∧
     gaugeRecor4.dev.sealed = false ∧
     gaugeRecor4.sealOpen = false) ∧
    ((gaugeRecor7.sq 0).exec = some (xs (dg 6#8) 0) ∧
     (xs (dg 6#8) 0).status = none ∧
     (xs (dg 6#8) 0).d.opc = 6#8 ∧
     gaugeRecor7.rcd.clearingFor 0 = false ∧
     gaugeRecor7.dev.sealed = true) ∧
    ((gaugeRecor8.sq 0).exec = some (xs (dg 8#8) 0) ∧
     (xs (dg 8#8) 0).status = none ∧
     (xs (dg 8#8) 0).d.opc = 8#8 ∧
     (xs (dg 8#8) 0).wait = 0#8) ∧
    ((gaugeRecor9.sq 0).exec = some { d := (xs (dg 8#8) 0).d, prog := (xs (dg 8#8) 0).prog, status := (xs (dg 8#8) 0).status, head := (xs (dg 8#8) 0).head, refused := (xs (dg 8#8) 0).refused, wait := 2#8 : Exec } ∧
     (xs (dg 8#8) 0).status = none ∧
     (xs (dg 8#8) 0).d.opc = 8#8 ∧
     ¬2#8 = 0#8) ∧
    ((gaugeRecor10.sq 0).exec = some (xs (dg 6#8) 0) ∧
     (xs (dg 6#8) 0).status = none ∧
     (xs (dg 6#8) 0).d.opc = 6#8 ∧
     gaugeRecor10.rcd.clearingFor 0 = false ∧
     gaugeRecor10.dev.sealed = false ∧
     gaugeRecor10.sealOpen = true ∧
     gaugeRecor10.rcd.armed = none ∧
     gaugeRecor10.rcd.erase = false ∧
     gaugeRecor10.rcd.clogUsed + gaugeRecor10.rcd.clears.length + gaugeRecor10.rcd.confirmed.length < 128) ∧
    ((gaugeRecor11.sq 0).exec = some (xs (dg 6#8) 0) ∧
     (xs (dg 6#8) 0).status = none ∧
     (xs (dg 6#8) 0).d.opc = 6#8 ∧
     gaugeRecor11.rcd.clearingFor 0 = false ∧
     gaugeRecor11.dev.sealed = false ∧
     gaugeRecor11.sealOpen = true ∧
     (¬gaugeRecor11.rcd.armed = none ∨ gaugeRecor11.rcd.erase = true)) ∧
    ((gaugeRecor12.sq 0).exec = some (xs (dg 6#8) 0) ∧
     (xs (dg 6#8) 0).status = none ∧
     (xs (dg 6#8) 0).d.opc = 6#8 ∧
     gaugeRecor12.rcd.clearingFor 0 = false ∧
     gaugeRecor12.dev.sealed = false ∧
     gaugeRecor12.sealOpen = true ∧
     gaugeRecor12.rcd.armed = none ∧
     gaugeRecor12.rcd.erase = false ∧
     128 ≤ gaugeRecor12.rcd.clogUsed + gaugeRecor12.rcd.clears.length + gaugeRecor12.rcd.confirmed.length) ∧
    ((gaugeRecor13.sq 0).exec = some (xs (dg 6#8) 0) ∧
     (xs (dg 6#8) 0).status = none ∧
     (xs (dg 6#8) 0).d.opc = 6#8 ∧
     gaugeRecor13.rcd.clearingFor 0 = true) := by
  refine ⟨?_, ?_, ?_, ?_, ?_, ?_, ?_, ?_, ?_, ?_, ?_⟩ <;> decide +kernel

/-- The hypotheses of LoadProgramFillsTheWindow are met together, clause by clause. -/
theorem witness_LoadProgramFillsTheWindow :
    (loadProgr1.memCanonical = true ∧
     loadProgr1.canSend = true ∧
     (loadProgr1.sq 0).exec = some (xs dp 0) ∧
     (xs dp 0).status = none ∧
     (xs dp 0).d.opc = 7#8 ∧
     (xs dp 0).prog ≤ (xs dp 0).d.count.toNat ∧
     2 = (xs dp 0).d.count.toNat - (xs dp 0).prog ∧
     ([15036#16, 5#16]).all (fun c => decide (c.toNat < 16384)) = true ∧
     ((xs dp 0).d.daddr.toNat + 2 * (xs dp 0).prog) % 2 = 0 ∧
     524288 ≤ (xs dp 0).d.daddr.toNat + 2 * (xs dp 0).prog ∧
     (xs dp 0).d.daddr.toNat + 2 * (xs dp 0).prog + 4 ≤ 786432 ∧
     (∀ (k : Nat), k < 2 → loadProgr1.asleep (BitVec.ofNat 24 ((xs dp 0).d.daddr.toNat + 2 * (xs dp 0).prog + 2 * k)) = false) ∧
     (loadProgr1.clu 0).iso = false ∧
     (¬(0 : Clu) = (0 : Clu) ∨ 7 < ((xs dp 0).d.daddr.toNat + 2 * (xs dp 0).prog - 524288) / 2 ∨ ((xs dp 0).d.daddr.toNat + 2 * (xs dp 0).prog - 524288) / 2 + 2 ≤ 7)) := by
  decide +kernel

/-- The hypotheses of CompletionsAreWritten are met together, clause by clause. -/
theorem witness_CompletionsAreWritten :
    ((completionsWritt1.sq 0).exec = some (xf d0 0#16) ∧
     (xf d0 0#16).status = some (0#16, 7#32) ∧
     (completionsWritt1.cq (completionsWritt1.sqCq 0)).err = false ∧
     completionsWritt1.canSend = true ∧
     (completionsWritt1.cqIen (completionsWritt1.sqCq 0) && ((xf d0 0#16).d.flg.getLsbD 0 || decide (completionsWritt1.cqThr (completionsWritt1.sqCq 0) ≤ (if (completionsWritt1.cq (completionsWritt1.sqCq 0)).pd = 255#8 then 255#8 else (completionsWritt1.cq (completionsWritt1.sqCq 0)).pd + 1#8).toNat))) = false) ∧
    ((completionsWritt4.sq 0).exec = some (xf d0 0#16) ∧
     (xf d0 0#16).status = some (0#16, 7#32) ∧
     (completionsWritt4.cq (completionsWritt4.sqCq 0)).err = false ∧
     completionsWritt4.canSend = false ∧
     completionsWritt4.sqCq 1 = completionsWritt4.sqCq 0) ∧
    ((completionsWritt4.sq 0).exec = some (xf d0 0#16) ∧
     (xf d0 0#16).status = some (0#16, 7#32) ∧
     (completionsWritt4.cq (completionsWritt4.sqCq 0)).err = false ∧
     completionsWritt4.canSend = false ∧
     completionsWritt4.up = true ∧
     (completionsWritt4.src 108).waiting.length < 5) ∧
    ((completionsWritt5.sq 0).exec = some (xf d0 0#16) ∧
     (xf d0 0#16).status = some (0#16, 7#32) ∧
     (completionsWritt5.cq (completionsWritt5.sqCq 0)).err = true) ∧
    ((completionsWritt9.sq 0).exec = some (xf d0 0#16) ∧
     (xf d0 0#16).status = some (0#16, 7#32) ∧
     (completionsWritt9.cq (completionsWritt9.sqCq 0)).err = false ∧
     completionsWritt9.canSend = true ∧
     (completionsWritt9.cqIen (completionsWritt9.sqCq 0) && ((xf d0 0#16).d.flg.getLsbD 0 || decide (completionsWritt9.cqThr (completionsWritt9.sqCq 0) ≤ (if (completionsWritt9.cq (completionsWritt9.sqCq 0)).pd = 255#8 then 255#8 else (completionsWritt9.cq (completionsWritt9.sqCq 0)).pd + 1#8).toNat))) = true ∧
     completionsWritt9.sht.mask.getLsbD (BitVec.setWidth 5 (completionsWritt9.reg (cqReg (completionsWritt9.sqCq 0) 6))).toNat = false) ∧
    ((completionsWritt10.sq 0).exec = some (xf d0 0#16) ∧
     (xf d0 0#16).status = some (0#16, 7#32) ∧
     (completionsWritt10.cq (completionsWritt10.sqCq 0)).err = false ∧
     completionsWritt10.canSend = true ∧
     (completionsWritt10.cqIen (completionsWritt10.sqCq 0) && ((xf d0 0#16).d.flg.getLsbD 0 || decide (completionsWritt10.cqThr (completionsWritt10.sqCq 0) ≤ (if (completionsWritt10.cq (completionsWritt10.sqCq 0)).pd = 255#8 then 255#8 else (completionsWritt10.cq (completionsWritt10.sqCq 0)).pd + 1#8).toNat))) = true ∧
     completionsWritt10.sht.mask.getLsbD (BitVec.setWidth 5 (completionsWritt10.reg (cqReg (completionsWritt10.sqCq 0) 6))).toNat = true) ∧
    ((completionsWritt11.sq 0).exec = some (xf d0 0#16) ∧
     (xf d0 0#16).status = some (0#16, 7#32) ∧
     (completionsWritt11.cq 0).timer = true ∧
     completionsWritt11.cqIen 0 = true) ∧
    ((completionsWritt12.sq 0).exec = some (xf d0 0#16) ∧
     (xf d0 0#16).status = some (0#16, 7#32) ∧
     (completionsWritt12.cq (completionsWritt12.sqCq 0)).err = false ∧
     completionsWritt12.canSend = true ∧
     (completionsWritt12.sq 1).exec = some (xf d0 0#16) ∧
     ¬(1 : Fin 8) = (0 : Fin 8)) ∧
    ((completionsWritt13.sq 0).exec = some (xf d0 0#16) ∧
     (xf d0 0#16).status = some (0#16, 7#32) ∧
     (completionsWritt13.cq (completionsWritt13.sqCq 0)).err = false ∧
     completionsWritt13.canSend = false ∧
     (completionsWritt13.sq 1).exec = some (xf d0 0#16) ∧
     ¬(1 : Fin 8) = (0 : Fin 8)) ∧
    ((completionsWritt14.sq 0).exec = some (xf d0 0#16) ∧
     (xf d0 0#16).status = some (0#16, 7#32) ∧
     (completionsWritt14.cq (completionsWritt14.sqCq 0)).err = true ∧
     (completionsWritt14.sq 1).exec = some (xf d0 0#16) ∧
     ¬(1 : Fin 8) = (0 : Fin 8)) := by
  refine ⟨?_, ?_, ?_, ?_, ?_, ?_, ?_, ?_, ?_, ?_⟩ <;> decide +kernel

/-- The hypotheses of TransfersTimeOut are met together, clause by clause. -/
theorem witness_TransfersTimeOut :
    (transfersTime1.together 0 = true ∧
     transfersTime1.still 0 = false ∧
     transfersTime1.loadOf 0 0 = some (ldx 1048832#24) ∧
     (ldx 1048832#24).second = none ∧
     transfersTime1.cutOff (Master.engine 0 0 (ldx 1048832#24).machine) (ldx 1048832#24).pa = false ∧
     transfersTime1.refuses (Master.engine 0 0 (ldx 1048832#24).machine) (ldx 1048832#24).pa false = false ∧
     (regionOf (ldx 1048832#24).pa).isData = true ∧
     crossesWeft (Master.engine 0 0 (ldx 1048832#24).machine) (ldx 1048832#24).pa = true ∧
     transfersTime1.up = true ∧
     (transfersTime1.src 83).waiting.length < 5) ∧
    (transfersTime2.together 0 = true ∧
     transfersTime2.still 0 = false ∧
     transfersTime2.loadOf 0 0 = some (ldx 12582912#24) ∧
     (ldx 12582912#24).second = none ∧
     transfersTime2.cutOff (Master.engine 0 0 (ldx 12582912#24).machine) (ldx 12582912#24).pa = false ∧
     transfersTime2.refuses (Master.engine 0 0 (ldx 12582912#24).machine) (ldx 12582912#24).pa false = false ∧
     regionOf (ldx 12582912#24).pa = Region.host ∧
     transfersTime2.windowOk = true ∧
     transfersTime2.up = true ∧
     (transfersTime2.src 105).waiting.length < 5) ∧
    (transfersTime3.together 0 = true ∧
     transfersTime3.still 0 = false ∧
     (transfersTime3.eng 0).sbuf = [ste 1048832#24] ∧
     (ste 1048832#24).sent = true ∧
     (ste 1048832#24).data2 = none ∧
     (ste 1048832#24).half2 = false ∧
     (regionOf (ste 1048832#24).pa).isData = true ∧
     transfersTime3.cutOff (Master.engine 0 (ste 1048832#24).t (ste 1048832#24).machine) (ste 1048832#24).pa = false ∧
     transfersTime3.refuses (Master.engine 0 (ste 1048832#24).t (ste 1048832#24).machine) (ste 1048832#24).pa true = false ∧
     crossesWeft (Master.engine 0 (ste 1048832#24).t (ste 1048832#24).machine) (ste 1048832#24).pa = true) ∧
    ((transfersTime4.sq 0).exec = some (xs d0 0) ∧
     (xs d0 0).status = none ∧
     (xs d0 0).d.opc = 1#8 ∧
     transfersTime4.up = true ∧
     (transfersTime4.src 83).waiting.length < 5) ∧
    ((transfersTime4.sq 0).exec = some (xs d0 0) ∧
     (xs d0 0).status = none ∧
     (xs d0 0).d.opc = 1#8 ∧
     transfersTime4.canSend = true ∧
     (xs d0 0).d.flg.getLsbD 1 = false ∧
     (xs d0 0).prog < (xs d0 0).d.count.toNat) := by
  refine ⟨?_, ?_, ?_, ?_, ?_⟩ <;> decide +kernel

/-- The hypotheses of TripFramesActOnce are met together, clause by clause. -/
theorem witness_TripFramesActOnce :
    (tripFrame1.receives 0 = true ∧
     (f1 1#2 3#5 5#12).line.toNat ≤ 23 ∧
     ¬(f1 1#2 3#5 5#12).origin = tripFrame1.jsnId ∧
     tripFrame1.seen { (f1 1#2 3#5 5#12) with trip := true, kind := BitVec.setWidth 4 (f1 1#2 3#5 5#12).kind, at_ := tripFrame1.fk } = false ∧
     (f1 1#2 3#5 5#12).kind = 1#2) ∧
    (tripFrame1.receives 0 = true ∧
     ¬f1 2#2 4#5 5#12 = f1 1#2 3#5 5#12) ∧
    (tripFrame1.receives 0 = true ∧
     (f1 2#2 3#5 5#12).line.toNat ≤ 23 ∧
     ¬(f1 2#2 3#5 5#12).origin = tripFrame1.jsnId ∧
     tripFrame1.seen { (f1 2#2 3#5 5#12) with trip := true, kind := BitVec.setWidth 4 (f1 2#2 3#5 5#12).kind, at_ := tripFrame1.fk } = false ∧
     (f1 2#2 3#5 5#12).kind = 2#2) ∧
    (tripFrame1.receives 0 = true ∧
     (f1 3#2 3#5 5#12).line.toNat ≤ 23 ∧
     ¬(f1 3#2 3#5 5#12).origin = tripFrame1.jsnId ∧
     tripFrame1.seen { (f1 3#2 3#5 5#12) with trip := true, kind := BitVec.setWidth 4 (f1 3#2 3#5 5#12).kind, at_ := tripFrame1.fk } = false ∧
     (f1 3#2 3#5 5#12).kind = 3#2 ∧
     (∀ (a : Arm), a ∈ tripFrame1.jsn.arms → ¬(a.origin = (f1 3#2 3#5 5#12).origin ∧ a.line = (f1 3#2 3#5 5#12).line ∧ a.seq = (f1 3#2 3#5 5#12).seq))) ∧
    (tripFrame1.receives 0 = true ∧
     ((f1 1#2 30#5 5#12).origin = tripFrame1.jsnId ∨ tripFrame1.seen { (f1 1#2 30#5 5#12) with trip := true, kind := BitVec.setWidth 4 (f1 1#2 30#5 5#12).kind, at_ := tripFrame1.fk } = true ∨ 23 < (f1 1#2 30#5 5#12).line.toNat)) ∧
    (tripFrame2.receives 0 = true ∧
     (f1 3#2 3#5 5#12).line.toNat ≤ 23 ∧
     ¬(f1 3#2 3#5 5#12).origin = tripFrame2.jsnId ∧
     tripFrame2.seen { (f1 3#2 3#5 5#12) with trip := true, kind := BitVec.setWidth 4 (f1 3#2 3#5 5#12).kind, at_ := tripFrame2.fk } = false ∧
     (f1 3#2 3#5 5#12).kind = 3#2 ∧
     (∃ a, a ∈ tripFrame2.jsn.arms ∧ a.origin = (f1 3#2 3#5 5#12).origin ∧ a.line = (f1 3#2 3#5 5#12).line ∧ a.seq = (f1 3#2 3#5 5#12).seq)) := by
  refine ⟨?_, ?_, ?_, ?_, ?_, ?_⟩ <;> decide +kernel

/-- The hypotheses of ChainTimersAndSync are met together, clause by clause. -/
theorem witness_ChainTimersAndSync :
    ((chainTimer1.local_ 3).cfm = true ∧
     chainTimer1.trip.asserted.getLsbD ↑3 = true ∧
     chainTimer1.regB (trfBase + 512 + 16 * ↑3 + 9) 8 = true ∧
     chainTimer1.solo = false) ∧
    (chainTimer1.portEn 0 = true ∧
     (chainTimer1.jport 0).sync = true) ∧
    (chainTimer1.portEn 1 = true ∧
     (chainTimer1.jport 1).sync = true ∧
     (chainTimer1.jport 1).iso = false ∧
     ¬(0 : Port) = (1 : Port)) ∧
    (((chainTimer2.local_ 3).cfm = false ∨ chainTimer2.trip.asserted.getLsbD ↑3 = false ∨ chainTimer2.regB (trfBase + 512 + 16 * ↑3 + 9) 8 = false ∨ chainTimer2.solo = true)) ∧
    ((chainTimer2.portEn 0 = false ∨ (chainTimer2.jport 0).sync = false)) ∧
    (chainTimer4.jsn.arms[0]? = some { port := 0, origin := 5#12, line := 3#5, seq := 9#12 : Arm }) ∧
    (chainTimer4.jsn.held.getLsbD ↑3 = true) := by
  refine ⟨?_, ?_, ?_, ?_, ?_, ?_, ?_⟩ <;> decide +kernel

/-- The hypotheses of OwnFramesAreSentAndAcknowledged are met together, clause by clause. -/
theorem witness_OwnFramesAreSentAndAcknowledged :
    ((¬5#4 = (ownFrame2.jport 0).lseq ∨ ¬0#16 = crc16 [117#8])) ∧
    (ownFrame1.txq = [tf]) ∧
    (ownFrame2.canWrite (eStore 0 0) (jsnBase + 37) = true ∧
     Master.machineStore (eStore 0 0) = true ∧
     ownFrame2.jsn.busy = false ∧
     ((4 = 4 ∨ 4 = 5) ∧ 4 = 4 ∨ 4 = 6 ∧ 6 ≤ 4 ∧ 4 ≤ 21)) ∧
    (ownFrame2.canWrite (eStore 0 0) (jsnBase + 37) = true ∧
     (Master.machineStore (eStore 0 0) = false ∨ ownFrame2.jsn.busy = true ∨ ¬((4 = 4 ∨ 4 = 5) ∧ 5 = 4 ∨ 4 = 6 ∧ 6 ≤ 5 ∧ 5 ≤ 21))) ∧
    (ownFrame3.receives 0 = true ∧
     ¬(ownFrame3.jport 0).txq = []) ∧
    (ownFrame3.portEn 0 = true ∧
     (ownFrame3.jport 0).txq = [tf] ∧
     (ownFrame3.jport 0).resends < 3 ∧
     ((ownFrame3.jport 0).sync = true ∧ (ownFrame3.jport 0).iso = false)) ∧
    (ownFrame4.portEn 0 = true ∧
     (ownFrame4.jport 0).txq = [tf] ∧
     3 ≤ (ownFrame4.jport 0).resends ∧
     ((ownFrame4.jport 0).sync = true ∧ (ownFrame4.jport 0).iso = false)) ∧
    (ownFrame4.portEn 0 = true ∧
     (ownFrame4.jport 0).txq = [tf] ∧
     3 ≤ (ownFrame4.jport 0).resends ∧
     tf.own = true) ∧
    (ownFrame4.portEn 0 = true ∧
     (ownFrame4.jport 0).txq = [tf] ∧
     3 ≤ (ownFrame4.jport 0).resends ∧
     ownFrame4.up = true ∧
     (ownFrame4.src (portSrc 0)).waiting.length < 5) ∧
    (ownFrame7.portEn 0 = false) ∧
    (ownFrame8.portEn 0 = true ∧
     (ownFrame8.jport 0).txq = [tf] ∧
     (ownFrame8.jport 0).resends < 3 ∧
     (¬((ownFrame8.jport 0).sync = true ∧ (ownFrame8.jport 0).iso = false))) := by
  refine ⟨?_, ?_, ?_, ?_, ?_, ?_, ?_, ?_, ?_, ?_, ?_⟩ <;> decide +kernel

/-- The hypotheses of GoEntersRun are met together, clause by clause. -/
theorem witness_GoEntersRun :
    (goEnter1.regsCanonical = true ∧
     goEnter1.live (eStore 0 0) = true ∧
     isSvp (eStore 0 0) = false ∧
     (isMonitor (eStore 0 0) || ownStore 0 (eStore 0 0)) = true ∧
     goEnter1.dev.phase = Phase.setup) ∧
    (run.regsCanonical = true ∧
     run.live (eStore 0 0) = true ∧
     isSvp (eStore 0 0) = false ∧
     ((isMonitor (eStore 0 0) || ownStore 0 (eStore 0 0)) = false ∨ ¬run.dev.phase = Phase.setup)) := by
  refine ⟨?_, ?_⟩ <;> decide +kernel

/-- The hypotheses of PowerModesAndGating are met together, clause by clause. -/
theorem witness_PowerModesAndGating :
    (powerModes1.regsCanonical = true ∧
     powerModes1.live (eStore 0 0) = true ∧
     isSvp (eStore 0 0) = false ∧
     (Master.machineStore (eStore 0 0) = true ∨ isMonitor (eStore 0 0) = true) ∧
     ¬devBase + 4 = devBase + 5) ∧
    ((powerModes1.inRun = false ∨ BitVec.getLsbD (powerModes1.reg (devBase + 5)) 10 = false ∨ BitVec.getLsbD (powerModes1.reg (devBase + 5)) 0 = false ∨ (0 : Clu) = (0 : Clu))) ∧
    (powerModes1.wakeDue 0 = false) ∧
    ((powerModes1.clu 0).woken = false ∧
     (∀ (e : Eng), e.cluster = 0 → (powerModes1.eng e).held = [] ∧ ∀ (n : Fin 32), ¬(((powerModes1.eng e).ipend.getLsbD ↑n = true ∨ (powerModes1.eng e).lineIn.getLsbD ↑n = true) ∧ ∃ w, (powerModes1.clu 0).pendAt.toList[↑e % 8]? = some w ∧ w.getLsbD ↑n = false))) ∧
    (powerModes1.wakeDue 1 = true ∧
     (powerModes1.clu 1).gated = true ∧
     Eng.cluster 8 = 1 ∧
     powerModes1.paused 8 = false) ∧
    (Eng.cluster 8 = 1 ∧
     ¬(powerModes1.eng 8).held = []) ∧
    (powerModes2.inRun = true ∧
     BitVec.getLsbD (powerModes2.reg (devBase + 5)) 10 = true ∧
     BitVec.getLsbD (powerModes2.reg (devBase + 5)) 1 = true ∧
     ¬(1 : Clu) = (0 : Clu) ∧
     (powerModes2.clu 1).gated = false ∧
     (∀ (e : Eng), e.cluster = 1 → powerModes2.engQuiet e = true) ∧
     Eng.cluster 8 = 1) ∧
    (powerModes6.regsCanonical = true ∧
     powerModes6.live Master.host = true ∧
     isSvp Master.host = false ∧
     Master.machineStore Master.host = false ∧
     isMonitor Master.host = false) ∧
    (powerModes6.wakeDue 1 = true ∧
     (powerModes6.clu 1).gated = true ∧
     ¬(0 : Clu) = (1 : Clu)) := by
  refine ⟨?_, ?_, ?_, ?_, ?_, ?_, ?_, ?_, ?_⟩ <;> decide +kernel

/-- The hypotheses of SealingAndSolo are met together, clause by clause. -/
theorem witness_SealingAndSolo :
    (run.canWrite svp (modBase + 1) = true ∧
     run.clearArmed = false) ∧
    (run.canWrite svp (modBase + 1) = true ∧
     run.sealOpen = false) ∧
    (run.canWrite svp modBase = true ∧
     run.solo = false) ∧
    (sealingSolo2.canWrite svp (modBase + 1) = true ∧
     sealingSolo2.sealOpen = true) ∧
    (sealingSolo4.canWrite svp (modBase + 1) = true ∧
     sealingSolo4.clearArmed = true) ∧
    (sealingSolo5.canWrite svp modBase = true ∧
     (sealingSolo5.solo = true ∨ true = false)) := by
  refine ⟨?_, ?_, ?_, ?_, ?_, ?_⟩ <;> decide +kernel

/-- The hypotheses of ResetsStartAndEnd are met together, clause by clause. -/
theorem witness_ResetsStartAndEnd :
    (run.regsCanonical = true ∧
     ¬devBase + 5 = recBase) ∧
    (run.regsCanonical = true ∧
     ¬2#3 = 1#3) ∧
    (run.wdg.resetDue = false) ∧
    (run.col.resetDue = none) ∧
    (run.col.cmdReset = false) ∧
    (due.regsCanonical = true ∧
     due.wdg.resetDue = true ∧
     ¬devBase + 5 = recBase) ∧
    (due.regsCanonical = true ∧
     due.wdg.resetDue = true ∧
     ¬3#3 = 1#3) ∧
    (due.regsCanonical = true ∧
     due.col.resetDue = some 3 ∧
     ¬devBase + 5 = recBase) ∧
    (due.regsCanonical = true ∧
     due.col.resetDue = some 3 ∧
     ¬4#3 = 1#3) ∧
    (due.regsCanonical = true ∧
     due.col.cmdReset = true ∧
     ¬devBase + 5 = recBase) ∧
    (due.regsCanonical = true ∧
     due.col.cmdReset = true ∧
     ¬5#3 = 1#3) ∧
    (resetsStart1.dev.inReset = some 2#3 ∧
     resetsStart1.tap.rests = true ∧
     resetsStart1.dev.latch = false) ∧
    (resetsStart1.dev.inReset = some 2#3 ∧
     resetsStart1.tap.rests = true ∧
     ¬resetsStart1.dev.phase = Phase.powerUp) ∧
    (resetsStart2.dev.inReset = some 1#3 ∧
     resetsStart2.tap.rests = true ∧
     resetsStart2.dev.latch = true) ∧
    (resetsStart2.dev.inReset = some 1#3 ∧
     resetsStart2.tap.rests = true ∧
     resetsStart2.dev.phase = Phase.powerUp) ∧
    (resetsStart4.dev.phase = Phase.powerUp ∧
     resetsStart4.dev.inReset = none) ∧
    (resetsStart9.dev.inReset = some 4#3 ∧
     resetsStart9.tap.rests = true ∧
     ¬resetsStart9.dev.phase = Phase.powerUp ∧
     resetsStart9.rcd.queue.length < 64 ∧
     (outState (exec (Instr.resetEnd 5#4) resetsStart9)).dev.tethered = resetsStart9.dev.tethered ∧
     (∀ (y : Record), y ∈ resetsStart9.rcd.queue → ¬y.fk = resetsStart9.fk)) := by
  refine ⟨?_, ?_, ?_, ?_, ?_, ?_, ?_, ?_, ?_, ?_, ?_, ?_, ?_, ?_, ?_, ?_, ?_⟩ <;> decide +kernel

/-- The hypotheses of TemperatureAndGovernor are met together, clause by clause. -/
theorem witness_TemperatureAndGovernor :
    (run.up = true ∧
     run.clk.sensed = false) ∧
    ((max (BitVec.toInt run.clk.temp0) (BitVec.toInt run.clk.temp1) < 1760 ∨ (run.reg clkBase).toNat / 1024 ≤ run.clk.step.toNat)) ∧
    ((1680 < max (BitVec.toInt run.clk.temp0) (BitVec.toInt run.clk.temp1) ∨ run.clk.step.toNat = 0)) ∧
    (temperatureGover1.up = true ∧
     temperatureGover1.clk.sensed = true) ∧
    (temperatureGover1.up = true ∧
     1760 ≤ max (BitVec.toInt temperatureGover1.clk.temp0) (BitVec.toInt temperatureGover1.clk.temp1) ∧
     temperatureGover1.clk.step.toNat < (temperatureGover1.reg clkBase).toNat / 1024) ∧
    (128 < (BitVec.toInt temperatureGover1.clk.temp0 - BitVec.toInt temperatureGover1.clk.temp1).natAbs) ∧
    (2000 < max (BitVec.toInt temperatureGover2.clk.temp0) (BitVec.toInt temperatureGover2.clk.temp1)) ∧
    (1760 ≤ max (BitVec.toInt temperatureGover2.clk.temp0) (BitVec.toInt temperatureGover2.clk.temp1) ∧
     (temperatureGover2.reg clkBase).toNat / 1024 ≤ temperatureGover2.clk.step.toNat) ∧
    (temperatureGover3.up = true ∧
     max (BitVec.toInt temperatureGover3.clk.temp0) (BitVec.toInt temperatureGover3.clk.temp1) ≤ 1680 ∧
     ¬temperatureGover3.clk.step.toNat = 0) := by
  refine ⟨?_, ?_, ?_, ?_, ?_, ?_, ?_, ?_, ?_⟩ <;> decide +kernel

/-- The hypotheses of ClocksAreMonitored are met together, clause by clause. -/
theorem witness_ClocksAreMonitored :
    (run.sht.prst = false) ∧
    (clocksMonit1.sht.prst = true) ∧
    (clocksMonit2.clk.fabOk = false) := by
  refine ⟨?_, ?_, ?_⟩ <;> decide +kernel

/-- The hypotheses of SuppliesAreMonitored are met together, clause by clause. -/
theorem witness_SuppliesAreMonitored :
    (run.up = true ∧
     (run.src 124).waiting.length < 5) := by
  decide +kernel

/-- The hypotheses of BootSelectsItsSource are met together, clause by clause. -/
theorem witness_BootSelectsItsSource :
    (bootSelec1.dev.phase = Phase.boot ∧
     bootSelec1.dev.inReset = none ∧
     bootSelec1.boot.loading = false ∧
     bootSelec1.boot.stopped = false ∧
     bootSelec1.boot.image = [] ∧
     (256 < 24576 ∨ 32768 ≤ 256)) ∧
    (bootSelec1.dev.phase = Phase.boot ∧
     bootSelec1.dev.inReset = none ∧
     bootSelec1.boot.loading = false ∧
     bootSelec1.boot.stopped = false ∧
     bootSelec1.boot.image = [] ∧
     bootSelec1.dev.boot.toNat < 3 ∧
     ¬bootSelec1.dev.boot = 2#3) ∧
    (bootSelec3.dev.phase = Phase.boot ∧
     bootSelec3.dev.inReset = none ∧
     bootSelec3.boot.loading = false ∧
     bootSelec3.boot.stopped = false ∧
     bootSelec3.boot.image = [] ∧
     bootSelec3.dev.boot.toNat < 3 ∧
     bootSelec3.dev.boot = 2#3 ∧
     bootSelec3.regsCanonical = true) ∧
    (bootSelec4.dev.phase = Phase.boot ∧
     bootSelec4.dev.inReset = none ∧
     bootSelec4.boot.loading = false ∧
     bootSelec4.boot.stopped = false ∧
     bootSelec4.boot.image = [] ∧
     bootSelec4.dev.boot = 3#3) ∧
    (bootSelec5.dev.phase = Phase.boot ∧
     bootSelec5.dev.inReset = none ∧
     bootSelec5.boot.loading = false ∧
     bootSelec5.boot.stopped = false ∧
     bootSelec5.boot.image = [] ∧
     4 ≤ bootSelec5.dev.boot.toNat) := by
  refine ⟨?_, ?_, ?_, ?_, ?_⟩ <;> decide +kernel

/-- The hypotheses of ImagesAreReadAndLoaded are met together, clause by clause. -/
theorem witness_ImagesAreReadAndLoaded :
    (imagesRead3.boot.loading = true ∧
     imagesRead3.dev.inReset = none ∧
     imagesRead3.dev.phase = Phase.boot ∧
     imagesRead3.boot.source = 0#3 ∧
     imagesRead3.boot.rest = [] ∧
     (packBytes img).length % 3 = 0 ∧
     unpackBytes (packBytes img) = img ∧
     imagesRead3.boot.image.length < 16 ∧
     16 ≤ imagesRead3.boot.image.length + img.length ∧
     (readImage (imagesRead3.boot.image ++ img)).bad = none ∧
     (readImage (imagesRead3.boot.image ++ img)).part = LoadPart.done ∧
     ((((imagesRead3.updBoot fun b => { b with fetched := b.fetched + (packBytes img).length }).updBoot fun b => { b with image := b.image ++ img }).headChecked (readImage (imagesRead3.boot.image ++ img)).head).loadActs none (readImage (imagesRead3.boot.image ++ img)).acts.reverse).1 = none) ∧
    (imagesRead3.boot.loading = true ∧
     imagesRead3.dev.inReset = none ∧
     imagesRead3.dev.phase = Phase.boot ∧
     imagesRead3.boot.source = 0#3 ∧
     imagesRead3.boot.rest = [] ∧
     (packBytes (w3 ++ [4#12])).length % 3 = 0 ∧
     unpackBytes (packBytes (w3 ++ [4#12])) = w3 ++ [4#12] ∧
     imagesRead3.boot.image.length < 16 ∧
     imagesRead3.boot.image.length + (w3 ++ [4#12]).length < 16) ∧
    (imagesRead3.boot.loading = true ∧
     imagesRead3.dev.inReset = none ∧
     imagesRead3.dev.phase = Phase.boot ∧
     imagesRead3.boot.source = 0#3 ∧
     imagesRead3.boot.rest = [] ∧
     (packBytes [0#12, 0#12, 0#12, 0#12, 0#12, 0#12, 0#12, 0#12, 0#12, 0#12, 0#12, 0#12, 0#12, 0#12, 0#12, 0#12]).length % 3 = 0 ∧
     unpackBytes (packBytes [0#12, 0#12, 0#12, 0#12, 0#12, 0#12, 0#12, 0#12, 0#12, 0#12, 0#12, 0#12, 0#12, 0#12, 0#12, 0#12]) = imagesRead1 ∧
     imagesRead3.boot.image.length < 16 ∧
     16 ≤ imagesRead3.boot.image.length + imagesRead1.length ∧
     (readImage (imagesRead3.boot.image ++ imagesRead1)).bad = some (97#7, 0) ∧
     (readImage (imagesRead3.boot.image ++ imagesRead1)).acts = []) ∧
    (imagesRead4.boot.loading = true ∧
     imagesRead4.dev.inReset = none ∧
     imagesRead4.dev.phase = Phase.boot ∧
     imagesRead4.boot.source = 1#3 ∧
     imagesRead4.windowOk = true ∧
     imagesRead4.boot.image.length < 16 ∧
     16 ≤ imagesRead4.boot.image.length + img.length ∧
     (readImage (imagesRead4.boot.image ++ img)).bad = none ∧
     (readImage (imagesRead4.boot.image ++ img)).part = LoadPart.done ∧
     (((if (2 * imagesRead4.boot.image.length + 255) / 256 < (2 * (imagesRead4.boot.image.length + img.length) + 255) / 256 then imagesRead4.updSht fun x => { x with hostIn := List.map (fun k => (imagesRead4.base64 (shtBase + 16) + 256 * ((2 * imagesRead4.boot.image.length + 255) / 256 + k), 256)) (List.range ((2 * (imagesRead4.boot.image.length + img.length) + 255) / 256 - (2 * imagesRead4.boot.image.length + 255) / 256)) } else imagesRead4).updBoot fun b => { b with image := b.image ++ img }).loadActs none (readImage (imagesRead4.boot.image ++ img)).acts.reverse).1 = none) ∧
    (imagesRead4.boot.loading = true ∧
     imagesRead4.dev.inReset = none ∧
     imagesRead4.dev.phase = Phase.boot ∧
     imagesRead4.boot.source = 1#3 ∧
     imagesRead4.windowOk = true ∧
     imagesRead4.boot.image.length < 16 ∧
     imagesRead4.boot.image.length + (w3 ++ [4#12]).length < 16) ∧
    (imagesRead4.boot.loading = true ∧
     imagesRead4.dev.inReset = none ∧
     imagesRead4.dev.phase = Phase.boot ∧
     imagesRead4.boot.source = 1#3 ∧
     imagesRead4.windowOk = true ∧
     imagesRead4.boot.image.length < 16 ∧
     16 ≤ imagesRead4.boot.image.length + imagesRead1.length ∧
     (readImage (imagesRead4.boot.image ++ imagesRead1)).bad = some (97#7, 0) ∧
     (readImage (imagesRead4.boot.image ++ imagesRead1)).acts = []) ∧
    (imagesRead5.boot.loading = true ∧
     imagesRead5.dev.inReset = none ∧
     imagesRead5.dev.phase = Phase.boot ∧
     imagesRead5.boot.source = 0#3 ∧
     imagesRead5.boot.rest = [] ∧
     (packBytes (img2 ++ [0#12])).length % 3 = 0 ∧
     unpackBytes (packBytes (img2 ++ [0#12])) = img2 ++ [0#12] ∧
     imagesRead5.boot.image.length < 16 ∧
     16 ≤ imagesRead5.boot.image.length + (img2 ++ [0#12]).length ∧
     (readImage (imagesRead5.boot.image ++ (img2 ++ [0#12]))).bad = none ∧
     ((((imagesRead5.updBoot fun b => { b with fetched := b.fetched + (packBytes (img2 ++ [0#12])).length }).updBoot fun b => { b with image := b.image ++ (img2 ++ [0#12]) }).headChecked (readImage (imagesRead5.boot.image ++ (img2 ++ [0#12]))).head).loadActs none (readImage (imagesRead5.boot.image ++ (img2 ++ [0#12]))).acts.reverse).1 = some 22) ∧
    (imagesRead6.boot.loading = true ∧
     imagesRead6.dev.inReset = none ∧
     imagesRead6.dev.phase = Phase.boot ∧
     imagesRead6.boot.source = 1#3 ∧
     imagesRead6.windowOk = true ∧
     imagesRead6.boot.image.length < 16 ∧
     16 ≤ imagesRead6.boot.image.length + (img2 ++ [0#12]).length ∧
     (readImage (imagesRead6.boot.image ++ (img2 ++ [0#12]))).bad = none ∧
     (((if (2 * imagesRead6.boot.image.length + 255) / 256 < (2 * (imagesRead6.boot.image.length + (img2 ++ [0#12]).length) + 255) / 256 then imagesRead6.updSht fun x => { x with hostIn := List.map (fun k => (imagesRead6.base64 (shtBase + 16) + 256 * ((2 * imagesRead6.boot.image.length + 255) / 256 + k), 256)) (List.range ((2 * (imagesRead6.boot.image.length + (img2 ++ [0#12]).length) + 255) / 256 - (2 * imagesRead6.boot.image.length + 255) / 256)) } else imagesRead6).updBoot fun b => { b with image := b.image ++ (img2 ++ [0#12]) }).loadActs none (readImage (imagesRead6.boot.image ++ (img2 ++ [0#12]))).acts.reverse).1 = some 22) ∧
    (imagesRead7.boot.loading = true ∧
     imagesRead7.dev.inReset = none ∧
     imagesRead7.dev.phase = Phase.boot ∧
     imagesRead7.boot.source = 2#3 ∧
     imagesRead7.receives 0 = true ∧
     w3.length ≤ 15 ∧
     frameGood (6#4) (bootMail (0#24) hd w3) = false) ∧
    (imagesRead7.boot.loading = true ∧
     imagesRead7.dev.inReset = none ∧
     imagesRead7.dev.phase = Phase.boot ∧
     imagesRead7.boot.source = 2#3 ∧
     imagesRead7.receives 0 = true ∧
     w3.length ≤ 15 ∧
     frameGood (6#4) (bootMail (0#24) (fcrc (0#24) hd w3) w3) = true ∧
     (¬((imagesRead7.jport 0).rxSeq = some (fcrc (0#24) hd w3).lseq ∨ (fcrc (0#24) hd w3).src = imagesRead7.jsnId ∨ imagesRead7.seen { trip := false, kind := 6#4, origin := (fcrc (0#24) hd w3).src, line := 0#5, seq := (fcrc (0#24) hd w3).fseq, at_ := imagesRead7.fk : Dedupe } = true)) ∧
     (fcrc (0#24) hd w3).word2 = 0#12 ∧
     0 = imagesRead7.boot.image.length ∧
     imagesRead7.boot.image.length < 16 ∧
     imagesRead7.boot.image.length + w3.length < 16) ∧
    (imagesRead7.boot.loading = true ∧
     imagesRead7.dev.inReset = none ∧
     imagesRead7.dev.phase = Phase.boot ∧
     imagesRead7.boot.source = 2#3 ∧
     imagesRead7.receives 0 = true ∧
     w3.length ≤ 15 ∧
     frameGood (6#4) (bootMail (0#24) (fcrc 0#24 { hd with word2 := 1#12 } w3) w3) = true ∧
     (¬((imagesRead7.jport 0).rxSeq = some (fcrc 0#24 { hd with word2 := 1#12 } w3).lseq ∨ (fcrc 0#24 { hd with word2 := 1#12 } w3).src = imagesRead7.jsnId ∨ imagesRead7.seen { trip := false, kind := 6#4, origin := (fcrc 0#24 { hd with word2 := 1#12 } w3).src, line := 0#5, seq := (fcrc 0#24 { hd with word2 := 1#12 } w3).fseq, at_ := imagesRead7.fk : Dedupe } = true)) ∧
     (¬(fcrc 0#24 { hd with word2 := 1#12 } w3).word2 = 0#12 ∨ ¬0 = imagesRead7.boot.image.length)) ∧
    (imagesRead7.boot.loading = true ∧
     imagesRead7.dev.inReset = none ∧
     imagesRead7.dev.phase = Phase.boot ∧
     imagesRead7.boot.source = 2#3 ∧
     imagesRead7.receives 0 = true ∧
     w3.length ≤ 15 ∧
     frameGood (6#4) (bootMail (0#24) (fcrc 0#24 { hd with src := 273#12 } w3) w3) = true ∧
     ((imagesRead7.jport 0).rxSeq = some (fcrc 0#24 { hd with src := 273#12 } w3).lseq ∨ (fcrc 0#24 { hd with src := 273#12 } w3).src = imagesRead7.jsnId ∨ imagesRead7.seen { trip := false, kind := 6#4, origin := (fcrc 0#24 { hd with src := 273#12 } w3).src, line := 0#5, seq := (fcrc 0#24 { hd with src := 273#12 } w3).fseq, at_ := imagesRead7.fk : Dedupe } = true)) ∧
    (imagesRead9.boot.loading = true ∧
     imagesRead9.dev.inReset = none ∧
     imagesRead9.dev.phase = Phase.boot ∧
     imagesRead9.boot.source = 2#3 ∧
     ¬imagesRead9.boot.image = []) ∧
    (fit.boot.loading = true ∧
     fit.dev.inReset = none ∧
     fit.dev.phase = Phase.boot ∧
     fit.boot.source = 2#3 ∧
     fit.receives 0 = true ∧
     frameGood (6#4) (bootMail (10#24) (fcrc (10#24) hd [0#12, 0#12, 0#12, 0#12, 0#12, 0#12, 0#12, 0#12, 0#12, 0#12, 0#12, 0#12, 0#12, 0#12, 0#12]) [0#12, 0#12, 0#12, 0#12, 0#12, 0#12, 0#12, 0#12, 0#12, 0#12, 0#12, 0#12, 0#12, 0#12, 0#12]) = true ∧
     (¬((fit.jport 0).rxSeq = some (fcrc (10#24) hd [0#12, 0#12, 0#12, 0#12, 0#12, 0#12, 0#12, 0#12, 0#12, 0#12, 0#12, 0#12, 0#12, 0#12, 0#12]).lseq ∨ (fcrc (10#24) hd [0#12, 0#12, 0#12, 0#12, 0#12, 0#12, 0#12, 0#12, 0#12, 0#12, 0#12, 0#12, 0#12, 0#12, 0#12]).src = fit.jsnId ∨ fit.seen { trip := false, kind := 6#4, origin := (fcrc (10#24) hd [0#12, 0#12, 0#12, 0#12, 0#12, 0#12, 0#12, 0#12, 0#12, 0#12, 0#12, 0#12, 0#12, 0#12, 0#12]).src, line := 0#5, seq := (fcrc (10#24) hd [0#12, 0#12, 0#12, 0#12, 0#12, 0#12, 0#12, 0#12, 0#12, 0#12, 0#12, 0#12, 0#12, 0#12, 0#12]).fseq, at_ := fit.fk : Dedupe } = true)) ∧
     (fcrc (10#24) hd [0#12, 0#12, 0#12, 0#12, 0#12, 0#12, 0#12, 0#12, 0#12, 0#12, 0#12, 0#12, 0#12, 0#12, 0#12]).word2 = 0#12 ∧
     10 = fit.boot.image.length ∧
     fit.boot.image.length < 16 ∧
     16 ≤ fit.boot.image.length + 15 ∧
     (readImage (fit.boot.image ++ [0#12, 0#12, 0#12, 0#12, 0#12, 0#12, 0#12, 0#12, 0#12, 0#12, 0#12, 0#12, 0#12, 0#12, 0#12])).bad = some (97#7, 12) ∧
     (readImage (fit.boot.image ++ [0#12, 0#12, 0#12, 0#12, 0#12, 0#12, 0#12, 0#12, 0#12, 0#12, 0#12, 0#12, 0#12, 0#12, 0#12])).acts = []) ∧
    (fit2.boot.loading = true ∧
     fit2.dev.inReset = none ∧
     fit2.dev.phase = Phase.boot ∧
     fit2.boot.source = 2#3 ∧
     fit2.receives 0 = true ∧
     (List.drop 15 img).length ≤ 15 ∧
     frameGood (6#4) (bootMail (15#24) (fcrc (15#24) hd (List.drop 15 img)) (List.drop 15 img)) = true ∧
     (¬((fit2.jport 0).rxSeq = some (fcrc (15#24) hd (List.drop 15 img)).lseq ∨ (fcrc (15#24) hd (List.drop 15 img)).src = fit2.jsnId ∨ fit2.seen { trip := false, kind := 6#4, origin := (fcrc (15#24) hd (List.drop 15 img)).src, line := 0#5, seq := (fcrc (15#24) hd (List.drop 15 img)).fseq, at_ := fit2.fk : Dedupe } = true)) ∧
     (fcrc (15#24) hd (List.drop 15 img)).word2 = 0#12 ∧
     15 = fit2.boot.image.length ∧
     fit2.boot.image.length < 16 ∧
     16 ≤ fit2.boot.image.length + (List.drop 15 img).length ∧
     (readImage (fit2.boot.image ++ List.drop 15 img)).bad = none ∧
     (readImage (fit2.boot.image ++ List.drop 15 img)).part = LoadPart.done ∧
     ((((fit2.updPort 0 fun x => { x with rxSeq := some (fcrc (15#24) hd (List.drop 15 img)).lseq, acked := some (fcrc (15#24) hd (List.drop 15 img)).lseq, sent := x.sent ++ [frameSymbols [BitVec.ofNat 8 (112 + (fcrc (15#24) hd (List.drop 15 img)).lseq.toNat)]] }).enterCache { trip := false, kind := 6#4, origin := (fcrc (15#24) hd (List.drop 15 img)).src, line := 0#5, seq := (fcrc (15#24) hd (List.drop 15 img)).fseq, at_ := fit2.fk : Dedupe }).updBoot fun b => { b with image := b.image ++ List.drop 15 img }).loadActs none (readImage (fit2.boot.image ++ List.drop 15 img)).acts.reverse).1 = none) ∧
    (fit3.boot.loading = true ∧
     fit3.dev.inReset = none ∧
     fit3.dev.phase = Phase.boot ∧
     fit3.boot.source = 2#3 ∧
     fit3.receives 0 = true ∧
     (List.drop 15 img2).length ≤ 15 ∧
     frameGood (6#4) (bootMail (15#24) (fcrc (15#24) hd (List.drop 15 img2)) (List.drop 15 img2)) = true ∧
     (¬((fit3.jport 0).rxSeq = some (fcrc (15#24) hd (List.drop 15 img2)).lseq ∨ (fcrc (15#24) hd (List.drop 15 img2)).src = fit3.jsnId ∨ fit3.seen { trip := false, kind := 6#4, origin := (fcrc (15#24) hd (List.drop 15 img2)).src, line := 0#5, seq := (fcrc (15#24) hd (List.drop 15 img2)).fseq, at_ := fit3.fk : Dedupe } = true)) ∧
     (fcrc (15#24) hd (List.drop 15 img2)).word2 = 0#12 ∧
     15 = fit3.boot.image.length ∧
     fit3.boot.image.length < 16 ∧
     16 ≤ fit3.boot.image.length + (List.drop 15 img2).length ∧
     (readImage (fit3.boot.image ++ List.drop 15 img2)).bad = none ∧
     ((((fit3.updPort 0 fun x => { x with rxSeq := some (fcrc (15#24) hd (List.drop 15 img2)).lseq, acked := some (fcrc (15#24) hd (List.drop 15 img2)).lseq, sent := x.sent ++ [frameSymbols [BitVec.ofNat 8 (112 + (fcrc (15#24) hd (List.drop 15 img2)).lseq.toNat)]] }).enterCache { trip := false, kind := 6#4, origin := (fcrc (15#24) hd (List.drop 15 img2)).src, line := 0#5, seq := (fcrc (15#24) hd (List.drop 15 img2)).fseq, at_ := fit3.fk : Dedupe }).updBoot fun b => { b with image := b.image ++ List.drop 15 img2 }).loadActs none (readImage (fit3.boot.image ++ List.drop 15 img2)).acts.reverse).1 = some 22) := by
  refine ⟨?_, ?_, ?_, ?_, ?_, ?_, ?_, ?_, ?_, ?_, ?_, ?_, ?_, ?_, ?_, ?_⟩ <;> decide +kernel

/-- The hypotheses of TheReaderChecksTheImage are met together, clause by clause. -/
theorem witness_TheReaderChecksTheImage :
    (readerCheck1.length = 16 ∧
     ¬wordAt readerCheck1 0 = 3404#12) ∧
    (readerCheck2.length = 16 ∧
     wordAt readerCheck2 0 = 3404#12 ∧
     ¬wordAt readerCheck2 1 = 1601#12) ∧
    (readerCheck3.length = 16 ∧
     wordAt readerCheck3 0 = 3404#12 ∧
     wordAt readerCheck3 1 = 1601#12 ∧
     ¬wordAt readerCheck3 2 = 1#12) ∧
    (readerCheck4.length = 16 ∧
     wordAt readerCheck4 0 = 3404#12 ∧
     wordAt readerCheck4 1 = 1601#12 ∧
     wordAt readerCheck4 2 = 1#12 ∧
     ¬List.take 3 (List.drop 12 readerCheck4) = crc32Words (headCrc readerCheck4)) := by
  refine ⟨?_, ?_, ?_, ?_⟩ <;> decide +kernel

/-- The hypotheses of SetupRecordsArePerformed are met together, clause by clause. -/
theorem witness_SetupRecordsArePerformed :
    (setupRecor1.dev.inReset = none ∧
     setupRecor1.dev.phase = Phase.setup ∧
     setupRecor1.boot.loading = false ∧
     setupRecor1.boot.stopped = false ∧
     setupRecor1.boot.records = [(BitVec.ofNat 24 clkBase, 1024#12, 7)] ∧
     (isSv (BitVec.ofNat 24 clkBase).toNat = false ∨ setupRecor1.isSel 0 = true) ∧
     ((setupRecor1.stage.updBoot fun b => b).writeReg (if recordBySvp (BitVec.ofNat 24 clkBase).toNat = true then Master.svp 0 0 else Master.engine 0 0 true) (BitVec.ofNat 24 clkBase).toNat 1024#12).fst = true) ∧
    (setupRecor1.dev.inReset = none ∧
     setupRecor1.dev.phase = Phase.setup ∧
     setupRecor1.boot.loading = false ∧
     setupRecor1.boot.stopped = false ∧
     setupRecor1.boot.records = [(BitVec.ofNat 24 clkBase, 1024#12, 7)] ∧
     (¬setup.boot.records = [] ∨ setup.boot.auto = false ∨ ¬setup.dev.phase = Phase.setup)) ∧
    (setupRecor1.dev.inReset = none ∧
     setupRecor1.dev.phase = Phase.setup ∧
     setupRecor1.boot.loading = false ∧
     setupRecor1.boot.stopped = false ∧
     setupRecor1.boot.records = [(BitVec.ofNat 24 clkBase, 1024#12, 7)] ∧
     (setup.updBoot fun b => { b with auto := true }).boot.records = [] ∧
     (setup.updBoot fun b => { b with auto := true }).boot.stopped = false ∧
     (setup.updBoot fun b => { b with auto := true }).boot.auto = true ∧
     (setup.updBoot fun b => { b with auto := true }).dev.phase = Phase.setup) ∧
    (setupRecor4.dev.inReset = none ∧
     setupRecor4.dev.phase = Phase.setup ∧
     setupRecor4.boot.loading = false ∧
     setupRecor4.boot.stopped = false ∧
     setupRecor4.boot.records = [(BitVec.ofNat 24 (selBase + 3), 5#12, 7)] ∧
     isSv (BitVec.ofNat 24 (selBase + 3)).toNat = true ∧
     setupRecor4.isSel 0 = false) ∧
    (setupRecor5.dev.inReset = none ∧
     setupRecor5.dev.phase = Phase.setup ∧
     setupRecor5.boot.loading = false ∧
     setupRecor5.boot.stopped = false ∧
     setupRecor5.boot.records = [(BitVec.ofNat 24 (selBase + 3), 0#12, 7)] ∧
     (isSv (BitVec.ofNat 24 (selBase + 3)).toNat = false ∨ setupRecor5.isSel 0 = true) ∧
     ((setupRecor5.stage.updBoot fun b => b).writeReg (if recordBySvp (BitVec.ofNat 24 (selBase + 3)).toNat = true then Master.svp 0 0 else Master.engine 0 0 true) (BitVec.ofNat 24 (selBase + 3)).toNat 0#12).fst = false) := by
  refine ⟨?_, ?_, ?_, ?_, ?_⟩ <;> decide +kernel

/-- The hypotheses of TheMonitorReadsAndWritesMemory are met together, clause by clause. -/
theorem witness_TheMonitorReadsAndWritesMemory :
    (mm.monitorOn = true ∧
     mm.memCanonical = true ∧
     (258 ≤ 16777216 ∧ ∀ (k : Nat), k < 2 → (regionOf (BitVec.ofNat 24 (256 + k))).isData = true ∧ mm.cutOff Master.monitor (BitVec.ofNat 24 (256 + k)) = false ∧ mm.refuses Master.monitor (BitVec.ofNat 24 (256 + k)) false = false ∧ mm.refuses Master.monitor (BitVec.ofNat 24 (256 + k)) true = false) ∧
     (∀ (k : Nat), k < 2 → mm.wordGood (BitVec.ofNat 24 (256 + k)) = true) ∧
     ¬[] = packBytes (List.map (fun k => if k < 2 then mm.memWord (256 + k) else 0#12) (List.range 2))) ∧
    (mm.monitorOn = true ∧
     mm.memCanonical = true ∧
     (258 ≤ 16777216 ∧ ∀ (k : Nat), k < 2 → (regionOf (BitVec.ofNat 24 (256 + k))).isData = true ∧ mm.cutOff Master.monitor (BitVec.ofNat 24 (256 + k)) = false ∧ mm.refuses Master.monitor (BitVec.ofNat 24 (256 + k)) false = false ∧ mm.refuses Master.monitor (BitVec.ofNat 24 (256 + k)) true = false) ∧
     (∀ (k : Nat), k < 2 → mm.wordGood (BitVec.ofNat 24 (256 + k)) = true) ∧
     (274 ≤ 16777216 ∧ ∀ (k : Nat), k < 2 → (regionOf (BitVec.ofNat 24 (272 + k))).isData = true ∧ mm.cutOff Master.monitor (BitVec.ofNat 24 (272 + k)) = false ∧ mm.refuses Master.monitor (BitVec.ofNat 24 (272 + k)) false = false ∧ mm.refuses Master.monitor (BitVec.ofNat 24 (272 + k)) true = false) ∧
     (∀ (k : Nat), k < 2 → mm.wordGood (BitVec.ofNat 24 (272 + k)) = true)) ∧
    (mm.monitorOn = true ∧
     mm.memCanonical = true ∧
     (258 ≤ 16777216 ∧ ∀ (k : Nat), k < 2 → (regionOf (BitVec.ofNat 24 (256 + k))).isData = true ∧ mm.cutOff Master.monitor (BitVec.ofNat 24 (256 + k)) = false ∧ mm.refuses Master.monitor (BitVec.ofNat 24 (256 + k)) false = false ∧ mm.refuses Master.monitor (BitVec.ofNat 24 (256 + k)) true = false) ∧
     (∀ (k : Nat), k < 2 → mm.wordGood (BitVec.ofNat 24 (256 + k)) = true) ∧
     (274 ≤ 16777216 ∧ ∀ (k : Nat), k < 2 → (regionOf (BitVec.ofNat 24 (272 + k))).isData = true ∧ mm.cutOff Master.monitor (BitVec.ofNat 24 (272 + k)) = false ∧ mm.refuses Master.monitor (BitVec.ofNat 24 (272 + k)) false = false ∧ mm.refuses Master.monitor (BitVec.ofNat 24 (272 + k)) true = false) ∧
     (258 ≤ 272 ∨ 274 ≤ 256)) ∧
    (mm.monitorOn = true ∧
     mm.memCanonical = true ∧
     (258 ≤ 16777216 ∧ ∀ (k : Nat), k < 2 → (regionOf (BitVec.ofNat 24 (256 + k))).isData = true ∧ mm.cutOff Master.monitor (BitVec.ofNat 24 (256 + k)) = false ∧ mm.refuses Master.monitor (BitVec.ofNat 24 (256 + k)) false = false ∧ mm.refuses Master.monitor (BitVec.ofNat 24 (256 + k)) true = false) ∧
     (∀ (k : Nat), k < 2 → mm.wordGood (BitVec.ofNat 24 (256 + k)) = true) ∧
     packBytes [5#12, 6#12] = packBytes (List.map (fun k => if k < 2 then mm.memWord (256 + k) else 0#12) (List.range 2))) ∧
    (mm.monitorOn = true ∧
     ¬5 = 0) := by
  refine ⟨?_, ?_, ?_, ?_, ?_⟩ <;> decide +kernel

/-- The hypotheses of TheMonitorReachesTheDevice are met together, clause by clause. -/
theorem witness_TheMonitorReachesTheDevice :
    (run.monitorOn = true ∧
     8388608 ≤ (BitVec.ofNat 24 clkBase).toNat ∧
     (BitVec.ofNat 24 clkBase).toNat ≤ 8716287 ∧
     run.cutOff Master.monitor (BitVec.ofNat 24 clkBase) = false ∧
     (regInfo (BitVec.ofNat 24 clkBase).toNat).isSome = true) ∧
    (run.monitorOn = true ∧
     ¬run.dev.phase = Phase.setup) ∧
    (run.monitorOn = true ∧
     run.inRun = true ∧
     run.cutOff Master.monitor (BitVec.ofNat 24 (engBase 0)) = false ∧
     run.boot.breakpoints.length < 4 ∧
     ¬(0, 5#17) ∈ run.boot.breakpoints) ∧
    (run.monitorOn = true ∧
     run.cutOff Master.monitor (BitVec.ofNat 24 (engBase 0)) = false ∧
     (run.woken (BitVec.ofNat 24 (engBase 0))).currentFrame 0 0 = none) ∧
    (run.monitorOn = true ∧
     run.findRecord 0#36 = none) ∧
    (run.monitorOn = true ∧
     lineCommand [75#8, 32#8, 49#8] [] { : LineEnds } = none) ∧
    (run.monitorOn = true ∧
     (5 < 8388608 ∨ 8716287 < 5)) ∧
    (monitorReach1.monitorOn = true ∧
     monitorReach1.setupOrRun = true ∧
     (monitorReach1.gauge 0).armed = true) ∧
    (setup.monitorOn = true ∧
     setup.dev.phase = Phase.setup) ∧
    (setup.monitorOn = true ∧
     setup.inRun = false) ∧
    (monitorReach3.monitorOn = false ∧
     (Instr.monitorG [] = Instr.monitorA (BitVec.ofNat 24 clkBase) [] [] ∨ Instr.monitorG [] = Instr.monitorE (BitVec.ofNat 24 clkBase) 1 [] ∨ Instr.monitorG [] = Instr.monitorF (BitVec.ofNat 24 clkBase) 1 1024#12 [] ∨ Instr.monitorG [] = Instr.monitorC (BitVec.ofNat 24 clkBase) (256#24) 1 [] ∨ Instr.monitorG [] = Instr.monitorM (BitVec.ofNat 24 clkBase) (256#24) 1 [] ∨ Instr.monitorG [] = Instr.monitorS (BitVec.ofNat 24 clkBase) 1 1024#12 0#12 [] ∨ Instr.monitorG [] = Instr.monitorI (BitVec.ofNat 24 clkBase) [] ∨ Instr.monitorG [] = Instr.monitorO (BitVec.ofNat 24 clkBase) 1024#12 [] ∨ Instr.monitorG [] = Instr.monitorG [] ∨ Instr.monitorG [] = Instr.monitorGThread 0 0 none [] ∨ Instr.monitorG [] = Instr.monitorGThread 0 0 (some 5#17) [] ∨ Instr.monitorG [] = Instr.monitorH 0 0 [] ∨ Instr.monitorG [] = Instr.monitorL 0 [] ∨ Instr.monitorG [] = Instr.monitorT 0 0 [] ∨ Instr.monitorG [] = Instr.monitorK [] ∨ Instr.monitorG [] = Instr.monitorV (0#36) 1 [] ∨ Instr.monitorG [] = Instr.monitorX 0 true [] ∨ Instr.monitorG [] = Instr.monitorW (4096#24) 1 (BitVec.ofNat 24 clkBase) [] [] ∨ Instr.monitorG [] = Instr.monitorQ 0 [] LoadEnd.ok)) ∧
    (monitorReach4.monitorOn = true ∧
     monitorReach4.findRecord 0#36 = some (Vector.replicate 16 0#12) ∧
     (∀ (k : Nat), k < 16 → monitorReach4.wordGood (BitVec.ofNat 24 (slotAddr 0#36 + k)) = true)) ∧
    (monitorReach5.monitorOn = true ∧
     monitorReach5.inRun = true ∧
     monitorReach5.cutOff Master.monitor (BitVec.ofNat 24 (engBase 0)) = false ∧
     4 ≤ monitorReach5.boot.breakpoints.length ∧
     ¬(0, 5#17) ∈ monitorReach5.boot.breakpoints) := by
  refine ⟨?_, ?_, ?_, ?_, ?_, ?_, ?_, ?_, ?_, ?_, ?_, ?_, ?_⟩ <;> decide +kernel

/-- The hypotheses of StoredRegistersTakeWrites are met together, clause by clause. -/
theorem witness_StoredRegistersTakeWrites :
    ((regionOf (BitVec.ofNat 24 devBase) = Region.regs ∨ regionOf (BitVec.ofNat 24 devBase) = Region.reserved) ∧
     run.live (eStore 0 0) = true ∧
     run.cutOff (eStore 0 0) (BitVec.ofNat 24 devBase) = false ∧
     regInfo (BitVec.ofNat 24 devBase).toNat = some { acc := Acc.ro, reset := 688 : RegInfo } ∧
     run.accOk (eStore 0 0) (BitVec.ofNat 24 devBase).toNat { acc := Acc.ro, reset := 688 : RegInfo } = true) ∧
    ((regionOf (BitVec.ofNat 24 (devBase + 3840)) = Region.regs ∨ regionOf (BitVec.ofNat 24 (devBase + 3840)) = Region.reserved) ∧
     run.live (eStore 0 0) = true ∧
     run.cutOff (eStore 0 0) (BitVec.ofNat 24 (devBase + 3840)) = false ∧
     regInfo (BitVec.ofNat 24 (devBase + 3840)).toNat = none) ∧
    (¬regionOf 4718592#24 = Region.regs ∧
     ¬regionOf 4718592#24 = Region.reserved) ∧
    (run.canWrite svp (wdgBase + 1) = true ∧
     ((wdgBase + 1) / 4096 = 2049 ∨ (wdgBase + 1) / 4096 = 2070 ∨ ((wdgBase + 1) / 4096 = 2052 ∨ (wdgBase + 1) / 4096 = 2053) ∧ ((wdgBase + 1) % 4096 % 1024 = 1 ∨ (wdgBase + 1) % 4096 % 1024 = 2) ∨ (wdgBase + 1) / 4096 = 2056 ∧ 256 ≤ (wdgBase + 1) % 4096 ∧ ¬(wdgBase + 1) % 4096 % 8 = 0 ∨ (wdgBase + 1) / 4096 = 2057 ∧ (wdgBase + 1) % 4096 < 2 ∨ (wdgBase + 1) / 4096 = 2064 ∧ (3 ≤ (wdgBase + 1) % 4096 ∧ (wdgBase + 1) % 4096 < 16 ∨ 22 ≤ (wdgBase + 1) % 4096 ∧ (wdgBase + 1) % 4096 < 256 ∨ 512 ≤ (wdgBase + 1) % 4096 ∧ (wdgBase + 1) % 4096 < 768 ∧ (wdgBase + 1) % 4096 % 32 = 8) ∨ (wdgBase + 1) / 4096 = 2068 ∧ (32 ≤ (wdgBase + 1) % 4096 ∧ (wdgBase + 1) % 4096 ≤ 34 ∨ 64 ≤ (wdgBase + 1) % 4096 ∧ (wdgBase + 1) % 4096 ≤ 67) ∨ (wdgBase + 1) / 4096 = 2115 ∧ (wdgBase + 1) % 4096 < 7 ∨ 2080 ≤ (wdgBase + 1) / 4096 ∧ (wdgBase + 1) / 4096 ≤ 2083 ∧ (1 ≤ (wdgBase + 1) % 256 ∧ (wdgBase + 1) % 256 ≤ 3 ∨ 16 ≤ (wdgBase + 1) % 256 ∧ (wdgBase + 1) % 256 ≤ 25)) ∧
     run.regsCanonical = true ∧
     ¬5 = wdgBase + 1) ∧
    ((regionOf (BitVec.ofNat 24 (selBase + 3)) = Region.regs ∨ regionOf (BitVec.ofNat 24 (selBase + 3)) = Region.reserved) ∧
     run.live Master.monitor = true ∧
     run.cutOff Master.monitor (BitVec.ofNat 24 (selBase + 3)) = false ∧
     regInfo (BitVec.ofNat 24 (selBase + 3)).toNat = some { acc := Acc.sv, reset := 10, mask := 63 : RegInfo } ∧
     run.accOk Master.monitor (BitVec.ofNat 24 (selBase + 3)).toNat { acc := Acc.sv, reset := 10, mask := 63 : RegInfo } = false) := by
  refine ⟨?_, ?_, ?_, ?_, ?_⟩ <;> decide +kernel

/-- The hypotheses of DeviceIdIsNeverZero are met together, clause by clause. -/
theorem witness_DeviceIdIsNeverZero :
    (setup.regsCanonical = true ∧
     setup.canWrite (eStore 0 0) jsnBase = true ∧
     ¬4095#12 = 0#12 ∧
     ¬5 = jsnBase) := by
  decide +kernel

/-- The hypotheses of IllegalShapesAreRefused are met together, clause by clause. -/
theorem witness_IllegalShapesAreRefused :
    (setup.live (eStore 0 0) = true ∧
     (false = true ∧ 2 ≤ 0 ∨ 3 = 3) ∧
     setup.cutOff (eStore 0 0) (BitVec.ofNat 24 (engBase 0)) = false) := by
  decide +kernel

/-- The hypotheses of TmTakesEffectTwoMovesLater are met together, clause by clause. -/
theorem witness_TmTakesEffectTwoMovesLater :
    (run.accepts 0 0 90 1024#12 = true ∧
     (run.thr 0 0).tmNow.getLsbD 11 = true) ∧
    (run.accepts 0 0 90 1024#12 = true ∧
     ¬(1 : Thr) = (0 : Thr)) ∧
    (tmTakes1.accepts 0 0 90 1024#12 = true ∧
     (tmTakes1.thr 0 0).tmNow.getLsbD 11 = false) ∧
    (¬32 = 90 ∧
     ¬32 = 91) := by
  refine ⟨?_, ?_, ?_, ?_⟩ <;> decide +kernel

/-- The hypotheses of StrayLanesRunTheirOwnState are met together, clause by clause. -/
theorem witness_StrayLanesRunTheirOwnState :
    (laneEng (Instr.aluAdd 0 0 5#12) = some 0 ∧
     (p1.heddle 0).commits? Lane.c = true ∧
     (p1.eng 0).apart Lane.c = true) := by
  decide +kernel

/-- The hypotheses of OneLaneIsStruck are met together, clause by clause. -/
theorem witness_OneLaneIsStruck :
    (ups.together 0 = true ∧
     (ups.eng 0).cur = some 0 ∧
     ups.canMove 0 0 = true ∧
     ups.eventNow 0 0 = none ∧
     (ups.thr 0 0).tmNow.getLsbD 10 = false ∧
     (∀ (b : Eng × PAddr), b ∈ ups.boot.breakpoints → ¬b = (0, (ups.thr 0 0).pc)) ∧
     (∃ q, (ups.eng 0).line 0 (ups.thr 0 0).pc = some q ∧ q.good (ups.thr 0 0).pc = true ∧ q.word (ups.thr 0 0).pc = BitVec.ofNat 14 (640 + ↑7)) ∧
     ¬↑7 = 0 ∧
     ¬Lane.c = Lane.a ∧
     (ups.heddle 0).commits? Lane.a = true ∧
     (ups.heddle 0).commits? Lane.c = true) := by
  refine ⟨?_, ?_, ?_, ?_, ?_, noneOf ?_, ?_⟩ <;> decide +kernel

/-- The hypotheses of MachineLevelStoresComplete are met together, clause by clause. -/
theorem witness_MachineLevelStoresComplete :
    ((machineLevel1.thr 0 0).machine = true ∧
     ((regionOf (joinW (machineLevel1.thr 0 0).lsu.seg 254#12)).isData = true ∧ machineLevel1.refuses (Master.engine 0 0 true) (joinW (machineLevel1.thr 0 0).lsu.seg 254#12) true = false) ∧
     ((regionOf (joinW (machineLevel1.thr 0 0).lsu.seg 255#12)).isData = true ∧ machineLevel1.refuses (Master.engine 0 0 true) (joinW (machineLevel1.thr 0 0).lsu.seg 255#12) true = false) ∧
     machineLevel1.accepts 0 0 69 256#12 = true ∧
     (((outState (exec (Instr.lsuStpd 0 0 256#12) machineLevel1)).eng 0).sbuf[(machineLevel1.eng 0).sbuf.length]?).isSome = true) ∧
    ((machineLevel1.thr 0 0).machine = true ∧
     ((regionOf (joinW (machineLevel1.thr 0 0).lsu.seg 254#12)).isData = true ∧ machineLevel1.refuses (Master.engine 0 0 true) (joinW (machineLevel1.thr 0 0).lsu.seg 254#12) true = false) ∧
     ((regionOf (joinW (machineLevel1.thr 0 0).lsu.seg 255#12)).isData = true ∧ machineLevel1.refuses (Master.engine 0 0 true) (joinW (machineLevel1.thr 0 0).lsu.seg 255#12) true = false) ∧
     machineLevel1.accepts 0 0 69 256#12 = true ∧
     ¬(1 : Thr) = (0 : Thr)) ∧
    ((machineLevel1.thr 0 0).machine = true ∧
     ((regionOf (joinW (machineLevel1.thr 0 0).lsu.seg 255#12)).isData = true ∧ machineLevel1.refuses (Master.engine 0 0 true) (joinW (machineLevel1.thr 0 0).lsu.seg 255#12) true = false) ∧
     machineLevel1.accepts 0 0 70 256#12 = true ∧
     (((outState (exec (Instr.lsuSt1pd 0 0 256#12) machineLevel1)).eng 0).sbuf[(machineLevel1.eng 0).sbuf.length]?).isSome = true) ∧
    ((machineLevel1.thr 0 0).machine = true ∧
     ((regionOf (joinW (machineLevel1.thr 0 0).lsu.seg 255#12)).isData = true ∧ machineLevel1.refuses (Master.engine 0 0 true) (joinW (machineLevel1.thr 0 0).lsu.seg 255#12) true = false) ∧
     machineLevel1.accepts 0 0 70 256#12 = true ∧
     ¬(1 : Thr) = (0 : Thr)) ∧
    ((machineLevel1.thr 0 0).machine = true ∧
     (machineLevel1.thr 0 0).lsu.ctl.getLsbD 3 = false ∧
     ((regionOf (joinW (machineLevel1.thr 0 0).lsu.seg (256#12 + (machineLevel1.thr 0 0).lsu.x))).isData = true ∧ machineLevel1.refuses (Master.engine 0 0 true) (joinW (machineLevel1.thr 0 0).lsu.seg (256#12 + (machineLevel1.thr 0 0).lsu.x)) true = false) ∧
     machineLevel1.accepts 0 0 74 256#12 = true ∧
     (((outState (exec (Instr.lsuStb 0 0 256#12) machineLevel1)).eng 0).sbuf[(machineLevel1.eng 0).sbuf.length]?).isSome = true) ∧
    ((machineLevel1.thr 0 0).machine = true ∧
     (machineLevel1.thr 0 0).lsu.ctl.getLsbD 3 = false ∧
     ((regionOf (joinW (machineLevel1.thr 0 0).lsu.seg (256#12 + (machineLevel1.thr 0 0).lsu.x))).isData = true ∧ machineLevel1.refuses (Master.engine 0 0 true) (joinW (machineLevel1.thr 0 0).lsu.seg (256#12 + (machineLevel1.thr 0 0).lsu.x)) true = false) ∧
     machineLevel1.accepts 0 0 74 256#12 = true ∧
     ¬(1 : Thr) = (0 : Thr)) ∧
    ((machineLevel1.thr 0 0).machine = true ∧
     (machineLevel1.thr 0 0).lsu.ctl.toNat % 4 = 0 ∧
     (machineLevel1.thr 0 0).lsu.ctl.getLsbD 3 = false ∧
     ((regionOf (joinW (machineLevel1.thr 0 0).lsu.seg (256#12 + (machineLevel1.thr 0 0).lsu.x * 1#12))).isData = true ∧ machineLevel1.refuses (Master.engine 0 0 true) (joinW (machineLevel1.thr 0 0).lsu.seg (256#12 + (machineLevel1.thr 0 0).lsu.x * 1#12)) true = false) ∧
     machineLevel1.accepts 0 0 72 256#12 = true ∧
     (((outState (exec (Instr.lsuStx 0 0 256#12) machineLevel1)).eng 0).sbuf[(machineLevel1.eng 0).sbuf.length]?).isSome = true) ∧
    ((machineLevel1.thr 0 0).machine = true ∧
     (machineLevel1.thr 0 0).lsu.ctl.toNat % 4 = 0 ∧
     (machineLevel1.thr 0 0).lsu.ctl.getLsbD 3 = false ∧
     ((regionOf (joinW (machineLevel1.thr 0 0).lsu.seg (256#12 + (machineLevel1.thr 0 0).lsu.x * 1#12))).isData = true ∧ machineLevel1.refuses (Master.engine 0 0 true) (joinW (machineLevel1.thr 0 0).lsu.seg (256#12 + (machineLevel1.thr 0 0).lsu.x * 1#12)) true = false) ∧
     machineLevel1.accepts 0 0 72 256#12 = true ∧
     ¬(1 : Thr) = (0 : Thr)) ∧
    ((machineLevel1.thr 0 0).machine = true ∧
     machineLevel1.accepts 0 0 75 256#12 = true) ∧
    ((machineLevel6.thr 0 0).machine = true ∧
     machineLevel6.together 0 = true ∧
     machineLevel6.still 0 = false ∧
     (machineLevel6.thr 0 0).lsu.fence = true ∧
     (machineLevel6.eng 0).sbuf = [] ∧
     (machineLevel6.eng 0).out = [] ∧
     ¬(1 : Thr) = (0 : Thr)) ∧
    ((machineLevel7.thr 0 0).machine = true ∧
     machineLevel7.together 0 = true ∧
     machineLevel7.still 0 = false ∧
     machineLevel7.memCanonical = true ∧
     (machineLevel7.eng 0).sbuf = (((machineLevel7.eng 0).sbuf).head (by decide +kernel)) :: (machineLevel7.eng 0).sbuf.tail ∧
     ((((machineLevel7.eng 0).sbuf).head (by decide +kernel))).t = 0 ∧
     ((((machineLevel7.eng 0).sbuf).head (by decide +kernel))).machine = true ∧
     ((((machineLevel7.eng 0).sbuf).head (by decide +kernel))).sent = true ∧
     ((((machineLevel7.eng 0).sbuf).head (by decide +kernel))).data2 = none ∧
     ((regionOf ((((machineLevel7.eng 0).sbuf).head (by decide +kernel))).pa).isData = true ∧ machineLevel7.refuses (Master.engine 0 0 true) ((((machineLevel7.eng 0).sbuf).head (by decide +kernel))).pa true = false) ∧
     machineLevel7.asleep ((((machineLevel7.eng 0).sbuf).head (by decide +kernel))).pa = false ∧
     machineLevel7.cutOff (Master.engine 0 0 true) ((((machineLevel7.eng 0).sbuf).head (by decide +kernel))).pa = false) := by
  refine ⟨?_, ?_, ?_, ?_, ?_, ?_, ?_, ?_, ?_, ?_, ?_⟩ <;> decide +kernel

/-- The hypotheses of FillsAndCacheCommandsComplete are met together, clause by clause. -/
theorem witness_FillsAndCacheCommandsComplete :
    (fillsCache1.together 0 = true ∧
     fillsCache1.still 0 = false ∧
     ((fillsCache1.eng 0).nextFill).isSome = true ∧
     fillsCache1.asleep (lineAddr (Eng.cluster 0) ((((fillsCache1.eng 0).nextFill).get (by decide +kernel))).num) = false ∧
     fillsCache1.cutOff (Master.engine 0 ((((fillsCache1.eng 0).nextFill).get (by decide +kernel))).t true) (lineAddr (Eng.cluster 0) ((((fillsCache1.eng 0).nextFill).get (by decide +kernel))).num) = false ∧
     (∀ (k : Nat), k < 8 → fillsCache1.wordGood (lineAddr (Eng.cluster 0) ((((fillsCache1.eng 0).nextFill).get (by decide +kernel))).num + BitVec.ofNat 24 (2 * k)) = true) ∧
     ((fillsCache1.eng 0).cached ((((fillsCache1.eng 0).nextFill).get (by decide +kernel))).num).isNone = true ∧
     (((((fillsCache1.eng 0).nextFill).get (by decide +kernel))).kind = FillKind.fetch ∧ ((fillsCache1.eng 0).set ((((fillsCache1.eng 0).nextFill).get (by decide +kernel))).num).pins ≤ 3 ∨ ((((fillsCache1.eng 0).nextFill).get (by decide +kernel))).kind = FillKind.pin ∧ ((fillsCache1.eng 0).set ((((fillsCache1.eng 0).nextFill).get (by decide +kernel))).num).pins < 3)) ∧
    (fillsCache1.accepts 0 0 95 40#12 = true) ∧
    (fillsCache1.accepts 0 0 95 41#12 = true) ∧
    (fillsCache5.accepts 0 0 93 40#12 = true ∧
     ((fillsCache5.eng 0).cached (BitVec.setWidth 14 ((BitVec.setWidth 5 (fillsCache5.thr 0 0).icuAh ++ 40#12) >>> 3))).isSome = true) ∧
    (fillsCache5.accepts 0 0 94 40#12 = true ∧
     ((fillsCache5.eng 0).cached (BitVec.setWidth 14 ((BitVec.setWidth 5 (fillsCache5.thr 0 0).icuAh ++ 40#12) >>> 3))).isSome = true ∧
     ((fillsCache5.eng 0).set (BitVec.setWidth 14 ((BitVec.setWidth 5 (fillsCache5.thr 0 0).icuAh ++ 40#12) >>> 3))).pins < 3) := by
  refine ⟨?_, ?_, ?_, ?_, ?_⟩ <;> decide +kernel

/-- The hypotheses of WaveformsAreCodedAndRecorded are met together, clause by clause. -/
theorem witness_WaveformsAreCodedAndRecorded :
    ((2 * (5 - roundEven 5 1 * 2) = 2 ∨ 2 * (5 - roundEven 5 1 * 2) = -2)) ∧
    ((0 : Int) ≤ (3 : Int)) ∧
    (-3 < 0) ∧
    (0 < riceParam [3, 40, 2]) ∧
    ((some (4 : Int)).isSome = true) ∧
    (((waveRecords [true, false, true])[0]?).isSome = true) ∧
    (waveformsCoded2.rcd.wave = some waveformsCoded1 ∧
     waveformsCoded1.ok = true ∧
     waveformsCoded2.pathValid waveformsCoded1.ch (waveformsCoded2.bobFast waveformsCoded1.ch) = true ∧
     waveformsCoded1.t + waveformsCoded1.a ≤ waveformsCoded2.bobAvail waveformsCoded1.ch waveformsCoded1.cl ∧
     (waveformsCoded2.clu waveformsCoded1.cl).iso = false) := by
  refine ⟨?_, ?_, ?_, ?_, ?_, ?_, ?_⟩ <;> decide +kernel

/-! ### Statements over grants: the check field is a free function, so these are shown by the lemmas of Laws/Grants -/

/-- A handle written into the three words at `a`. -/
def grantAt (a : Nat) (h : BitVec 36) (s : State) : State :=
  { s with regs := (a, h.extractLsb' 0 12) :: (a + 1, h.extractLsb' 12 12) :: (a + 2, h.extractLsb' 24 12) :: s.regs }
/-- `ringsD` with no grant valid, and the enabled SQ 1's registers. -/
def noGrants : State := ringsD.updSht fun x => { x with grants := Vector.replicate 512 {} }
def sq1 : State := wr rings [(sqReg 1 6, 0)]
/-- SQ 0 enabled with a ring grant of entry 3 (the descriptor's grant is entry 4), and the same with no entry valid. -/
def ringsH : State := grantAt (sqReg 0 7) (ringsD.handle 3 0) ringsD
def ringsF : State := grantAt (sqReg 0 7) (noGrants.handle 3 0) noGrants
/-- SQ 1 ready to be enabled, on entry 3 and on an entry that is not valid. -/
def rings1 : State := grantAt (sqReg 1 7) (sq1.handle 3 0) sq1
def rings5 : State := grantAt (sqReg 1 7) (sq1.handle 5 0) sq1
/-- A descriptor under a handle. -/
def under (d : Descriptor) (h : BitVec 36) : Descriptor :=
  { d with grant0 := (h.extractLsb' 0 12).setWidth 16, grant1 := (h.extractLsb' 12 12).setWidth 16,
           grant2 := (h.extractLsb' 24 12).setWidth 16 }

theorem under_handle (d : Descriptor) (h : BitVec 36) : Descriptor.handle (under d h) = h := by
  have e : ∀ w : BitVec 12, (w.setWidth 16).setWidth 12 = w := by decide +kernel
  simp only [Descriptor.handle, under, e, handleOf_parts]

theorem under_words (d : Descriptor) (h : BitVec 36) (ht : d.tag.toNat < 4096) :
    ∀ c ∈ [(under d h).tag, (under d h).grant0, (under d h).grant1, (under d h).grant2], c.toNat < 4096 := by
  have e : ∀ w : BitVec 12, (w.setWidth 16).toNat < 4096 := by decide +kernel
  intro c hc
  simp only [List.mem_cons, List.not_mem_nil, or_false] at hc
  rcases hc with rfl | rfl | rfl | rfl
  · exact ht
  · exact e _
  · exact e _
  · exact e _

theorem sqGrant_grantAt (n : Fin 8) (h : BitVec 36) (s : State) : (grantAt (sqReg n 7) h s).sqGrant n = h := by
  have e8 : sqReg n 8 = sqReg n 7 + 1 := by simp [sqReg]
  have e9 : sqReg n 9 = sqReg n 7 + 2 := by simp [sqReg]
  simp only [State.sqGrant, e8, e9, grantAt, State.reg, Cells.read]
  simp [handleOf_parts]

/-- A ring grant of entry `i`, generation 0, is good exactly where the entry is valid, of that generation and holds RING. -/
theorem sqGrantOk_grantAt (n : Fin 8) (i : Nat) (hi : i < 512) (s : State) :
    (grantAt (sqReg n 7) (s.handle i 0) s).sqGrantOk n =
      ((if (s.grant i).v && (s.grant i).gen.toNat = 0 then none else some 2) = none && (s.grant i).rights.getLsbD 5) := by
  have e : (grantAt (sqReg n 7) (s.handle i 0) s).sqGrant n = (grantAt (sqReg n 7) (s.handle i 0) s).handle i 0 :=
    sqGrant_grantAt n _ s
  simp only [State.sqGrantOk, e, State.checkHandle_handle _ hi (show 0 < 128 by decide),
    State.hIndex_handle _ hi (show 0 < 128 by decide)]
  rfl

theorem ringsH_ok : ringsH.sqGrantOk 0 = true := by
  rw [ringsH, sqGrantOk_grantAt 0 3 (by decide)]
  decide +kernel
theorem ringsF_bad : ringsF.sqGrantOk 0 = false := by
  rw [ringsF, sqGrantOk_grantAt 0 3 (by decide)]
  decide +kernel
theorem rings1_ok : rings1.sqGrantOk 1 = true := by
  rw [rings1, sqGrantOk_grantAt 1 3 (by decide)]
  decide +kernel
theorem rings5_bad : rings5.sqGrantOk 1 = false := by
  rw [rings5, sqGrantOk_grantAt 1 5 (by decide)]
  decide +kernel

/-- A handle of entry `i` with a wrong check field. -/
def wrongCheck (s : State) (i : Nat) : BitVec 36 :=
  BitVec.ofNat 36 (i * 2 ^ 27 + ((Config.grantCheck s.sht.key i 0).toNat + 1) % 2 ^ 20)

theorem checkHandle_wrongCheck (s : State) (i : Nat) (hi : i < 512) : s.checkHandle (wrongCheck s i) = some 1 := by
  have hc := (Config.grantCheck s.sht.key i 0).isLt
  have hn : (wrongCheck s i).toNat = i * 2 ^ 27 + ((Config.grantCheck s.sht.key i 0).toNat + 1) % 2 ^ 20 := by
    simp only [wrongCheck, BitVec.toNat_ofNat]; omega
  have e1 : hIndex (wrongCheck s i) = i := by simp only [hIndex, bitsAt, hn]; omega
  have e2 : hGen (wrongCheck s i) = 0 := by simp only [hGen, bitsAt, hn]; omega
  apply State.checkHandle_of_check_ne
  rw [e1, e2]
  simp only [hCheck, bitsAt, hn]
  omega

/-- `d0` under entry 4 (valid, COPY rights), under entry 5 (not valid), and under a handle with a wrong check. -/
def dG : Descriptor := under d0 (ringsH.handle 4 0)
def dGone : Descriptor := under d0 (ringsH.handle 5 0)
def dWrong : Descriptor := under d0 (wrongCheck ringsH 4)
/-- Under entry 4, with a count of 0, and with an address past the entry's range. -/
def dNone : Descriptor := { dG with count := 0 }
def dFar : Descriptor := { dG with daddr := 4095 }

theorem check_dG : ringsH.checkHandle (Descriptor.handle dG) = none := by
  rw [dG, under_handle, ringsH.checkHandle_handle (by decide) (by decide)]
  decide +kernel
theorem check_dGone : ringsH.checkHandle (Descriptor.handle dGone) = some 2 := by
  rw [dGone, under_handle, ringsH.checkHandle_handle (by decide) (by decide)]
  decide +kernel
theorem check_dWrong : ringsH.checkHandle (Descriptor.handle dWrong) = some 1 := by
  rw [dWrong, under_handle]
  exact checkHandle_wrongCheck _ 4 (by decide)
theorem index_dG : hIndex (Descriptor.handle dG) = 4 := by
  rw [dG, under_handle, ringsH.hIndex_handle (by decide) (by decide)]

/-- A descriptor's bytes with a handle in bytes 4 to 9. -/
def handleBytes (h : BitVec 36) : List Byte :=
  [h.extractLsb' 0 8, (h.extractLsb' 8 4).setWidth 8, h.extractLsb' 12 8, (h.extractLsb' 20 4).setWidth 8, h.extractLsb' 24 8,
    (h.extractLsb' 32 4).setWidth 8]
def bytesUnder (d : Descriptor) (h : BitVec 36) : Vector Byte 64 :=
  ⟨((toB d).toList.take 4 ++ (handleBytes h ++ (toB d).toList.drop 10)).toArray, by simp [handleBytes]⟩

theorem bytesUnder_get (d : Descriptor) (h : BitVec 36) (k : Nat) : (bytesUnder d h).toList[k]? =
    if 4 ≤ k ∧ k < 10 then (handleBytes h)[k - 4]? else (toB d).toList[k]? := by
  have e : (bytesUnder d h).toList = (toB d).toList.take 4 ++ (handleBytes h ++ (toB d).toList.drop 10) := rfl
  have l4 : ((toB d).toList.take 4).length = 4 := by simp
  have l6 : (handleBytes h).length = 6 := rfl
  rw [e, List.getElem?_append, List.getElem?_append, l4, l6]
  by_cases h0 : k < 4
  · simp [h0, show ¬ 4 ≤ k by omega]
  · by_cases h1 : k < 10
    · simp [h0, h1, show k - 4 < 6 by omega, show 4 ≤ k by omega]
    · simp [h0, h1, show ¬ k - 4 < 6 by omega, show 10 + (k - 4 - 6) = k by omega]

/-- Outside bytes 4 to 9 the handle does not show. -/
theorem leBytes_bytesUnder (d : Descriptor) (h : BitVec 36) {k n : Nat} (hk : k + n ≤ 4 ∨ 10 ≤ k) :
    leBytes (bytesUnder d h) k n = leBytes (toB d) k n := by
  unfold leBytes
  congr 1
  refine List.map_congr_left fun i hi => ?_
  have := List.mem_range.mp hi
  rw [bytesUnder_get, if_neg (by omega)]

theorem leBytes_handle (d : Descriptor) (h : BitVec 36) (k : Nat) (x : Nat) (hx : k = 4 + 2 * x) (h3 : x < 3) :
    leBytes (bytesUnder d h) k 2 = (h.extractLsb' (12 * x) 12).toNat := by
  have e : ∀ y, (bytesUnder d h).toList[k + y]? = if 4 ≤ k + y ∧ k + y < 10 then (handleBytes h)[k + y - 4]? else (toB d).toList[k + y]? :=
    fun y => bytesUnder_get d h (k + y)
  have r : List.range 2 = [0, 1] := rfl
  simp only [leBytes, r, List.map_cons, List.map_nil, e]
  rcases (show x = 0 ∨ x = 1 ∨ x = 2 by omega) with rfl | rfl | rfl <;> subst hx <;>
    simp [handleBytes, BitVec.extractLsb'_toNat, Nat.shiftRight_eq_div_pow] <;> omega

/-- The bytes hold the descriptor under the handle. -/
theorem ofBytes_bytesUnder (d : Descriptor) (h : BitVec 36) (hd : Descriptor.ofBytes (toB d) = d) :
    Descriptor.ofBytes (bytesUnder d h) = under d h := by
  have w : ∀ x : BitVec 12, BitVec.ofNat 16 x.toNat = x.setWidth 16 := fun x => BitVec.eq_of_toNat_eq (by simp)
  have p : (tab 16 fun k => BitVec.ofNat 16 (leBytes (bytesUnder d h) (32 + 2 * k) 2)) =
      tab 16 fun k => BitVec.ofNat 16 (leBytes (toB d) (32 + 2 * k) 2) :=
    congrArg _ (funext fun k => by rw [leBytes_bytesUnder d h (by omega)])
  have q : under (Descriptor.ofBytes (toB d)) h = under d h := by rw [hd]
  rw [← q]
  simp only [Descriptor.ofBytes, under, leBytes_bytesUnder d h (show 0 + 1 ≤ 4 ∨ 10 ≤ 0 by omega),
    leBytes_bytesUnder d h (show 1 + 1 ≤ 4 ∨ 10 ≤ 1 by omega), leBytes_bytesUnder d h (show 2 + 2 ≤ 4 ∨ 10 ≤ 2 by omega),
    leBytes_bytesUnder d h (show 10 + 2 ≤ 4 ∨ 10 ≤ 10 by omega), leBytes_bytesUnder d h (show 12 + 4 ≤ 4 ∨ 10 ≤ 12 by omega),
    leBytes_bytesUnder d h (show 16 + 8 ≤ 4 ∨ 10 ≤ 16 by omega), leBytes_bytesUnder d h (show 24 + 4 ≤ 4 ∨ 10 ≤ 24 by omega),
    leBytes_bytesUnder d h (show 28 + 4 ≤ 4 ∨ 10 ≤ 28 by omega), leBytes_handle d h 4 0 rfl (by decide), leBytes_handle d h 6 1 rfl (by decide),
    leBytes_handle d h 8 2 rfl (by decide), p, w]

def bG : Vector Byte 64 := bytesUnder d0 (ringsH.handle 4 0)
def bGone : Vector Byte 64 := bytesUnder d0 (ringsH.handle 5 0)
def bWrong : Vector Byte 64 := bytesUnder d0 (wrongCheck ringsH 4)
def bNone : Vector Byte 64 := bytesUnder { d0 with count := 0 } (ringsH.handle 4 0)
def bFar : Vector Byte 64 := bytesUnder { d0 with daddr := 4095 } (ringsH.handle 4 0)
def dOp (k : Byte) : Descriptor := { d0 with opc := k, grant2 := 0, count := 0, haddr := 0, daddr := 0 }
theorem bG_fields : Descriptor.ofBytes bG = dG := ofBytes_bytesUnder _ _ (by decide +kernel)
theorem bGone_fields : Descriptor.ofBytes bGone = dGone := ofBytes_bytesUnder _ _ (by decide +kernel)
theorem bWrong_fields : Descriptor.ofBytes bWrong = dWrong := ofBytes_bytesUnder _ _ (by decide +kernel)
theorem bNone_fields : Descriptor.ofBytes bNone = dNone := ofBytes_bytesUnder _ _ (by decide +kernel)
theorem bFar_fields : Descriptor.ofBytes bFar = dFar := ofBytes_bytesUnder _ _ (by decide +kernel)

/-- The words of a descriptor that must be host-side words. -/
def plainWords (d : Descriptor) : List Container := [d.tag, d.grant0, d.grant1, d.grant2]

/-- The hypotheses of DescriptorsAreFetchedAndChecked are met together, clause by clause. -/
theorem witness_DescriptorsAreFetchedAndChecked :
    (State.reset.mayFetch 0 = false) ∧
    (ringsF.mayFetch 0 = true ∧ ringsF.fetchTurn 0 = true ∧ ringsF.sqGrantOk 0 = false) ∧
    (ringsH.mayFetch 0 = true ∧ ringsH.fetchTurn 0 = true ∧ ringsH.sqGrantOk 0 = true ∧ ringsH.up = true ∧
      (ringsH.src 105).waiting.length < 5) ∧
    (∃ c ∈ plainWords (Descriptor.ofBytes (toB { d0 with tag := 4096 })), 4096 ≤ c.toNat) ∧
    ((∀ c ∈ plainWords (Descriptor.ofBytes bWrong), c.toNat < 4096) ∧ (Descriptor.ofBytes bWrong).opc.toNat = 1 ∧
      ringsH.checkHandle (Descriptor.handle (Descriptor.ofBytes bWrong)) = some 1) ∧
    ((∀ c ∈ plainWords (Descriptor.ofBytes bGone), c.toNat < 4096) ∧ (Descriptor.ofBytes bGone).opc.toNat = 1 ∧
      ringsH.checkHandle (Descriptor.handle (Descriptor.ofBytes bGone)) = some 2) ∧
    ((∀ c ∈ plainWords (Descriptor.ofBytes bG), c.toNat < 4096) ∧ (Descriptor.ofBytes bG).opc.toNat = 1 ∧
      ringsH.checkHandle (Descriptor.handle (Descriptor.ofBytes bG)) = none ∧ fieldsOk (Descriptor.ofBytes bG) = true ∧
      ringsH.rightsOk (Descriptor.ofBytes bG) = true) ∧
    (ringsH.checkHandle (Descriptor.handle (Descriptor.ofBytes bNone)) = none ∧ fieldsOk (Descriptor.ofBytes bNone) = false) ∧
    (ringsH.checkHandle (Descriptor.handle (Descriptor.ofBytes bFar)) = none ∧ fieldsOk (Descriptor.ofBytes bFar) = true ∧
      ringsH.rightsOk (Descriptor.ofBytes bFar) = false) ∧
    ((plainWords (Descriptor.ofBytes (toB (dOp 0)))).all (fun c => decide (c.toNat < 4096)) = true ∧
      (Descriptor.ofBytes (toB (dOp 0))).opc.toNat = 0) ∧
    ((plainWords (Descriptor.ofBytes (toB (dOp 8)))).all (fun c => decide (c.toNat < 4096)) = true ∧
      (Descriptor.ofBytes (toB (dOp 8))).opc.toNat = 8) := by
  rw [bG_fields, bGone_fields, bWrong_fields, bNone_fields, bFar_fields]
  refine ⟨by decide +kernel, ⟨by decide +kernel, by decide +kernel, ringsF_bad⟩,
    ⟨by decide +kernel, by decide +kernel, ringsH_ok, by decide +kernel, by decide +kernel⟩,
    ⟨4096, by decide +kernel, by decide⟩,
    ⟨under_words _ _ (by decide), by decide +kernel, check_dWrong⟩, ⟨under_words _ _ (by decide), by decide +kernel, check_dGone⟩,
    ⟨under_words _ _ (by decide), by decide +kernel, check_dG, by decide +kernel, ?_⟩,
    ⟨check_dG, by decide +kernel⟩, ⟨check_dG, by decide +kernel, ?_⟩, by decide +kernel, by decide +kernel⟩
  · rw [State.rightsOk, index_dG]
    decide +kernel
  · rw [State.rightsOk, show hIndex (Descriptor.handle dFar) = 4 from index_dG]
    decide +kernel

/-- The hypotheses of RingsAreEnabledAndDisabled are met together, clause by clause. -/
theorem witness_RingsAreEnabledAndDisabled :
    (rings1.canWrite (eStore 0 0) (shtBase + 0x10A + 32) = true ∧ (rings1.sq 1).en = false ∧
      (rings1.cq (rings1.sqCq 1)).en = true ∧ rings1.sqGrantOk 1 = true) ∧
    (rings5.canWrite (eStore 0 0) (shtBase + 0x10A + 32) = true ∧ (rings5.sq 1).en = false ∧
      (rings5.cq (rings5.sqCq 1)).en = true ∧ rings5.sqGrantOk 1 = false) ∧
    (L.canWrite (eStore 0 0) (shtBase + 0x10A) = true ∧ (L.sq 0).en = false ∧ (L.cq (L.sqCq 0)).en = false) ∧
    (rings.canWrite (eStore 0 0) (shtBase + 0x10A) = true ∧ Master.machineStore (eStore 0 0) = true ∧ (rings.sq 0).en = true) ∧
    (rings.canWrite .monitor (shtBase + 0x10A) = true ∧ Master.machineStore .monitor = false) ∧
    (rings.canWrite (eStore 0 0) (shtBase + 0x209 + 32) = true ∧ (rings.cq 1).en = false) ∧
    (ringsEnabl3.canWrite (eStore 0 0) (shtBase + 0x209) = true ∧ (ringsEnabl3.cq 0).en = true ∧
      (∀ k : Fin 8, ringsEnabl3.sqCq k = 0 → (ringsEnabl3.sq k).en = false)) ∧
    (rings.canWrite (eStore 0 0) (shtBase + 0x209) = true ∧ rings.sqCq 0 = 0 ∧ (rings.sq 0).en = true) := by
  refine ⟨⟨by decide +kernel, by decide +kernel, by decide +kernel, rings1_ok⟩,
    ⟨by decide +kernel, by decide +kernel, by decide +kernel, rings5_bad⟩, ?_, ?_, ?_, ?_, ?_, ?_⟩ <;> decide +kernel

/-- RUN with chain ports; a grant of entry 3 for mailboxes, one without that right, a frame's LSEQ already received, and its key cached. -/
def ringOfOne : State := ch run
def mailAdmitted : State := grs (ch run)
def mailBarred : State := (ch run).updSht fun x => { x with grants := x.grants.set 3 { x.grants[3] with v := true, rights := 2, base := 0, len := 0x1000 } }
def seenBefore : State := (ch run).updPort 0 fun x => { x with rxSeq := some 3 }
def cached : State := (ch run).enterCache ⟨false, 5, 5, 0, 7, 0⟩

/-- A MAIL frame for mailbox 1 of E0 of device `d` under a handle. -/
def mailUnder (h : BitVec 36) (d : Word) : Frame :=
  fr [h.extractLsb' 0 12, h.extractLsb' 12 12, h.extractLsb' 24 12, d, 1, 0xAB] 3
/-- The handle a MAIL frame carries. -/
def mailHandle (f : Frame) : BitVec 36 :=
  (f.words[2]?).getD 0 ++ ((f.words[1]?).getD 0 ++ (f.words[0]?).getD 0 : BitVec 24)
theorem mailHandle_mailUnder (h : BitVec 36) (d : Word) : mailHandle (mailUnder h d) = h := handleOf_parts h

/-- What a frame needs to be new at port 0 of a state, as type `typ`. -/
def newAt (s : State) (f : Frame) (typ : BitVec 4) : Prop :=
  s.receives 0 = true ∧ frameGood typ f = true ∧ (s.jport 0).rxSeq ≠ some f.lseq ∧ f.src ≠ s.jsnId ∧
    s.seen ⟨false, typ, f.src, 0, f.fseq, s.fk⟩ = false

/-- A grant of entry 3 that names the mailbox, and one without the MAILBOX right; the mail under them, and under an entry not valid. -/
def fOk : Frame := mailUnder (mailAdmitted.handle 3 0) 0x111
def fNo : Frame := mailUnder (mailBarred.handle 3 0) 0x111
def fGone : Frame := mailUnder (ringOfOne.handle 3 0) 0x111

theorem check_fOk : mailAdmitted.checkHandle (mailHandle fOk) = none := by
  rw [fOk, mailHandle_mailUnder, mailAdmitted.checkHandle_handle (by decide) (by decide)]
  decide +kernel
theorem check_fNo : mailBarred.checkHandle (mailHandle fNo) = none := by
  rw [fNo, mailHandle_mailUnder, mailBarred.checkHandle_handle (by decide) (by decide)]
  decide +kernel
theorem check_fGone : ringOfOne.checkHandle (mailHandle fGone) = some 2 := by
  rw [fGone, mailHandle_mailUnder, ringOfOne.checkHandle_handle (by decide) (by decide)]
  decide +kernel
theorem index_fOk : (mailHandle fOk).toNat / 2 ^ 27 = 3 := by
  have := (Config.grantCheck mailAdmitted.sht.key 3 0).isLt
  rw [fOk, mailHandle_mailUnder, mailAdmitted.handle_toNat (by decide) (by decide)]
  omega
theorem index_fNo : (mailHandle fNo).toNat / 2 ^ 27 = 3 := by
  have := (Config.grantCheck mailBarred.sht.key 3 0).isLt
  rw [fNo, mailHandle_mailUnder, mailBarred.handle_toNat (by decide) (by decide)]
  omega

theorem good_mail (h : BitVec 36) (d : Word) : frameGood 6 (mailUnder h d) = true := by
  simp [frameGood, mailUnder, fr]

/-- The hypotheses of FramesAreKeptTakenOrForwarded are met together, clause by clause. -/
theorem witness_FramesAreKeptTakenOrForwarded :
    (ringOfOne.receives 0 = true ∧ frameGood 5 (fr [1, 2, 3, 4] 3) = false) ∧
    (newAt ringOfOne (fr [1, 2, 3, 4] 3) 4 ∧ newAt ringOfOne (fr5 [1, 2, 3, 4] 4) 5) ∧
    (seenBefore.receives 0 = true ∧ frameGood 4 (fr [1, 2, 3, 4] 3) = true ∧ (seenBefore.jport 0).rxSeq = some (fr [1, 2, 3, 4] 3).lseq) ∧
    (cached.receives 0 = true ∧ frameGood 5 (fr5 [1, 2, 3, 4] 4) = true ∧ cached.seen ⟨false, 5, 5, 0, 7, cached.fk⟩ = true) ∧
    (ringOfOne.receives 0 = true ∧ frameGood 5 (fro [1, 2, 3, 4] 4) = true ∧ (fro [1, 2, 3, 4] 4).src = ringOfOne.jsnId) ∧
    (newAt ringOfOne (fm 0 0) 6 ∧ (fm 0 0).words.length = 6 ∧ ((fm 0 0).words[3]?).getD 0 = 0 ∧ ringOfOne.loadsFrom 2 = false) ∧
    (newAt ringOfOne (fm 0x222 1) 6 ∧ ((fm 0x222 1).words[3]?).getD 0 ≠ 0 ∧ ((fm 0x222 1).words[3]?).getD 0 ≠ ringOfOne.jsnId) ∧
    (newAt ringOfOne fGone 6 ∧ fGone.words.length = 6 ∧ ((fGone.words[3]?).getD 0) = ringOfOne.jsnId ∧
      ringOfOne.checkHandle (mailHandle fGone) = some 2) ∧
    (newAt mailBarred fNo 6 ∧ fNo.words.length = 6 ∧ ((fNo.words[3]?).getD 0) = mailBarred.jsnId ∧
      mailBarred.checkHandle (mailHandle fNo) = none ∧
      (mailBarred.grant ((mailHandle fNo).toNat / 2 ^ 27)).covers 0 1 1 = false) ∧
    (newAt mailAdmitted fOk 6 ∧ fOk.words.length = 6 ∧ ((fOk.words[3]?).getD 0) = mailAdmitted.jsnId ∧
      mailAdmitted.checkHandle (mailHandle fOk) = none ∧
      (mailAdmitted.grant ((mailHandle fOk).toNat / 2 ^ 27)).covers 0 1 1 = true ∧
      mailAdmitted.inRun = true ∧ mailAdmitted.engEn 0 = true ∧ (mailAdmitted.eng 0).locked = false ∧ mailAdmitted.together 0 = true ∧
      mailAdmitted.still 0 = false ∧ (mailAdmitted.eng 0).held = [] ∧ (mailAdmitted.clu 0).iso = false ∧
      (mailAdmitted.eng 0).mbox[1].length + (fOk.words.length - 5) ≤ 16) := by
  rw [index_fNo, index_fOk]
  refine ⟨?_, ?_, ?_, ?_, ?_, ?_, ?_, ⟨⟨?_, good_mail _ _, ?_⟩, ?_, ?_, check_fGone⟩, ⟨⟨?_, good_mail _ _, ?_⟩, ?_, ?_, check_fNo, ?_⟩,
    ⟨?_, good_mail _ _, ?_⟩, ?_, ?_, check_fOk, ?_⟩ <;> (try unfold newAt) <;> decide +kernel

/-- The lock's hold, with the lock output on, that a lock fault without feedback asks for (EstopAndDoorLock). -/
def lockHeld : State := { run with trip := { run.trip with hold := true, lockOut := true } }
theorem witness_EstopAndDoorLock_lockHeld : lockHeld.trip.hold = true ∧ lockHeld.trip.lockOut = true := by decide +kernel

/-! ### Moves, the step and the invariants -/

/-- E0's thread 0 selected, its line buffer holding the program word `w`, at machine or user level with a root table. -/
def moving (w : PWord) (m : Bool) : State :=
  (thr (wr run [(rootReg 0 0, 0x100), (rootReg 0 0 + 1, 0x800)]) 0 0 fun x =>
    { x with lb := some (ln w), tm := if m then 0x800 else 0, lsu := { x.lsu with seg := 0x300 } }).updEng 0
      fun x => { x with cur := some 0 }
/-- How the move of E0's thread 0 ends: 0 a fault of the move, 1 it commits, 2 a refused port, 3 a TLB miss, 4 a deferred fault. -/
def moveEnds (s : State) : Nat :=
  let f := s.force 0 0
  let m := s.fetched 0 0
  let b := s.bufferLine 0 0 ((s.thr 0 0).pc + BitVec.ofNat 17 (m.len - 1))
  let v := b.srcValue 0 0 m.ids.src (m.lit.setWidth 12)
  match b.moveFault 0 0 f m with
  | some _ => 0
  | none => match (b.thr 0 0).dstFault m.ids.dst v with
    | some _ => 4
    | none => match (b.srcPop 0 0 m.ids.src).portWrite 0 0 f m.ids.dst v with
      | .ok _ _ _ => 1
      | .fault _ _ => 2
      | .miss _ _ _ => 3
/-- A move of E0's thread 0 is due, of one word that passes its check. -/
def moveDue (s : State) : Bool :=
  s.together 0 && (s.eng 0).cur = some 0 && s.engRuns 0 && (s.eventNow 0 0).isNone && s.moveReady 0 0
def moveGood (s : State) : Bool := s.wordsGood 0 0 (s.fetched 0 0).len
/-- The same move with its word's parity bit inverted, and with a load's fault still to be taken. -/
def movingBad : State := (moving 99 true).upsetFetch 0
def movingLate : State := thr (moving 67 true) 0 0 fun x => { x with lsu := { x.lsu with fault := some (0x17, 5) } }

/-- The hypotheses of MovesCommitFaultOrMiss are met together, clause by clause. -/
theorem witness_MovesCommitFaultOrMiss :
    (moveDue movingBad = true ∧ moveGood movingBad = false) ∧
    (moveDue (moving 99 true) = true ∧ moveGood (moving 99 true) = true ∧ moveEnds (moving 99 true) = 0) ∧
    (moveDue (moving 0 true) = true ∧ moveGood (moving 0 true) = true ∧ moveEnds (moving 0 true) = 1) ∧
    (moveDue (moving 97 true) = true ∧ moveGood (moving 97 true) = true ∧ moveEnds (moving 97 true) = 2) ∧
    (moveDue (moving 67 false) = true ∧ moveGood (moving 67 false) = true ∧ moveEnds (moving 67 false) = 3) ∧
    (moveDue movingLate = true ∧ moveGood movingLate = true ∧ moveEnds movingLate = 4) := by
  refine ⟨?_, ?_, ?_, ?_, ?_, ?_⟩ <;> decide +kernel

/-- An empty queue at reset, with the fabric clock running. -/
theorem witness_IdleStepIsOneFabricClock : State.reset.pending = [] ∧ State.reset.clk.fabOk = true := by decide +kernel

/-- The state answered by a step. -/
def stepped (s : State) : State := outState (step s)

/-- The three invariants' hypotheses at reset, and a step from there. -/
theorem witness_StepKeepsRegistersCanonical : State.reset.regsCanonical = true ∧ step State.reset = .next (stepped State.reset) :=
  ⟨by decide +kernel, rfl⟩
theorem witness_StepKeepsMemoryCanonical : State.reset.memCanonical = true ∧ step State.reset = .next (stepped State.reset) :=
  ⟨by decide +kernel, rfl⟩
theorem witness_StepKeepsTheSelvedgeLocked :
    State.reset.regsCanonical = true ∧ State.reset.runLocked = true ∧ step State.reset = .next (stepped State.reset) :=
  ⟨by decide +kernel, by decide +kernel, rfl⟩
theorem witness_CommandsLeaveTheQueue : exec .warmReset State.reset = .next (outState (exec .warmReset State.reset)) := rfl
theorem witness_StoredWordsReadBackAsWritten :
    State.reset.regsCanonical = true ∧ Cells.wf State.reset.memDefault State.reset.mem = true ∧
      Cells.wf State.reset.progDefault State.reset.prog = true := by decide +kernel

/-- RUN with SAFE set, and each of the three commands that can release it in front. -/
def held (c : Instr) : State := { run with dev := { run.dev with safe := true }, pending := [c] }
def heldSvp : State :=
  (held (.svpTakeEffect 0)).updEng 0 fun x => { x with svpq := [{ t := 0, a := 5, b := 0, write := some 1, fence := false, sent := true }] }

/-- The hypotheses of OnlySelvedgeSoftwareReleasesSafe are met together, clause by clause. -/
theorem witness_OnlySelvedgeSoftwareReleasesSafe :
    (State.reset.dev.safe = true ∧ State.reset.inRun = false) ∧
    ((held (.selSrel (.svp 0 0) 1)).dev.safe = true ∧ (stepped (held (.selSrel (.svp 0 0) 1))).dev.safe = false) ∧
    ((held (.registerWrite (.svp 0 0) (BitVec.ofNat 24 (selBase + 5)) 1)).dev.safe = true ∧
      (stepped (held (.registerWrite (.svp 0 0) (BitVec.ofNat 24 (selBase + 5)) 1))).dev.safe = false) ∧
    (heldSvp.dev.safe = true ∧ (stepped heldSvp).dev.safe = false) := by
  refine ⟨?_, ?_, ?_, ?_⟩ <;> decide +kernel

/-! ### WellFormed refuses an ill-formed command of each kind -/

theorem test_wf_refuses_the_front_ends_operands :
    (Instr.decimationIntervalEnd 0 false [] .none .none).wf = false ∧
    (Instr.decimationIntervalEnd 0 false (List.replicate 513 true) .none .none).wf = false ∧
    (Instr.pioEvent 0x29 true).wf = false ∧
    (Instr.faultEvent 136 0 0).wf = false ∧
    (Instr.fabricPinLevel 0 true 0).wf = false := by decide +kernel
def bootHead : BootHead := ⟨0, 0, 0, 0, 0, 0, 0⟩
theorem test_wf_refuses_link_speeds_and_frames :
    (Instr.linkEnterL0 0 1).wf = false ∧ (Instr.linkEnterL0 1 0).wf = false ∧ (Instr.linkEnterL0 1 3).wf = false ∧
    (Instr.budget 0 (fr [1, 2, 3] 0)).wf = false ∧ (Instr.epoch 0 (fr [1, 2, 3, 4, 5] 0)).wf = false ∧
    (Instr.mail 0 (fr [1, 2, 3, 4, 5] 0)).wf = false ∧ (Instr.mail 0 (fr (List.replicate 22 0) 0)).wf = false ∧
    (Instr.bootFrame 0 bootHead [] .ok).wf = false ∧ (Instr.bootFrame 0 bootHead (List.replicate 17 0) .ok).wf = false := by decide +kernel
theorem test_wf_refuses_stops_past_the_transfer :
    (Instr.copyIn 0 [] (.device 1048576 .ok)).wf = false ∧ (Instr.copyOut 0 (.host 1048576)).wf = false ∧
    (Instr.recRead 0 (.deviceWrite 1048576 .ok)).wf = false ∧ (Instr.loadProgram 0 [] (.poisoned 1048576)).wf = false ∧
    (Instr.qspiLoad [] (.targetFail 16777216)).wf = false ∧ (Instr.hostLoad [] (.sourceFail 16777216)).wf = false ∧
    (Instr.monitorQ 0 [] (.targetFail 16777216)).wf = false := by decide +kernel
theorem test_wf_accepts : (Instr.copyOut 0 .none).wf = true ∧ (Instr.linkEnterL0 2 2).wf = true ∧ (Instr.mail 0 (fm 0 0)).wf = true := by
  decide +kernel

/-! ### Results the spec states in its worked examples -/

/-- The example of Moves: G5 → 0x20 is 0x12A0, LIT → G3 is 0x0C03, and THR of E17.T3 in the lean shape reads 0x443 (R43 to R45). -/
theorem test_move_words :
    decodeWord false 0x12A0 = ⟨0x25, 0x20, none⟩ ∧ decodeWord false 0x0C03 = ⟨0x18, 0x03, none⟩ ∧ isLit false 0x0C03 = true ∧
    State.reset.thrWord 17 3 = 0x443 := by decide +kernel

/-- The block of SD3's samples from number 1,000: header 0x57D and eight mantissas (R250). -/
theorem test_block_words :
    blockWords 1000 [41000, 40871, 41205, 40999, 41500, 40592, 40212, 39990] =
      (0x57D, [0x501, 0x4FD, 0x508, 0x501, 0x511, 0x4F4, 0x4E9, 0x4E2]) := by decide +kernel

/-- Meter M0's interval at 800 V and 1,000 A with the cable term (R254). -/
theorem test_meter_interval : meterProduct 4473924 5592405 40265 false true = 24944935555919 := by decide +kernel

/-- The store of E17.T3 at 0x4C5_2A7 goes to 0x30C_6A7 after its walk (R199 to R205). -/
def storeE17 : State :=
  (thr (wm (wr { State.reset with dev := { phase := .run, tethered := true } } [(0x804848, 0x1E0), (0x804849, 0x804)])
    [(0x20F026, 0x838), (0x20F027, 0x408), (0x20E228, 0xC31), (0x20E229, 0x960)]) 17 3 fun x =>
      { x with run := .running, tm := 0, kr := x.kr.set 0 0xC00, lsu := { x.lsu with seg := 0x4C5 } }).updEng 17 fun x =>
    { x with walk := some { t := 3, va := 0x4C52A7, write := true, half2 := false, blk := false, val := 0 } }
theorem test_translation :
    (outState (exec (.tableWalk 17 .ok .ok) storeE17)).translate 17 3 ((storeE17).force 17 3) 0x4C52A7 true false false =
      .pa 0x30C6A7 := by decide +kernel

/-- T0 of E8 takes line 0 at priority 6: TM 0x800, PC 0x00_400, G1 0xF00, G2 and LSU.SEG 0x107 (R110, R114). -/
def entryE8 : State := wr run [(engBase 8, 0), (engBase 8 + 0x10, 4), (engBase 8 + 0x11, 0x7F), (engBase 8 + 0x20, 0x30)]
theorem test_entry :
    let x := (entryE8.enter 8 0 (.line 0)).thr 8 0
    x.tm = 0x800 ∧ x.apri = 6 ∧ x.pc = 0x400 ∧ x.g[1] = 0xF00 ∧ x.g[2] = 0x107 ∧ x.lsu.seg = 0x107 := by decide +kernel

/-- The handle 0x028_32D_4C1 names entry 5 at generation 3, with check 0x2D_4C1 (R397). -/
theorem test_handle : hIndex 0x02832D4C1 = 5 ∧ hGen 0x02832D4C1 = 3 ∧ hCheck 0x02832D4C1 = 0x2D4C1 := by decide +kernel

/-! ### A move that waited for an operation's result -/

/-- E0's thread 0, selected, reads MAC.ACC3 while the last MAC operation before an overflow is pending. -/
def waiting : State :=
  sel (thr (mp .mac 1 0x7FFFFFFFFFFF 0) 0 0 fun x => { x with lb := some (ln 0x2581), tm := 0x800 })
/-- That operation completed, with or without the waiting move first. -/
def completed (late : Bool) : State := outState (exec (.macComplete 0 0 late) waiting)

/-- The hypotheses of WaiterForALateResultGoesFirst are met together, clause by clause. -/
theorem witness_WaiterForALateResultGoesFirst :
    (waiting.together 0 = true ∧ waiting.still 0 = false ∧ (waiting.thr 0 0).mac.pend = some ⟨.mac, 1, 5, 0x33, false⟩ ∧
     (macResult .mac (waiting.thr 0 0).mac.acc 1).2 = true) ∧
    (waiting.eventNow 0 0 = none ∧ waiting.preciseHold 0 0 = false ∧ (waiting.thr 0 0).pexc = none ∧
     ((completed false).thr 0 0).pexc ≠ none ∧ waiting.moveReady 0 0 = false ∧ (completed false).moveReady 0 0 = true) := by
  refine ⟨?_, ?_⟩ <;> decide +kernel

/-- The move reads the wrapped accumulator, then the entry's turn comes; without `late` it comes at once. -/
theorem test_waiter :
    let s := outState (exec (.move 0 none) (completed true))
    (s.thr 0 0).g[1] = 0x800 ∧ (s.eventNow 0 0).isSome = true ∧ ((completed false).eventNow 0 0).isSome = true := by decide +kernel

/-- A thread that waits for its MAC operation has been selected, and another is. -/
theorem test_a_waiting_thread_is_not_ready :
    waiting.engRuns 0 = true ∧ (waiting.eng 0).cur = some 0 ∧ waiting.ready 0 0 = false := by decide +kernel

/-- Register 1 is a destination that is written. -/
theorem witness_RegisterDestinations : (1 : Nat) < 32 ∧ (1 : Nat) ≠ 0 := by decide

/-- X = 1, and Y both even and odd. -/
theorem witness_ApxResultsMeetTheirBounds :
    (1 : DWord) ≠ 0 ∧ (0 : Word).getLsbD 0 = false ∧ (1 : Word).getLsbD 0 = true := by decide

/-! ### What the statements of this part say, met by states -/

/-- RUN with the companion interface on or off. -/
def companion (on : Bool) : State := wr run [(cmpBase, if on then 0x800 else 0)]

/-- The hypotheses of SnapshotsAreWrittenThenNamed are met together, clause by clause. -/
theorem witness_SnapshotsAreWrittenThenNamed_outcomes :
    ((companion true).inRun = true ∧ (companion true).memCanonical = true ∧ (companion true).cmpOn = true ∧ (companion true).up = true ∧
      ((companion true).src 80).waiting.length < 5 ∧ ((companion true).src 81).waiting.length < 5) ∧
    ((companion false).inRun = true ∧ (companion false).memCanonical = true ∧ (companion false).cmpOn = false) ∧
    (SnapOutcome.resent ≠ .failed 64 ∧ SnapOutcome.failed 61 ≠ .failed 64) := by
  refine ⟨?_, ?_, ?_⟩ <;> decide +kernel

/-- Every sample of the captured waveform is read without a fault. -/
theorem witness_WaveformsAreCodedAndRecorded_words :
    (((wvs 4 20).clu 0).iso = false) ∧
    (List.range 20).all (fun i => ((wvs 4 20).bobPlace 0 0 i).all fun a => (wvs 4 20).wordGood (BitVec.ofNat 24 a)) = true := by
  decide +kernel

/-! ### Corners of the rules -/

/-- A LIT move keeps its literal whatever its destination (R28, R111). -/
theorem test_lit_with_a_reserved_destination : isLit false 0xC63 = true ∧ isLit false 0xC7F = true := by decide +kernel

/-- A SNAPSHOT names the buffer that it has written, with the next number (R262, R263). -/
theorem test_snapshot :
    let u := outState (exec (.snapshot .ok) (companion true))
    let v := outState (exec (.snapshot (.failed 64)) (companion true))
    u.memWord 0x900000 = 0x801 ∧ u.memWord 0x900082 = 1 ∧ v.memWord 0x900000 = 0 := by decide +kernel

/-- An event that sets SAFE in the clock of an accepted release prevails (R334). -/
def setAndReleased : State := { run with dev := { run.dev with safe := true, safeNow := true } }
theorem test_release_in_the_clock_of_an_event :
    (outState (exec (.selSrel (.svp 0 0) 1) setAndReleased)).dev.safe = true := by decide +kernel

/-- A clear in the clock of an event acts first (R322). -/
def classified : State := srcS 3 (fun x => { x with sev := true, nowEvs := [true] }) run
theorem test_clear_acts_first : ((outState (exec (.fclSclr (.svp 0 0) 0 0x008) classified)).src 3).sev = true := by decide +kernel

/-- A host read of an unassigned offset below 0xA0_000 is an error response, counted at source 82 (R171, R393). -/
theorem test_unassigned_bar2_offset :
    (rings.bar2Read 0x00010 15).1 = none ∧ ((rings.bar2Read 0x00010 1).2.src 82).waiting.length = 1 ∧
    (rings.bar2Read 0xA0000 15).1 = some 0 := by decide +kernel

/-- The host's image is asked for in requests of 256 bytes (R480). -/
theorem test_host_image_requests :
    (outState (exec (.hostLoad (List.replicate 4 0) .ok) (blw 1))).sht.hostIn.map Prod.snd = [256] ∧
    (((blw 1).askBoot 300).sht.hostIn.map Prod.snd) = [256, 256, 256] := by decide +kernel

/-- Lines that follow an A command: a step, and the end (R486). -/
theorem test_monitor_answers :
    (lineCommand [0x41, 0x20, 0x31] [[], [0x2E]] {}).isSome = true ∧ (lineCommand [0x41, 0x20, 0x31] [[0x7A]] {}).isSome = false ∧
    (outState (exec (.monitorA 0x100 [.step, .value 9] []) mm)).boot.reply = [5, 6] ∧
    (outState (exec (.monitorA 0x100 [.step, .value 9] []) mm)).memWord 0x101 = 9 := by decide +kernel

/-- A port that sends idle alone resends nothing (R429, R444). -/
def isolatedPort : State := (tq 0).updPort 0 fun x => { x with iso := true }
theorem test_ack_timeout_at_an_isolated_port :
    ((outState (exec (.ackTimeout 0) isolatedPort)).jport 0).sent = [] ∧
    ((outState (exec (.ackTimeout 0) (tq 0))).jport 0).sent.length = 1 := by decide +kernel

/-- The TAP: the edges of TMS 0, 1, 1, 0, 0 lead to Shift-IR, and TRST_N low back to Test-Logic-Reset with IDCODE (R512). -/
theorem test_tap :
    let t := (run.tap.edge false false [])
    let u := (((t.edge true false []).edge true false []).edge false false []).edge false false []
    t.st = .runTestIdle ∧ u.st = .shiftIr ∧ u.reset.st = .testLogicReset ∧ tapInstr u.reset.ir = .idcode ∧
    idcode = 0x1641269B := by decide +kernel

/-- A line that was pending when its cluster was gated wakes nothing; one that is set afterwards does (R457). -/
def gatedPending : State :=
  let s := (wr run [(devBase + 5, 0x402), (engBase 8 + 0x21, 0x040)]).updEng 8 fun y => { y with ipend := 1 }
  outState (exec (.clusterGate 1) (thr (thr s 8 0 fun x => { x with run := .halted }) 8 1 fun x => { x with run := .halted }))
theorem test_pending_at_gating :
    let back := fun (s : State) => thr s 8 0 fun x => { x with run := .running }
    (gatedPending.clu 1).gated = true ∧ (back gatedPending).wakeDue 1 = false ∧
    (back (gatedPending.updEng 8 fun y => { y with ipend := 3 })).wakeDue 1 = true := by decide +kernel

end Sys2Proof.Tests
end

/-! # O5: every step keeps the stored registers in canonical form

The registers of software stand in one sparse list, which `State.setReg` alone extends and which a reset, a loss of VKEEP and a reset of
the rings cut down. So the proof has two layers. The first says of every operation that does neither that it leaves `State.regs` as it
is; the second, of every other one, that it keeps the canonical form `Cells.wf regReset`. The step is then a case split over the
commands. -/

namespace Sys2Proof.Machine

/-! ### What leaves the stored registers as they are -/

/-- What a port write leaves: its state, or, where it faults or misses, the state it was made in. -/
def PortOut.leaves (s : State) : PortOut → State
  | .ok u _ _ => u
  | .fault _ _ => s
  | .miss _ _ _ => s

@[simp] theorem PortOut.leaves_ok (s u : State) (r : List Request) (j : Option PAddr) : (PortOut.ok u r j).leaves s = u := rfl
@[simp] theorem PortOut.leaves_fault (s : State) (q : PFault) (b : Option (Clu × Addr)) : (PortOut.fault q b).leaves s = s := rfl
@[simp] theorem PortOut.leaves_miss (s : State) (va : Addr) (w h : Bool) : (PortOut.miss va w h).leaves s = s := rfl
@[simp] theorem PortOut.leaves_plain (s u : State) : (PortOut.plain u).leaves s = u := rfl
@[simp] theorem PortOut.leaves_argFault (s : State) (v : Word) : (argFault v).leaves s = s := rfl
@[simp] theorem PortOut.leaves_ite (s : State) (c : Prop) [Decidable c] (p q : PortOut) :
    (if c then p else q).leaves s = if c then p.leaves s else q.leaves s :=
  apply_ite (PortOut.leaves s) c p q

@[simp] theorem State.regs_ite (c : Prop) [Decidable c] (s u : State) : (if c then s else u).regs = if c then s.regs else u.regs :=
  apply_ite State.regs c s u

/-- What a write at a register leaves, accepted or refused. -/
def WriteOut.leaves : WriteOut → State
  | .ok u => u
  | .refused u => u

@[simp] theorem WriteOut.leaves_ok (u : State) : (WriteOut.ok u).leaves = u := rfl
@[simp] theorem WriteOut.leaves_refused (u : State) : (WriteOut.refused u).leaves = u := rfl
@[simp] theorem WriteOut.leaves_ite (c : Prop) [Decidable c] (p q : WriteOut) :
    (if c then p else q).leaves = if c then p.leaves else q.leaves :=
  apply_ite WriteOut.leaves c p q
@[simp] theorem WriteOut.leaves_keep (s : State) (a : Nat) (v : Word) : (s.keep a v).leaves = s.setReg a v := rfl
@[simp] theorem WriteOut.leaves_unless (s : State) (bad : Bool) (w : WriteOut) :
    (s.unless bad w).leaves = if bad then s else w.leaves := by
  simp [State.unless]

theorem foldl_regs {α : Type} (f : State → α → State) (h : ∀ s a, (f s a).regs = s.regs) (l : List α) (s : State) :
    (l.foldl f s).regs = s.regs :=
  foldl_keeps State.regs f h l s

/-- A fold that carries a state along, each of whose steps leaves the stored registers, leaves them. -/
theorem foldl_state_regs {α β : Type} (p : β → State) (f : β → α → β) (h : ∀ b a, (p (f b a)).regs = (p b).regs) (l : List α) (b : β) :
    (p (l.foldl f b)).regs = (p b).regs := by
  induction l generalizing b with
  | nil => rfl
  | cons a l ih => exact (ih _).trans (h b a)

/-- The state in which a command leaves the device; the one it began in, where it stops. -/
def stateAfter (s : State) : Host.Outcome State Fault Refusal → State
  | .next u => u
  | .fault _ => s
  | .refused _ => s

@[simp] theorem stateAfter_next (s u : State) : stateAfter s (.next u) = u := rfl
@[simp] theorem stateAfter_ite (s : State) (c : Prop) [Decidable c] (p q : Host.Outcome State Fault Refusal) :
    stateAfter s (if c then p else q) = if c then stateAfter s p else stateAfter s q :=
  apply_ite (stateAfter s) c p q

/-- Of two register files each in canonical form, either is. -/
@[simp] theorem wf_regs_ite (c : Prop) [Decidable c] (k l : Cells 12) :
    Cells.wf regReset (if c then k else l) = if c then Cells.wf regReset k else Cells.wf regReset l :=
  apply_ite (Cells.wf regReset) c k l

/-! #### Shared operations -/

@[simp] theorem State.stage_regs (s : State) : s.stage.regs = s.regs := rfl

@[simp] theorem State.spoil_regs (s : State) (a : Addr) : (s.spoil a).regs = s.regs := by
  simp [State.spoil]

@[simp] theorem State.loseBank_regs (s : State) (c : Clu) (b : Bank) : (s.loseBank c b).regs = s.regs := by
  unfold State.loseBank
  split <;> simp

@[simp] theorem State.memEvent_regs (s : State) (c : Clu) (b : Bank) (q : Requester) (kind : Nat) (cause : BitVec 7) (a : Addr)
    (write : Bool) :
    (s.memEvent c b q kind cause a write).regs = s.regs := by
  simp [State.memEvent]

@[simp] theorem State.errorTo_regs (s : State) (m : Master) (a : Addr) (q : Requester) : (s.errorTo m a q).regs = s.regs := by
  unfold State.errorTo
  split <;> simp

/-! #### Bobbins and meters -/

@[simp] theorem State.bobDeliver_regs (s : State) (n : Chan) (x : DWord) : (s.bobDeliver n x).regs = s.regs := by
  simp [State.bobDeliver]

@[simp] theorem State.bobAdvance_regs (s : State) (n : Chan) (c : Clu) (before : Nat) : (s.bobAdvance n c before).regs = s.regs := by
  refine foldl_regs _ (fun u e => ?_) _ _
  dsimp only
  split <;> simp

@[simp] theorem State.updMeter_regs (s : State) (m : Fin 2) (f : Meter → Meter) : (s.updMeter m f).regs = s.regs := rfl

@[simp] theorem State.meterInterval_regs (s : State) (m : Fin 2) (v i : DWord) : (s.meterInterval m v i).regs = s.regs := by
  simp [State.meterInterval]

@[simp] theorem State.meterCheck_regs (s : State) (m : Fin 2) (v x : DWord) : (s.meterCheck m v x).regs = s.regs := by
  simp [State.meterCheck]

@[simp] theorem State.meterResult_regs (s : State) (m : Fin 2) (n : Chan) (num : Nat) (x : DWord) :
    (s.meterResult m n num x).regs = s.regs := by
  unfold State.meterResult
  split
  · rfl
  · extract_lets y r rx xv xx p c missed s1 s2
    have h1 : s1.regs = s.regs := by simp [s1]
    have h2 : s2.regs = s.regs := by unfold s2; split <;> simp [h1]
    split <;> simp [h2]

@[simp] theorem State.meterVote_regs (s : State) (m : Fin 2) (n : Chan) (before : Meter) (f : CopyFault) :
    (s.meterVote m n before f).regs = s.regs := by
  unfold State.meterVote
  split <;> simp

@[simp] theorem State.refreshGaps_regs (s : State) : s.refreshGaps.regs = s.regs := rfl

@[simp] theorem State.meterMs_regs (s : State) (m : Fin 2) : (s.meterMs m).regs = s.regs := by
  simp [State.meterMs]

@[simp] theorem State.companionEvent_regs (s : State) (src : Fin 160) (cause : BitVec 7) (a : BitVec 13) :
    (s.companionEvent src cause a).regs = s.regs := by
  simp [State.companionEvent]

@[simp] theorem State.mtrLatch_regs (s : State) : s.mtrLatch.regs = s.regs := rfl

@[simp] theorem State.mtrClear_regs (s : State) (v : Word) : (s.mtrClear v).regs = s.regs := rfl

/-! #### Commits and requests -/

@[simp] theorem State.foldCommit_regs (s : State) (e : Eng) (t : Thr) (ws : List DWord) : (s.foldCommit e t ws).regs = s.regs := rfl

@[simp] theorem State.send_regs (s : State) (e : Eng) (t : Thr) (reqs : List Request) : (s.send e t reqs).regs = s.regs := by
  unfold State.send
  split <;> simp

@[simp] theorem State.commit_regs (s : State) (e : Eng) (t : Thr) (w0 : DWord) (reqs : List Request) :
    (s.commit e t w0 reqs).regs = s.regs := by
  simp [State.commit]

/-! #### Traps -/

@[simp] theorem State.lockWith_regs (s : State) (e : Eng) (t : Thr) (cause : BitVec 6) (code : BitVec 7) (payload : DWord) :
    (s.lockWith e t cause code payload).regs = s.regs := by
  simp [State.lockWith]

@[simp] theorem State.lockup_regs (s : State) (e : Eng) (t : Thr) (cause : BitVec 6) : (s.lockup e t cause).regs = s.regs := by
  simp [State.lockup]

@[simp] theorem State.preciseFault_regs (s : State) (e : Eng) (t : Thr) (f : PFault) : (s.preciseFault e t f).regs = s.regs := by
  unfold State.preciseFault
  split <;> simp

@[simp] theorem State.imprecise_regs (s : State) (e : Eng) (t : Thr) (cause : BitVec 6) (pc : PAddr) (d : BitVec 7) (fa : Addr) :
    (s.imprecise e t cause pc d fa).regs = s.regs := by
  unfold State.imprecise
  dsimp only
  repeat' split
  all_goals simp

@[simp] theorem State.writeFrame_regs (s : State) (base : Nat) (ws : List (Nat × Word)) : (s.writeFrame base ws).regs = s.regs := by
  refine foldl_regs _ (fun _ _ => ?_) _ _
  rfl

@[simp] theorem State.consume_regs (s : State) (e : Eng) (t : Thr) (ev : Event) : (s.consume e t ev).regs = s.regs := by
  unfold State.consume
  split <;> simp

@[simp] theorem State.enterLane_regs (s : State) (e : Eng) (t : Thr) (ev : Event) : (s.enterLane e t ev).regs = s.regs := by
  unfold State.enterLane
  split <;> simp

@[simp] theorem State.rewriteCause_regs (s : State) (addr : Nat) (cause : Word) : (s.rewriteCause addr cause).regs = s.regs := rfl

@[simp] theorem State.tailLane_regs (s : State) (e : Eng) (t : Thr) (f : FrameSlot) (q : Tail) (ev : Event) :
    (s.tailLane e t f q ev).regs = s.regs := by
  simp [State.tailLane]

@[simp] theorem State.restoreWith_regs (s : State) (e : Eng) (t : Thr) (f : FrameSlot) (w : Nat → Word) :
    (s.restoreWith e t f w).regs = s.regs := rfl

/-! #### Source pops and walks -/

@[simp] theorem State.popMsg_regs (s : State) (e : Eng) (t : Thr) : (s.popMsg e t).regs = s.regs := by
  unfold State.popMsg
  dsimp only
  split <;> simp

@[simp] theorem State.popSmp_regs (s : State) (e : Eng) (t : Thr) : (s.popSmp e t).regs = s.regs := by
  unfold State.popSmp
  dsimp only
  repeat' split
  all_goals simp

@[simp] theorem State.srcPop_regs (s : State) (e : Eng) (t : Thr) (i : Nat) : (s.srcPop e t i).regs = s.regs := by
  unfold State.srcPop
  split <;> simp

@[simp] theorem State.startWalk_regs (s : State) (e : Eng) (t : Thr) (va : Addr) (write half2 blk : Bool) (val : Word) :
    (s.startWalk e t va write half2 blk val).regs = s.regs := rfl

/-! #### Modes and gauges -/

@[simp] theorem State.updGauge_regs (s : State) (g : Fin 32) (f : Gauge → Gauge) : (s.updGauge g f).regs = s.regs := rfl

@[simp] theorem State.gaugeTake_regs (s : State) (g : Fin 32) (v : DWord) : (s.gaugeTake g v).regs = s.regs := by
  simp [State.gaugeTake]

@[simp] theorem State.gaugeFeed_regs (s : State) (kind idx : Nat) (xsel : Option Nat) (v : DWord) :
    (s.gaugeFeed kind idx xsel v).regs = s.regs := by
  refine foldl_regs _ (fun u g => ?_) _ _
  dsimp only
  split <;> simp

@[simp] theorem State.clearTether_regs (s : State) : s.clearTether.regs = s.regs := by
  unfold State.clearTether
  split <;> simp

/-! #### Votes and lanes -/

@[simp] theorem State.updHeddle_regs (s : State) (e : Eng) (f : Heddle → Heddle) : (s.updHeddle e f).regs = s.regs := rfl

@[simp] theorem State.heddleReport_regs (s : State) (e : Eng) (code : BitVec 7) (lane : Nat) :
    (s.heddleReport e code lane).regs = s.regs := by
  unfold State.heddleReport
  split <;> simp

@[simp] theorem State.retireLane_regs (s : State) (e : Eng) (l : Lane) : (s.retireLane e l).regs = s.regs := by
  simp [State.retireLane]

@[simp] theorem State.engineStop_regs (s : State) (e : Eng) (t : Thr) (code : BitVec 7) : (s.engineStop e t code).regs = s.regs := by
  simp [State.engineStop]

@[simp] theorem State.detect_regs (s : State) (e : Eng) (l : Lane) (code : Option (BitVec 7)) (counted : Bool) :
    (s.detect e l code counted).regs = s.regs := by
  unfold State.detect
  dsimp only
  repeat' split
  all_goals simp

@[simp] theorem State.rethread_regs (s : State) (e : Eng) (l : Lane) : (s.rethread e l).regs = s.regs := by
  unfold State.rethread
  split <;> simp

@[simp] theorem State.voteEnd_regs (s : State) (e : Eng) (t : Thr) (odd : List Lane) (go : State → State)
    (h : ∀ u, (go u).regs = u.regs) : (s.voteEnd e t odd go).regs = s.regs := by
  unfold State.voteEnd
  split <;> simp [h]

@[simp] theorem State.voteNow_regs {α : Type} [DecidableEq α] (s : State) (e : Eng) (t : Thr) (req : State → Option α)
    (go : α → State → State) (h : ∀ a u, (go a u).regs = u.regs) : (s.voteNow e t req go).regs = s.regs := by
  unfold State.voteNow
  extract_lets r voted
  refine State.voteEnd_regs _ _ _ _ _ fun u => ?_
  clear_value voted
  cases voted with
  | none => rfl
  | some a => exact h a u

/-! #### Port writes -/

@[simp] theorem portAluAdd_regs (s : State) (e : Eng) (t : Thr) (v : Word) : ((portAluAdd s e t v).leaves s).regs = s.regs := rfl

@[simp] theorem portAluAdc_regs (s : State) (e : Eng) (t : Thr) (v : Word) : ((portAluAdc s e t v).leaves s).regs = s.regs := rfl

@[simp] theorem portAluSub_regs (s : State) (e : Eng) (t : Thr) (v : Word) : ((portAluSub s e t v).leaves s).regs = s.regs := rfl

@[simp] theorem portAluSbc_regs (s : State) (e : Eng) (t : Thr) (v : Word) : ((portAluSbc s e t v).leaves s).regs = s.regs := rfl

@[simp] theorem portAluAnd_regs (s : State) (e : Eng) (t : Thr) (v : Word) : ((portAluAnd s e t v).leaves s).regs = s.regs := rfl

@[simp] theorem portAluOr_regs (s : State) (e : Eng) (t : Thr) (v : Word) : ((portAluOr s e t v).leaves s).regs = s.regs := rfl

@[simp] theorem portAluXor_regs (s : State) (e : Eng) (t : Thr) (v : Word) : ((portAluXor s e t v).leaves s).regs = s.regs := rfl

@[simp] theorem portAluShl_regs (s : State) (e : Eng) (t : Thr) (v : Word) : ((portAluShl s e t v).leaves s).regs = s.regs := rfl

@[simp] theorem portAluShr_regs (s : State) (e : Eng) (t : Thr) (v : Word) : ((portAluShr s e t v).leaves s).regs = s.regs := rfl

@[simp] theorem portAluSar_regs (s : State) (e : Eng) (t : Thr) (v : Word) : ((portAluSar s e t v).leaves s).regs = s.regs := rfl

@[simp] theorem portAluCmp_regs (s : State) (e : Eng) (t : Thr) (v : Word) : ((portAluCmp s e t v).leaves s).regs = s.regs := rfl

@[simp] theorem portMulGo_regs (s : State) (e : Eng) (t : Thr) (v : Word) : ((portMulGo s e t v).leaves s).regs = s.regs := rfl

@[simp] theorem portMacMac_regs (s : State) (e : Eng) (t : Thr) (v : Word) : ((portMacMac s e t v).leaves s).regs = s.regs := rfl

@[simp] theorem portMacMsu_regs (s : State) (e : Eng) (t : Thr) (v : Word) : ((portMacMsu s e t v).leaves s).regs = s.regs := rfl

@[simp] theorem portMacMul_regs (s : State) (e : Eng) (t : Thr) (v : Word) : ((portMacMul s e t v).leaves s).regs = s.regs := rfl

@[simp] theorem portMacClr_regs (s : State) (e : Eng) (t : Thr) : ((portMacClr s e t).leaves s).regs = s.regs := rfl

@[simp] theorem portMacShr_regs (s : State) (e : Eng) (t : Thr) (v : Word) : ((portMacShr s e t v).leaves s).regs = s.regs := rfl

@[simp] theorem portApxRcp_regs (s : State) (e : Eng) (t : Thr) (v : Word) : ((portApxRcp s e t v).leaves s).regs = s.regs := rfl

@[simp] theorem portApxSq_regs (s : State) (e : Eng) (t : Thr) (v : Word) : ((portApxSq s e t v).leaves s).regs = s.regs := rfl

@[simp] theorem portApxL2_regs (s : State) (e : Eng) (t : Thr) (v : Word) : ((portApxL2 s e t v).leaves s).regs = s.regs := rfl

@[simp] theorem portApxDiv_regs (s : State) (e : Eng) (t : Thr) (v : Word) : ((portApxDiv s e t v).leaves s).regs = s.regs := rfl

@[simp] theorem State.startLoad_regs (s : State) (e : Eng) (t : Thr) (l : Load) (p : Word) : (s.startLoad e t l p).regs = s.regs := rfl

@[simp] theorem portLoad_regs (s : State) (e : Eng) (t : Thr) (f : Force) (d : Nat) (v : Word) :
    ((portLoad s e t f d v).leaves s).regs = s.regs := by
  unfold portLoad
  dsimp only
  repeat' split
  all_goals simp

@[simp] theorem portStore_regs (s : State) (e : Eng) (t : Thr) (f : Force) (d : Nat) (v : Word) :
    ((portStore s e t f d v).leaves s).regs = s.regs := by
  unfold portStore
  extract_lets y x
  split
  · rfl
  · dsimp only
    split
    · rfl
    · rfl
    · split <;> rfl

@[simp] theorem portLsuLdpi_regs (s : State) (e : Eng) (t : Thr) (f : Force) (v : Word) :
    ((portLsuLdpi s e t f v).leaves s).regs = s.regs := by
  simp [portLsuLdpi]

@[simp] theorem portLsuLd1pi_regs (s : State) (e : Eng) (t : Thr) (f : Force) (v : Word) :
    ((portLsuLd1pi s e t f v).leaves s).regs = s.regs := by
  simp [portLsuLd1pi]

@[simp] theorem portLsuStpd_regs (s : State) (e : Eng) (t : Thr) (f : Force) (v : Word) :
    ((portLsuStpd s e t f v).leaves s).regs = s.regs :=
  portStore_regs s e t f 0x45 v

@[simp] theorem portLsuSt1pd_regs (s : State) (e : Eng) (t : Thr) (f : Force) (v : Word) :
    ((portLsuSt1pd s e t f v).leaves s).regs = s.regs :=
  portStore_regs s e t f 0x46 v

@[simp] theorem portLsuLdx_regs (s : State) (e : Eng) (t : Thr) (f : Force) (v : Word) :
    ((portLsuLdx s e t f v).leaves s).regs = s.regs := by
  simp [portLsuLdx]

@[simp] theorem portLsuStx_regs (s : State) (e : Eng) (t : Thr) (f : Force) (v : Word) :
    ((portLsuStx s e t f v).leaves s).regs = s.regs :=
  portStore_regs s e t f 0x48 v

@[simp] theorem portLsuLdb_regs (s : State) (e : Eng) (t : Thr) (f : Force) (v : Word) :
    ((portLsuLdb s e t f v).leaves s).regs = s.regs := by
  simp [portLsuLdb]

@[simp] theorem portLsuStb_regs (s : State) (e : Eng) (t : Thr) (f : Force) (v : Word) :
    ((portLsuStb s e t f v).leaves s).regs = s.regs :=
  portStore_regs s e t f 0x4A v

@[simp] theorem portLsuFnc_regs (s : State) (e : Eng) (t : Thr) (v : Word) : ((portLsuFnc s e t v).leaves s).regs = s.regs := rfl

@[simp] theorem portBlkGo_regs (s : State) (e : Eng) (t : Thr) (f : Force) (v : Word) :
    ((portBlkGo s e t f v).leaves s).regs = s.regs := by
  simp [portBlkGo]

@[simp] theorem State.jump_regs (s : State) (e : Eng) (t : Thr) (f : Force) (a : PAddr) (v : Word) :
    ((s.jump e t f a v).leaves s).regs = s.regs := by
  unfold State.jump
  repeat' split
  all_goals simp

@[simp] theorem portPcuJmp_regs (s : State) (e : Eng) (t : Thr) (f : Force) (v : Word) :
    ((portPcuJmp s e t f v).leaves s).regs = s.regs := by
  simp [portPcuJmp]

@[simp] theorem portPcuJal_regs (s : State) (e : Eng) (t : Thr) (f : Force) (v : Word) :
    ((portPcuJal s e t f v).leaves s).regs = s.regs := by
  simp [portPcuJal]

@[simp] theorem portPcuRet_regs (s : State) (e : Eng) (t : Thr) (f : Force) (v : Word) :
    ((portPcuRet s e t f v).leaves s).regs = s.regs := by
  simp [portPcuRet]

@[simp] theorem portPcuJnz_regs (s : State) (e : Eng) (t : Thr) (f : Force) (v : Word) :
    ((portPcuJnz s e t f v).leaves s).regs = s.regs := by
  simp [portPcuJnz]

@[simp] theorem portPcuTm_regs (s : State) (e : Eng) (t : Thr) (f : Force) (v : Word) :
    ((portPcuTm s e t f v).leaves s).regs = s.regs := rfl

@[simp] theorem portPcuKr_regs (s : State) (e : Eng) (t : Thr) (f : Force) (v : Word) :
    ((portPcuKr s e t f v).leaves s).regs = s.regs := by
  unfold portPcuKr
  dsimp only
  repeat' split
  all_goals simp

@[simp] theorem portIcuInv_regs (s : State) (e : Eng) (t : Thr) (v : Word) : ((portIcuInv s e t v).leaves s).regs = s.regs := rfl

@[simp] theorem portIcuPin_regs (s : State) (e : Eng) (t : Thr) (v : Word) : ((portIcuPin s e t v).leaves s).regs = s.regs := by
  simp [portIcuPin]

@[simp] theorem portIcuSync_regs (s : State) (e : Eng) (v : Word) : ((portIcuSync s e v).leaves s).regs = s.regs := rfl

@[simp] theorem portSmpOpen_regs (s : State) (e : Eng) (t : Thr) (v : Word) : ((portSmpOpen s e t v).leaves s).regs = s.regs := by
  unfold portSmpOpen
  dsimp only
  split <;> simp

@[simp] theorem portSmpSkip_regs (s : State) (e : Eng) (t : Thr) (v : Word) : ((portSmpSkip s e t v).leaves s).regs = s.regs := by
  unfold portSmpSkip
  split <;> simp

@[simp] theorem portMsgSnd_regs (s : State) (e : Eng) (t : Thr) (v : Word) : ((portMsgSnd s e t v).leaves s).regs = s.regs := rfl

@[simp] theorem portMsgFlush_regs (s : State) (e : Eng) (t : Thr) : ((portMsgFlush s e t).leaves s).regs = s.regs := rfl

@[simp] theorem portInpSnap_regs (s : State) (e : Eng) (t : Thr) (v : Word) : ((portInpSnap s e t v).leaves s).regs = s.regs := rfl

@[simp] theorem portTmrStart_regs (s : State) (e : Eng) (t : Thr) (v : Word) : ((portTmrStart s e t v).leaves s).regs = s.regs := rfl

@[simp] theorem portTmrStop_regs (s : State) (e : Eng) (t : Thr) : ((portTmrStop s e t).leaves s).regs = s.regs := rfl

@[simp] theorem portMmuInvp_regs (s : State) (e : Eng) (t : Thr) (v : Word) : ((portMmuInvp s e t v).leaves s).regs = s.regs := rfl

@[simp] theorem portMmuInvk_regs (s : State) (e : Eng) (v : Word) : ((portMmuInvk s e v).leaves s).regs = s.regs := rfl

@[simp] theorem portMmuInva_regs (s : State) (e : Eng) (v : Word) : ((portMmuInva s e v).leaves s).regs = s.regs := rfl

@[simp] theorem tripPort_regs (s : State) (e : Eng) (d : Nat) (v : Word) (f : BitVec 24 → BitVec 24) :
    ((tripPort s e d v f).leaves s).regs = s.regs := rfl

@[simp] theorem portTrpSet_regs (s : State) (e : Eng) (v : Word) : ((portTrpSet s e v).leaves s).regs = s.regs := by
  simp [portTrpSet]

@[simp] theorem portTrpClr_regs (s : State) (e : Eng) (v : Word) : ((portTrpClr s e v).leaves s).regs = s.regs := by
  simp [portTrpClr]

@[simp] theorem portTrpSetm_regs (s : State) (e : Eng) (v : Word) : ((portTrpSetm s e v).leaves s).regs = s.regs := rfl

@[simp] theorem portTrpSetmh_regs (s : State) (e : Eng) (v : Word) : ((portTrpSetmh s e v).leaves s).regs = s.regs := rfl

@[simp] theorem portWdcCheck_regs (s : State) (v : Word) : ((portWdcCheck s v).leaves s).regs = s.regs := by
  simp [portWdcCheck]

@[simp] theorem portWdcServe_regs (s : State) (e : Eng) (t : Thr) (v : Word) : ((portWdcServe s e t v).leaves s).regs = s.regs := rfl

@[simp] theorem svpPort_regs (s : State) (e : Eng) (t : Thr) (d : Nat) (v : Word) (write : Option Word) (fence inc : Bool) :
    ((svpPort s e t d v write fence inc).leaves s).regs = s.regs := by
  simp [svpPort]

@[simp] theorem portSvpWr_regs (s : State) (e : Eng) (t : Thr) (v : Word) : ((portSvpWr s e t v).leaves s).regs = s.regs := by
  simp [portSvpWr]

@[simp] theorem portSvpWri_regs (s : State) (e : Eng) (t : Thr) (v : Word) : ((portSvpWri s e t v).leaves s).regs = s.regs := by
  simp [portSvpWri]

@[simp] theorem portSvpRd_regs (s : State) (e : Eng) (t : Thr) (v : Word) : ((portSvpRd s e t v).leaves s).regs = s.regs := by
  simp [portSvpRd]

@[simp] theorem portSvpRdi_regs (s : State) (e : Eng) (t : Thr) (v : Word) : ((portSvpRdi s e t v).leaves s).regs = s.regs := by
  simp [portSvpRdi]

@[simp] theorem portSvpFnc_regs (s : State) (e : Eng) (t : Thr) (v : Word) : ((portSvpFnc s e t v).leaves s).regs = s.regs := by
  simp [portSvpFnc]

@[simp] theorem State.portWrite_regs (s : State) (e : Eng) (t : Thr) (f : Force) (d : Nat) (v : Word) :
    ((s.portWrite e t f d v).leaves s).regs = s.regs := by
  unfold State.portWrite
  split
  all_goals simp [apply_dite (PortOut.leaves s), apply_dite State.regs]

@[simp] theorem State.refuse_regs (s : State) (e : Eng) (t : Thr) (q : PFault) (bad : Option (Clu × Addr)) :
    (s.refuse e t q bad).regs = s.regs := by
  unfold State.refuse
  split <;> simp

@[simp] theorem State.fireIn_regs (s : State) (e : Eng) (t : Thr) (d : Nat) (v : Word) (op : State → Force → PortOut)
    (h : ∀ u f, ((op u f).leaves u).regs = u.regs) : (s.fireIn e t d v op).regs = s.regs := by
  unfold State.fireIn
  split
  · rfl
  · dsimp only
    split
    · simp
    · split
      · simp
      · have hop := h s (s.force e t)
        cases hp : op s (s.force e t) with
        | ok u r j =>
          rw [hp] at hop
          cases j <;> simpa using hop
        | fault q b => simp
        | miss a w k => simp

theorem State.fire_regs (s : State) (e : Eng) (t : Thr) (d : Nat) (v : Word) (op : State → Force → PortOut)
    (h : ∀ u f, ((op u f).leaves u).regs = u.regs) : (stateAfter s (s.fire e t d v op)).regs = s.regs :=
  (s.inLanes_regs e _).trans (s.fireIn_regs e t d v op h)

@[simp] theorem State.popIn_regs (s : State) (e : Eng) (t : Thr) (i : Nat) : (s.popIn e t i).regs = s.regs := by
  unfold State.popIn
  split <;> simp

@[simp] theorem State.firePop_regs (s : State) (e : Eng) (t : Thr) (i : Nat) (u : State) :
    (stateAfter u (s.firePop e t i)).regs = s.regs := by
  simp [State.firePop]

/-! #### Memory -/

@[simp] theorem State.countCollision_regs (s : State) (m : Master) (a : Addr) : (s.countCollision m a).regs = s.regs := by
  unfold State.countCollision
  split <;> simp

@[simp] theorem State.countRead_regs (s : State) (m : Master) (ws : List Addr) (o : ReadOutcome) (walk : Bool) (q : Requester) :
    (s.countRead m ws o walk q).regs = s.regs := by
  unfold State.countRead
  extract_lets a bank
  have hb : ∀ u k c, (bank u k c).regs = u.regs := fun u k c => by unfold bank; split <;> simp
  cases o <;> simp [hb]

@[simp] theorem State.countWrite_regs (s : State) (m : Master) (a : Addr) (o : WriteOutcome) (n : Nat) :
    (s.countWrite m a o n).regs = s.regs := by
  unfold State.countWrite
  extract_lets bank
  have hb : ∀ k c, (bank k c).regs = s.regs := fun k c => by unfold bank; split <;> simp
  cases o <;> simp [hb]

@[simp] theorem State.wake_regs (s : State) (a : Addr) : (s.wake a).regs = s.regs := by
  unfold State.wake
  split <;> simp

@[simp] theorem State.memRead_regs (s : State) (a : Addr) (o : ReadOutcome) : (s.memRead a o).2.regs = s.regs := by
  unfold State.memRead
  split
  · rfl
  · split <;> simp

@[simp] theorem State.storeWord_regs (s : State) (a : Addr) (v : Word) (o : WriteOutcome) : (s.storeWord a v o).regs = s.regs := by
  simp [State.storeWord, apply_ite State.regs]

@[simp] theorem execRetentionEnter_regs (c : Clu) (b : Bank) (s : State) : (stateAfter s (execRetentionEnter c b s)).regs = s.regs := by
  simp [execRetentionEnter]

@[simp] theorem execBankWake_regs (c : Clu) (b : Bank) (s : State) : (stateAfter s (execBankWake c b s)).regs = s.regs := by
  simp [execBankWake]

@[simp] theorem execRetentionLoss_regs (c : Clu) (b : Bank) (s : State) : (stateAfter s (execRetentionLoss c b s)).regs = s.regs := by
  simp [execRetentionLoss]

/-! #### Engine rows -/

@[simp] theorem State.requestFills_regs (s : State) (e : Eng) : (s.requestFills e).regs = s.regs := by
  refine foldl_regs _ (fun u t => ?_) _ _
  dsimp only
  split
  · split <;> simp
  · split
    · split <;> simp
    · rfl

@[simp] theorem State.beginEntries_regs (s : State) (e : Eng) : (s.beginEntries e).regs = s.regs := foldl_regs _ (fun _ _ => by simp) _ _

@[simp] theorem State.boundary_regs (s : State) (e : Eng) : (s.boundary e).regs = s.regs := by
  simp [State.boundary]

@[simp] theorem State.selectIn_regs (s : State) (e : Eng) : (s.selectIn e).regs = s.regs := by
  simp [State.selectIn]

@[simp] theorem execIdleSelect_regs (e : Eng) (s : State) : (stateAfter s (execIdleSelect e s)).regs = s.regs := by
  simp [execIdleSelect]

@[simp] theorem State.bufferLine_regs (s : State) (e : Eng) (t : Thr) (a : PAddr) : (s.bufferLine e t a).regs = s.regs := rfl

@[simp] theorem State.performMove_regs (s : State) (e : Eng) (t : Thr) (x : Word) : (s.performMove e t x).regs = s.regs := by
  unfold State.performMove
  extract_lets f m u v d
  have hu : u.regs = s.regs := by simp [u]
  clear_value u
  split
  · rfl
  · split
    · simp [hu]
    · split
      · simp [hu]
      · have hop := (u.srcPop e t m.ids.src).portWrite_regs e t f d v
        cases hp : (u.srcPop e t m.ids.src).portWrite e t f d v with
        | fault q b => simp [hu]
        | miss a w k => simp [hu]
        | ok w r j => simpa [hp, hu] using hop

@[simp] theorem State.moveIn_regs (s : State) (e : Eng) (x : Word) : (s.moveIn e x).regs = s.regs := by
  unfold State.moveIn
  split <;> simp

@[simp] theorem execMove_regs (e : Eng) (fault : Option (Lane × LaneFault)) (s : State) :
    (stateAfter s (execMove e fault s)).regs = s.regs := by
  unfold execMove
  dsimp only
  split <;> simp

@[simp] theorem State.nopIn_regs (s : State) (e : Eng) (t : Thr) : (s.nopIn e t).regs = s.regs := by
  unfold State.nopIn
  split
  · rfl
  · split <;> simp

@[simp] theorem execNop_regs (e : Eng) (t : Thr) (s : State) : (stateAfter s (execNop e t s)).regs = s.regs := by
  simp [execNop]

@[simp] theorem State.waiterFirst_regs (u s : State) (e : Eng) (t : Thr) (late : Bool) :
    (State.waiterFirst u s e t late).regs = u.regs := by
  unfold State.waiterFirst
  split <;> simp

@[simp] theorem State.macIn_regs (s : State) (e : Eng) (t : Thr) (late : Bool) : (s.macIn e t late).regs = s.regs := by
  unfold State.macIn
  split <;> simp

@[simp] theorem execMacComplete_regs (e : Eng) (t : Thr) (late : Bool) (s : State) :
    (stateAfter s (execMacComplete e t late s)).regs = s.regs := by
  simp [execMacComplete]

@[simp] theorem State.apxIn_regs (s : State) (e : Eng) (late : Bool) : (s.apxIn e late).regs = s.regs := by
  unfold State.apxIn
  dsimp only
  repeat' split
  all_goals simp

@[simp] theorem execApxComplete_regs (e : Eng) (late : Bool) (s : State) : (stateAfter s (execApxComplete e late s)).regs = s.regs := by
  simp [execApxComplete]

@[simp] theorem State.fenceIn_regs (s : State) (e : Eng) (t : Thr) : (s.fenceIn e t).regs = s.regs := by
  unfold State.fenceIn
  split <;> simp

@[simp] theorem execFenceComplete_regs (e : Eng) (t : Thr) (s : State) : (stateAfter s (execFenceComplete e t s)).regs = s.regs := by
  simp [execFenceComplete]

@[simp] theorem State.expireIn_regs (s : State) (e : Eng) (t : Thr) : (s.expireIn e t).regs = s.regs := by
  simp [State.expireIn]

@[simp] theorem execTimerExpiry_regs (e : Eng) (t : Thr) (s : State) : (stateAfter s (execTimerExpiry e t s)).regs = s.regs := by
  simp [execTimerExpiry]

@[simp] theorem State.walkFault_regs (s : State) (e : Eng) (w : Walk) (cause : BitVec 6) (kind : Nat) (level2 : Bool) :
    (s.walkFault e w cause kind level2).regs = s.regs := by
  simp [State.walkFault]

@[simp] theorem State.walkRead_regs (s : State) (e : Eng) (t : Thr) (a : Addr) (o : ReadOutcome) :
    (s.walkRead e t a o).2.regs = s.regs := by
  unfold State.walkRead
  dsimp only
  repeat' split
  all_goals simp

@[simp] theorem State.walkIdle_regs (s : State) (e : Eng) : (s.walkIdle e).regs = s.regs := by
  unfold State.walkIdle
  split <;> simp

@[simp] theorem State.walkTake_regs (s : State) (e : Eng) (r : WalkEnd) : (s.walkTake e r).regs = s.regs := by
  unfold State.walkTake
  dsimp only
  repeat' split
  all_goals simp

@[simp] theorem State.walkStep_regs (s : State) (e : Eng) (o : ReadOutcome) : (s.walkStep e o).regs = s.regs := by
  unfold State.walkStep
  split
  · rfl
  · refine State.voteNow_regs _ _ _ _ _ fun a u => ?_
    dsimp only
    split <;> simp

@[simp] theorem execTableWalk_regs (e : Eng) (o1 o2 : ReadOutcome) (s : State) :
    (stateAfter s (execTableWalk e o1 o2 s)).regs = s.regs := by
  unfold execTableWalk
  extract_lets s1 u
  have h1 : s1.regs = s.regs := by simp [s1]
  have hu : u.regs = s.regs := by simp [u, h1]
  clear_value s1 u
  simp [h1, hu]

@[simp] theorem State.writeAsked_regs (s : State) (r : FrameAsk) : (s.writeAsked r).regs = s.regs := by
  unfold State.writeAsked
  split
  · exact foldl_regs _ (fun _ _ => by simp) _ _
  · simp

@[simp] theorem State.entryIn_regs (s : State) (e : Eng) : (s.entryIn e).regs = s.regs := by
  unfold State.entryIn
  repeat' split
  all_goals simp

@[simp] theorem execEntrySlot_regs (e : Eng) (o : WriteOutcome) (s : State) : (stateAfter s (execEntrySlot e o s)).regs = s.regs := by
  unfold execEntrySlot
  split <;> simp

@[simp] theorem State.returnIn_regs (s : State) (e : Eng) (t : Thr) (w : Nat → Word) : (s.returnIn e t w).regs = s.regs := by
  unfold State.returnIn
  repeat' split
  all_goals simp

@[simp] theorem execReturnGate_regs (e : Eng) (t : Thr) (o : ReadOutcome) (s : State) :
    (stateAfter s (execReturnGate e t o s)).regs = s.regs := by
  simp [execReturnGate]

/-! #### Deliveries -/

@[simp] theorem State.fillFails_regs (s : State) (e : Eng) (f : Fill) : (s.fillFails e f).regs = s.regs := by
  unfold State.fillFails
  split <;> simp

@[simp] theorem State.takeFill_regs (s : State) (e : Eng) (n : BitVec 14) (l : Option Line) : (s.takeFill e n l).regs = s.regs := by
  unfold State.takeFill
  split <;> simp

@[simp] theorem State.take_regs (s : State) (e : Eng) (d : Delivery) : (s.take e d).regs = s.regs := by
  unfold State.take
  split <;> simp

@[simp] theorem State.unreleased_regs (s : State) (e : Eng) (i : Input) : (s.unreleased e i).regs = s.regs := by
  unfold State.unreleased
  split <;> simp

@[simp] theorem State.deliverNow_regs (s : State) (e : Eng) (d : Delivery) : (s.deliverNow e d).regs = s.regs := by
  unfold State.deliverNow
  dsimp only
  repeat' split
  all_goals simp

@[simp] theorem State.deliver_regs (s : State) (e : Eng) (d : Delivery) : (s.deliver e d).regs = s.regs := by
  unfold State.deliver
  split <;> simp

@[simp] theorem State.flush_regs (s : State) (e : Eng) : (s.flush e).regs = s.regs := by
  unfold State.flush
  split
  · rfl
  · exact foldl_regs _ (fun _ _ => by simp) _ _

@[simp] theorem State.fillRead_regs (s : State) (e : Eng) (t : Thr) (n : BitVec 14) (o : ReadOutcome) :
    (s.fillRead e t n o).regs = s.regs := by
  simp [State.fillRead]

@[simp] theorem execFillComplete_regs (e : Eng) (o : ReadOutcome) (s : State) : (stateAfter s (execFillComplete e o s)).regs = s.regs := by
  have h : ∀ (f : Fill) (req : State → Option (BitVec 14)) (go : BitVec 14 → State → State), (∀ n u, go n u = u.fillRead e f.t n o) →
      (s.voteNow e f.t req go).regs = s.regs := fun f req go hgo =>
    State.voteNow_regs _ _ _ _ _ fun n u => by rw [hgo, State.fillRead_regs]
  unfold execFillComplete
  split
  · rfl
  · exact h _ _ _ fun _ _ => rfl

/-- What a delivered word leaves, and what a refused one leaves. -/
@[simp] theorem State.mailWord_regs (s : State) (e : Eng) (b : Fin 4) (out : Bool) (v origin : Word) :
    ((s.mailWord e b out v origin).getD s).regs = s.regs := by
  unfold State.mailWord
  split <;> simp

theorem State.mailWord_some_regs {s u : State} {e : Eng} {b : Fin 4} {out : Bool} {v origin : Word}
    (h : s.mailWord e b out v origin = some u) : u.regs = s.regs := by
  simpa [h] using s.mailWord_regs e b out v origin

@[simp] theorem execMailboxWordArrive_regs (e : Eng) (t : Thr) (s : State) :
    (stateAfter s (execMailboxWordArrive e t s)).regs = s.regs := by
  unfold execMailboxWordArrive
  split <;> simp

@[simp] theorem execMsgSndComplete_regs (e : Eng) (t : Thr) (s : State) : (stateAfter s (execMsgSndComplete e t s)).regs = s.regs := by
  unfold execMsgSndComplete
  split <;> simp

@[simp] theorem execInputAgreed_regs (e : Eng) (i : Input) (level : Bool) (v : InputView) (s : State) :
    (stateAfter s (execInputAgreed e i level v s)).regs = s.regs := by
  unfold execInputAgreed
  split <;> simp

/-! #### The trip fabric -/

@[simp] theorem State.updTc_regs (s : State) (n : Fin 64) (f : Comparator → Comparator) : (s.updTc n f).regs = s.regs := rfl

@[simp] theorem State.holdComparators_regs (s : State) : s.holdComparators.regs = s.regs := rfl

@[simp] theorem State.updPort_regs (s : State) (p : Port) (f : JPort → JPort) : (s.updPort p f).regs = s.regs := rfl

@[simp] theorem State.pioFire_regs (s : State) (code : Nat) (rising ignoreEdge : Bool) :
    (s.pioFire code rising ignoreEdge).regs = s.regs := foldl_regs _ (fun _ _ => by split <;> simp) _ _

@[simp] theorem State.drivePilot_regs (s : State) : s.drivePilot.regs = s.regs := by
  unfold State.drivePilot
  extract_lets p ovr lvl s1 s2
  split
  · rfl
  · split <;> simp [s2, s1]

@[simp] theorem State.driveOutputs_regs (s : State) : s.driveOutputs.regs = s.regs := by
  simp [State.driveOutputs]

@[simp] theorem State.floodTrip_regs (s : State) (f : TripCopy) (arrival : Option Port) :
    (s.floodTrip f arrival).regs = s.regs := foldl_regs _ (fun _ _ => by split <;> simp) _ _

@[simp] theorem State.updLocal_regs (s : State) (n : Fin 24) (f : Local → Local) : (s.updLocal n f).regs = s.regs := rfl

@[simp] theorem State.newSeq_regs (s : State) : s.newSeq.2.regs = s.regs := rfl

@[simp] theorem State.lineSignal_regs (s : State) (n : Fin 24) (was now own : Bool) : (s.lineSignal n was now own).regs = s.regs := by
  unfold State.lineSignal
  simp [apply_ite Prod.snd]

@[simp] theorem State.vehicleInputs_regs (s : State) : s.vehicleInputs.regs = s.regs := rfl

@[simp] theorem State.evalLines_regs (s : State) : s.evalLines.regs = s.regs := by
  unfold State.evalLines
  extract_lets was raw own latch copies now s1 s2 s3 s4
  have h2 : s2.regs = s.regs := foldl_regs _ (fun _ _ => by simp) _ _
  have h3 : s3.regs = s.regs := by unfold s3; split <;> simp [h2]
  simp [s4, h3]

@[simp] theorem State.fabricFrom_regs (s before : State) : (s.fabricFrom before).regs = s.regs := by
  unfold State.fabricFrom
  extract_lets s1 s2 fault s3 s4 s5 s6
  have h4 : s4.regs = s.regs := by simp [s4, s3, s2, s1]
  have h6 : s6.regs = s.regs := by simp [s6, s5, h4]
  simp [h6]

@[simp] theorem State.fabric_regs (s : State) : s.fabric.regs = s.regs := s.fabricFrom_regs s

@[simp] theorem State.enterSafe_regs (s : State) : s.enterSafe.regs = s.regs := by
  simp [State.enterSafe]

/-! #### The recorder -/

@[simp] theorem State.finishDesc_regs (s : State) (n : Fin 8) (status : BitVec 16) (result : BitVec 32) :
    (s.finishDesc n status result).regs = s.regs := rfl

@[simp] theorem State.finishClear_regs (s : State) (sq : Option (Fin 8)) (status : BitVec 16) (result : BitVec 32) :
    (s.finishClear sq status result).regs = s.regs := by
  unfold State.finishClear
  split <;> simp

@[simp] theorem State.clearDone_regs (s : State) (c : ClearDue) : (s.clearDone c).regs = s.regs := by
  simp [State.clearDone]

@[simp] theorem State.writeRecord_regs (s : State) (x : Record) : (s.writeRecord x).regs = s.regs := by
  unfold State.writeRecord
  extract_lets r w s1 ovr s2
  have h1 : s1.regs = s.regs := by
    unfold s1
    refine foldl_regs _ (fun _ _ => ?_) _ _
    rfl
  have h2 : s2.regs = s.regs := by simp [s2, h1]
  split
  · split <;> simp [h2]
  · exact h2

@[simp] theorem State.writeClear_regs (s : State) (sq : Option (Fin 8)) : (s.writeClear sq).regs = s.regs := by
  unfold State.writeClear
  dsimp only
  repeat' split
  all_goals simp

@[simp] theorem State.writeOne_regs (s : State) : s.writeOne.regs = s.regs := by
  unfold State.writeOne
  split <;> simp

@[simp] theorem State.writeClears_regs (s : State) (n : Nat) : (s.writeClears n).regs = s.regs := by
  induction n generalizing s with
  | zero => rfl
  | succ n ih =>
    unfold State.writeClears
    split
    · rfl
    · simp [ih]

@[simp] theorem execRecordWrite_regs (s : State) : (stateAfter s (execRecordWrite s)).regs = s.regs := by
  simp [execRecordWrite]

@[simp] theorem State.logWrite_regs (s : State) (typ : BitVec 5) (code : BitVec 7) (src : Word) (pay : Quad) :
    (s.logWrite typ code src pay).regs = s.regs := by
  simp [State.logWrite]

@[simp] theorem State.readSlot_regs (s : State) (q : BitVec 36) : (s.readSlot q).2.regs = s.regs :=
  (foldl_regs _ (fun u k => u.raise_regs 113 0x02 (BitVec.ofNat 24 (slotAddr q + k))) _ _ :)

@[simp] theorem execFetchComplete_regs (s : State) : (stateAfter s (execFetchComplete s)).regs = s.regs := by
  unfold execFetchComplete
  split
  · rfl
  · split
    · simp [apply_ite Prod.snd]
    · simp

@[simp] theorem State.nvPass_regs (s : State) : s.nvPass.regs = s.regs := by
  unfold State.nvPass
  split <;> simp

@[simp] theorem State.nvGiveUp_regs (s : State) : s.nvGiveUp.regs = s.regs := by
  simp [State.nvGiveUp]

@[simp] theorem State.dueWords_regs (s : State) (q : BitVec 36) : (s.dueWords q).2.regs = s.regs := by
  unfold State.dueWords
  split <;> simp

@[simp] theorem State.nvAttempt_regs (s : State) (q : BitVec 36) (o : NvOutcome) : (s.nvAttempt q o).regs = s.regs := by
  unfold State.nvAttempt
  extract_lets p erases ws b s1 first silent stored
  have h1 : s1.regs = s.regs := by simp [s1, ws]
  have hf : ∀ u k, (first u k).regs = u.regs := fun u k => by simp [first]
  have hs : ∀ u, (silent u).regs = u.regs := fun u => by simp [silent]
  have hd : ∀ u, (stored u).regs = u.regs := fun u => by simp [stored]
  clear_value s1 first silent stored
  cases o with
  | matched => simp [hd, h1]
  | silentErase => simp [hs, hf, h1]
  | silentWrite k => simp [hs, hf, h1]
  | cutOff k => simp [hf, h1]
  | differs flips => simp [hd, h1]

@[simp] theorem execNvCommit_regs (o : NvOutcome) (s : State) : (stateAfter s (execNvCommit o s)).regs = s.regs := by
  unfold execNvCommit
  split <;> simp

@[simp] theorem execNvRetry_regs (s : State) : (stateAfter s (execNvRetry s)).regs = s.regs := rfl

@[simp] theorem State.restoreRecorder_regs (s : State) (nv : Bool) : (s.restoreRecorder nv).regs = s.regs := by
  unfold State.restoreRecorder
  split
  · rfl
  · split <;> simp

@[simp] theorem execOpsIncrement_regs (s : State) : (stateAfter s (execOpsIncrement s)).regs = s.regs := by
  simp [execOpsIncrement]

@[simp] theorem State.subClock_regs (s : State) : s.subClock.regs = s.regs := by
  unfold State.subClock
  split
  · rfl
  · split <;> simp

@[simp] theorem State.waveRead_regs (s : State) (w : Wave) (i : Nat) (o : ReadOutcome) : (s.waveRead w i o).2.regs = s.regs := by
  simp [State.waveRead]

@[simp] theorem State.waveReads_regs (s : State) (w : Wave) (start stop j : Nat) (o : ReadOutcome) :
    (s.waveReads w start stop j o).2.regs = s.regs := by
  unfold State.waveReads
  refine foldl_state_regs Prod.snd _ (fun b i => ?_) _ _
  simp

@[simp] theorem execWaveformCapture_regs (o : ReadOutcome) (j : Fin 1024) (s : State) :
    (stateAfter s (execWaveformCapture o j s)).regs = s.regs := by
  unfold execWaveformCapture
  split
  · rfl
  · next w _ =>
    extract_lets done first held start stop r s1 ys s2 ps fit recs s3 code
    have hd : ∀ u, (done u).regs = u.regs := fun u => by simp [done]
    have h2 : s2.regs = s.regs := by simp [s2, s1, r]
    have h3 : s3.regs = s.regs := by
      unfold s3
      exact (foldl_regs _ (fun u p => by simp) _ _).trans h2
    clear_value done s3
    simp [hd, h3]

@[simp] theorem State.refuseClear_regs (s : State) (n : Fin 8) (reason : Nat) : (s.refuseClear n reason).regs = s.regs := rfl

@[simp] theorem State.disarm_regs (s : State) (reason : Nat) : (s.disarm reason).regs = s.regs := by
  unfold State.disarm
  split <;> simp

@[simp] theorem State.armClear_regs (s : State) (n : Fin 8) : (s.armClear n).regs = s.regs := by
  simp [State.armClear, apply_ite State.regs]

@[simp] theorem State.confirmClear_regs (s : State) : s.confirmClear.regs = s.regs := by
  simp [State.confirmClear]

@[simp] theorem execClearLapse_regs (s : State) : (stateAfter s (execClearLapse s)).regs = s.regs := by
  simp [execClearLapse]

@[simp] theorem execNvEraseComplete_regs (s : State) : (stateAfter s (execNvEraseComplete s)).regs = s.regs := by
  simp [execNvEraseComplete]

@[simp] theorem execGaugeValue_regs (g : Fin 32) (v : BitVec 36) (s : State) : (stateAfter s (execGaugeValue g v s)).regs = s.regs := by
  simp [execGaugeValue]

@[simp] theorem State.gaugeArm_regs (s : State) (g : Fin 32) : (s.gaugeArm g).regs = s.regs := rfl

/-! #### Shuttle operations -/

@[simp] theorem State.shtLine_regs (s : State) (n : Nat) : (s.shtLine n).regs = s.regs := by
  simp [State.shtLine]

@[simp] theorem State.protocolFault_regs (s : State) (cause : BitVec 7) (origin : Nat) (v : Nat) :
    (s.protocolFault cause origin v).regs = s.regs := by
  simp [State.protocolFault]

@[simp] theorem State.hostFault_regs (s : State) (cause : BitVec 7) (origin : Nat) : (s.hostFault cause origin).regs = s.regs := by
  simp [State.hostFault]

@[simp] theorem State.grantFault_regs (s : State) (origin cause : Nat) (h : BitVec 36) : (s.grantFault origin cause h).regs = s.regs := by
  simp [State.grantFault]

@[simp] theorem State.gpOutcome_regs (s : State) (e : Eng) (w : Word) : (s.gpOutcome e w).regs = s.regs := rfl

@[simp] theorem State.gpRefuse_regs (s : State) (e : Eng) (reason : Nat) : (s.gpRefuse e reason).regs = s.regs := rfl

@[simp] theorem State.gpCreate_regs (s : State) (e : Eng) : (s.gpCreate e).regs = s.regs := by
  unfold State.gpCreate
  dsimp only
  repeat' split
  all_goals simp

@[simp] theorem State.gpRevoke_regs (s : State) (e : Eng) : (s.gpRevoke e).regs = s.regs := by
  simp [State.gpRevoke]

@[simp] theorem State.gpCommand_regs (s : State) (e : Eng) (v : Word) : (s.gpCommand e v).regs = s.regs := by
  simp [State.gpCommand, apply_ite State.regs]

@[simp] theorem State.askHost_regs (s : State) (a n : Nat) : (s.askHost a n).regs = s.regs := rfl

@[simp] theorem State.updSq_regs (s : State) (n : Fin 8) (f : Sq → Sq) : (s.updSq n f).regs = s.regs := rfl

@[simp] theorem State.updCq_regs (s : State) (n : Fin 8) (f : Cq → Cq) : (s.updCq n f).regs = s.regs := rfl

@[simp] theorem State.sqEnableOp_regs (s : State) (n : Fin 8) : (s.sqEnableOp n).regs = s.regs := by
  unfold State.sqEnableOp
  repeat' split
  all_goals simp

@[simp] theorem State.sqDisableOp_regs (s : State) (n : Fin 8) : (s.sqDisableOp n).regs = s.regs := by
  unfold State.sqDisableOp
  split <;> simp

@[simp] theorem State.sqUnq_regs (s : State) (n : Fin 8) : (s.sqUnq n).regs = s.regs := rfl

@[simp] theorem State.cqEnableOp_regs (s : State) (n : Fin 8) : (s.cqEnableOp n).regs = s.regs := by
  unfold State.cqEnableOp
  split <;> simp

@[simp] theorem State.cqDisableOp_regs (s : State) (n : Fin 8) : (s.cqDisableOp n).regs = s.regs := by
  unfold State.cqDisableOp
  split <;> simp

@[simp] theorem State.cqMessage_regs (s : State) (n : Fin 8) : (s.cqMessage n).regs = s.regs := by
  simp [State.cqMessage]

/-! #### Chain ports -/

@[simp] theorem State.chainLine_regs (s : State) : s.chainLine.regs = s.regs := by
  simp [State.chainLine]

@[simp] theorem State.enterCache_regs (s : State) (d : Dedupe) : (s.enterCache d).regs = s.regs := rfl

@[simp] theorem execDedupeExpiry_regs (s : State) : (stateAfter s (execDedupeExpiry s)).regs = s.regs := rfl

@[simp] theorem State.tripAct_regs (s : State) (p : Port) (f : TripCopy) : (s.tripAct p f).regs = s.regs := by
  unfold State.tripAct
  split
  · rfl
  · split <;> simp

@[simp] theorem State.receiveTrip_regs (s : State) (kind : BitVec 2) (p : Port) (c1 c2 c3 : Option TripCopy) :
    (s.receiveTrip kind p c1 c2 c3).regs = s.regs := by
  unfold State.receiveTrip
  split
  · rfl
  · split <;> simp

@[simp] theorem execTripAdv_regs (p : Port) (c1 c2 c3 : Option TripCopy) (s : State) :
    (stateAfter s (execTripAdv p c1 c2 c3 s)).regs = s.regs := by
  simp [execTripAdv]

@[simp] theorem execTripCfm_regs (p : Port) (c1 c2 c3 : Option TripCopy) (s : State) :
    (stateAfter s (execTripCfm p c1 c2 c3 s)).regs = s.regs := by
  simp [execTripCfm]

@[simp] theorem execTripCxl_regs (p : Port) (c1 c2 c3 : Option TripCopy) (s : State) :
    (stateAfter s (execTripCxl p c1 c2 c3 s)).regs = s.regs := by
  simp [execTripCxl]

@[simp] theorem execConfirmRepeat_regs (n : Fin 24) (s : State) : (stateAfter s (execConfirmRepeat n s)).regs = s.regs := by
  simp [execConfirmRepeat]

@[simp] theorem execArmLapse_regs (i : Fin 8) (s : State) : (stateAfter s (execArmLapse i s)).regs = s.regs := by
  unfold execArmLapse
  split <;> simp

@[simp] theorem execChainHoldExpiry_regs (n : Fin 24) (s : State) : (stateAfter s (execChainHoldExpiry n s)).regs = s.regs := by
  simp [execChainHoldExpiry]

@[simp] theorem execSyncAcquire_regs (p : Port) (s : State) : (stateAfter s (execSyncAcquire p s)).regs = s.regs := by
  simp [execSyncAcquire]

@[simp] theorem execSyncLoss_regs (p : Port) (s : State) : (stateAfter s (execSyncLoss p s)).regs = s.regs := by
  simp [execSyncLoss]

@[simp] theorem State.floodFrame_regs (s : State) (f : TxFrame) (arrival : Option Port) : (s.floodFrame f arrival).regs = s.regs := by
  refine foldl_regs _ (fun u p => ?_) _ _
  split <;> simp

@[simp] theorem State.receiveFrame_regs (s : State) (p : Port) (typ : BitVec 4) (f : Frame) :
    (s.receiveFrame p typ f).1.regs = s.regs := by
  unfold State.receiveFrame
  dsimp only
  repeat' split
  all_goals simp

@[simp] theorem execBudget_regs (p : Port) (f : Frame) (s : State) : (stateAfter s (execBudget p f s)).regs = s.regs := by
  simp [execBudget]

@[simp] theorem execEpoch_regs (p : Port) (f : Frame) (s : State) : (stateAfter s (execEpoch p f s)).regs = s.regs := by
  simp [execEpoch]

@[simp] theorem State.takeMail_regs (s : State) (p : Port) (ws : List Word) : (s.takeMail p ws).regs = s.regs := by
  unfold State.takeMail
  extract_lets w h i
  split
  · simp
  · split
    · simp
    · refine foldl_regs _ (fun u v => ?_) _ _
      split
      · next hm => exact State.mailWord_some_regs hm
      · simp

@[simp] theorem execAck_regs (p : Port) (lseq : BitVec 4) (crc : BitVec 16) (s : State) :
    (stateAfter s (execAck p lseq crc s)).regs = s.regs := by
  simp [execAck]

@[simp] theorem execAckTimeout_regs (p : Port) (s : State) : (stateAfter s (execAckTimeout p s)).regs = s.regs := by
  unfold execAckTimeout
  split <;> simp

@[simp] theorem State.sendFrame_regs (s : State) (typ n : Nat) : (s.sendFrame typ n).regs = s.regs := by
  simp [State.sendFrame]

@[simp] theorem State.enterSolo_regs (s : State) : s.enterSolo.regs = s.regs := rfl

@[simp] theorem State.leavePorts_regs (s : State) : s.leavePorts.regs = s.regs := rfl

/-! #### The front end -/

@[simp] theorem State.pilotSample_regs (s : State) (adb : Bool) (inp : Nat) (code : Word) :
    (s.pilotSample adb inp code).regs = s.regs := by
  simp [State.pilotSample]

@[simp] theorem State.deliverResult_regs (s : State) (n : Chan) (fast : Bool) (num : Nat) (x : DWord) :
    (s.deliverResult n fast num x).regs = s.regs := by
  simp [State.deliverResult]

@[simp] theorem execDecimationIntervalEnd_regs (n : Chan) (fast : Bool) (bits : List Bool) (f0 f1 : CopyFault) (s : State) :
    (stateAfter s (execDecimationIntervalEnd n fast bits f0 f1 s)).regs = s.regs := by
  unfold execDecimationIntervalEnd
  extract_lets g k p r m0 m1 s1 s2
  have h1 : s1.regs = s.regs := by simp [s1]
  have h2 : s2.regs = s.regs := by unfold s2; split <;> simp [h1]
  clear_value s2
  simp [h2]

@[simp] theorem execMeterGapMs_regs (s : State) : (stateAfter s (execMeterGapMs s)).regs = s.regs := by
  simp [execMeterGapMs]

@[simp] theorem execGroupClockLost_regs (g : Fin 12) (s : State) : (stateAfter s (execGroupClockLost g s)).regs = s.regs := by
  simp [execGroupClockLost]

@[simp] theorem execGroupClockResume_regs (g : Fin 12) (s : State) : (stateAfter s (execGroupClockResume g s)).regs = s.regs := by
  simp [execGroupClockResume]

@[simp] theorem execStuckBitstream_regs (n : Chan) (s : State) : (stateAfter s (execStuckBitstream n s)).regs = s.regs := by
  simp [execStuckBitstream]

@[simp] theorem execBitstreamTransition_regs (n : Chan) (s : State) : (stateAfter s (execBitstreamTransition n s)).regs = s.regs := by
  simp [execBitstreamTransition]

@[simp] theorem execConversionSlotEnd_regs (adb : Bool) (code : Word) (done : Bool) (s : State) :
    (stateAfter s (execConversionSlotEnd adb code done s)).regs = s.regs := by
  unfold execConversionSlotEnd
  extract_lets a on k q src next inp isRef s1 s2 s3 s4 s5 s6
  have h1 : s1.regs = s.regs := by simp [s1]
  have h4 : s4.regs = s.regs := by simp [s4, s3, s2, h1]
  have h5 : s5.regs = s.regs := by simp [s5, h4]
  have h6 : s6.regs = s.regs := by simp [s6, h5]
  clear_value s1 s5 s6
  split
  · rfl
  · split
    · simp [h1]
    · split
      · split
        · simp [h5, h6]
        · exact h5
      · exact h5

@[simp] theorem State.wokenBy_regs (s : State) (n : Chan) (c : Clu) : (s.wokenBy n c).regs = s.regs := by
  unfold State.wokenBy
  split <;> simp

@[simp] theorem execBobbinWrite_regs (n : Chan) (second : Bool) (o : WriteOutcome) (k : Fin 9) (s : State) :
    (stateAfter s (execBobbinWrite n second o k s)).regs = s.regs := by
  unfold execBobbinWrite
  split
  · next c w rest _ _ =>
    extract_lets before o' j at_ store fail s1 s2
    have hstore : ∀ u ws, (store u ws).regs = u.regs := fun u ws => by
      refine foldl_regs _ (fun _ _ => ?_) _ _
      rfl
    have hfail : ∀ u, (fail u).regs = u.regs := fun u => by simp [fail]
    clear_value store fail o'
    have h1 : s1.regs = s.regs := by
      unfold s1
      cases o' <;> simp [hstore, hfail]
    clear_value s1
    simp [s2, h1]
  · rfl

@[simp] theorem State.snapStore_regs (s : State) (o : SnapOutcome) (k i : Nat) (v : Word) : (s.snapStore o k i v).regs = s.regs := by
  unfold State.snapStore
  split <;> simp

@[simp] theorem State.snapCount_regs (s : State) (o : SnapOutcome) (buf : Nat) : (s.snapCount o buf).regs = s.regs := by
  unfold State.snapCount
  split <;> simp

@[simp] theorem execSnapshot_regs (s : State) (o : SnapOutcome) : (stateAfter s (execSnapshot s o)).regs = s.regs := by
  unfold execSnapshot
  extract_lets s1 ws ws' buf s2 s3
  have h2 : s2.regs = s.regs := by
    unfold s2
    exact (foldl_regs _ (fun u p => by simp) _ _).trans (by simp [s1])
  have h3 : s3.regs = s.regs := by simp [s3, h2]
  clear_value s3
  simp [h3]

@[simp] theorem State.companionAct_regs (s : State) (c : Collision) (write : Bool) : (s.companionAct c write).regs = s.regs := rfl

@[simp] theorem execCompanionRead_regs (a : BitVec 13) (badParity : Bool) (c : Collision) (s : State) :
    (stateAfter s (execCompanionRead a badParity c s)).regs = s.regs := by
  unfold execCompanionRead
  dsimp only
  repeat' split
  all_goals simp

@[simp] theorem State.releaseInt_regs (s : State) : s.releaseInt.regs = s.regs := rfl

@[simp] theorem execCompanionWrite_regs (a : BitVec 13) (v : Word) (parity both : Bool) (c : Collision) (s : State) :
    (stateAfter s (execCompanionWrite a v parity both c s)).regs = s.regs := by
  unfold execCompanionWrite
  dsimp only
  repeat' split
  all_goals simp

@[simp] theorem execCack_regs (v : Word) (parity : Bool) (s : State) : (stateAfter s (execCack v parity s)).regs = s.regs := by
  simp [execCack]

/-! #### Re-threading -/

@[simp] theorem execPickClose_regs (e : Eng) (timed : Bool) (xa xb xc : DWord) (s : State) :
    (stateAfter s (execPickClose e timed xa xb xc s)).regs = s.regs := by
  simp [execPickClose]

@[simp] theorem State.rejoin_regs (s : State) (e : Eng) (l : Lane) : (s.rejoin e l).regs = s.regs := by
  simp [State.rejoin]

@[simp] theorem State.verdict_regs (s : State) (e : Eng) (p : ClosedPick) : (s.verdict e p).regs = s.regs := by
  unfold State.verdict
  dsimp only
  repeat' split
  all_goals simp

@[simp] theorem execPickVerdict_regs (e : Eng) (unitsAgree : Bool) (s : State) :
    (stateAfter s (execPickVerdict e unitsAgree s)).regs = s.regs := by
  unfold execPickVerdict
  split <;> simp

@[simp] theorem State.goOut_regs (s : State) (e : Eng) (t : Thr) (i : Nat) (r : Request) : (s.goOut e t i r).regs = s.regs := by
  unfold State.goOut
  split <;> simp

@[simp] theorem execOutputVote_regs (e : Eng) (a b c : VoteFault) (copiesAgree : Bool) (s : State) :
    (stateAfter s (execOutputVote e a b c copiesAgree s)).regs = s.regs := by
  unfold execOutputVote
  extract_lets x o fault req
  clear_value req o
  split
  · rfl
  · split
    · simp
    · split
      · rfl
      · extract_lets v
        clear_value v
        rw [stateAfter_next]
        refine State.voteEnd_regs _ _ _ _ _ fun u => ?_
        extract_lets u1 u2
        have h2 : u2.regs = u1.regs := by
          unfold u2
          refine foldl_regs _ (fun w q => ?_) _ _
          split <;> simp
        simp [h2, u1]

@[simp] theorem execBulkCopyEnd_regs (e : Eng) (s : State) : (stateAfter s (execBulkCopyEnd e s)).regs = s.regs := by
  unfold execBulkCopyEnd
  split <;> simp

@[simp] theorem execPauseStart_regs (e : Eng) (s : State) : (stateAfter s (execPauseStart e s)).regs = s.regs := by
  simp [execPauseStart]

@[simp] theorem execPauseEnd_regs (e : Eng) (ek : Word) (s : State) : (stateAfter s (execPauseEnd e ek s)).regs = s.regs := by
  unfold execPauseEnd
  dsimp only
  split <;> simp

@[simp] theorem State.degradeLane_regs (s : State) (e : Eng) (l : Lane) : (s.degradeLane e l).regs = s.regs := by
  simp [State.degradeLane]

@[simp] theorem execInputAgreementTimeout_regs (e : Eng) (l : Lane) (s : State) :
    (stateAfter s (execInputAgreementTimeout e l s)).regs = s.regs := by
  simp [execInputAgreementTimeout]

/-! #### The collector -/

@[simp] theorem State.isolate_regs (s : State) (n : Fin 160) : (s.isolate n).regs = s.regs := by
  simp [State.isolate, apply_dite State.regs]

@[simp] theorem State.react_regs (s : State) (n : Fin 160) (ev : FaultEvent) (severe : Bool) (set : Nat) :
    (s.react n ev severe set).regs = s.regs := by
  unfold State.react
  extract_lets bit lane heddle s1 s2 s3 s4 own s5 s6
  have h2 : s2.regs = s.regs := by simp [s2, s1]
  have h3 : s3.regs = s.regs := by unfold s3; split <;> simp [h2]
  have h4 : s4.regs = s.regs := by unfold s4; split <;> simp [h3]
  have h6 : s6.regs = s.regs := by simp [s6, s5, h4]
  simp [h6]

@[simp] theorem State.classify_regs (s : State) (n : Fin 160) (ev : FaultEvent) : (s.classify n ev).regs = s.regs := by
  simp [State.classify]

@[simp] theorem execFaultEvent_regs (src : Fin 160) (cause : BitVec 7) (payload : DWord) (s : State) :
    (stateAfter s (execFaultEvent src cause payload s)).regs = s.regs := by
  simp [execFaultEvent]

@[simp] theorem State.selfFault_regs (s : State) (cfg : Bool) (a : Word) : (s.selfFault cfg a).regs = s.regs := by
  simp [State.selfFault]

@[simp] theorem State.checkCfg_regs (s : State) (o : Nat) : (s.checkCfg o).regs = s.regs := by
  simp [State.checkCfg]

@[simp] theorem execFaultClassify_regs (src : Fin 160) (bad : Option (Fin 4 × CfgHit)) (s : State) :
    (stateAfter s (execFaultClassify src bad s)).regs = s.regs := by
  unfold execFaultClassify
  split
  · rfl
  · extract_lets t u
    have ht : t.regs = s.regs := by unfold t; split <;> simp
    have hu : u.regs = t.regs := by
      unfold u
      exact foldl_regs _ (fun w k => by simp) _ _
    simp [hu, ht]

@[simp] theorem execSelfCheckScan_regs (off : Word) (bad : Option CfgHit) (s : State) :
    (stateAfter s (execSelfCheckScan off bad s)).regs = s.regs := by
  simp [execSelfCheckScan]

@[simp] theorem execCollectorStateMismatch_regs (src : Fin 160) (s : State) :
    (stateAfter s (execCollectorStateMismatch src s)).regs = s.regs := by
  simp [execCollectorStateMismatch]

@[simp] theorem State.nextHalf_regs (s : State) : s.nextHalf.regs = s.regs := rfl

@[simp] theorem execAliveHalfPeriod_regs (s : State) : (stateAfter s (execAliveHalfPeriod s)).regs = s.regs := by
  simp [execAliveHalfPeriod]

@[simp] theorem State.sclr_regs (s : State) (k : Nat) (v : Word) : (s.sclr k v).regs = s.regs := by
  simp [State.sclr]

/-! #### The watchdog -/

@[simp] theorem State.wdgEvent_regs (s : State) (src : Fin 160) (cause : Nat) (payload : DWord) (task : Nat) :
    (s.wdgEvent src cause payload task).regs = s.regs := by
  simp [State.wdgEvent]

@[simp] theorem execCheckIn_regs (task : Fin 16) (s : State) : (stateAfter s (execCheckIn task s)).regs = s.regs := by
  simp [execCheckIn]

@[simp] theorem State.wdgVerdict_regs (s : State) (e : Eng) (t : Thr) (valid : Bool) : (s.wdgVerdict e t valid).regs = s.regs := by
  simp [State.wdgVerdict]

@[simp] theorem State.wdgRecords_regs (s : State) : s.wdgRecords.regs = s.regs := rfl

@[simp] theorem State.periodExpiry_regs (s : State) : s.periodExpiry.regs = s.regs := by
  unfold State.periodExpiry
  split <;> simp

@[simp] theorem State.graceExpiry_regs (s : State) : s.graceExpiry.regs = s.regs := by
  simp [State.graceExpiry]

@[simp] theorem State.expireFirst_regs (s : State) : s.expireFirst.regs = s.regs := by
  simp [State.expireFirst]

@[simp] theorem execWdgPeriodExpiry_regs (s : State) : (stateAfter s (execWdgPeriodExpiry s)).regs = s.regs := by
  simp [execWdgPeriodExpiry]

@[simp] theorem execWdgGraceExpiry_regs (s : State) : (stateAfter s (execWdgGraceExpiry s)).regs = s.regs := by
  simp [execWdgGraceExpiry]

@[simp] theorem State.judge_regs (s : State) (e : Eng) (t : Thr) : (s.judge e t).regs = s.regs := by
  unfold State.judge
  extract_lets early bad s1
  split
  · simp [s1]
  · split
    · simp [s1]
    · rw [State.wdgVerdict_regs]
      exact foldl_regs _ (fun u p => by simp) _ _

@[simp] theorem execService_regs (e : Eng) (t : Thr) (s : State) : (stateAfter s (execService e t s)).regs = s.regs := by
  simp [execService]

@[simp] theorem State.serveDue_regs (s : State) : s.serveDue.regs = s.regs := by
  unfold State.serveDue
  split
  · rfl
  · exact (foldl_regs _ (fun u p => by simp) _ _).trans (by simp)

@[simp] theorem execWdgClockStop_regs (monitoring : Bool) (s : State) : (stateAfter s (execWdgClockStop monitoring s)).regs = s.regs := by
  simp [execWdgClockStop]

@[simp] theorem State.wdgCommitGo_regs (s : State) : s.wdgCommitGo.2.regs = s.regs := by
  unfold State.wdgCommitGo
  dsimp only
  repeat' split
  all_goals simp

theorem State.wdgCommitGo_some_regs {s t u : State} (h : s.wdgCommitGo = (some t, u)) : t.regs = s.regs := by
  unfold State.wdgCommitGo at h
  dsimp only at h
  split at h
  · cases h
  · split at h
    · cases h; simp
    · split at h
      · cases h
      · cases h; simp
theorem State.wdgCommitGo_none_regs {s u : State} {o : Option State} (h : s.wdgCommitGo = (o, u)) : u.regs = s.regs := by
  simpa [h] using s.wdgCommitGo_regs

@[simp] theorem State.wdgClock_regs (s : State) : s.wdgClock.regs = s.regs := by
  unfold State.wdgClock
  dsimp only
  repeat' split
  all_goals simp

/-! #### Modes and resets -/

@[simp] theorem State.runEngine_regs (s : State) (e : Eng) : (s.runEngine e).regs = s.regs := rfl

@[simp] theorem State.startChannels_regs (s : State) : s.startChannels.regs = s.regs := by
  unfold State.startChannels
  exact foldl_regs _ (fun u n => by simp) _ _

@[simp] theorem State.startMeter_regs (s : State) (m : Fin 2) : (s.startMeter m).regs = s.regs := by
  simp [State.startMeter]

@[simp] theorem State.setSealed_regs (s : State) (on : Bool) : (s.setSealed on).regs = s.regs := by
  unfold State.setSealed
  split <;> simp

@[simp] theorem State.sealOp_regs (s : State) : s.sealOp.regs = s.regs := by
  simp [State.sealOp]

@[simp] theorem State.unsealOp_regs (s : State) : s.unsealOp.regs = s.regs := by
  simp [State.unsealOp]

@[simp] theorem execClusterGate_regs (c : Clu) (s : State) : (stateAfter s (execClusterGate c s)).regs = s.regs := by
  simp [execClusterGate]

@[simp] theorem State.ungate_regs (s : State) (c : Clu) : (s.ungate c).regs = s.regs := by
  unfold State.ungate
  split
  · exact foldl_regs _ (fun u e => u.flush_regs e) _ _
  · rfl

@[simp] theorem execClusterWake_regs (c : Clu) (s : State) : (stateAfter s (execClusterWake c s)).regs = s.regs := by
  simp [execClusterWake]

@[simp] theorem State.dozeChanged_regs (s : State) : s.dozeChanged.regs = s.regs := by
  unfold State.dozeChanged
  exact foldl_regs _ (fun u c => by simp) _ _

@[simp] theorem State.loseAll_regs (s : State) : s.loseAll.regs = s.regs := by
  unfold State.loseAll
  exact foldl_regs _ (fun u c => foldl_regs _ (fun w b => w.loseBank_regs c b) _ _) _ _

@[simp] theorem State.willLatch_regs (s : State) : s.willLatch.regs = s.regs := rfl

@[simp] theorem State.enterBoot_regs (s : State) : s.enterBoot.regs = s.regs := by
  simp [State.enterBoot]

@[simp] theorem execResetEnd_regs (straps : BitVec 4) (s : State) : (stateAfter s (execResetEnd straps s)).regs = s.regs := by
  unfold execResetEnd
  split <;> simp

/-! #### Register writes -/

@[simp] theorem State.releaseLines_regs (s : State) (high : Bool) (v : Word) : (s.releaseLines high v).regs = s.regs := rfl

@[simp] theorem State.startThread_regs (s : State) (e : Eng) (t : Thr) : (s.startThread e t).regs = s.regs := rfl

@[simp] theorem State.intrusion_regs (s : State) (cause : BitVec 7) (a : Nat) : (s.intrusion cause a).regs = s.regs := by
  simp [State.intrusion]

@[simp] theorem State.countRefusal_regs (s : State) (m : Master) (a : Nat) : (s.countRefusal m a).regs = s.regs := by
  unfold State.countRefusal
  repeat' split
  all_goals simp

@[simp] theorem State.wakeFor_regs (s : State) (a : Nat) : (s.wakeFor a).regs = s.regs := by
  simp [State.wakeFor]

@[simp] theorem State.svpStatus_regs (s : State) (e : Eng) (t : Thr) (err : Bool) : (s.svpStatus e t err).regs = s.regs := by
  simp [State.svpStatus]

@[simp] theorem State.refusedAt_regs (s : State) (m : Master) (a : Nat) : (s.refusedAt m a).regs = s.regs := by
  unfold State.refusedAt
  split <;> simp

@[simp] theorem State.acceptedAt_regs (s : State) (m : Master) : (s.acceptedAt m).regs = s.regs := by
  unfold State.acceptedAt
  split <;> simp

/-! #### The bus -/

@[simp] theorem State.takeHost_regs (s : State) (h : HostRead) : (s.takeHost h).2.regs = s.regs := by
  unfold State.takeHost
  repeat' split
  all_goals simp

@[simp] theorem State.busRead_regs (s : State) (m : Master) (a : Addr) (o : ReadOutcome) (h : HostRead) :
    (s.busRead m a o h).2.regs = s.regs := by
  unfold State.busRead
  dsimp only
  repeat' split
  all_goals simp

@[simp] theorem State.busReadPair_regs (s : State) (m : Master) (a : Addr) (o : ReadOutcome) : (s.busReadPair m a o).2.regs = s.regs := by
  unfold State.busReadPair
  dsimp only
  repeat' split
  all_goals simp

@[simp] theorem State.bothAsked_regs (s : State) (first : List (Nat × Nat)) (a : Addr) : (s.bothAsked first a).regs = s.regs := by
  unfold State.bothAsked
  split <;> simp

@[simp] theorem State.refusedWrite_regs (s : State) (m : Master) (a : Addr) : (s.refusedWrite m a).regs = s.regs := by
  unfold State.refusedWrite
  split <;> simp

@[simp] theorem State.busWritePair_regs (s : State) (m : Master) (a : Addr) (lo hi : Word) (o : WriteOutcome) :
    (s.busWritePair m a lo hi o).2.regs = s.regs := by
  unfold State.busWritePair
  dsimp only
  repeat' split
  all_goals simp

/-! #### Loads, stores and blocks -/

@[simp] theorem State.loadFails_regs (s : State) (e : Eng) (t : Thr) (busy : Bool) (cause : BitVec 6) (va : Addr) :
    (s.loadFails e t busy cause va).regs = s.regs := by
  simp [State.loadFails]

@[simp] theorem State.loadRead_regs (s : State) (e : Eng) (t : Thr) (l : Load) (o o2 : ReadOutcome) (h h2 : HostRead) :
    (s.loadRead e t l o o2 h h2).2.regs = s.regs := by
  unfold State.loadRead
  dsimp only
  repeat' split
  all_goals simp

@[simp] theorem State.finishLoad_regs (s : State) (e : Eng) (t : Thr) (l : Load) (o o2 : ReadOutcome) (h h2 : HostRead) :
    (s.finishLoad e t l o o2 h h2).regs = s.regs := by
  simp [State.finishLoad]

@[simp] theorem State.updLoad_regs (s : State) (e : Eng) (t : Thr) (f : Load → Load) : (s.updLoad e t f).regs = s.regs := by
  simp [State.updLoad]

@[simp] theorem execLoadComplete_regs (e : Eng) (t : Thr) (o o2 : ReadOutcome) (host hostH : Container) (s : State) :
    (stateAfter s (execLoadComplete e t o o2 host hostH s)).regs = s.regs := by
  unfold execLoadComplete
  split
  · rfl
  · split
    · exact foldl_regs _ (fun u a => u.wake_regs a) _ _
    · split
      · split <;> simp
      · simp

@[simp] theorem execHostReadComplete_regs (e : Eng) (t : Thr) (o o2 : HostRead) (s : State) :
    (stateAfter s (execHostReadComplete e t o o2 s)).regs = s.regs := by
  unfold execHostReadComplete
  split <;> simp

@[simp] theorem execSmpQ_regs (e : Eng) (t : Thr) (o : ReadOutcome) (s : State) : (stateAfter s (execSmpQ e t o s)).regs = s.regs := by
  unfold execSmpQ
  extract_lets m ws
  split
  · simp
  · split <;> simp

@[simp] theorem State.storeFails_regs (s : State) (e : Eng) (q : StoreEntry) (va : Addr) : (s.storeFails e q va).regs = s.regs := by
  unfold State.storeFails
  split <;> simp

@[simp] theorem State.bothSent_regs (s : State) (first : List (Nat × List Byte)) (a : Addr) : (s.bothSent first a).regs = s.regs := by
  unfold State.bothSent
  split <;> simp

@[simp] theorem State.popStore_regs (s : State) (e : Eng) (good good2 busy : Bool) : (s.popStore e good good2 busy).regs = s.regs := by
  unfold State.popStore
  split <;> simp

@[simp] theorem State.updBlk_regs (s : State) (e : Eng) (t : Thr) (f : BlkState → BlkState) : (s.updBlk e t f).regs = s.regs := rfl

@[simp] theorem State.blkSuspend_regs (s : State) (e : Eng) (t : Thr) (q : PFault) : (s.blkSuspend e t q).regs = s.regs := by
  simp [State.blkSuspend]

@[simp] theorem State.blkLocal_regs (s : State) (e : Eng) (t : Thr) : (s.blkLocal e t).regs = s.regs := by
  unfold State.blkLocal
  dsimp only
  repeat' split
  all_goals simp

@[simp] theorem State.blkTake_regs (s : State) (e : Eng) (t : Thr) (r : BlkEnd) : (s.blkTake e t r).regs = s.regs := by
  unfold State.blkTake
  dsimp only
  repeat' split
  all_goals simp

@[simp] theorem State.blkAgain_regs (s : State) (e : Eng) (t : Thr) : (s.blkAgain e t).regs = s.regs := rfl

@[simp] theorem State.blkEndIn_regs (s : State) (e : Eng) (t : Thr) : (s.blkEndIn e t).regs = s.regs := by
  simp [State.blkEndIn]

@[simp] theorem execBlkEnd_regs (e : Eng) (t : Thr) (s : State) : (stateAfter s (execBlkEnd e t s)).regs = s.regs := by
  simp [execBlkEnd]

/-! #### The shuttle -/

@[simp] theorem execSqTailDoorbell_regs (n : Fin 8) (v : BitVec 32) (s : State) :
    (stateAfter s (execSqTailDoorbell n v s)).regs = s.regs := by
  simp [execSqTailDoorbell]

@[simp] theorem execCqHeadDoorbell_regs (n : Fin 8) (v : BitVec 32) (s : State) :
    (stateAfter s (execCqHeadDoorbell n v s)).regs = s.regs := by
  simp [execCqHeadDoorbell]

@[simp] theorem execBarBadRequest_regs (isRead : Bool) (a : Addr) (s : State) :
    (stateAfter s (execBarBadRequest isRead a s)).regs = s.regs := by
  simp [execBarBadRequest]

@[simp] theorem State.flushMsix_regs (s : State) : s.flushMsix.regs = s.regs := by
  refine foldl_regs _ (fun u x => ?_) _ _
  dsimp only
  split <;> simp

@[simp] theorem execMsixVectorUnmask_regs (k : Fin 32) (d : Fin 4) (v : BitVec 32) (s : State) :
    (stateAfter s (execMsixVectorUnmask k d v s)).regs = s.regs := by
  simp [execMsixVectorUnmask]

@[simp] theorem execLinkEnterL0_regs (spd wid : BitVec 2) (s : State) : (stateAfter s (execLinkEnterL0 spd wid s)).regs = s.regs := by
  simp [execLinkEnterL0]

@[simp] theorem execLinkLeaveL0_regs (forD3 : Bool) (s : State) : (stateAfter s (execLinkLeaveL0 forD3 s)).regs = s.regs := by
  simp [execLinkLeaveL0]

@[simp] theorem execLinkErrorRecorded_regs (uncorrectable : Bool) (s : State) :
    (stateAfter s (execLinkErrorRecorded uncorrectable s)).regs = s.regs := by
  simp [execLinkErrorRecorded]

@[simp] theorem State.endHostLoads_regs (s : State) : s.endHostLoads.regs = s.regs := by
  unfold State.endHostLoads
  refine foldl_regs _ (fun u e => foldl_regs _ (fun w t => ?_) _ _) _ _
  split
  · simp
  · rfl

@[simp] theorem execPerstDeassert_regs (s : State) : (stateAfter s (execPerstDeassert s)).regs = s.regs := by
  simp [execPerstDeassert]

@[simp] theorem execConfigRequest_regs (q : CfgRequest) (s : State) : (stateAfter s (execConfigRequest q s)).regs = s.regs := by
  unfold execConfigRequest
  repeat' split
  all_goals simp

@[simp] theorem State.countCheck_regs (s : State) (n : Fin 8) : (s.countCheck n).regs = s.regs := by
  simp [State.countCheck]

@[simp] theorem State.checkDesc_regs (s : State) (n : Fin 8) (d : Descriptor) : (s.checkDesc n d).2.regs = s.regs := by
  unfold State.checkDesc
  dsimp only
  repeat' split
  all_goals simp

@[simp] theorem State.fetchDesc_regs (s : State) (n : Fin 8) (r : DescRead) : (s.fetchDesc n r).regs = s.regs := by
  unfold State.fetchDesc
  repeat' split
  all_goals simp

@[simp] theorem execDescriptorFetch_regs (n : Fin 8) (r : DescRead) (s : State) :
    (stateAfter s (execDescriptorFetch n r s)).regs = s.regs := by
  simp [execDescriptorFetch]

@[simp] theorem State.updExec_regs (s : State) (n : Fin 8) (f : Exec → Exec) : (s.updExec n f).regs = s.regs := rfl

@[simp] theorem State.progress_regs (s : State) (n : Fin 8) (k : Nat) : (s.progress n k).regs = s.regs := rfl

@[simp] theorem State.partialDesc_regs (s : State) (n : Fin 8) (reason datum : Nat) : (s.partialDesc n reason datum).regs = s.regs := rfl

@[simp] theorem State.hostStop_regs (s : State) (n : Fin 8) (stop : XferStop) (datum : Nat) : (s.hostStop n stop datum).regs = s.regs := by
  unfold State.hostStop
  split <;> simp

@[simp] theorem State.copyOut_regs (s : State) (a : Nat) (bad : Option (Nat × ReadOutcome)) (n : Nat) :
    (s.copyOut a bad n).2.2.regs = s.regs := by
  induction n using Nat.strongRecOn generalizing s a bad with
  | ind n ih =>
    match n with
    | 0 => rfl
    | 1 =>
      unfold State.copyOut
      dsimp only
      split
      · simp
      · split <;> simp
    | k + 2 =>
      unfold State.copyOut
      dsimp only
      split
      · simp
      · split
        · split
          · simp [ih k (by omega)]
          · simp
        · split
          · simp [ih (k + 1) (by omega)]
          · simp

@[simp] theorem State.sendBytes_regs (s : State) (a : Nat) (bs : List Byte) : (s.sendBytes a bs).regs = s.regs := rfl

@[simp] theorem State.sendWords_regs (s : State) (a : Nat) (ws : List Word) : (s.sendWords a ws).regs = s.regs := rfl

@[simp] theorem State.doCopyOut_regs (s : State) (n : Fin 8) (x : Exec) (stop : XferStop) : (s.doCopyOut n x stop).regs = s.regs := by
  unfold State.doCopyOut
  extract_lets need r pack ws t t'
  have ht : t.regs = s.regs := by simp [t, r]
  have ht' : t'.regs = s.regs := by simp [t', ht]
  clear_value t'
  split <;> simp [ht']

@[simp] theorem execCopyOut_regs (n : Fin 8) (stop : XferStop) (s : State) : (stateAfter s (execCopyOut n stop s)).regs = s.regs := by
  unfold execCopyOut
  split <;> simp

@[simp] theorem State.deliverMsg_regs (s : State) (n : Fin 8) (i : BitVec 8) (cs : List Container) :
    (s.deliverMsg n i cs).regs = s.regs := by
  induction cs generalizing s with
  | nil => simp [State.deliverMsg]
  | cons c cs ih =>
    unfold State.deliverMsg
    split
    · simp
    · split
      · next hm => simp [ih, State.mailWord_some_regs hm]
      · simp

@[simp] theorem execMsg_regs (n : Fin 8) (s : State) : (stateAfter s (execMsg n s)).regs = s.regs := by
  unfold execMsg
  split <;> simp

@[simp] theorem execMailboxRetry_regs (n : Fin 8) (s : State) : (stateAfter s (execMailboxRetry n s)).regs = s.regs := by
  unfold execMailboxRetry
  split
  · rfl
  · split
    · rfl
    · dsimp only
      split <;> simp

@[simp] theorem execGaugeRead_regs (n : Fin 8) (s : State) : (stateAfter s (execGaugeRead n s)).regs = s.regs := by
  unfold execGaugeRead
  split <;> simp

@[simp] theorem State.readRing_regs (s : State) (m : Master) (q : BitVec 36) (ends : Nat → ReadOutcome) (j n : Nat) :
    (s.readRing m q ends j n).2.2.regs = s.regs := by
  induction n generalizing s j with
  | zero => rfl
  | succ n ih =>
    unfold State.readRing
    extract_lets p a o t
    have ht : t.regs = s.regs := by simp [t]
    split <;> simp [ih, ht]

@[simp] theorem State.doRecRead.finish_regs (n : Fin 8) (s : State) (absent : Option (BitVec 36)) :
    (State.doRecRead.finish n s absent).regs = s.regs := by
  unfold State.doRecRead.finish
  split <;> simp

@[simp] theorem State.doRecRead_regs (s : State) (n : Fin 8) (x : Exec) (stop : XferStop) : (s.doRecRead n x stop).regs = s.regs := by
  unfold State.doRecRead
  split
  · simp
  · extract_lets q r s1 ends f send
    have hs : ∀ u ws, (send u ws).regs = u.regs := fun u ws => by simp [send]
    have hf : f.2.2.regs = s.regs := by simp [f, s1]
    clear_value send f
    split <;> simp [hs, hf]

@[simp] theorem execRecRead_regs (n : Fin 8) (stop : XferStop) (s : State) : (stateAfter s (execRecRead n stop s)).regs = s.regs := by
  unfold execRecRead
  split <;> simp

@[simp] theorem execRecClear_regs (n : Fin 8) (s : State) : (stateAfter s (execRecClear n s)).regs = s.regs := by
  unfold execRecClear
  split <;> simp

@[simp] theorem State.loadWords_regs (s : State) (a : Nat) (bad : Option (Nat × WriteOutcome)) (ws : List PWord) :
    (s.loadWords a bad ws).2.2.regs = s.regs := by
  induction ws generalizing s a bad with
  | nil => rfl
  | cons w ws ih =>
    unfold State.loadWords
    extract_lets p r q
    have hr : r.2.regs = s.regs := by simp [r]
    have hq : q.2.2.regs = s.regs := (ih _ _ _).trans hr
    split
    · simp
    · split
      · exact hr
      · exact hq

@[simp] theorem State.doLoad_regs (s : State) (n : Fin 8) (x : Exec) (data : List Container) (stop : XferStop) :
    (s.doLoad n x data stop).regs = s.regs := by
  unfold State.doLoad
  extract_lets need good lim r t next
  have ht : t.regs = s.regs := by simp [t, r]
  clear_value t
  split
  · simp [ht]
  · exact ht
  · split
    · simp [ht]
    · split <;> simp [ht]

@[simp] theorem execLoadProgram_regs (n : Fin 8) (data : List Container) (stop : XferStop) (s : State) :
    (stateAfter s (execLoadProgram n data stop s)).regs = s.regs := by
  unfold execLoadProgram
  split <;> simp

@[simp] theorem execFence_regs (n : Fin 8) (s : State) : (stateAfter s (execFence n s)).regs = s.regs := by
  unfold execFence
  split <;> simp

@[simp] theorem State.endWaits_regs (s : State) (n : Fin 8) : (s.endWaits n).regs = s.regs := rfl

@[simp] theorem State.completionFails_regs (s : State) (n c : Fin 8) : (s.completionFails n c).regs = s.regs := by
  unfold State.completionFails
  extract_lets s1 s2
  rw [State.shtLine_regs]
  exact (foldl_regs _ (fun u m => by simp) _ _).trans (by simp [s2, s1])

@[simp] theorem State.cqPush_regs (s : State) (c : Fin 8) : (s.cqPush c).regs = s.regs := rfl

@[simp] theorem State.complete_regs (s : State) (n : Fin 8) (x : Exec) (st : BitVec 16) (res : BitVec 32) :
    (s.complete n x st res).regs = s.regs := by
  unfold State.complete
  extract_lets c q k s1 s2 s3
  have h3 : s3.regs = s.regs := by simp [s3, s2, s1]
  clear_value s3
  simp [h3]

@[simp] theorem execCompletionWrite_regs (n : Fin 8) (s : State) : (stateAfter s (execCompletionWrite n s)).regs = s.regs := by
  unfold execCompletionWrite
  split
  · split <;> simp
  · rfl

@[simp] theorem execCqTimerExpiry_regs (n : Fin 8) (s : State) : (stateAfter s (execCqTimerExpiry n s)).regs = s.regs := by
  simp [execCqTimerExpiry]

@[simp] theorem State.loadTimeout_regs (s : State) (e : Eng) (t : Thr) : (s.loadTimeout e t).regs = s.regs := by
  unfold State.loadTimeout
  split <;> simp

@[simp] theorem State.walkTimeout_regs (s : State) (e : Eng) : (s.walkTimeout e).regs = s.regs := by
  unfold State.walkTimeout
  split <;> simp

@[simp] theorem State.shuttleTimeout_regs (s : State) (n : Fin 8) : (s.shuttleTimeout n).regs = s.regs := by
  unfold State.shuttleTimeout
  split <;> simp

/-! #### Boot -/

@[simp] theorem State.bootFail_regs (s : State) (code : BitVec 7) (off : Nat) : (s.bootFail code off).regs = s.regs := rfl

@[simp] theorem State.headChecked_regs (s : State) (head : List Word) : (s.headChecked head).regs = s.regs := rfl

@[simp] theorem State.romStarts_regs (s : State) : s.romStarts.regs = s.regs := by
  simp [State.romStarts]

@[simp] theorem State.askBoot_regs (s : State) (n : Nat) : (s.askBoot n).regs = s.regs := by
  simp [State.askBoot]

@[simp] theorem execBootSourceStall_regs (s : State) : (stateAfter s (execBootSourceStall s)).regs = s.regs := by
  simp [execBootSourceStall]

/-! #### Clocks and supplies -/

@[simp] theorem State.govStep_regs (s : State) (dest : BitVec 2) : (s.govStep dest).regs = s.regs := rfl

@[simp] theorem execThermalConversion_regs (r0 r1 : Word) (s : State) : (stateAfter s (execThermalConversion r0 r1 s)).regs = s.regs := by
  simp [execThermalConversion]

@[simp] theorem execGovernorStepDown_regs (s : State) : (stateAfter s (execGovernorStepDown s)).regs = s.regs := by
  simp [execGovernorStepDown]

@[simp] theorem execGovernorStepUp_regs (s : State) : (stateAfter s (execGovernorStepUp s)).regs = s.regs := by
  simp [execGovernorStepUp]

@[simp] theorem execOverTemperature_regs (aboveMax : Bool) (s : State) :
    (stateAfter s (execOverTemperature aboveMax s)).regs = s.regs := by
  simp [execOverTemperature]

@[simp] theorem execSensorDisagree_regs (s : State) : (stateAfter s (execSensorDisagree s)).regs = s.regs := by
  simp [execSensorDisagree]

@[simp] theorem execClockLost_regs (k : ClockName) (s : State) : (stateAfter s (execClockLost k s)).regs = s.regs := by
  simp [execClockLost]

@[simp] theorem execClockOutOfRange_regs (k : ClockName) (s : State) : (stateAfter s (execClockOutOfRange k s)).regs = s.regs := by
  simp [execClockOutOfRange]

@[simp] theorem execClockReturn_regs (k : ClockName) (s : State) : (stateAfter s (execClockReturn k s)).regs = s.regs := by
  simp [execClockReturn]

@[simp] theorem execSupplyBelowGood_regs (r : Rail) (s : State) : (stateAfter s (execSupplyBelowGood r s)).regs = s.regs := by
  simp [execSupplyBelowGood]

@[simp] theorem execSupplyAboveLimit_regs (r : Rail) (s : State) : (stateAfter s (execSupplyAboveLimit r s)).regs = s.regs := by
  simp [execSupplyAboveLimit]

@[simp] theorem execSupplyReturn_regs (r : Rail) (s : State) : (stateAfter s (execSupplyReturn r s)).regs = s.regs := by
  simp [execSupplyReturn]

/-! #### The boot monitor -/

@[simp] theorem State.reply_regs (s : State) (vs : List (BitVec 36)) (err : Option (Fin 5)) : (s.reply vs err).regs = s.regs := rfl

theorem State.monitorCommand_regs (s : State) (f : State → State) (h : (f s).regs = s.regs) :
    (stateAfter s (s.monitorCommand f)).regs = s.regs := by
  simp [State.monitorCommand, h]

@[simp] theorem State.woken_regs (s : State) (a : Addr) : (s.woken a).regs = s.regs := by
  unfold State.woken
  extract_lets s1
  have h1 : s1.regs = s.regs := by
    unfold s1
    cases blockClu a <;> simp
  split <;> simp [h1]

@[simp] theorem State.monRead_regs (s : State) (x : MonEnds) (i a : Nat) : (s.monRead x i a).2.regs = s.regs := by
  unfold State.monRead
  split
  · rfl
  · dsimp only
    split <;> simp

theorem State.monRead_eq_regs {s u : State} {x : MonEnds} {i a : Nat} {v : Option Word} (h : s.monRead x i a = (v, u)) :
    u.regs = s.regs := by
  simpa [h] using s.monRead_regs x i a

@[simp] theorem State.monReads_regs (s : State) (x : MonEnds) (i a n : Nat) : (s.monReads x i a n).2.2.regs = s.regs := by
  induction n generalizing s i a with
  | zero => rfl
  | succ n ih =>
    unfold State.monReads
    split
    · next h => exact State.monRead_eq_regs h
    · next h => exact (ih _ _ _).trans (State.monRead_eq_regs h)

@[simp] theorem State.monCompare_regs (s : State) (x : MonEnds) (i a b n : Nat) : (s.monCompare x i a b n).2.2.regs = s.regs := by
  induction n generalizing s i a b with
  | zero => rfl
  | succ n ih =>
    unfold State.monCompare
    split
    · next h => exact State.monRead_eq_regs h
    · next h =>
      split
      · next h' => exact (State.monRead_eq_regs h').trans (State.monRead_eq_regs h)
      · next h' => exact (ih _ _ _ _).trans ((State.monRead_eq_regs h').trans (State.monRead_eq_regs h))

@[simp] theorem State.monE_regs (a : Addr) (n : Nat) (x : MonEnds) (s : State) : (State.monE a n x s).regs = s.regs := by
  simp [State.monE]

@[simp] theorem execMonitorE_regs (a : Addr) (n : Nat) (x : MonEnds) (s : State) :
    (stateAfter s (execMonitorE a n x s)).regs = s.regs := s.monitorCommand_regs _ (State.monE_regs a n x s)

@[simp] theorem State.monC_regs (a b : Addr) (n : Nat) (x : MonEnds) (s : State) : (State.monC a b n x s).regs = s.regs := by
  simp [State.monC]

@[simp] theorem execMonitorC_regs (a b : Addr) (n : Nat) (x : MonEnds) (s : State) :
    (stateAfter s (execMonitorC a b n x s)).regs = s.regs := s.monitorCommand_regs _ (State.monC_regs a b n x s)

@[simp] theorem State.monS_regs (a : Addr) (n : Nat) (v m : Word) (x : MonEnds) (s : State) : (State.monS a n v m x s).regs = s.regs := by
  simp [State.monS]

@[simp] theorem execMonitorS_regs (a : Addr) (n : Nat) (v m : Word) (x : MonEnds) (s : State) :
    (stateAfter s (execMonitorS a n v m x s)).regs = s.regs := s.monitorCommand_regs _ (State.monS_regs a n v m x s)

@[simp] theorem State.monI_regs (a : Addr) (x : MonEnds) (s : State) : (State.monI a x s).regs = s.regs := by
  unfold State.monI
  dsimp only
  repeat' split
  all_goals simp

@[simp] theorem execMonitorI_regs (a : Addr) (x : MonEnds) (s : State) :
    (stateAfter s (execMonitorI a x s)).regs = s.regs := s.monitorCommand_regs _ (State.monI_regs a x s)

@[simp] theorem State.monView_regs (s : State) (x : MonEnds) (as : List Nat) : (s.monView x as).regs = s.regs := by
  unfold State.monView
  extract_lets r
  have hr : r.2.2.2.regs = s.regs := by
    unfold r
    refine foldl_state_regs (fun p : List Word × Bool × Nat × State => p.2.2.2) _ (fun b a => ?_) _ _
    split
    · split
      · next h => exact State.monRead_eq_regs h
      · next h => exact State.monRead_eq_regs h
    · rfl
  simp [hr]

@[simp] theorem State.monL_regs (e : Eng) (x : MonEnds) (s : State) : (State.monL e x s).regs = s.regs := by
  simp [State.monL]

@[simp] theorem execMonitorL_regs (e : Eng) (x : MonEnds) (s : State) : (stateAfter s (execMonitorL e x s)).regs = s.regs :=
  s.monitorCommand_regs _ (State.monL_regs e x s)

@[simp] theorem State.monT_regs (e : Eng) (t : Thr) (x : MonEnds) (s : State) : (State.monT e t x s).regs = s.regs := by
  unfold State.monT
  split <;> simp

@[simp] theorem execMonitorT_regs (e : Eng) (t : Thr) (x : MonEnds) (s : State) :
    (stateAfter s (execMonitorT e t x s)).regs = s.regs := s.monitorCommand_regs _ (State.monT_regs e t x s)

@[simp] theorem State.monK_regs (x : MonEnds) (s : State) : (State.monK x s).regs = s.regs := by
  simp [State.monK]

@[simp] theorem execMonitorK_regs (x : MonEnds) (s : State) : (stateAfter s (execMonitorK x s)).regs = s.regs :=
  s.monitorCommand_regs _ (State.monK_regs x s)

@[simp] theorem State.monV_regs (q : BitVec 36) (n : Nat) (x : MonEnds) (s : State) : (State.monV q n x s).regs = s.regs := by
  simp [State.monV]

@[simp] theorem execMonitorV_regs (q : BitVec 36) (n : Nat) (x : MonEnds) (s : State) :
    (stateAfter s (execMonitorV q n x s)).regs = s.regs := s.monitorCommand_regs _ (State.monV_regs q n x s)

@[simp] theorem State.monW_regs (o : DWord) (n : Nat) (a : Addr) (back : List Byte) (x : MonEnds) (s : State) :
    (State.monW o n a back x s).regs = s.regs := by
  simp [State.monW]

@[simp] theorem execMonitorW_regs (o : DWord) (n : Nat) (a : Addr) (back : List Byte) (x : MonEnds) (s : State) :
    (stateAfter s (execMonitorW o n a back x s)).regs = s.regs := s.monitorCommand_regs _ (State.monW_regs o n a back x s)

/-! #### Trip rows -/

@[simp] theorem execFabricPinLevel_regs (p : Pin) (level : Bool) (copies : BitVec 3) (s : State) :
    (stateAfter s (execFabricPinLevel p level copies s)).regs = s.regs := by
  simp [execFabricPinLevel]

@[simp] theorem execComparatorEvaluate_regs (n : Fin 64) (s : State) : (stateAfter s (execComparatorEvaluate n s)).regs = s.regs := by
  simp [execComparatorEvaluate]

@[simp] theorem execSourceInvalidTimeout_regs (n : Fin 64) (s : State) : (stateAfter s (execSourceInvalidTimeout n s)).regs = s.regs := by
  simp [execSourceInvalidTimeout]

@[simp] theorem execTripRequestArrive_regs (e : Eng) (s : State) : (stateAfter s (execTripRequestArrive e s)).regs = s.regs := by
  simp [execTripRequestArrive]

@[simp] theorem execCopyDisagree_regs (w : CopyPlace) (s : State) : (stateAfter s (execCopyDisagree w s)).regs = s.regs := by
  unfold execCopyDisagree
  split <;> simp

@[simp] theorem execKdHalfPeriod_regs (s : State) : (stateAfter s (execKdHalfPeriod s)).regs = s.regs := by
  simp [execKdHalfPeriod]

@[simp] theorem execSafePairHalfPeriod_regs (s : State) : (stateAfter s (execSafePairHalfPeriod s)).regs = s.regs := by
  simp [execSafePairHalfPeriod]

@[simp] theorem execReadbackMismatch_regs (p : Fin 25) (s : State) : (stateAfter s (execReadbackMismatch p s)).regs = s.regs := by
  simp [execReadbackMismatch]

@[simp] theorem execEstopDiscrepancy_regs (s : State) : (stateAfter s (execEstopDiscrepancy s)).regs = s.regs := by
  simp [execEstopDiscrepancy]

@[simp] theorem execLockHoldEnd_regs (s : State) : (stateAfter s (execLockHoldEnd s)).regs = s.regs := by
  simp [execLockHoldEnd]

@[simp] theorem execLockFault_regs (hold : Bool) (s : State) : (stateAfter s (execLockFault hold s)).regs = s.regs := by
  simp [execLockFault]

@[simp] theorem execCpPwmPeriod_regs (s : State) : (stateAfter s (execCpPwmPeriod s)).regs = s.regs := by
  simp [execCpPwmPeriod]

@[simp] theorem State.pilotTick_regs (s : State) : s.pilotTick.regs = s.regs := by
  simp [State.pilotTick]

@[simp] theorem execPilotStale_regs (s : State) : (stateAfter s (execPilotStale s)).regs = s.regs := by
  simp [execPilotStale]

@[simp] theorem execImdInjToggle_regs (s : State) : (stateAfter s (execImdInjToggle s)).regs = s.regs := by
  simp [execImdInjToggle]

@[simp] theorem execPioEvent_regs (p : BitVec 6) (level : Bool) (s : State) : (stateAfter s (execPioEvent p level s)).regs = s.regs := by
  simp [execPioEvent]

@[simp] theorem execConfigCheckScan_regs (off : Word) (bad : Bool) (s : State) :
    (stateAfter s (execConfigCheckScan off bad s)).regs = s.regs := by
  simp [execConfigCheckScan]

@[simp] theorem execMsgQ_regs (e : Eng) (t : Thr) (s : State) : (stateAfter s (execMsgQ e t s)).regs = s.regs := by
  simp [execMsgQ]

/-! #### The idle step -/

@[simp] theorem State.fabricClock_regs (s : State) : s.fabricClock.regs = s.regs := by
  simp [State.fabricClock]

@[simp] theorem State.tick_regs (s : State) : s.tick.regs = s.regs := by
  unfold State.tick
  extract_lets s1 _ _ t
  have ht : t.regs = s.regs := s.serveDue_regs
  clear_value t
  simp [ht]

/-! ### What keeps them in canonical form -/

section
variable {s : State} (h : Cells.wf regReset s.regs = true)
include h

/-! #### Shared operations -/

@[simp] theorem State.setReg_regs_wf (a : Nat) (v : Word) : Cells.wf regReset (s.setReg a v).regs = true := s.setReg_wf a v h

/-! #### Votes and lanes -/

theorem State.voteEnd_regs_wf (e : Eng) (t : Thr) (odd : List Lane) (go : State → State)
    (hgo : ∀ u : State, Cells.wf regReset u.regs = true → Cells.wf regReset (go u).regs = true) :
    Cells.wf regReset (s.voteEnd e t odd go).regs = true := by
  unfold State.voteEnd
  split <;> simp [hgo, h]

theorem State.voteNow_regs_wf {α : Type} [DecidableEq α] (e : Eng) (t : Thr) (req : State → Option α) (go : α → State → State)
    (hgo : ∀ a (u : State), Cells.wf regReset u.regs = true → Cells.wf regReset (go a u).regs = true) :
    Cells.wf regReset (s.voteNow e t req go).regs = true := by
  unfold State.voteNow
  extract_lets r voted
  refine State.voteEnd_regs_wf h _ _ _ _ fun u hu => ?_
  clear_value voted
  cases voted with
  | none => exact hu
  | some a => exact hgo a u hu

/-! #### Shuttle operations -/

@[simp] theorem State.resetRings_regs_wf : Cells.wf regReset s.resetRings.regs = true :=
  Cells.wf_filter regReset regReset s.regs _ h fun _ _ _ => rfl

/-! #### Modes and resets -/

@[simp] theorem State.runEntry_regs_wf : Cells.wf regReset s.runEntry.regs = true := by
  unfold State.runEntry
  extract_lets s1 s2 s3 s4 s5 s6 s7 s8 s9
  have h4 : Cells.wf regReset s4.regs = true := by simp [s4, s3, s2, s1, h]
  have h5 : s5.regs = s4.regs := by
    unfold s5
    exact foldl_regs _ (fun u e => u.runEngine_regs e) _ _
  simp [s9, s8, s7, s6, h5, h4]

@[simp] theorem State.resetDevice_regs_wf (kind : BitVec 3) (src : BitVec 8) : Cells.wf regReset (s.resetDevice kind src).regs = true := by
  unfold State.resetDevice
  extract_lets cold joined rsrc wasSafe wasDegraded d t0 t1 t2
  have h0 : Cells.wf regReset t0.regs = true := Cells.wf_filter regReset regReset s.regs _ h fun _ _ _ => rfl
  have h2 : t2.regs = t0.regs := by simp [t2, t1]
  simp [h2, h0]

@[simp] theorem execColdReset_regs_wf (testEn : Bool) : Cells.wf regReset (stateAfter s (execColdReset testEn s)).regs = true := by
  simp [execColdReset, h]

@[simp] theorem execWarmReset_regs_wf : Cells.wf regReset (stateAfter s (execWarmReset s)).regs = true := by
  simp [execWarmReset, h]

@[simp] theorem execWatchdogReset_regs_wf : Cells.wf regReset (stateAfter s (execWatchdogReset s)).regs = true := by
  simp [execWatchdogReset, h]

@[simp] theorem execCollectorReset_regs_wf : Cells.wf regReset (stateAfter s (execCollectorReset s)).regs = true := by
  unfold execCollectorReset
  split <;> simp [h]

@[simp] theorem execCommandedReset_regs_wf : Cells.wf regReset (stateAfter s (execCommandedReset s)).regs = true := by
  simp [execCommandedReset, h]

@[simp] theorem State.loseVkeep_regs_wf : Cells.wf regReset s.loseVkeep.regs = true := by
  unfold State.loseVkeep
  extract_lets was s1 s2 s3 s4 s5
  have h2 : Cells.wf regReset s2.regs = true := Cells.wf_filter regReset regReset s.regs _ h fun _ _ _ => rfl
  simp [s5, s4, s3, h2]

@[simp] theorem execPowerUpEnd_regs_wf (vkeepLost : Bool) : Cells.wf regReset (stateAfter s (execPowerUpEnd vkeepLost s)).regs = true := by
  simp [execPowerUpEnd, h]

/-! #### Register writes -/

@[simp] theorem State.putDev_regs_wf (m : Master) (o : Nat) (v : Word) : Cells.wf regReset (s.putDev m o v).leaves.regs = true := by
  unfold State.putDev
  split <;> simp [h]

@[simp] theorem State.putClu_regs_wf (m : Master) (c : Clu) (o : Nat) (v : Word) :
    Cells.wf regReset (s.putClu m c o v).leaves.regs = true := by
  simp [State.putClu, h]

@[simp] theorem State.putSdf_regs_wf (o : Nat) (v : Word) : Cells.wf regReset (s.putSdf o v).leaves.regs = true := by
  simp [State.putSdf, h]

@[simp] theorem State.putAdc_regs_wf (o : Nat) (v : Word) : Cells.wf regReset (s.putAdc o v).leaves.regs = true := by
  simp [State.putAdc, h]

@[simp] theorem State.putMtr_regs_wf (o : Nat) (v : Word) : Cells.wf regReset (s.putMtr o v).leaves.regs = true := by
  unfold State.putMtr
  dsimp only
  split <;> simp [h]

@[simp] theorem State.selectedInputs_regs_wf : Cells.wf regReset s.selectedInputs.regs = true := by
  simp [State.selectedInputs, h]

@[simp] theorem State.keepTrf_regs_wf (o : Nat) (v : Word) : Cells.wf regReset (s.keepTrf o v).regs = true := by
  simp [State.keepTrf, h]

@[simp] theorem State.putTrf_regs_wf (o : Nat) (v : Word) : Cells.wf regReset (s.putTrf o v).leaves.regs = true := by
  simp [State.putTrf, h]

@[simp] theorem State.putPio_regs_wf (o : Nat) (v : Word) : Cells.wf regReset (s.putPio o v).leaves.regs = true := by
  simp [State.putPio, h]

@[simp] theorem State.putTctl_regs_wf (m : Master) (e : Eng) (v : Word) : Cells.wf regReset (s.putTctl m e v).leaves.regs = true := by
  simp [State.putTctl, h]

@[simp] theorem State.putEng_regs_wf (m : Master) (e : Eng) (o : Nat) (v : Word) :
    Cells.wf regReset (s.putEng m e o v).leaves.regs = true := by
  unfold State.putEng
  extract_lets a own clear
  have hc : ∀ w, (clear w).leaves.regs = s.regs := fun w => by simp [clear]
  clear_value clear
  cases laneOf (bitsAt v 0 2) <;> simp [hc, h]

@[simp] theorem State.putMon_regs_wf (g : Fin 32) (o : Nat) (v : Word) : Cells.wf regReset (s.putMon g o v).leaves.regs = true := by
  simp [State.putMon, h]

@[simp] theorem State.putSht_regs_wf (m : Master) (o : Nat) (v : Word) : Cells.wf regReset (s.putSht m o v).leaves.regs = true := by
  unfold State.putSht
  dsimp only
  split
  · split <;> simp [h]
  · split
    · split <;> simp [h]
    · split
      · split <;> simp [h]
      · simp [h]

@[simp] theorem State.putJsn_regs_wf (m : Master) (o : Nat) (v : Word) : Cells.wf regReset (s.putJsn m o v).leaves.regs = true := by
  simp [State.putJsn, h]

@[simp] theorem State.putRec_regs_wf (m : Master) (o : Nat) (v : Word) : Cells.wf regReset (s.putRec m o v).leaves.regs = true := by
  unfold State.putRec
  dsimp only
  split <;> simp [h]

@[simp] theorem State.putFcl_regs_wf (o : Nat) (v : Word) : Cells.wf regReset (s.putFcl o v).leaves.regs = true := by
  simp [State.putFcl, h]

@[simp] theorem State.putSel_regs_wf (page o : Nat) (v : Word) : Cells.wf regReset (s.putSel page o v).leaves.regs = true := by
  unfold State.putSel
  split
  case h_8 =>
    split
    · simp [h]
    · split
      · next hw => simp [State.wdgCommitGo_some_regs hw, h]
      · next hw => simp [State.wdgCommitGo_none_regs hw, h]
  all_goals simp [h]

@[simp] theorem State.put_regs_wf (m : Master) (a : Nat) (v : Word) : Cells.wf regReset (s.put m a v).leaves.regs = true := by
  unfold State.put
  dsimp only
  split <;> simp [h]

@[simp] theorem State.writeReg_regs_wf (m : Master) (a : Nat) (v : Word) : Cells.wf regReset (s.writeReg m a v).2.regs = true := by
  unfold State.writeReg
  dsimp only
  split
  · simp [h]
  · split
    · simp [h]
    · split
      · simp [h]
      · split
        · simp [h]
        · have hp : Cells.wf regReset ((s.wakeFor a).put m a v).leaves.regs = true := State.put_regs_wf (by simp [h]) m a v
          cases hq : (s.wakeFor a).put m a v with
          | ok t => simpa [hq] using hp
          | refused t => simpa [hq] using hp

@[simp] theorem State.writeCommand_regs_wf (m : Master) (a : Nat) (v : Word) :
    Cells.wf regReset (stateAfter s (s.writeCommand m a v)).regs = true := by
  simp [State.writeCommand, h]

/-! #### The bus -/

@[simp] theorem State.busWrite_regs_wf (m : Master) (a : Addr) (v : Word) (o : WriteOutcome) :
    Cells.wf regReset (s.busWrite m a v o).2.regs = true := by
  unfold State.busWrite
  extract_lets o' u
  have hu : u.regs = s.regs := by simp [u]
  split
  · simp [hu, h]
  · split <;> simp [apply_ite Prod.snd, hu, h]

/-! #### Loads, stores and blocks -/

@[simp] theorem State.storeWrite_regs_wf (e : Eng) (q : StoreEntry) (o o2 : WriteOutcome) :
    Cells.wf regReset (s.storeWrite e q o o2).2.2.regs = true := by
  unfold State.storeWrite
  extract_lets m r
  have hr : Cells.wf regReset r.2.regs = true := by simp [r, h]
  split
  · exact hr
  · split <;> simp [hr, h]

@[simp] theorem State.performStore_regs_wf (e : Eng) (q : StoreEntry) (o o2 : WriteOutcome) :
    Cells.wf regReset (s.performStore e q o o2).regs = true := by
  simp [State.performStore, h]

@[simp] theorem execStoreCommit_regs_wf (e : Eng) (o o2 : WriteOutcome) :
    Cells.wf regReset (stateAfter s (execStoreCommit e o o2 s)).regs = true := by
  unfold execStoreCommit
  split
  · simpa using h
  · simp [h]

@[simp] theorem State.blkPerform_regs_wf (m : Master) (q : BlkAsk) (o1 o2 : ReadOutcome) (ow : WriteOutcome) (r r2 : HostRead) :
    Cells.wf regReset (s.blkPerform m q o1 o2 ow r r2).2.regs = true := by
  unfold State.blkPerform
  extract_lets u
  have hu : u.2.regs = s.regs := by unfold u; split <;> simp
  clear_value u
  split
  · simp [hu, h]
  · simp [hu, h]
  · split
    · simp [hu, h]
    · simp [hu, h]

@[simp] theorem State.blkVoted_regs_wf (e : Eng) (t : Thr) (q : BlkAsk) (o1 o2 : ReadOutcome) (ow : WriteOutcome) (r r2 : HostRead) :
    Cells.wf regReset (s.blkVoted e t q o1 o2 ow r r2).regs = true := by
  unfold State.blkVoted
  extract_lets all m r
  have hr : Cells.wf regReset r.2.regs = true := by simp [r, h]
  split
  · exact h
  · split
    · rw [foldl_regs _ (fun u a => u.wake_regs a)]
      exact h
    · simp [hr, h]

@[simp] theorem State.blkStep_regs_wf (e : Eng) (t : Thr) (o1 o2 : ReadOutcome) (ow : WriteOutcome) (r r2 : HostRead) :
    Cells.wf regReset (s.blkStep e t o1 o2 ow r r2).regs = true := by
  unfold State.blkStep
  exact State.voteNow_regs_wf (by simp [h]) _ _ _ _ fun q u hu => State.blkVoted_regs_wf hu e t q o1 o2 ow r r2

@[simp] theorem execBlkElement_regs_wf (e : Eng) (t : Thr) (o1 o2 : ReadOutcome) (ow : WriteOutcome) (r r2 : HostRead) :
    Cells.wf regReset (stateAfter s (execBlkElement e t o1 o2 ow r r2 s)).regs = true := by
  simp [execBlkElement, h]

@[simp] theorem execBusyRepresent_regs_wf (e : Eng) (t : Thr) (o o2 : ReadOutcome) :
    Cells.wf regReset (stateAfter s (execBusyRepresent e t o o2 s)).regs = true := by
  unfold execBusyRepresent
  split
  · simp [h]
  · split <;> simp [h]

@[simp] theorem State.svpEffect_regs_wf (e : Eng) (q : SvpOp) : Cells.wf regReset (s.svpEffect e q).2.2.regs = true := by
  unfold State.svpEffect
  split
  · exact h
  · split
    · simp [h]
    · split <;> simp [h]

@[simp] theorem execSvpTakeEffect_regs_wf (e : Eng) : Cells.wf regReset (stateAfter s (execSvpTakeEffect e s)).regs = true := by
  unfold execSvpTakeEffect
  split <;> simp [h]

/-! #### The shuttle -/

@[simp] theorem State.bar2Word_regs_wf (off : Nat) (c : Container) : Cells.wf regReset (s.bar2Word off c).regs = true := by
  simp [State.bar2Word, h]

@[simp] theorem execBar2Write_regs_wf (off : BitVec 20) (be : BitVec 4) (data : BitVec 32) :
    Cells.wf regReset (stateAfter s (execBar2Write off be data s)).regs = true := by
  simp [execBar2Write, h]

@[simp] theorem execPerstAssert_regs_wf : Cells.wf regReset (stateAfter s (execPerstAssert s)).regs = true := by
  unfold execPerstAssert
  extract_lets up rings s1 s2 s3
  have h1 : Cells.wf regReset s1.regs = true := by simp [s1, h]
  simp [s3, s2, h1, h]

@[simp] theorem State.copyIn_regs_wf (a : Nat) (bad : Option (Nat × WriteOutcome)) (ws : List Word) :
    Cells.wf regReset (s.copyIn a bad ws).2.2.regs = true := by
  induction ws using List.twoStepInduction generalizing s a bad with
  | nil => exact h
  | singleton w =>
    rw [State.copyIn.eq_def]
    simp [apply_ite Prod.snd, h]
  | cons_cons w v rest ih ih' =>
    rw [State.copyIn.eq_def]
    dsimp -zeta only
    extract_lets p r q r' q'
    have hr : r.2.regs = s.regs := by simp [r]
    have hr' : Cells.wf regReset r'.2.regs = true := by simp [r', h]
    have hq : Cells.wf regReset q.2.2.regs = true := ih (by simp [hr, h]) _ _
    have hq' : Cells.wf regReset q'.2.2.regs = true := ih' v hr' _ _
    clear_value q q' r r'
    split
    · simp [h]
    · split
      · split
        · simp [hr, h]
        · exact hq
      · split
        · exact hr'
        · exact hq'

@[simp] theorem State.doCopyIn_regs_wf (n : Fin 8) (x : Exec) (data : List Container) (stop : XferStop) :
    Cells.wf regReset (s.doCopyIn n x data stop).regs = true := by
  unfold State.doCopyIn
  extract_lets need pack all ws a lone ws' first r t next
  have ht : Cells.wf regReset t.regs = true := by simp [t, r, h]
  clear_value t
  split
  · simp [ht]
  · exact ht
  · split
    · simp [ht]
    · split <;> simp [ht]

@[simp] theorem execCopyIn_regs_wf (n : Fin 8) (data : List Container) (stop : XferStop) :
    Cells.wf regReset (stateAfter s (execCopyIn n data stop s)).regs = true := by
  unfold execCopyIn
  split <;> simp [h]

@[simp] theorem State.storeTimeout_regs_wf (e : Eng) : Cells.wf regReset (s.storeTimeout e).regs = true := by
  unfold State.storeTimeout
  split <;> simp [h]

@[simp] theorem State.blockTimeout_regs_wf (e : Eng) (t : Thr) : Cells.wf regReset (s.blockTimeout e t).regs = true := by
  simp [State.blockTimeout, h]

@[simp] theorem execWeftTransferTimeout_regs_wf (x : Transfer) :
    Cells.wf regReset (stateAfter s (execWeftTransferTimeout x s)).regs = true := by
  cases x <;> simp [execWeftTransferTimeout, h]

/-! #### Boot -/

@[simp] theorem State.finishSetup_regs_wf : Cells.wf regReset s.finishSetup.regs = true := by
  simp [State.finishSetup, h]

@[simp] theorem State.loaded_regs_wf (head : List Word) : Cells.wf regReset (s.loaded head).regs = true := by
  simp [State.loaded, h]

@[simp] theorem State.loadAct_regs_wf (a : LoadAct) (fails : Bool) : Cells.wf regReset (s.loadAct a fails).2.regs = true := by
  cases a <;> simp [State.loadAct, h]

@[simp] theorem State.loadActs_regs_wf (bad : Option Nat) (as : List LoadAct) : Cells.wf regReset (s.loadActs bad as).2.regs = true := by
  induction as generalizing s with
  | nil => exact h
  | cons a as ih =>
    unfold State.loadActs
    extract_lets fails r
    have hr : Cells.wf regReset r.2.regs = true := by simp [r, h]
    clear_value r
    split
    · exact ih hr
    · exact hr

@[simp] theorem State.receive_regs_wf (ws : List Word) (outcome : LoadEnd) : Cells.wf regReset (s.receive ws outcome).regs = true := by
  unfold State.receive
  extract_lets old fails ws' image l s1 s2 r
  have h2 : Cells.wf regReset s2.regs = true := by simp [s2, s1, h]
  have hr : Cells.wf regReset r.2.regs = true := State.loadActs_regs_wf h2 _ _
  clear_value r
  split <;> simp [hr]

@[simp] theorem State.beginLoad_regs_wf (source : BitVec 3) : Cells.wf regReset (s.beginLoad source).regs = true := by
  simp [State.beginLoad, h]

@[simp] theorem execBootStart.startFrom_regs_wf (u : State) : Cells.wf regReset (stateAfter u (execBootStart.startFrom s)).regs = true := by
  simp [execBootStart.startFrom, h]

@[simp] theorem execBootStart_regs_wf : Cells.wf regReset (stateAfter s (execBootStart s)).regs = true := by
  unfold execBootStart
  dsimp only
  split
  · exact h
  · exact execBootStart.startFrom_regs_wf (by simp [h]) s

@[simp] theorem State.takeFlash_regs_wf (bs : List Byte) (outcome : LoadEnd) : Cells.wf regReset (s.takeFlash bs outcome).regs = true := by
  simp [State.takeFlash, h]

@[simp] theorem execQspiLoad_regs_wf (image : List Byte) (outcome : LoadEnd) :
    Cells.wf regReset (stateAfter s (execQspiLoad image outcome s)).regs = true := by
  simp [execQspiLoad, h]

@[simp] theorem execHostLoad.bad_regs_wf (ws : List Word) (outcome : LoadEnd) (c : Container) (k : Nat) :
    Cells.wf regReset (execHostLoad.bad s ws outcome c k).regs = true := by
  simp [execHostLoad.bad, h]

@[simp] theorem execHostLoad_regs_wf (image : List Container) (outcome : LoadEnd) :
    Cells.wf regReset (stateAfter s (execHostLoad image outcome s)).regs = true := by
  unfold execHostLoad
  extract_lets s1 good ws
  have h1 : Cells.wf regReset s1.regs = true := by simp [s1, h]
  clear_value s1
  split
  · exact h
  · split
    · split <;> simp [h1]
    · simp [h1]

@[simp] theorem State.takeBoot_regs_wf (ws : List Word) (outcome : LoadEnd) : Cells.wf regReset (s.takeBoot ws outcome).regs = true := by
  simp [State.takeBoot, h]

@[simp] theorem State.receiveMail_regs_wf (p : Port) (f : Frame) (outcome : LoadEnd) :
    Cells.wf regReset (s.receiveMail p f outcome).regs = true := by
  simp [State.receiveMail, h]

@[simp] theorem execMail_regs_wf (p : Port) (f : Frame) : Cells.wf regReset (stateAfter s (execMail p f s)).regs = true := by
  simp [execMail, h]

@[simp] theorem execBootFrame_regs_wf (off : DWord) (head : BootHead) (data : List Word) (outcome : LoadEnd) :
    Cells.wf regReset (stateAfter s (execBootFrame off head data outcome s)).regs = true := by
  simp [execBootFrame, h]

@[simp] theorem State.doRecord_regs_wf (a : Addr) (v : Word) : Cells.wf regReset (s.doRecord a v).2.regs = true := by
  simp [State.doRecord, apply_ite Prod.snd, h]

@[simp] theorem execSetupRecord_regs_wf : Cells.wf regReset (stateAfter s (execSetupRecord s)).regs = true := by
  unfold execSetupRecord
  split
  · exact h
  · split <;> simp [h]

@[simp] theorem execCompletionTimeout_regs_wf (x : HostXfer) :
    Cells.wf regReset (stateAfter s (execCompletionTimeout x s)).regs = true := by
  cases x with
  | load e t =>
    simp only [execCompletionTimeout]
    split <;> simp [h]
  | block e t => simp [execCompletionTimeout, h]
  | fetch n => simp [execCompletionTimeout, h]
  | copy n data =>
    simp only [execCompletionTimeout]
    split <;> simp [h]
  | boot => simp [execCompletionTimeout, h]

/-! #### The boot monitor -/

theorem State.monitorCommand_regs_wf (f : State → State) (hf : Cells.wf regReset (f s).regs = true) :
    Cells.wf regReset (stateAfter s (s.monitorCommand f)).regs = true := by
  simp [State.monitorCommand, hf, h]

@[simp] theorem State.monWrite_regs_wf (x : MonEnds) (i a : Nat) (v : Word) : Cells.wf regReset (s.monWrite x i a v).2.regs = true := by
  simp [State.monWrite, apply_ite Prod.snd, h]

theorem State.monWrite_eq_regs_wf {u : State} {x : MonEnds} {i a : Nat} {v : Word} {e : Option (Fin 5)}
    (hw : s.monWrite x i a v = (e, u)) : Cells.wf regReset u.regs = true := by
  simpa [hw] using State.monWrite_regs_wf h x i a v

@[simp] theorem State.monFill_regs_wf (x : MonEnds) (i a : Nat) (v : Word) (n : Nat) :
    Cells.wf regReset (s.monFill x i a v n).2.regs = true := by
  induction n generalizing s i a with
  | zero => exact h
  | succ n ih =>
    unfold State.monFill
    split
    · next hw => exact State.monWrite_eq_regs_wf h hw
    · next hw => exact ih (State.monWrite_eq_regs_wf h hw) _ _

@[simp] theorem State.monCopy_regs_wf (x : MonEnds) (i a b n : Nat) : Cells.wf regReset (s.monCopy x i a b n).2.regs = true := by
  induction n generalizing s i a b with
  | zero => exact h
  | succ n ih =>
    unfold State.monCopy
    split
    · next hr => simpa [State.monRead_eq_regs hr] using h
    · next hr =>
      have ht := (congrArg (Cells.wf regReset) (State.monRead_eq_regs hr)).trans h
      split
      · next hw => exact State.monWrite_eq_regs_wf ht hw
      · next hw => exact ih (State.monWrite_eq_regs_wf ht hw) _ _ _

@[simp] theorem State.monSteps_regs_wf (x : MonEnds) (i a : Nat) (vs : List MonAnswer) :
    Cells.wf regReset (s.monSteps x i a vs).2.2.regs = true := by
  have hr : ∀ {u v : State} {x : MonEnds} {i a : Nat} {w : Option Word}, Cells.wf regReset u.regs = true → u.monRead x i a = (w, v) →
      Cells.wf regReset v.regs = true := fun hu hm => (congrArg (Cells.wf regReset) (State.monRead_eq_regs hm)).trans hu
  induction vs generalizing s i a with
  | nil =>
    unfold State.monSteps
    split
    · next hm => exact hr h hm
    · next hm => exact hr h hm
  | cons m vs ih =>
    cases m with
    | stop =>
      unfold State.monSteps
      split
      · next hm => exact hr h hm
      · next hm => exact hr h hm
    | value v =>
      unfold State.monSteps
      split
      · next hm => exact hr h hm
      · next hm => simp [hr h hm]
    | step =>
      unfold State.monSteps
      split
      · next hm => exact hr h hm
      · next hm => exact ih (hr h hm) _ _

@[simp] theorem State.monA_regs_wf (a : Addr) (vs : List MonAnswer) (x : MonEnds) :
    Cells.wf regReset (State.monA a vs x s).regs = true := by
  simp [State.monA, h]

@[simp] theorem execMonitorA_regs_wf (a : Addr) (v : List MonAnswer) (x : MonEnds) :
    Cells.wf regReset (stateAfter s (execMonitorA a v x s)).regs = true :=
  State.monitorCommand_regs_wf h _ (State.monA_regs_wf h a v x)

@[simp] theorem State.monF_regs_wf (a : Addr) (n : Nat) (v : Word) (x : MonEnds) :
    Cells.wf regReset (State.monF a n v x s).regs = true := by
  simp [State.monF, h]

@[simp] theorem execMonitorF_regs_wf (a : Addr) (n : Nat) (v : Word) (x : MonEnds) :
    Cells.wf regReset (stateAfter s (execMonitorF a n v x s)).regs = true :=
  State.monitorCommand_regs_wf h _ (State.monF_regs_wf h a n v x)

@[simp] theorem State.monM_regs_wf (a b : Addr) (n : Nat) (x : MonEnds) : Cells.wf regReset (State.monM a b n x s).regs = true := by
  simp [State.monM, h]

@[simp] theorem execMonitorM_regs_wf (a b : Addr) (n : Nat) (x : MonEnds) :
    Cells.wf regReset (stateAfter s (execMonitorM a b n x s)).regs = true :=
  State.monitorCommand_regs_wf h _ (State.monM_regs_wf h a b n x)

@[simp] theorem State.monO_regs_wf (a : Addr) (v : Word) (x : MonEnds) : Cells.wf regReset (State.monO a v x s).regs = true := by
  simp [State.monO, h]

@[simp] theorem execMonitorO_regs_wf (a : Addr) (v : Word) (x : MonEnds) :
    Cells.wf regReset (stateAfter s (execMonitorO a v x s)).regs = true :=
  State.monitorCommand_regs_wf h _ (State.monO_regs_wf h a v x)

@[simp] theorem State.monG_regs_wf (x : MonEnds) : Cells.wf regReset (State.monG x s).regs = true := by
  simp [State.monG, h]

@[simp] theorem execMonitorG_regs_wf (x : MonEnds) : Cells.wf regReset (stateAfter s (execMonitorG x s)).regs = true :=
  State.monitorCommand_regs_wf h _ (State.monG_regs_wf h x)

@[simp] theorem State.monGThread_regs_wf (e : Eng) (t : Thr) (b : Option PAddr) (x : MonEnds) :
    Cells.wf regReset (State.monGThread e t b x s).regs = true := by
  unfold State.monGThread
  extract_lets had w u
  have hw : Cells.wf regReset w.2.regs = true := by simp [w, h]
  have hu : Cells.wf regReset u.regs = true := by simp [u, hw]
  clear_value u w
  split <;> simp [hu, h]

@[simp] theorem execMonitorGThread_regs_wf (e : Eng) (t : Thr) (b : Option PAddr) (x : MonEnds) :
    Cells.wf regReset (stateAfter s (execMonitorGThread e t b x s)).regs = true :=
  State.monitorCommand_regs_wf h _ (State.monGThread_regs_wf h e t b x)

@[simp] theorem State.monH_regs_wf (e : Eng) (t : Thr) (x : MonEnds) : Cells.wf regReset (State.monH e t x s).regs = true := by
  simp [State.monH, h]

@[simp] theorem execMonitorH_regs_wf (e : Eng) (t : Thr) (x : MonEnds) :
    Cells.wf regReset (stateAfter s (execMonitorH e t x s)).regs = true :=
  State.monitorCommand_regs_wf h _ (State.monH_regs_wf h e t x)

@[simp] theorem State.monX_regs_wf (g : Fin 32) (snap : Bool) (x : MonEnds) : Cells.wf regReset (State.monX g snap x s).regs = true := by
  simp [State.monX, apply_ite Prod.snd, h]

@[simp] theorem execMonitorX_regs_wf (g : Fin 32) (snap : Bool) (x : MonEnds) :
    Cells.wf regReset (stateAfter s (execMonitorX g snap x s)).regs = true :=
  State.monitorCommand_regs_wf h _ (State.monX_regs_wf h g snap x)

@[simp] theorem State.monQ_regs_wf (src : Fin 3) (image : List Word) (outcome : LoadEnd) :
    Cells.wf regReset (State.monQ src image outcome s).regs = true := by
  simp [State.monQ, h]

@[simp] theorem execMonitorQ_regs_wf (src : Fin 3) (image : List Word) (outcome : LoadEnd) :
    Cells.wf regReset (stateAfter s (execMonitorQ src image outcome s)).regs = true :=
  State.monitorCommand_regs_wf h _ (State.monQ_regs_wf h src image outcome)

/-! #### Pins and the test access port -/

@[simp] theorem State.tapEdge_regs_wf (tms tdi : Bool) : Cells.wf regReset (s.tapEdge tms tdi).regs = true := by
  unfold State.tapEdge
  extract_lets x t
  have ht : Cells.wf regReset t.regs = true := h
  simp [ht]

@[simp] theorem State.tapInput_regs_wf (i : TapInput) : Cells.wf regReset (s.tapInput i).regs = true := by
  cases i with
  | edge tms tdi => exact State.tapEdge_regs_wf h tms tdi
  | trst => exact h

@[simp] theorem execTestAccessReset_regs_wf (xs : List TapInput) :
    Cells.wf regReset (stateAfter s (execTestAccessReset s xs)).regs = true := by
  unfold execTestAccessReset
  rw [stateAfter_next]
  induction xs generalizing s with
  | nil => exact h
  | cons x xs ih => exact ih (State.tapInput_regs_wf h x)

@[simp] theorem execRegisterWrite_regs_wf (m : Master) (a : Addr) (v : Word) :
    Cells.wf regReset (stateAfter s (execRegisterWrite m a v s)).regs = true := by
  simp [execRegisterWrite, h]

/-! #### The commands and the step -/

/-- What leaves the stored registers keeps their canonical form. -/
theorem Cells.wf_of_regs_eq {u : State} (hu : u.regs = s.regs) : Cells.wf regReset u.regs = true := by
  rw [hu]
  exact h

/-- Every command keeps the register file in canonical form: the triggers of the unit ports, the writes of single registers, and the other
rows, each by its lemma above. -/
theorem exec_regs_wf (c : Instr) : Cells.wf regReset (stateAfter s (exec c s)).regs = true := by
  cases c with
  | aluAdd | aluAdc | aluSub | aluSbc | aluAnd | aluOr | aluXor | aluShl | aluShr | aluSar | aluCmp | mulGo | macMac | macMsu | macMul
  | macClr | macShr | apxRcp | apxSq | apxL2 | apxDiv | lsuLdpi | lsuLd1pi | lsuStpd | lsuSt1pd | lsuLdx | lsuStx | lsuLdb | lsuStb
  | lsuFnc | pcuJmp | pcuJal | pcuRet | pcuJnz | pcuTm | pcuKr | icuInv | icuPin | icuSync | smpOpen | smpSkip | msgSnd | msgFlush
  | inpSnap | tmrStart | tmrStop | mmuInvp | mmuInvk | mmuInva | trpSet | trpClr | trpSetm | trpSetmh | wdcCheck | wdcServe | svpWr
  | svpWri | svpRd | svpRdi | svpFnc | blkMove | blkFill | blkCmp | blkScan =>
    exact Cells.wf_of_regs_eq h (State.fire_regs s _ _ _ _ _ fun u f => by simp)
  | engIpendClear | engSwiSet | engSwiClr | engTctlGo | engTctlHalt | engCfgWrite | engHinj | cluFlexWrite | mtrClr | mtrLatch
  | tcCfgWrite | tlrel | tlgWrite | pioCpcfgWrite | pioImdWrite | pioGdirWrite | selEngWrite | selLockWrite | selCmdSafe | selCmdReset
  | selSrel | selAliveWrite | fclSclr | fclConfigWrite | wdgCommit | wdgHold | recCfgWrite | recSwgo | recFgo | recWtrig | selRconf
  | monArm | monSnap | create | revoke | sqEnable | sqDisable | cqEnable | cqDisable | sqctlUnq | jsnTxctl | devGo | devMctlPrecise
  | devMctlDoze | devMctlDzmask | modSeal | modUnseal | modSolo =>
    exact State.writeCommand_regs_wf h _ _ _
  | _ => simp [exec, h]

end

/-- Settles O5: a step is one fabric clock, which stores no register, or one command. -/
theorem stepKeepsRegistersCanonical : Obligations.StepKeepsRegistersCanonical := by
  unfold Obligations.StepKeepsRegistersCanonical
  intro s u h hs
  unfold step at hs
  split at hs
  · cases hs
    simpa [State.regsCanonical] using h
  · next c rest _ =>
    have hc := exec_regs_wf (s := { s with pending := rest }) h c
    rwa [hs] at hc

end Sys2Proof.Machine

namespace Sys2Proof.Machine

/-! ### O9: what is written is read back

`Cells.read_write` says it of one sparse memory. A register is one such memory read at its key; a data word and a program word are two,
the word as it was written and the bits of it that are wrong, so each needs both halves. -/

/-- The four parts of the memory's canonical form that the words read rest on. -/
theorem State.memCanonical_wf {s : State} (h : s.memCanonical = true) :
    Cells.wf s.memDefault s.mem = true ∧ Cells.wf s.progDefault s.prog = true ∧ Cells.wf (fun _ => (0 : BitVec 15)) s.upset = true := by
  simp only [State.memCanonical, Bool.and_eq_true] at h
  obtain ⟨⟨⟨⟨⟨hmem, hprog⟩, -⟩, -⟩, hupset⟩, -⟩ := h
  exact ⟨hmem, hprog, hupset⟩

/-- Two program words have one key only when they are one word of one cluster: a cluster's words fill 2^17 keys. -/
theorem progKey_inj {c d : Clu} {n k : PAddr} : progKey d k = progKey c n ↔ d = c ∧ k = n := by
  have hn := n.isLt
  have hk := k.isLt
  unfold progKey
  constructor
  · intro h
    exact ⟨Fin.ext (by omega), BitVec.eq_of_toNat_eq (by omega)⟩
  · rintro ⟨rfl, rfl⟩
    rfl

/-- The key of a program word among the words that are wrong separates the words as `progKey` does. -/
theorem upsetKey_inj {c d : Clu} {n k : PAddr} : upsetKey d k = upsetKey c n ↔ d = c ∧ k = n := by
  rw [← progKey_inj, upsetKey, upsetKey, Nat.add_left_cancel_iff]

/-- A write takes what was wrong of its own word away and leaves every other word's (R186). -/
theorem State.flips_of_upset {s u : State} {a b : Nat} (h : Cells.wf (fun _ => (0 : BitVec 15)) s.upset = true)
    (hu : u.upset = Cells.write 0 s.upset a 0) : u.flips b = if b = a then 0 else s.flips b := by
  rw [State.flips, hu]
  exact Cells.read_write (fun _ => (0 : BitVec 15)) s.upset a b 0 h

theorem State.reg_setReg {s : State} (h : s.regsCanonical = true) (a b : Nat) (v : Word) :
    (s.setReg a v).reg b = if b = a then v &&& regMask a else s.reg b :=
  Cells.read_write regReset s.regs a b (v &&& regMask a) h

theorem State.memWord_setMem {s : State} (h : s.memCanonical = true) (a b : Nat) (v : Word) :
    (s.setMem a v).memWord b = if b = a then v else s.memWord b := by
  obtain ⟨hmem, -, hupset⟩ := State.memCanonical_wf h
  have hw : (s.setMem a v).written b = if b = a then v else s.written b := Cells.read_write s.memDefault s.mem a b v hmem
  have hf : (s.setMem a v).flips b = if b = a then 0 else s.flips b := State.flips_of_upset hupset rfl
  rw [State.memWord, hw, hf]
  split <;> simp [State.memWord]

theorem State.progWord_setProg {s : State} (h : s.memCanonical = true) (c d : Clu) (n k : PAddr) (v : PWord) :
    (s.setProg c n v).progWord d k = if d = c ∧ k = n then v else s.progWord d k := by
  obtain ⟨-, hprog, hupset⟩ := State.memCanonical_wf h
  have hw : (s.setProg c n v).progWritten d k = if progKey d k = progKey c n then v else s.progWritten d k :=
    Cells.read_write s.progDefault s.prog (progKey c n) (progKey d k) v hprog
  have hf : (s.setProg c n v).flips (upsetKey d k) = if upsetKey d k = upsetKey c n then 0 else s.flips (upsetKey d k) :=
    State.flips_of_upset hupset rfl
  simp only [progKey_inj, upsetKey_inj] at hw hf
  rw [State.progWord, hw, hf]
  split <;> simp [State.progWord]

/-- Settles O9: the three memories' rules, one for each part. -/
theorem storedWordsReadBackAsWritten : Obligations.StoredWordsReadBackAsWritten := by
  unfold Obligations.StoredWordsReadBackAsWritten
  exact ⟨fun _ a b v h => State.reg_setReg h a b v, fun _ a b v h => State.memWord_setMem h a b v,
    fun _ c d n k v h => State.progWord_setProg h c d n k v⟩

end Sys2Proof.Machine

namespace Sys2Proof.Machine

/-! ### O60: register writes -/

/-! #### The registers that only store -/

/-- A word address inside the register region (R170). -/
theorem regionOf_regs {x : Nat} (h0 : 0x800000 ≤ x) (h1 : x < 0x850000) : regionOf (BitVec.ofNat 24 x) = .regs := by
  have hx : (BitVec.ofNat 24 x).toNat = x := by
    rw [BitVec.toNat_ofNat]
    omega
  simp [regionOf, hx, h1, Nat.not_lt.mpr h0]

theorem toNat_ofNat_regs {x : Nat} (h : x < 0x850000) : (BitVec.ofNat 24 x).toNat = x := by
  rw [BitVec.toNat_ofNat]
  omega

/-- A register write of an address in the register region is the write command at that address. -/
theorem exec_registerWrite_regs {s : State} (m : Master) {x : Nat} (v : Word) (h0 : 0x800000 ≤ x) (h1 : x < 0x850000) :
    exec (.registerWrite m (BitVec.ofNat 24 x) v) s = s.writeCommand m x v := by
  have h : exec (.registerWrite m (BitVec.ofNat 24 x) v) s = execRegisterWrite m (BitVec.ofNat 24 x) v s := rfl
  rw [h, execRegisterWrite, regionOf_regs h0 h1, toNat_ofNat_regs h1]
  simp

/-- The registers that only store: clock and companion blocks whole, and the words of the other blocks that no clause of theirs names. -/
def storesOnly (x : Nat) : Prop :=
  let page := x / 0x1000
  let o := x % 0x1000
  let g := x % 0x100
  page = 0x801 ∨ page = 0x816 ∨
    ((page = 0x804 ∨ page = 0x805) ∧ (o % 0x400 = 1 ∨ o % 0x400 = 2)) ∨
    (page = 0x808 ∧ 0x100 ≤ o ∧ o % 8 ≠ 0) ∨
    (page = 0x809 ∧ o < 2) ∨
    (page = 0x810 ∧ (3 ≤ o ∧ o < 0x10 ∨ 0x16 ≤ o ∧ o < 0x100 ∨ 0x200 ≤ o ∧ o < 0x300 ∧ o % 32 = 8)) ∨
    (page = 0x814 ∧ (0x20 ≤ o ∧ o ≤ 0x22 ∨ 0x40 ≤ o ∧ o ≤ 0x43)) ∨
    (page = 0x843 ∧ o < 7) ∨
    (0x820 ≤ page ∧ page ≤ 0x823 ∧ (1 ≤ g ∧ g ≤ 3 ∨ 0x10 ≤ g ∧ g ≤ 0x19))

theorem storesOnly_range {x : Nat} (h : storesOnly x) : 0x800000 ≤ x ∧ x < 0x850000 := by
  unfold storesOnly at h
  omega

section
variable (s : State) (m : Master) (v : Word)

theorem State.putClu_stored (c : Clu) {o : Nat} (h : o = 1 ∨ o = 2) : s.putClu m c o v = .ok (s.setReg (cluBase c + o) v) := by
  rcases h with rfl | rfl <;> rfl

theorem State.putSdf_stored {o : Nat} (h : 0x100 ≤ o) (h8 : o % 8 ≠ 0) : s.putSdf o v = .ok (s.setReg (sdfBase + o) v) := by
  have h1 : ¬ o ≤ 0xB := by omega
  have h2 : rng o 0x11 0x14 = false := by simp [rng]; omega
  simp [State.putSdf, h1, h2, h8, State.keep]

theorem State.putAdc_stored {o : Nat} (h : o < 2) : s.putAdc o v = .ok (s.setReg (adcBase + o) v) := by
  have h1 : rng o 0x10 0x2F = false := by simp [rng]; omega
  simp [State.putAdc, h1, State.keep, State.unless]

theorem State.putSht_stored {o : Nat} (h : 3 ≤ o ∧ o < 0x10 ∨ 0x16 ≤ o ∧ o < 0x100 ∨ 0x200 ≤ o ∧ o < 0x300 ∧ o % 32 = 8) :
    s.putSht m o v = .ok (s.setReg (shtBase + o) v) := by
  by_cases h0 : o < 0x100
  · simp only [State.putSht, h0, if_true]
    split
    case h_10 => rfl
    all_goals omega
  · have h1 : ¬ o < 0x200 := by omega
    have h2 : o < 0x300 := by omega
    have h8 : o % 32 = 8 := by omega
    simp [State.putSht, h0, h1, h2, h8, State.keep]

theorem State.putRec_stored {o : Nat} (h : 0x20 ≤ o ∧ o ≤ 0x22 ∨ 0x40 ≤ o ∧ o ≤ 0x43) :
    s.putRec m o v = .ok (s.setReg (recBase + o) v) := by
  unfold State.putRec
  split
  case h_8 => rfl
  all_goals omega

theorem State.putSel_wdg_stored {o : Nat} (h : o < 7) : s.putSel 3 o v = .ok (s.setReg (wdgBase + o) v) := by
  have h7 : o ≠ 7 := by omega
  have h8 : o ≠ 8 := by omega
  simp [State.putSel, State.keep]

theorem State.putEng_stored (e : Eng) {o : Nat} (h : 1 ≤ o ∧ o ≤ 3 ∨ 0x10 ≤ o ∧ o ≤ 0x19) :
    s.putEng m e o v = .ok (s.setReg (engBase e + o) v) := by
  have h0 : o ≠ 0 := by omega
  have h4 : o ≠ 4 := by omega
  have h1 : rng o 0x1A 0x1C = false := by simp [rng]; omega
  have h2 : o ≠ 0x1D := by omega
  have h3 : rng o 0x20 0x3F = false := by simp [rng]; omega
  have h5 : o ≠ 0x40 := by omega
  have h6 : o ≠ 0x41 := by omega
  have h7 : o ≠ 0x42 := by omega
  have h8 : o ≠ 0x4B := by omega
  simp [State.putEng, h0, h4, h1, h2, h3, h5, h6, h7, h8, State.keep]

/-- A register that only stores takes every write in its own word. -/
theorem State.put_of_storesOnly {x : Nat} (h : storesOnly x) : s.put m x v = .ok (s.setReg x v) := by
  unfold storesOnly at h
  rcases h with hp | hp | ⟨hp, ho⟩ | ⟨hp, h0, h8⟩ | ⟨hp, ho⟩ | ⟨hp, ho⟩ | ⟨hp, ho⟩ | ⟨hp, ho⟩ | ⟨h0, h1, ho⟩
  · simp only [State.put, hp]
    rfl
  · simp only [State.put, hp]
    rfl
  · have ha : cluBase ⟨(x - 0x804000) / 0x400 % 8, by omega⟩ + x % 0x400 = x := by
      simp [cluBase]; omega
    rcases hp with hp | hp <;>
    · simp only [State.put, hp]
      rw [State.putClu_stored _ _ _ _ (by omega), ha]
  · simp only [State.put, hp]
    rw [State.putSdf_stored _ _ h0 h8, show sdfBase + x % 0x1000 = x by simp [sdfBase]; omega]
  · simp only [State.put, hp]
    rw [State.putAdc_stored _ _ ho, show adcBase + x % 0x1000 = x by simp [adcBase]; omega]
  · simp only [State.put, hp]
    rw [State.putSht_stored _ _ _ ho, show shtBase + x % 0x1000 = x by simp [shtBase]; omega]
  · simp only [State.put, hp]
    rw [State.putRec_stored _ _ _ ho, show recBase + x % 0x1000 = x by simp [recBase]; omega]
  · simp only [State.put, hp]
    rw [State.putSel_wdg_stored _ _ ho, show wdgBase + x % 0x1000 = x by simp [wdgBase]; omega]
  · have ha : engBase ⟨(x - 0x820000) / 0x100 % 64, by omega⟩ + x % 0x100 = x := by
      simp [engBase]; omega
    have hp : x / 0x1000 = 0x820 ∨ x / 0x1000 = 0x821 ∨ x / 0x1000 = 0x822 ∨ x / 0x1000 = 0x823 := by omega
    rcases hp with hp | hp | hp | hp <;>
    · simp only [State.put, hp]
      rw [State.putEng_stored _ _ _ _ ho, ha]
end

end Sys2Proof.Machine
namespace Sys2Proof.Machine

/-! #### What a restart of a cluster's clocks changes

A write at a register of an engine or a cluster first restarts the clocks of its cluster (R457), and what waited at the delivery points
enters the lanes. All of that stays inside the engines of that cluster and what they report; `State.Within` says so for one engine. -/

/-- `u` differs from `s` in engine `e` and in what an engine reports, and in no register, no mode, no cluster and no other engine. -/
structure State.Within (e : Eng) (s u : State) : Prop where
  regs : u.regs = s.regs
  dev : u.dev = s.dev
  clusters : u.clusters = s.clusters
  eng : ∀ k, k ≠ e → u.eng k = s.eng k

namespace State.Within

variable {e : Eng} {s u w : State}

theorem refl (e : Eng) (s : State) : State.Within e s s := ⟨rfl, rfl, rfl, fun _ _ => rfl⟩

theorem trans (h : State.Within e s u) (h' : State.Within e u w) : State.Within e s w :=
  ⟨h'.regs.trans h.regs, h'.dev.trans h.dev, h'.clusters.trans h.clusters, fun k hk => (h'.eng k hk).trans (h.eng k hk)⟩

/-- A choice between two states that each stay within. -/
theorem ite {c : Prop} [Decidable c] (h : State.Within e s u) (h' : State.Within e s w) : State.Within e s (if c then u else w) := by
  split
  · exact h
  · exact h'

theorem updEng (s : State) (e : Eng) (f : Engine → Engine) : State.Within e s (s.updEng e f) :=
  ⟨rfl, rfl, rfl, fun _ hk => s.updEng_eng_other f hk⟩

theorem updThr (s : State) (e : Eng) (t : Thr) (f : Thread → Thread) : State.Within e s (s.updThr e t f) :=
  .updEng s e _

/-- An engine's own fault source sets no line of another engine: only sources 100 to 103 do (R301). -/
theorem raise (s : State) (e : Eng) (code : BitVec 7) (payload : DWord) : State.Within e s (s.raise (engSrc e) code payload) := by
  have h : rng (engSrc e).val 100 103 = false := by
    have hval : (engSrc e).val = e.val := rfl
    have := e.isLt
    rw [hval]
    simp [rng]
    omega
  have hk : ∀ k, (s.raise (engSrc e) code payload).eng k = s.eng k := by
    intro k
    simp only [State.raise, State.raiseBy, h]
    split
    · rfl
    · split <;> rfl
  exact ⟨by simp, by simp, by simp, fun k _ => hk k⟩

theorem hirq (s : State) (e : Eng) : State.Within e s s.hirq := by
  have hk : ∀ k, s.hirq.eng k = s.eng k := by
    intro k
    simp only [State.hirq]
    split
    · simp [State.eng]
    · rfl
  exact ⟨by simp, by simp, by simp, fun k _ => hk k⟩

theorem lockup (s : State) (e : Eng) (t : Thr) (cause : BitVec 6) : State.Within e s (s.lockup e t cause) := by
  unfold State.lockup State.lockWith
  split
  · exact .refl e s
  · exact ((updEng s e _).trans (raise _ e _ _)).trans (.ite (.refl _ _) (hirq _ e))

theorem preciseFault (s : State) (e : Eng) (t : Thr) (f : PFault) : State.Within e s (s.preciseFault e t f) := by
  unfold State.preciseFault
  split
  · exact lockup s e t _
  · exact updThr s e t _

theorem fillFails (s : State) (e : Eng) (f : Fill) : State.Within e s (s.fillFails e f) := by
  unfold State.fillFails
  split
  · exact updThr s e _ _
  · exact lockup s e _ _
  · exact .ite (preciseFault s e _ _) (.refl e s)

theorem takeFill (s : State) (e : Eng) (n : BitVec 14) (l : Option Line) : State.Within e s (s.takeFill e n l) := by
  unfold State.takeFill
  split
  · exact updEng s e _
  · exact (updEng s e _).trans (fillFails _ e _)
  · exact updEng s e _
  · exact .refl e s

theorem take (s : State) (e : Eng) (d : Delivery) : State.Within e s (s.take e d) := by
  cases d with
  | line n l => exact takeFill s e n l
  | load t | loadFail t | sent t | svp t =>
    unfold State.take
    exact updThr s e t _
  | mail | verdict | input =>
    unfold State.take
    exact updEng s e _

theorem unreleased (s : State) (e : Eng) (i : Input) : State.Within e s (s.unreleased e i) := by
  unfold State.unreleased
  split
  · exact updEng s e _
  · exact .refl e s

/-- What stays within an engine in one lane stays within it in all. -/
theorem inLanesWith (s : State) (e : Eng) (odd : Option Lane) (g : State → State) {f : State → State}
    (hf : ∀ z, State.Within e z (f z)) : State.Within e s (s.inLanesWith e odd g f) := by
  have hfold : ∀ (ls : List Lane) (z : State), State.Within e s z → State.Within e s (ls.foldl (fun (u : State) l =>
      if (s.eng e).heddle.commits? l && ((s.eng e).apart l || odd = some l) then
        u.updEng e fun x => x.keepLane l (((if odd = some l then g else f) (s.asLane e l)).eng e)
      else u) z) := by
    intro ls
    induction ls with
    | nil => exact fun z hz => hz
    | cons l ls ih => exact fun z hz => ih _ (.ite (hz.trans (updEng z e _)) hz)
  have hu := hfold laneList (f s) (hf s)
  unfold State.inLanesWith
  cases odd with
  | none => exact hu
  | some l => exact hu.trans (updEng _ e _)

theorem deliverNow (s : State) (e : Eng) (d : Delivery) : State.Within e s (s.deliverNow e d) := by
  have ht : ∀ z, State.Within e z (z.take e d) := fun z => take z e d
  unfold State.deliverNow
  split
  · next i level v =>
    extract_lets f g t
    have hT : State.Within e s t := by
      simp only [t]
      split
      · exact inLanesWith s e none _ ht
      · exact inLanesWith s e _ _ ht
      · exact inLanesWith s e _ _ fun z => unreleased z e i
    split
    · exact hT
    · exact hT
    · exact hT
    · exact hT.trans (updEng t e _)
  · exact inLanesWith s e none _ ht

theorem flush (s : State) (e : Eng) : State.Within e s (s.flush e) := by
  have hfold : ∀ (ds : List Delivery) (z : State), State.Within e s z →
      State.Within e s (ds.foldl (fun (s : State) d => s.deliverNow e d) z) := by
    intro ds
    induction ds with
    | nil => exact fun z hz => hz
    | cons d ds ih => exact fun z hz => ih _ (hz.trans (deliverNow z e d))
  unfold State.flush
  exact .ite (.refl e s) (hfold _ _ (updEng s e _))

end State.Within

theorem State.clu_of_clusters {s u : State} (h : u.clusters = s.clusters) (c : Clu) : u.clu c = s.clu c := by
  unfold State.clu
  rw [h]

/-- `u` differs from `s` in no register, no mode, and nothing of a cluster whose clocks run, its engines among it. -/
structure State.Rewoken (s u : State) : Prop where
  regs : u.regs = s.regs
  dev : u.dev = s.dev
  clu : ∀ c, (s.clu c).gated = false → u.clu c = s.clu c
  eng : ∀ k : Eng, (s.clu k.cluster).gated = false → u.eng k = s.eng k

/-- A restart of a cluster's clocks changes nothing where the clocks run. -/
theorem State.rewoken_ungate (s : State) (c : Clu) : State.Rewoken s (s.ungate c) := by
  unfold State.ungate
  split
  · next hc =>
    let s0 := s.updClu c fun x => { x with gated := false, woken := false }
    have hfold : ∀ (es : List Eng) (z : State), (∀ e ∈ es, e.cluster = c) →
        (z.regs = s.regs ∧ z.dev = s.dev ∧ z.clusters = s0.clusters ∧ ∀ k : Eng, k.cluster ≠ c → z.eng k = s.eng k) →
        let u := es.foldl State.flush z
        u.regs = s.regs ∧ u.dev = s.dev ∧ u.clusters = s0.clusters ∧ ∀ k : Eng, k.cluster ≠ c → u.eng k = s.eng k := by
      intro es
      induction es with
      | nil => exact fun z _ hz => hz
      | cons e es ih =>
        intro z hes ⟨hregs, hdev, hclu, heng⟩
        have hw := State.Within.flush z e
        have he : e.cluster = c := hes e (by simp)
        refine ih (z.flush e) (fun k hk => hes k (by simp [hk]))
          ⟨hw.regs.trans hregs, hw.dev.trans hdev, hw.clusters.trans hclu, fun k hk => ?_⟩
        have hne : k ≠ e := fun h => hk (h ▸ he)
        exact (hw.eng k hne).trans (heng k hk)
    obtain ⟨hregs, hdev, hclu, heng⟩ := hfold (engList.filter fun e => e.cluster = c) s0 (by simp) ⟨rfl, rfl, rfl, fun _ _ => rfl⟩
    refine ⟨hregs, hdev, fun d hd => ?_, fun k hk => heng k fun h => ?_⟩
    · have hne : d ≠ c := fun h => by simp [h, hc] at hd
      exact (State.clu_of_clusters hclu d).trans (s.updClu_clu_other _ hne)
    · simp [h, hc] at hk
  · exact ⟨rfl, rfl, fun _ _ => rfl, fun _ _ => rfl⟩

theorem State.rewoken_wakeFor (s : State) (a : Nat) : State.Rewoken s (s.wakeFor a) := by
  unfold State.wakeFor
  split
  · exact s.rewoken_ungate _
  · split
    · exact s.rewoken_ungate _
    · exact ⟨rfl, rfl, fun _ _ => rfl, fun _ _ => rfl⟩

@[simp] theorem State.wakeFor_dev (s : State) (a : Nat) : (s.wakeFor a).dev = s.dev := (s.rewoken_wakeFor a).dev

end Sys2Proof.Machine
namespace Sys2Proof.Machine

/-! #### What decides a thread's next slot -/

/-- Two states agree on what an engine's threads read to choose their next slot: the registers, the mode, the engine and its clock. -/
structure State.AgreeAt (e : Eng) (s u : State) : Prop where
  regs : u.regs = s.regs
  dev : u.dev = s.dev
  eng : u.eng e = s.eng e
  gated : (u.clu e.cluster).gated = (s.clu e.cluster).gated

namespace State.AgreeAt

variable {e : Eng} {s u : State} (h : State.AgreeAt e s u)
include h

theorem allocFrame (t : Thr) : u.allocFrame e t = s.allocFrame e t := by
  simp only [State.allocFrame, State.frameArea, State.shape, State.engCfg, State.regN, State.reg, h.regs, h.eng]
  rfl

theorem currentFrame (t : Thr) : u.currentFrame e t = s.currentFrame e t := by
  simp only [State.currentFrame, State.frameArea, State.shape, State.engCfg, State.regN, State.reg, h.regs, h.eng]
  rfl

theorem threadRuns (t : Thr) : u.threadRuns e t = s.threadRuns e t := by
  simp only [State.threadRuns, State.engRuns, State.inRun, State.engEn, State.regB, State.nThreads, State.shape, State.engCfg, State.regN,
    State.reg, State.paused, State.preciseHold, State.thr, h.regs, h.dev, h.eng, h.gated]
  rfl

theorem pickEvent (t : Thr) (ien : Bool) (apri : BitVec 4) (free : Bool) :
    u.pickEvent e t ien apri free = s.pickEvent e t ien apri free := by
  simp only [State.pickEvent, State.beingEntered, State.pickLine, State.nmiEligible, State.lineEligible, State.irtPri, State.irt,
    State.isSel, State.regB, State.reg, State.thr, h.regs, h.eng]
  rfl

theorem mayMove (t : Thr) : u.mayMove e t = s.mayMove e t := by
  simp only [State.mayMove, State.canMove, State.eventNow, h.threadRuns, h.currentFrame, h.allocFrame, h.pickEvent, State.thr, h.eng]
  rfl

end State.AgreeAt

/-- A restart of clocks is nothing to an engine whose clocks run. -/
theorem State.Rewoken.agreeAt {s u : State} {e : Eng} (h : State.Rewoken s u) (hg : (s.clu e.cluster).gated = false) :
    State.AgreeAt e s u.takeFree :=
  ⟨h.regs, h.dev, h.eng e hg, congrArg Cluster.gated (h.clu _ hg)⟩

/-- A thread that may move has its clocks running. -/
theorem State.not_gated_of_mayMove {s : State} {e : Eng} {t : Thr} (h : s.mayMove e t = true) : (s.clu e.cluster).gated = false := by
  simp only [State.mayMove, State.canMove, State.threadRuns, State.engRuns, Bool.and_eq_true, Bool.not_eq_true'] at h
  simp [h]

/-- With a frame free a precise fault waits for its entry slot. -/
theorem State.preciseFault_pfault {s : State} {e : Eng} {t : Thr} (f : PFault) (h : (s.allocFrame e t).isSome = true) :
    ((s.preciseFault e t f).thr e t).pfault = some f := by
  obtain ⟨k, hk⟩ := Option.isSome_iff_exists.mp h
  simp [State.preciseFault, hk]

/-! #### The refused write -/

/-- A reserved word refuses nothing of its own: an engine's store of it counts at no source. -/
theorem State.countRefusal_engine_reserved (s : State) (e : Eng) (t : Thr) (mach : Bool) {a : Nat} (h : regInfo a = none) :
    s.countRefusal (.engine e t mach) a = s := by
  simp [State.countRefusal, h, State.errorTo]

/-- An engine's store at a reserved word is the access fault 0x16 of a thread that may move (R13, R171). -/
theorem State.refusedAt_reserved_fault {s u : State} {e : Eng} {t : Thr} {mach : Bool} {a : Nat} (h : regInfo a = none)
    (hu : State.AgreeAt e s u.takeFree) (hr : s.inRun = true) (hl : s.together e = true) (hm : s.mayMove e t = true)
    (hf : (s.allocFrame e t).isSome = true) :
    ∃ f, ((u.refusedAt (.engine e t mach) a).thr e t).pfault = some f ∧ f.cause = 0x16 := by
  have hlu : u.takeFree.together e = true := by
    rw [State.together, hu.eng]
    exact hl
  have hru : u.inRun = true := by
    have hd : u.dev = s.dev := hu.dev
    rw [State.inRun, hd]
    exact hr
  simp only [State.refusedAt, hru, h, if_true, Option.isNone_none, State.inLanes_of_together hlu, hu.mayMove, hm]
  exact ⟨_, State.preciseFault_pfault _ (by rw [hu.allocFrame]; exact hf), rfl⟩

/-! #### The obligation -/

/-- A write of a register that only stores. -/
theorem exec_registerWrite_stored {s : State} {m : Master} {x : Nat} (v : Word) (hw : s.canWrite m x = true) (hx : storesOnly x) :
    exec (.registerWrite m (BitVec.ofNat 24 x) v) s = .next (s.wrote m x v) := by
  obtain ⟨h0, h1⟩ := storesOnly_range hx
  rw [exec_registerWrite_regs m v h0 h1, State.writeCommand_of_canWrite v hw, State.put_of_storesOnly _ m v hx]
  rfl

/-- What an accepted write stores is read, and every other register is as it was. -/
theorem State.reg_wrote {s : State} (h : s.regsCanonical = true) (m : Master) (a b : Nat) (v : Word) :
    (s.wrote m a v).reg b = if b = a then v &&& regMask a else s.reg b := by
  have hw : (s.wakeFor a).regsCanonical = true := by
    simpa [State.regsCanonical] using h
  calc (s.wrote m a v).reg b = ((s.wakeFor a).setReg a v).reg b := by simp [State.reg, State.wrote]
    _ = if b = a then v &&& regMask a else (s.wakeFor a).reg b := State.reg_setReg hw a b v
    _ = if b = a then v &&& regMask a else s.reg b := by simp [State.reg]

theorem exec_registerWrite_writeCommand {s : State} {m : Master} {a : Addr} (v : Word) (h : regionOf a = .regs ∨ regionOf a = .reserved) :
    exec (.registerWrite m a v) s = s.writeCommand m a.toNat v := by
  have he : exec (.registerWrite m a v) s = execRegisterWrite m a v s := rfl
  rw [he, execRegisterWrite]
  rcases h with h | h <;> simp [h]

theorem storedRegistersTakeWrites : Claims.StoredRegistersTakeWrites := by
  intro s m a v
  refine ⟨?_, fun ha hl hcut => ⟨?_, ?_, ?_⟩, fun h0 h1 => ?_⟩
  · intro x hw page o g hx
    refine ⟨exec_registerWrite_stored v hw hx, fun hc => ⟨?_, fun b hb => ?_⟩⟩
    · simp [State.reg_wrote hc]
    · simp [State.reg_wrote hc, hb]
  · intro r hr hro hok
    rw [exec_registerWrite_writeCommand v ha]
    simp [State.writeCommand, hl, State.writeReg, hcut, hr, hok, hro]
  · intro r hr hok
    have hcut' : s.cutOff m (BitVec.ofNat 24 a.toNat) = false := by simpa using hcut
    refine ⟨_, ?_, rfl, by simp⟩
    rw [exec_registerWrite_writeCommand v ha]
    exact State.writeCommand_refused v hl hcut' fun q hq => by simp_all
  · intro hr
    have hcut' : s.cutOff m (BitVec.ofNat 24 a.toNat) = false := by simpa using hcut
    refine ⟨_, ?_, rfl, by simp, ?_⟩
    · rw [exec_registerWrite_writeCommand v ha]
      exact State.writeCommand_refused v hl hcut' fun q hq => by simp [hr] at hq
    · rintro e t mach rfl hrun htog hmove hframe
      rw [State.countRefusal_engine_reserved _ _ _ _ hr]
      exact State.refusedAt_reserved_fault hr ((s.rewoken_wakeFor _).agreeAt (State.not_gated_of_mayMove hmove)) hrun htog hmove hframe
  · have he : exec (.registerWrite m a v) s = execRegisterWrite m a v s := rfl
    rw [he, execRegisterWrite]
    simp [h0, h1]

/-- JSN.ID has no reserved bit. -/
theorem and_regMask_jsnBase (v : Word) : v &&& regMask jsnBase = v := by
  have h : regMask jsnBase = BitVec.allOnes 12 := by decide
  rw [h, BitVec.and_allOnes]

/-- JSN.ID refuses 0 and stores every other value (R427). -/
theorem State.put_jsnBase (s : State) (m : Master) (v : Word) :
    s.put m jsnBase v = if v = 0 then .refused s else .ok (s.setReg jsnBase v) := by
  have h : s.put m jsnBase v = s.unless (v = 0) (s.keep jsnBase v) := rfl
  rw [h, State.unless, State.keep]
  by_cases hv : v = 0 <;> simp [hv]

/-- JSN.ID is written in SETUP alone. -/
theorem State.inRun_of_canWrite_jsnBase {s : State} {m : Master} (h : s.canWrite m jsnBase = true) : s.inRun = false := by
  have hr : regInfo jsnBase = some ⟨.lk, 0, 0xFFF⟩ := rfl
  have hs : isSelvedge jsnBase = false := rfl
  simp only [State.canWrite, hr, State.accOk, hs, Bool.and_eq_true, decide_eq_true_eq] at h
  obtain ⟨-, hp, -⟩ := h
  have hp : s.dev.phase = .setup := by simpa using hp
  simp [State.inRun, hp]

@[simp] theorem State.errorTo_mem (s : State) (m : Master) (a : Addr) (q : Requester) : (s.errorTo m a q).mem = s.mem := by
  cases m <;> simp [State.errorTo]

/-- Before RUN a refused write outside the selvedge reaches no memory word. -/
theorem State.refusal_mem {s : State} (m : Master) {a : Nat} (hr : s.inRun = false) (hs : isSelvedge a = false) :
    ((s.countRefusal m a).refusedAt m a).mem = s.mem := by
  have hc : s.countRefusal m a = s.errorTo m (BitVec.ofNat 24 a) := by
    simp [State.countRefusal, hs]
  cases m with
  | engine e t mach => simp [hc, State.errorTo, State.refusedAt, hr]
  | svp e t => simp [hc, State.refusedAt, State.svpStatus]
  | host | shuttle | monitor => simp [hc, State.refusedAt]

theorem deviceIdIsNeverZero : Claims.DeviceIdIsNeverZero := by
  intro s m v hc hw
  have he : exec (.registerWrite m (BitVec.ofNat 24 jsnBase) v) s = s.writeCommand m jsnBase v :=
    exec_registerWrite_regs m v (by decide) (by decide)
  have hwake : s.wakeFor jsnBase = s := rfl
  rw [he, State.writeCommand_of_canWrite v hw, hwake, State.put_jsnBase]
  constructor
  · intro hv
    have hread : ∀ b, (s.wrote m jsnBase v).reg b = if b = jsnBase then v else s.reg b := fun b => by
      rw [State.reg_wrote hc, and_regMask_jsnBase]
    refine ⟨s.wrote m jsnBase v, ?_, ?_, fun b hb => ?_⟩
    · rw [if_neg hv, State.wrote, hwake]
    · simp [hread]
    · simp [hread, hb]
  · rintro rfl
    exact ⟨_, rfl, rfl, by simp, State.refusal_mem m (State.inRun_of_canWrite_jsnBase hw) rfl⟩

/-- Settles O60: the stored registers, and JSN.ID. -/
theorem registerWrites : Obligations.RegisterWrites := by
  unfold Obligations.RegisterWrites
  exact ⟨storedRegistersTakeWrites, deviceIdIsNeverZero⟩

end Sys2Proof.Machine

namespace Sys2Proof.Machine

/-! ### O28: the register block of an engine -/

/-! #### What a write of an engine's register does -/

/-- A word of an engine's block goes to the engine, with its offset in the block. -/
theorem State.put_engBase (s : State) (m : Master) (e : Eng) {o : Nat} (v : Word) (ho : o < 0x100) :
    s.put m (engBase e + o) v = s.putEng m e o v := by
  have he := e.isLt
  have hi : (engBase e + o - 0x820000) / 0x100 % 64 = e.val := by
    simp only [engBase]
    omega
  have ho : (engBase e + o) % 0x100 = o := by
    simp only [engBase]
    omega
  have hp : (engBase e + o) / 0x1000 = 0x820 ∨ (engBase e + o) / 0x1000 = 0x821 ∨ (engBase e + o) / 0x1000 = 0x822 ∨
      (engBase e + o) / 0x1000 = 0x823 := by
    simp only [engBase]
    omega
  rcases hp with hp | hp | hp | hp <;> simp only [State.put, hp, hi, ho]

/-- A write that a register of an engine's block accepts, or refuses by itself. -/
theorem State.writeCommand_eng_ok {s u : State} {m : Master} {e : Eng} {o : Nat} {v : Word} (ho : o < 0x100)
    (h : s.canWrite m (engBase e + o) = true) (hp : (s.wakeFor (engBase e + o)).putEng m e o v = .ok u) :
    s.writeCommand m (engBase e + o) v = .next (u.acceptedAt m) := by
  rw [State.writeCommand_of_canWrite v h, State.put_engBase _ _ _ _ ho, hp]

theorem State.writeCommand_eng_refused {s u : State} {m : Master} {e : Eng} {o : Nat} {v : Word} (ho : o < 0x100)
    (h : s.canWrite m (engBase e + o) = true) (hp : (s.wakeFor (engBase e + o)).putEng m e o v = .refused u) :
    s.writeCommand m (engBase e + o) v = .next ((u.countRefusal m (engBase e + o)).refusedAt m (engBase e + o)) := by
  rw [State.writeCommand_of_canWrite v h, State.put_engBase _ _ _ _ ho, hp]

/-- Only an SVP's write leaves a status at its master. -/
theorem State.acceptedAt_of_not_svp (s : State) {m : Master} (h : isSvp m = false) : s.acceptedAt m = s := by
  cases m with
  | svp => simp [isSvp] at h
  | engine | host | shuttle | monitor => rfl

/-- Neither an engine's store nor the monitor is an SVP. -/
theorem isSvp_of_writer {s : State} {e : Eng} {m : Master} (h : ownStore e m = true ∨ s.selStore m = true ∨ isMonitor m = true) :
    isSvp m = false := by
  cases m with
  | svp => simp [ownStore, State.selStore, isMonitor] at h
  | engine | host | shuttle | monitor => rfl

/-! #### ENG.CFG, ENG.IPEND and ENG.SWI -/

/-- ENG.CFG keeps a legal shape and reservation (R31, R57). -/
def cfgLegal (v : Word) : Bool :=
  decide (v.toNat / 1024 ≠ 3) && (!v.getLsbD 9 || decide (v.toNat / 64 % 8 < 8 / 2 ^ (v.toNat / 1024)))

/-- The shape that ENG.CFG admits: it is no reserved code, and its reserved thread exists. -/
theorem State.putEng_cfg (s : State) (m : Master) (e : Eng) (v : Word) :
    s.putEng m e 0 v = if cfgLegal v then .ok (s.setReg (engBase e) v) else .refused s := by
  have hv := v.isLt
  have hb : bitsAt v 10 2 = v.toNat / 1024 := by
    simp only [bitsAt]
    omega
  have h6 : bitsAt v 6 3 = v.toNat / 64 % 8 := rfl
  have hle : ∀ a b : Nat, decide (a ≤ b) = !decide (b < a) := fun a b => by rw [← decide_not, decide_eq_decide, Nat.not_lt]
  have hbad : (bitsAt v 10 2 = 3 || (v.getLsbD 9 && decide (shapeThreads (bitsAt v 10 2) ≤ bitsAt v 6 3))) = !cfgLegal v := by
    rw [hb, h6, cfgLegal, shapeThreads, hle]
    by_cases h3 : v.toNat / 1024 = 3
    · simp [h3]
    · have hmin : min (v.toNat / 1024) 2 = v.toNat / 1024 := by omega
      simp [h3, hmin]
  have hput : s.putEng m e 0 v =
      s.unless (bitsAt v 10 2 = 3 || (v.getLsbD 9 && decide (shapeThreads (bitsAt v 10 2) ≤ bitsAt v 6 3))) (s.keep (engBase e) v) := rfl
  rw [hput, hbad]
  cases cfgLegal v <;> rfl

/-- The pending bits of an engine cleared by ones, but for those set in the running fabric clock (R11). -/
def State.clearPending (s : State) (e : Eng) (w : BitVec 32) : State :=
  s.updEng e fun x => { x with ipend := x.ipend &&& ~~~(w &&& ~~~x.ipendNow) }

theorem State.updLanes_clearBits {s : State} {e : Eng} (hl : s.together e = true) (w : BitVec 32) :
    (s.updLanes e fun x => { x with ipend := clearBits x.ipend w x.ipendNow }) = s.clearPending e w :=
  State.updLanes_of_together hl _

/-- The bits that a word of ENG.IPEND names: twelve lines a word, of which the last word holds eight (R133). -/
def pendBits (k : Fin 3) (v : Word) : BitVec 32 :=
  (v.setWidth 32 <<< (12 * k.val)) &&& (if k = 2 then 0xFF000000 else 0xFFFFFFFF)

theorem pendBits_zero (v : Word) : pendBits 0 v = v.setWidth 32 := by
  have h : pendBits 0 v = v.setWidth 32 <<< 0 &&& BitVec.allOnes 32 := rfl
  rw [h, BitVec.and_allOnes, BitVec.shiftLeft_zero]
theorem pendBits_one (v : Word) : pendBits 1 v = v.setWidth 32 <<< 12 := BitVec.and_allOnes
theorem pendBits_two (v : Word) : pendBits 2 v = (v &&& 0x0FF).setWidth 32 <<< 24 := by
  have high : (0xFF000000 : BitVec 32) = 0x0FF#32 <<< 24 := by decide
  have low : (0x0FF : Word).setWidth 32 = 0x0FF#32 := by decide
  have h : pendBits 2 v = v.setWidth 32 <<< 24 &&& 0xFF000000 := rfl
  rw [h, high, BitVec.setWidth_and, low, BitVec.shiftLeft_and_distrib]

theorem State.putEng_pend {s : State} {m : Master} {e : Eng} (k : Fin 3) (v : Word)
    (hw : s.inRun = false ∨ ownStore e m = true ∨ isMonitor m = true) (hl : s.together e = true) :
    s.putEng m e (0x1A + k.val) v = .ok (s.clearPending e (pendBits k v)) := by
  have hput : s.putEng m e (0x1A + k.val) v = s.unless (s.inRun && !(ownStore e m || isMonitor m))
      (.ok (s.updLanes e fun x => { x with ipend := clearBits x.ipend (pendBits k v) x.ipendNow })) := by
    have hk : k = 0 ∨ k = 1 ∨ k = 2 := by omega
    rcases hk with rfl | rfl | rfl
    · rw [pendBits_zero]; rfl
    · rw [pendBits_one]; rfl
    · rw [pendBits_two]; rfl
  have hb : (s.inRun && !(ownStore e m || isMonitor m)) = false := by
    rcases hw with h | h | h <;> simp [h]
  rw [hput, hb, State.updLanes_clearBits hl]
  rfl

theorem State.putEng_swiSet {s : State} {m : Master} {e : Eng} (hm : isMonitor m = true ∨ ∃ a t l, m = .engine a t l)
    (hl : s.together e = true) : s.putEng m e 0x1D 1 = .ok (s.updEng e fun x => x.pend 30) := by
  have hset : s.setLine e 30 = s.updEng e fun x => x.pend 30 := by
    simp [State.setLine, eventLine, rng, State.updLanes_of_together hl]
  rw [← hset]
  cases m with
  | monitor | engine => rfl
  | svp | host | shuttle => simp [isMonitor] at hm

theorem State.putEng_swiClr {s : State} {m : Master} {e : Eng} (hm : isMonitor m = true ∨ ∃ a t l, m = .engine a t l)
    (hl : s.together e = true) : s.putEng m e 0x1D 2 = .ok (s.clearPending e 0x40000000) := by
  rw [← State.updLanes_clearBits hl]
  cases m with
  | monitor | engine => rfl
  | svp | host | shuttle => simp [isMonitor] at hm

theorem engineConfigurationAndLines : Claims.EngineConfigurationAndLines := by
  intro s m e k v cfg pend swi legal ones clear
  have hk := k.isLt
  refine ⟨fun hw hv => ?_, fun hw hv => ?_, fun hw hown hl => ?_, fun hw hm hl => ⟨?_, ?_⟩⟩
  · have hp : (s.wakeFor cfg).putEng m e 0 v = .ok ((s.wakeFor cfg).setReg cfg v) := by
      rw [State.putEng_cfg]
      exact if_pos hv
    exact State.writeCommand_eng_ok (o := 0) (by decide) hw hp
  · have hp : (s.wakeFor cfg).putEng m e 0 v = .refused (s.wakeFor cfg) := by
      rw [State.putEng_cfg]
      exact if_neg (Bool.eq_false_iff.mp hv)
    exact State.writeCommand_eng_refused (o := 0) (by decide) hw hp
  · have hin : (s.wakeFor pend).inRun = false ∨ ownStore e m = true ∨ isMonitor m = true := by
      simpa [State.inRun] using hown
    have ha : pend = engBase e + (0x1A + k.val) := Nat.add_assoc _ _ _
    have hx : exec (.engIpendClear m e k v) s = s.writeCommand m pend v := rfl
    rw [ha] at hw hin hl hx ⊢
    rw [hx, State.writeCommand_eng_ok (by omega) hw (State.putEng_pend k v hin hl)]
    rfl
  · exact State.writeCommand_eng_ok (by decide) hw (State.putEng_swiSet hm hl)
  · exact State.writeCommand_eng_ok (by decide) hw (State.putEng_swiClr hm hl)

/-! #### ENG.TCTL -/

/-- The word that asks ENG.TCTL for GO or HALT of a thread. -/
theorem tctl_go_word (t : Thr) : (flag 11 true ||| fld 0 t.val).getLsbD 11 = true ∧ (flag 11 true ||| fld 0 t.val).getLsbD 10 = false ∧
    bitsAt (flag 11 true ||| fld 0 t.val) 0 3 % 8 = t.val := by
  decide +revert
theorem tctl_halt_word (t : Thr) : (flag 10 true ||| fld 0 t.val).getLsbD 11 = false ∧ (flag 10 true ||| fld 0 t.val).getLsbD 10 = true ∧
    bitsAt (flag 10 true ||| fld 0 t.val) 0 3 % 8 = t.val := by
  decide +revert

section
variable {s : State} {m : Master} {e : Eng} {t : Thr}

/-- ENG.TCTL is open: in RUN, for a thread of the shape in an enabled engine that is not locked up, by a writer it admits (R60). -/
structure TctlOpen (s : State) (m : Master) (e : Eng) (t : Thr) : Prop where
  run : s.inRun = true
  enabled : s.engEn e = true
  unlocked : (s.eng e).locked = false
  thread : t.val < s.nThreads e
  writer : ownStore e m = true ∨ s.selStore m = true ∨ isMonitor m = true

theorem TctlOpen.putGo (h : TctlOpen s m e t) :
    s.putTctl m e (flag 11 true ||| fld 0 t.val) =
      if (s.thr e t).run = .halted then .ok (s.inLanes e fun s => s.startThread e t) else .refused s := by
  obtain ⟨hgo, hhalt, ht⟩ := tctl_go_word t
  have hw : (ownStore e m || s.selStore m || isMonitor m) = true := by
    simpa [or_assoc] using h.writer
  simp only [State.putTctl, hgo, hhalt, ht, h.run, h.enabled, h.unlocked, h.thread, hw]
  by_cases hr : (s.thr e t).run = .halted <;> simp [hr]

theorem TctlOpen.putHalt (h : TctlOpen s m e t) :
    s.putTctl m e (flag 10 true ||| fld 0 t.val) =
      if (s.thr e t).run = .running then .ok (s.updThrs e t fun y => { y with haltReq := true }) else .refused s := by
  obtain ⟨hgo, hhalt, ht⟩ := tctl_halt_word t
  have hw : (ownStore e m || s.selStore m || isMonitor m) = true := by
    simpa [or_assoc] using h.writer
  simp only [State.putTctl, hgo, hhalt, ht, h.run, h.enabled, h.unlocked, h.thread, hw]
  by_cases hr : (s.thr e t).run = .running <;> simp [hr]
end

/-- A thread as a start leaves it (R25). -/
def State.started (s : State) (e : Eng) (y : Thread) : Thread :=
  { y with
    run := .running, haltReq := false, pc := s.entryPc e, tm := 0x800, shadow := none, lb := none, apri := 0xF
    lsu := { y.lsu with delay := false, newQ := none, q := (y.lsu.newQ.getD (y.lsu.q, none)).1
                        qh := ((y.lsu.newQ.bind Prod.snd).getD y.lsu.qh) }
    begun := false, entering := none, pexc := none, pfault := none, ret := false, tail := none }

theorem State.startThread_thr (s : State) (e : Eng) (t : Thr) : (s.startThread e t).thr e t = s.started e (s.thr e t) := by
  simp only [State.thr, State.startThread, State.updEng_eng]
  exact Engine.updThr_thr ((s.eng e).orphanWalk t) t (s.started e)

theorem threadsStartAndHalt : Claims.ThreadsStartAndHalt := by
  intro s m e t a w hw hrun hen hlk ht hl hm
  have hopen : TctlOpen w m e t := ⟨hrun, hen, hlk, ht, hm⟩
  have hacc : ∀ u : State, u.acceptedAt m = u := fun u => u.acceptedAt_of_not_svp (isSvp_of_writer hm)
  have hgo : exec (.engTctlGo m e t) s = s.writeCommand m (engBase e + 4) (flag 11 true ||| fld 0 t.val) := rfl
  have hhalt : exec (.engTctlHalt m e t) s = s.writeCommand m (engBase e + 4) (flag 10 true ||| fld 0 t.val) := rfl
  rw [hgo, hhalt]
  constructor
  · intro hr
    refine ⟨?_, ?_, ?_⟩
    · rw [State.writeCommand_eng_ok (u := w.startThread e t) (by decide) hw, hacc]
      refine (hopen.putGo).trans ?_
      rw [if_pos hr, State.inLanes_of_together hl]
    · refine State.writeCommand_eng_refused (by decide) hw ?_
      exact hopen.putHalt.trans (if_neg (by simp [hr]))
    · simp [State.startThread_thr, State.started]
  · intro hr
    constructor
    · rw [State.writeCommand_eng_ok (u := w.updThr e t fun y => { y with haltReq := true }) (by decide) hw, hacc]
      refine (hopen.putHalt).trans ?_
      rw [if_pos hr, State.updThrs_of_together hl]
    · refine State.writeCommand_eng_refused (by decide) hw ?_
      exact hopen.putGo.trans (if_neg (by simp [hr]))

/-! #### ENG.HINJ -/

/-- ENG.HINJ arms the lane that its code names, for a selvedge engine's store or the monitor, while three lanes run (R164, R165). -/
theorem State.putEng_hinj (s : State) (m : Master) (e : Eng) (v : Word) :
    s.putEng m e 0x4B v = match laneOf (v.toNat % 4) with
      | some l =>
        if (s.selStore m || isMonitor m) && (s.heddle e).state = 0 then
          .ok (s.updHeddle e fun h => { h with inject := h.inject.set (laneIdx l).val true })
        else .refused s
      | none => .refused s := by
  have h : bitsAt v 0 2 = v.toNat % 4 := by simp [bitsAt]
  rw [← h]
  rfl

theorem laneOf_laneCode (l : Lane) : laneOf (laneCode l) = some l := by cases l <;> rfl

theorem State.putEng_hinj_refused {s : State} {m : Master} {e : Eng} {v : Word}
    (h : v.toNat % 4 = 0 ∨ (s.heddle e).state ≠ 0 ∨ (s.selStore m = false ∧ isMonitor m = false)) : s.putEng m e 0x4B v = .refused s := by
  rw [State.putEng_hinj]
  rcases h with h0 | hs | ⟨hsel, hmon⟩
  · rw [h0]
    rfl
  · cases laneOf (v.toNat % 4) <;> simp [hs]
  · cases laneOf (v.toNat % 4) <;> simp [hsel, hmon]

theorem injectionArmsOneLane : Claims.InjectionArmsOneLane := by
  intro s m e v a w hw
  have hx : exec (.engHinj m e v) s = s.writeCommand m (engBase e + 0x4B) v := rfl
  rw [hx]
  constructor
  · intro l hv hm hs
    have hok : (w.selStore m || isMonitor m) && (w.heddle e).state = 0 := by simp [hs, hm]
    have hsvp : isSvp m = false := isSvp_of_writer (e := e) (Or.inr hm)
    rw [State.writeCommand_eng_ok (u := w.updHeddle e fun h => { h with inject := h.inject.set (laneIdx l).val true }) (by decide) hw,
      State.acceptedAt_of_not_svp _ hsvp]
    rw [State.putEng_hinj, hv, laneOf_laneCode]
    exact if_pos hok
  · intro hno
    exact State.writeCommand_eng_refused (by decide) hw (State.putEng_hinj_refused hno)

/-- Settles O28: ENG.CFG and the lines, ENG.TCTL, and ENG.HINJ. -/
theorem engineControl : Obligations.EngineControl := by
  unfold Obligations.EngineControl
  exact ⟨engineConfigurationAndLines, threadsStartAndHalt, injectionArmsOneLane⟩

end Sys2Proof.Machine

namespace Sys2Proof.Machine

/-! ### O48: doorbells and BAR requests -/

/-! #### Doorbells (R392, R406) -/

/-- A ring's size is one more than its size register says. -/
theorem State.sqSize_eq (s : State) (n : Fin 8) : s.sqSize n = (s.reg (shtBase + 0x105 + 32 * n.val)).toNat + 1 := by
  have h : sqReg n 5 = shtBase + 0x105 + 32 * n.val := by
    unfold sqReg
    omega
  rw [State.sqSize, h, State.regN]

theorem State.cqSize_eq (s : State) (n : Fin 8) : s.cqSize n = (s.reg (shtBase + 0x205 + 32 * n.val)).toNat + 1 := by
  have h : cqReg n 5 = shtBase + 0x205 + 32 * n.val := by
    unfold cqReg
    omega
  rw [State.cqSize, h, State.regN]

theorem execSqTailDoorbell_of_lt {s : State} {n : Fin 8} {v : BitVec 32} (hok : s.hostOk = true) (hen : (s.sq n).en = true)
    (hv : v.toNat < s.sqSize n) : execSqTailDoorbell n v s = .next (s.updSq n fun q => { q with tail := v.setWidth 12 }) := by
  simp [execSqTailDoorbell, hok, hen, Nat.not_le.mpr hv]

theorem execSqTailDoorbell_of_le {s : State} {n : Fin 8} {v : BitVec 32} (hok : s.hostOk = true) (hen : (s.sq n).en = true)
    (hv : s.sqSize n ≤ v.toNat) : execSqTailDoorbell n v s = .next (s.protocolFault 0x01 n.val v.toNat) := by
  simp [execSqTailDoorbell, hok, hen, hv]

theorem execSqTailDoorbell_disabled {s : State} {n : Fin 8} {v : BitVec 32} (hen : (s.sq n).en = false) :
    execSqTailDoorbell n v s = .next s := by
  simp [execSqTailDoorbell, hen]

/-- Entries of a completion ring from its head up to a place in it. -/
def State.cqGap (s : State) (n : Fin 8) (x : Nat) : Nat := (x + s.cqSize n - (s.cq n).head.toNat % s.cqSize n) % s.cqSize n

/-- The place `k` entries behind the head lies `k` entries behind it. -/
theorem State.cqGap_add (s : State) (n : Fin 8) {k : Nat} (hk : k < s.cqSize n) :
    s.cqGap n (((s.cq n).head.toNat + k) % s.cqSize n) = k := by
  unfold State.cqGap
  generalize s.cqSize n = size at *
  generalize (s.cq n).head.toNat = h
  have hsize : 0 < size := by omega
  have hr : h % size < size := Nat.mod_lt _ hsize
  rw [Nat.add_mod, Nat.mod_eq_of_lt hk]
  generalize h % size = r at *
  by_cases hlt : r + k < size
  · have hx : r + k + size - r = k + size := by omega
    rw [Nat.mod_eq_of_lt hlt, hx, Nat.add_mod_right, Nat.mod_eq_of_lt hk]
  · have hm : (r + k) % size = r + k - size := by
      rw [Nat.mod_eq_sub_mod (by omega), Nat.mod_eq_of_lt (by omega)]
    have hx : r + k - size + size - r = k := by omega
    rw [hm, hx, Nat.mod_eq_of_lt hk]

/-- A head may release no more entries than lie between the old head and the tail. -/
theorem execCqHeadDoorbell_gap {s : State} {n : Fin 8} {v : BitVec 32} (hok : s.hostOk = true) (hen : (s.cq n).en = true) :
    execCqHeadDoorbell n v s =
      if s.cqSize n ≤ v.toNat || decide (s.cqGap n (s.cq n).tail.toNat < s.cqGap n v.toNat) then
        .next (s.protocolFault 0x01 (8 + n.val) v.toNat)
      else .next (s.updCq n fun q => { q with head := v.setWidth 12 }) := by
  simp only [execCqHeadDoorbell, hok, hen]
  rfl

/-- A head that lies `k` entries behind the old one is taken when that many entries have been written. -/
theorem execCqHeadDoorbell_add {s : State} {n : Fin 8} {v : BitVec 32} {k : Nat} (hok : s.hostOk = true) (hen : (s.cq n).en = true)
    (hk : k < s.cqSize n) (hv : v.toNat = ((s.cq n).head.toNat + k) % s.cqSize n) :
    execCqHeadDoorbell n v s = if s.cqGap n (s.cq n).tail.toNat < k then .next (s.protocolFault 0x01 (8 + n.val) v.toNat)
      else .next (s.updCq n fun q => { q with head := v.setWidth 12 }) := by
  have hlt : v.toNat < s.cqSize n := hv ▸ Nat.mod_lt _ (by omega)
  have hgap : s.cqGap n v.toNat = k := by
    rw [hv, s.cqGap_add n hk]
  rw [execCqHeadDoorbell_gap hok hen, hgap]
  simp [Nat.not_le.mpr hlt]

/-! #### BAR2 writes (R393, R394, R396) -/

theorem State.bar2Word_of_lt {s : State} {off : Nat} {c : Container} (h : c.toNat < 4096) :
    s.bar2Word off c = (s.writeReg .host (0x800000 + off / 2) (c.setWidth 12)).2 := by
  simp [State.bar2Word, Nat.not_le.mpr h]

theorem State.bar2Word_of_le {s : State} {off : Nat} {c : Container} (h : 4096 ≤ c.toNat) :
    s.bar2Word off c = s.protocolFault 0x02 0x10 c.toNat := by
  simp [State.bar2Word, h]

/-- What whole containers of a request below the mirror's end do. -/
theorem execBar2Write_whole {s : State} {off : BitVec 20} {be : BitVec 4} {data : BitVec 32} (hok : s.hostOk = true)
    (hoff : off.toNat < 0xA0000) (hbe : be = 3 ∨ be = 12 ∨ be = 15) :
    execBar2Write off be data s =
      let t := if be ≠ 12 then s.bar2Word (off.toNat / 4 * 4) (data.setWidth 16) else s
      .next (if be ≠ 3 then t.bar2Word (off.toNat / 4 * 4 + 2) ((data >>> 16).setWidth 16) else t) := by
  have hlo : ¬ 0xA0000 ≤ off.toNat / 4 * 4 := by omega
  rcases hbe with rfl | rfl | rfl <;> simp [execBar2Write, hok, hlo]

theorem execBar2Write_beyond {s : State} {off : BitVec 20} {data : BitVec 32} (hoff : 0xA0000 ≤ off.toNat) :
    execBar2Write off 15 data s = .next s := by
  have hlo : 0xA0000 ≤ off.toNat / 4 * 4 := by omega
  simp [execBar2Write, hlo]

/-! #### BAR0 reads (R392) -/

theorem State.bar0Read_sqTail {s : State} (n : Fin 8) (hok : s.hostOk = true) :
    s.bar0Read (BitVec.ofNat 12 (16 * n.val)) = (s.sq n).tail.setWidth 32 := by
  have hn := n.isLt
  have ho : (BitVec.ofNat 12 (16 * n.val)).toNat / 4 * 4 = 16 * n.val := by
    rw [BitVec.toNat_ofNat]
    omega
  have hlt : 16 * n.val < 0x80 := by omega
  simp only [State.bar0Read, hok, ho, hlt]
  simp [State.sq]

theorem State.bar0Read_cqHead {s : State} (n : Fin 8) (hok : s.hostOk = true) :
    s.bar0Read (BitVec.ofNat 12 (0x100 + 16 * n.val)) = (s.cq n).head.setWidth 32 := by
  have hn := n.isLt
  have ho : (BitVec.ofNat 12 (0x100 + 16 * n.val)).toNat / 4 * 4 = 0x100 + 16 * n.val := by
    rw [BitVec.toNat_ofNat]
    omega
  have hlt : ¬ 0x100 + 16 * n.val < 0x80 := by omega
  have hrng : rng (0x100 + 16 * n.val) 0x100 0x17F = true := by
    simp [rng]
    omega
  have hmod : (0x100 + 16 * n.val) % 16 = 0 := by omega
  have hdiv : (0x100 + 16 * n.val) / 16 - 16 = n.val := by omega
  simp only [State.bar0Read, hok, ho, hlt, hrng, hmod, hdiv]
  simp [State.cq]

/-! #### BAR2 reads (R171, R326, R393, R400) -/

/-- A grant handle's words (R400). -/
def isHandleWord (x : Nat) : Bool :=
  decide (shtBase + 0x400 ≤ x) && decide (x < shtBase + 0x800) && decide (8 ≤ x % 16) && decide (x % 16 ≤ 10)

/-- Handle words told by the offset in a block whose base ends in 0, or by the address. -/
theorem handleWord_offset {b : Nat} (x : Nat) (hb : b % 16 = 0) :
    (rng (x - b) 0x400 0x7FF && rng ((x - b) % 16) 8 10) =
      (decide (b + 0x400 ≤ x) && decide (x < b + 0x800) && decide (8 ≤ x % 16) && decide (x % 16 ≤ 10)) := by
  rw [Bool.eq_iff_iff]
  simp only [rng, Bool.and_eq_true, decide_eq_true_eq]
  omega

/-- The host reads 0 where a grant handle stands. -/
theorem State.readRegAs_host (s : State) (x : Nat) : s.readRegAs .host x = if isHandleWord x then 0 else s.readReg x := by
  have h : (rng (x - shtBase) 0x400 0x7FF && rng ((x - shtBase) % 16) 8 10) = isHandleWord x := handleWord_offset x rfl
  simp only [State.readRegAs, ownStore, h]
  simp

/-- A register that refuses the host's read: an unassigned one, or one of an isolated cluster. -/
def State.badRead (s : State) (x : Nat) : Bool := (regInfo x).isNone || s.cutOff .host (BitVec.ofNat 24 x)

theorem State.refuses_or_cutOff_host (s : State) {x : Nat} (h0 : 0x800000 ≤ x) (h1 : x < 0x850000) :
    (s.refuses .host (BitVec.ofNat 24 x) false || s.cutOff .host (BitVec.ofNat 24 x)) = s.badRead x := by
  have hr : s.refuses .host (BitVec.ofNat 24 x) false = (regInfo x).isNone := by
    simp only [State.refuses, regionOf_regs h0 h1, toNat_ofNat_regs h1]
  rw [hr, State.badRead]

/-- The register words that a request's byte enables ask for. -/
def bar2Words (a : Nat) (be : BitVec 4) : List Nat := (if be.getLsbD 0 then [a] else []) ++ (if be.getLsbD 2 then [a + 1] else [])

theorem mem_bar2Words {a x : Nat} {be : BitVec 4} (h : x ∈ bar2Words a be) : x = a ∨ x = a + 1 := by
  unfold bar2Words at h
  rcases List.mem_append.mp h with h | h
  · split at h <;> simp_all
  · split at h <;> simp_all

/-- A read of the mirror: its bad words decide whether it carries data. -/
theorem State.bar2Read_mirror {s : State} {off : BitVec 20} (be : BitVec 4) (hok : s.hostOk = true) (hoff : off.toNat < 0xA0000) :
    let a := 0x800000 + off.toNat / 4 * 2
    let bad := (bar2Words a be).filter s.badRead
    s.bar2Read off be = if bad.isEmpty then (some (s.bar2Asked (be.getLsbD 2) (a + 1) ++ s.bar2Asked (be.getLsbD 0) a), s)
      else (none, bad.foldl (fun (s : State) a => s.errorTo .host (BitVec.ofNat 24 a)) s) := by
  intro a bad
  have ha : 0x800000 + off.toNat / 4 * 4 / 2 = a := by
    simp only [a]
    omega
  have hlo : ¬ 0xA0000 ≤ off.toNat / 4 * 4 := by omega
  have hbad : (bar2Words a be).filter (fun a => s.refuses .host (BitVec.ofNat 24 a) false || s.cutOff .host (BitVec.ofNat 24 a)) = bad := by
    refine List.filter_congr fun x hx => s.refuses_or_cutOff_host ?_ ?_
    · rcases mem_bar2Words hx with rfl | rfl <;> simp only [a] <;> omega
    · rcases mem_bar2Words hx with rfl | rfl <;> simp only [a] <;> omega
  rw [bar2Words] at hbad
  simp only [State.bar2Read, ha, hok, hlo, hbad]
  simp

theorem State.bar2Read_beyond {s : State} {off : BitVec 20} (be : BitVec 4) (hok : s.hostOk = true) (hoff : 0xA0000 ≤ off.toNat) :
    s.bar2Read off be = (some 0, s) := by
  have hlo : 0xA0000 ≤ off.toNat / 4 * 4 := by omega
  simp [State.bar2Read, hok, hlo]

/-- The dword of two containers. -/
theorem append_containers (hi lo : BitVec 16) : hi ++ lo = BitVec.ofNat 32 (hi.toNat * 65536 + lo.toNat) := by
  apply BitVec.eq_of_toNat_eq
  have h1 := hi.isLt
  have h0 := lo.isLt
  rw [BitVec.toNat_append, BitVec.toNat_ofNat, Nat.mod_eq_of_lt (by omega), ← Nat.shiftLeft_add_eq_or_of_lt h0, Nat.shiftLeft_eq]

/-- The value of a container of a BAR2 read. -/
theorem State.bar2Asked_toNat (s : State) (asked : Bool) (x : Nat) :
    (s.bar2Asked asked x).toNat = if asked then (if isHandleWord x then (0 : Word) else s.readReg x).toNat else 0 := by
  cases asked
  · rfl
  · rw [if_pos rfl, State.bar2Asked, if_pos rfl, State.readRegAs_host, BitVec.toNat_setWidth_of_le (by decide)]

/-! #### The obligation, clause by clause -/

section
variable {s : State} (hok : s.hostOk = true)
include hok

theorem exec_sqTailDoorbell (n : Fin 8) (v : BitVec 32) (hen : (s.sq n).en = true) :
    (v.toNat < s.sqSize n → exec (.sqTailDoorbell n v) s = .next (s.updSq n fun q => { q with tail := v.setWidth 12 })) ∧
    (s.sqSize n ≤ v.toNat → exec (.sqTailDoorbell n v) s = .next (s.protocolFault 0x01 n.val v.toNat)) :=
  ⟨execSqTailDoorbell_of_lt hok hen, execSqTailDoorbell_of_le hok hen⟩

theorem exec_cqHeadDoorbell (n : Fin 8) (v : BitVec 32) (hen : (s.cq n).en = true) :
    let size := s.cqSize n
    let written := s.cqGap n (s.cq n).tail.toNat
    (∀ k, k ≤ written → v.toNat = ((s.cq n).head.toNat + k) % size →
      exec (.cqHeadDoorbell n v) s = .next (s.updCq n fun q => { q with head := v.setWidth 12 })) ∧
    (∀ k, written < k → k < size → v.toNat = ((s.cq n).head.toNat + k) % size →
      exec (.cqHeadDoorbell n v) s = .next (s.protocolFault 0x01 (8 + n.val) v.toNat)) := by
  intro size written
  have hw : written < size := Nat.mod_lt _ (Nat.succ_pos _)
  exact ⟨fun k hk hv => (execCqHeadDoorbell_add hok hen (Nat.lt_of_le_of_lt hk hw) hv).trans (if_neg (Nat.not_lt.mpr hk)),
    fun k hk hks hv => (execCqHeadDoorbell_add hok hen hks hv).trans (if_pos hk)⟩

theorem exec_bar2Write (off : BitVec 20) (data : BitVec 32) (hoff : off.toNat < 0xA0000) :
    let place := off.toNat / 4 * 2
    let lo : Container := data.setWidth 16
    let hi : Container := (data >>> 16).setWidth 16
    let put := fun (s : State) (k : Nat) (c : Container) => (s.writeReg .host (0x800000 + place + k) (c.setWidth 12)).2
    (lo.toNat < 4096 → exec (.bar2Write off 3 data) s = .next (put s 0 lo)) ∧
    (hi.toNat < 4096 → exec (.bar2Write off 12 data) s = .next (put s 1 hi)) ∧
    (lo.toNat < 4096 → hi.toNat < 4096 → exec (.bar2Write off 15 data) s = .next (put (put s 0 lo) 1 hi)) ∧
    (4096 ≤ lo.toNat → exec (.bar2Write off 3 data) s = .next (s.protocolFault 0x02 0x10 lo.toNat)) := by
  intro place lo hi put
  have ha0 : 0x800000 + off.toNat / 4 * 4 / 2 = 0x800000 + place + 0 := by
    simp only [place]
    omega
  have ha1 : 0x800000 + (off.toNat / 4 * 4 + 2) / 2 = 0x800000 + place + 1 := by
    simp only [place]
    omega
  have h0 : ∀ u : State, lo.toNat < 4096 → u.bar2Word (off.toNat / 4 * 4) lo = put u 0 lo := fun u h => by
    rw [State.bar2Word_of_lt h, ha0]
  have h1 : ∀ u : State, hi.toNat < 4096 → u.bar2Word (off.toNat / 4 * 4 + 2) hi = put u 1 hi := fun u h => by
    rw [State.bar2Word_of_lt h, ha1]
  have hexec : ∀ be, exec (.bar2Write off be data) s = execBar2Write off be data s := fun _ => rfl
  refine ⟨fun hlo => ?_, fun hhi => ?_, fun hlo hhi => ?_, fun hlo => ?_⟩
  · rw [hexec, execBar2Write_whole hok hoff (by simp), ← h0 s hlo]
    rfl
  · rw [hexec, execBar2Write_whole hok hoff (by simp), ← h1 s hhi]
    rfl
  · rw [hexec, execBar2Write_whole hok hoff (by simp), ← h0 s hlo, ← h1 _ hhi]
    rfl
  · rw [hexec, execBar2Write_whole hok hoff (by simp), ← State.bar2Word_of_le hlo]
    rfl

theorem exec_barBadRequest (r : Bool) (a : Addr) :
    exec (.barBadRequest r a) s = .next ((if r then s.updSht fun x => { x with lastUr := some a } else s).raiseOf .host 82 0x01 a) :=
  if_pos hok

theorem bar2Read_clauses (off : BitVec 20) (be : BitVec 4) (hoff : off.toNat < 0xA0000) :
    let at_ := 0x800000 + off.toNat / 4 * 2
    let word := fun (x : Nat) => if isHandleWord x then 0 else s.readReg x
    let given := fun (i x : Nat) => if be.getLsbD i then (word x).toNat else 0
    let bad := (bar2Words at_ be).filter s.badRead
    (bad = [] → s.bar2Read off be = (some (BitVec.ofNat 32 (given 2 (at_ + 1) * 65536 + given 0 at_)), s)) ∧
    (bad ≠ [] → (s.bar2Read off be).1 = none) ∧
    (∀ x, bad = [x] → (s.bar2Read off be).2 = s.raiseOf .host 82 0x01 (BitVec.ofNat 24 x)) := by
  intro at_ word given bad
  have hread : s.bar2Read off be = if bad.isEmpty then (some (s.bar2Asked (be.getLsbD 2) (at_ + 1) ++ s.bar2Asked (be.getLsbD 0) at_), s)
      else (none, bad.foldl (fun (s : State) a => s.errorTo .host (BitVec.ofNat 24 a)) s) := State.bar2Read_mirror be hok hoff
  clear_value bad
  refine ⟨fun hb => ?_, fun hb => ?_, fun x hb => ?_⟩
  · rw [hread, hb, append_containers, State.bar2Asked_toNat, State.bar2Asked_toNat]
    rfl
  · rw [hread, if_neg (by simpa using hb)]
  · rw [hread, hb]
    rfl

end

/-- Settles O48: each clause is one request's rule above. -/
theorem hostRequestsReachTheirRegister : Obligations.HostRequestsReachTheirRegister := by
  unfold Obligations.HostRequestsReachTheirRegister
  intro s n v off data a r hok fault cq size written place lo hi put
  refine ⟨?_, ?_, ?_, ?_, ?_, exec_barBadRequest hok r a, State.bar0Read_sqTail n hok, State.bar0Read_cqHead n hok, ?_, ?_⟩
  · intro hen
    obtain ⟨htake, hfault⟩ := exec_sqTailDoorbell hok n v hen
    rw [State.sqSize_eq] at htake hfault
    exact ⟨fun hv => htake (Nat.lt_succ_of_le hv), hfault⟩
  · exact fun hen => execSqTailDoorbell_disabled hen
  · intro hen
    have h := exec_cqHeadDoorbell hok n v hen
    simp only [State.cqGap, State.cqSize_eq] at h
    exact h
  · exact exec_bar2Write hok off data
  · exact execBar2Write_beyond
  · intro hoff at_ bad handle word be
    exact bar2Read_clauses hok off be hoff
  · exact fun hoff be => State.bar2Read_beyond be hok hoff

end Sys2Proof.Machine

namespace Sys2Proof.Machine

/-! ### Unit ports: what an accepted trigger answers, by what its port does -/

section
variable {s u : State} {e : Eng} {t : Thr} {d : Nat} {v : Word} {op : State → Force → PortOut} (h : s.accepts e t d v = true)
include h

theorem State.fire_plain (ho : op s (s.force e t) = .plain u) : s.fire e t d v op = .next u := by
  rw [State.fire_of_accepts h, ho]; rfl

theorem State.fire_sends {reqs : List Request} (ho : op s (s.force e t) = .ok u reqs none) : s.fire e t d v op = .next (u.send e t reqs) := by
  rw [State.fire_of_accepts h, ho]

theorem State.fire_jumps {a : PAddr} (ho : op s (s.force e t) = .ok u [] (some a)) :
    s.fire e t d v op = .next (u.updThr e t fun x => { x with pc := a }) := by
  rw [State.fire_of_accepts h, ho]; rfl

theorem State.fire_faults {q : PFault} (ho : op s (s.force e t) = .fault q none) : s.fire e t d v op = .next (s.preciseFault e t q) := by
  rw [State.fire_of_accepts h, ho]; rfl

theorem State.fire_misses {va : Addr} {write half : Bool} (ho : op s (s.force e t) = .miss va write half) :
    s.fire e t d v op = .next (s.startWalk e t va write half false v) := by
  rw [State.fire_of_accepts h, ho]

end

/-! ### Updates that do the same to what they meet are the same -/

theorem Engine.updThr_congr {x : Engine} {t : Thr} {f g : Thread → Thread} (h : f (x.thr t) = g (x.thr t)) : x.updThr t f = x.updThr t g := by
  rw [Engine.updThr, h, Engine.updThr]

theorem State.updEng_congr {s : State} {e : Eng} {f g : Engine → Engine} (h : f (s.eng e) = g (s.eng e)) : s.updEng e f = s.updEng e g := by
  rw [State.updEng, h, State.updEng]

theorem State.updThr_congr {s : State} {e : Eng} {t : Thr} {f g : Thread → Thread} (h : f (s.thr e t) = g (s.thr e t)) :
    s.updThr e t f = s.updThr e t g := State.updEng_congr (Engine.updThr_congr h)

theorem State.updAlu_congr {s : State} {e : Eng} {t : Thr} {f g : AluState → AluState} (h : f (s.thr e t).alu = g (s.thr e t).alu) :
    s.updAlu e t f = s.updAlu e t g := State.updThr_congr (congrArg (fun a => { s.thr e t with alu := a }) h)

/-! ### O10: the ALU (R67, R68) -/

/-- V by the exact result: it is set when the narrowed result is another number. -/
theorem overflows12_eq (n : Int) : overflows12 n = decide ((BitVec.ofInt 12 n).toInt ≠ n) := by
  have h : (BitVec.ofInt 12 n).toInt = n.bmod (2 ^ 12) := BitVec.toInt_ofInt n
  rw [h, Int.bmod_def, overflows12, ← Bool.decide_or]
  exact decide_eq_decide.mpr (by omega)

theorem ofInt_sub (w : Nat) (x y : Int) : BitVec.ofInt w (x - y) = BitVec.ofInt w x - BitVec.ofInt w y := by
  rw [Int.sub_eq_add_neg, BitVec.ofInt_add, BitVec.ofInt_neg, ← BitVec.sub_eq_add_neg]

/-- A sum with a carry `w`: its result, C and V. -/
theorem addWord_eq (a v : Word) {w : Word} {c : Bool} (hw : w.toNat = bit1 c) :
    addWord a v c = (a + v + w, decide (4096 ≤ a.toNat + v.toNat + w.toNat), decide ((a + v + w).toInt ≠ a.toInt + v.toInt + w.toNat)) := by
  have hr : a + v + w = BitVec.ofInt 12 (a.toInt + v.toInt + w.toNat) := by simp [BitVec.ofInt_add]
  have hn : BitVec.ofNat 12 (a.toNat + v.toNat + w.toNat) = a + v + w := by simp [BitVec.ofNat_add]
  rw [hr, ← overflows12_eq, ← hr, addWord, ← hw, hn]

/-- A difference with a borrow `w`. -/
theorem subWord_eq (a v : Word) {w : Word} {b : Bool} (hw : w.toNat = bit1 b) :
    subWord a v b = (a - v - w, decide (v.toNat + w.toNat ≤ a.toNat), decide ((a - v - w).toInt ≠ a.toInt - v.toInt - w.toNat)) := by
  have hr : a - v - w = BitVec.ofInt 12 (a.toInt - v.toInt - w.toNat) := by simp [ofInt_sub]
  have hn : BitVec.ofInt 12 ((a.toNat : Int) - v.toNat - w.toNat) = a - v - w := by simp [ofInt_sub]
  rw [hr, ← overflows12_eq, ← hr, subWord, ← hw, hn]

/-- The word of a carry or a borrow. -/
def carryWord (c : Bool) : Word := if c then 1 else 0

theorem toNat_carryWord (c : Bool) : (carryWord c).toNat = bit1 c := by cases c <;> rfl

theorem AluState.adc_eq (x : AluState) (v : Word) :
    x.adc v =
      (let w := carryWord x.c
       { x with r := x.a + v + w, n := (x.a + v + w).getLsbD 11, z := x.z && decide (x.a + v + w = 0)
                c := decide (4096 ≤ x.a.toNat + v.toNat + w.toNat)
                v := decide ((x.a + v + w).toInt ≠ x.a.toInt + v.toInt + w.toNat) }) := by
  simp only [AluState.adc, AluState.put, addWord_eq x.a v (toNat_carryWord x.c)]

theorem AluState.sbc_eq (x : AluState) (v : Word) :
    x.sbc v =
      (let w := carryWord (!x.c)
       { x with r := x.a - v - w, n := (x.a - v - w).getLsbD 11, z := x.z && decide (x.a - v - w = 0)
                c := decide (v.toNat + w.toNat ≤ x.a.toNat)
                v := decide ((x.a - v - w).toInt ≠ x.a.toInt - v.toInt - w.toNat) }) := by
  simp only [AluState.sbc, AluState.put, subWord_eq x.a v (toNat_carryWord (!x.c))]

theorem AluState.add_eq (x : AluState) (v : Word) :
    x.add v = { x with r := x.a + v, n := (x.a + v).getLsbD 11, z := decide (x.a + v = 0), c := decide (4096 ≤ x.a.toNat + v.toNat)
                       v := decide ((x.a + v).toInt ≠ x.a.toInt + v.toInt) } := by
  simp [AluState.add, AluState.put, addWord_eq x.a v (toNat_carryWord false), carryWord]

theorem word_sub_eq_zero (a v : Word) : a - v = 0#12 ↔ a = v := by bv_omega

theorem AluState.sub_eq (x : AluState) (v : Word) :
    x.sub v = { x with r := x.a - v, n := (x.a - v).getLsbD 11, z := decide (x.a = v), c := decide (v.toNat ≤ x.a.toNat)
                       v := decide ((x.a - v).toInt ≠ x.a.toInt - v.toInt) } := by
  simp [AluState.sub, AluState.put, subWord_eq x.a v (toNat_carryWord false), carryWord, word_sub_eq_zero]

theorem AluState.logic_eq (x : AluState) (r : Word) :
    x.logic r = { x with r := r, n := r.getLsbD 11, z := decide (r = 0) } := rfl

/-- An accepted ALU trigger changes its thread's ALU as its operation does. -/
theorem State.fire_alu {s : State} {e : Eng} {t : Thr} {d : Nat} {v : Word} {f g : AluState → AluState} (h : s.accepts e t d v = true)
    (hfg : f (s.thr e t).alu = g (s.thr e t).alu) :
    s.fire e t d v (fun s _ => .plain (s.updAlu e t f)) = .next (s.updAlu e t g) :=
  State.fire_plain h (congrArg PortOut.plain (State.updAlu_congr hfg))

theorem aluAddsAndSubtracts : Claims.AluAddsAndSubtracts := by
  intro s e t v x cin bin
  refine ⟨fun h => State.fire_alu h ?_, fun h => State.fire_alu h ?_, fun h => State.fire_alu h ?_, fun h => State.fire_alu h ?_,
    fun h => State.fire_alu h ?_⟩
  · exact AluState.add_eq _ v
  · exact AluState.adc_eq _ v
  · exact AluState.sub_eq _ v
  · have hb : bin = carryWord (!x.c) := by cases hx : x.c <;> simp [bin, hx, carryWord]
    rw [hb]
    exact AluState.sbc_eq _ v
  · show AluState.cmp _ v = _
    rw [AluState.cmp, AluState.sub_eq]

theorem aluLogicKeepsCarryAndOverflow : Claims.AluLogicKeepsCarryAndOverflow := by
  intro s e t v
  refine ⟨fun h => State.fire_alu h ?_, fun h => State.fire_alu h ?_, fun h => State.fire_alu h ?_⟩
  · exact AluState.logic_eq _ _
  · exact AluState.logic_eq _ _
  · show AluState.logic _ _ = _
    simp only [AluState.logic_eq, show (0 : Word) = 0#12 from rfl, BitVec.xor_eq_zero_iff]

/-- A shift distance is at most 15. -/
theorem bitsAt_low (v : Word) : bitsAt v 0 4 = v.toNat % 16 := by simp [bitsAt]

theorem AluState.shl_eq (x : AluState) (v : Word) :
    x.shl v =
      (let n := v.toNat % 16
       { x with r := x.a <<< n, n := (x.a <<< n).getLsbD 11, z := decide (x.a <<< n = 0)
                c := decide (0 < n ∧ n ≤ 12) && x.a.getLsbD (12 - n) }) := by
  simp only [AluState.shl, AluState.put, bitsAt_low, Bool.decide_and]
  rfl

/-- Beyond the word's width a logic shift's last bit out is 0. -/
theorem AluState.shr_eq (x : AluState) (v : Word) :
    x.shr v =
      (let n := v.toNat % 16
       { x with r := x.a >>> n, n := (x.a >>> n).getLsbD 11, z := decide (x.a >>> n = 0), c := decide (0 < n) && x.a.getLsbD (n - 1) }) := by
  have hc : ∀ n : Nat, (decide (1 ≤ n) && decide (n ≤ 12) && x.a.getLsbD (n - 1)) = (decide (0 < n) && x.a.getLsbD (n - 1)) := by
    intro n
    by_cases hn : n ≤ 12
    · simp [hn, Nat.succ_le_iff]
    · simp [hn, x.a.getLsbD_of_ge (n - 1) (by omega)]
  simp only [AluState.shr, AluState.put, bitsAt_low, hc]

theorem AluState.sar_eq (x : AluState) (v : Word) :
    x.sar v =
      (let n := v.toNat % 16
       { x with r := x.a.sshiftRight n, n := x.a.getLsbD 11, z := decide (x.a.sshiftRight n = 0)
                c := decide (0 < n) && x.a.getLsbD (min (n - 1) 11) }) := by
  have hn : ∀ n : Nat, (x.a.sshiftRight n).getLsbD 11 = x.a.getLsbD 11 := by
    intro n
    have hm : (x.a.sshiftRight n).msb = x.a.msb := BitVec.msb_sshiftRight
    simpa [BitVec.msb_eq_getLsbD_last] using hm
  simp only [AluState.sar, AluState.put, bitsAt_low, hn]
  rfl

theorem aluShiftsByFourBits : Claims.AluShiftsByFourBits := fun _ _ _ v =>
  ⟨fun h => State.fire_alu h (AluState.shl_eq _ v), fun h => State.fire_alu h (AluState.shr_eq _ v),
    fun h => State.fire_alu h (AluState.sar_eq _ v)⟩

/-- Settles O10: the sums and differences, the logic operations and the shifts. -/
theorem aluOperations : Obligations.AluOperations :=
  ⟨aluAddsAndSubtracts, aluLogicKeepsCarryAndOverflow, aluShiftsByFourBits⟩
end Sys2Proof.Machine

namespace Sys2Proof.Machine

/-! ### Updates one after the other, and an update that changes nothing -/

theorem Engine.updThr_updThr (x : Engine) (t : Thr) (f g : Thread → Thread) : (x.updThr t f).updThr t g = x.updThr t fun y => g (f y) := by
  simp [Engine.updThr, Engine.thr]

theorem State.updEng_updEng (s : State) (e : Eng) (f g : Engine → Engine) : (s.updEng e f).updEng e g = s.updEng e fun x => g (f x) := by
  simp [State.updEng, State.setEng, State.eng]

theorem State.updThr_updThr (s : State) (e : Eng) (t : Thr) (f g : Thread → Thread) :
    (s.updThr e t f).updThr e t g = s.updThr e t fun x => g (f x) := by
  simp only [State.updThr, State.updEng_updEng, Engine.updThr_updThr]

theorem Engine.updThr_of_eq {x : Engine} {t : Thr} {f : Thread → Thread} (h : f (x.thr t) = x.thr t) : x.updThr t f = x := by
  rw [Engine.updThr, h]
  simp [Engine.thr]

theorem State.updEng_of_eq {s : State} {e : Eng} {f : Engine → Engine} (h : f (s.eng e) = s.eng e) : s.updEng e f = s := by
  rw [State.updEng, h]
  simp [State.setEng, State.eng]

theorem State.updThr_of_eq {s : State} {e : Eng} {t : Thr} {f : Thread → Thread} (h : f (s.thr e t) = s.thr e t) : s.updThr e t f = s :=
  State.updEng_of_eq (Engine.updThr_of_eq h)

/-! ### O16: jumps and the return gate (R86, R121) -/

theorem Thread.target_eq (x : Thread) (v : Word) : x.target v = (x.thi.setWidth 5 ++ v : BitVec 17) := by
  apply BitVec.eq_of_toNat_eq
  have hv := v.isLt
  simp only [Thread.target, bitsAt, BitVec.toNat_ofNat, BitVec.toNat_append, BitVec.toNat_setWidth]
  rw [← Nat.shiftLeft_add_eq_or_of_lt hv, Nat.shiftLeft_eq]
  omega

section
variable {s : State} {e : Eng} {t : Thr} {d : Nat} {v : Word} {a : PAddr}

/-- Off the gate a jump only gives its target. -/
theorem State.jump_off_gate (s : State) (t : Thr) (f : Force) (v : Word) (h : a ≠ s.gate e) : s.jump e t f a v = .ok s [] (some a) :=
  if_neg h

/-- A jump to the gate at task level is a privilege fault. -/
theorem State.jump_gate_task {f : Force} (ha : a = s.gate e) (hf : f.machine = false) :
    s.jump e t f a v = .fault { cause := 0x05, val := v } none := by
  simp [State.jump, ha, hf]

/-- At machine level with no frame there is nothing to return from. -/
theorem State.jump_gate_no_frame {f : Force} (ha : a = s.gate e) (hf : f.machine = true) (hc : s.currentFrame e t = none) :
    s.jump e t f a v = argFault v := by
  simp [State.jump, ha, hf, hc]

/-- At machine level with a frame the thread is to return. -/
theorem State.jump_gate_returns {f : Force} (ha : a = s.gate e) (hf : f.machine = true) (hc : s.currentFrame e t ≠ none) :
    s.jump e t f a v = .ok (s.updThr e t fun x => { x with ret := true }) [] (some (s.gate e)) := by
  obtain ⟨q, hq⟩ := Option.ne_none_iff_exists'.mp hc
  simp [State.jump, ha, hf, hq]

/-- A row whose accepted trigger is a jump to `a`, off the gate. -/
theorem State.fire_jump_off_gate {op : State → Force → PortOut} (h : s.accepts e t d v = true)
    (ho : op s (s.force e t) = s.jump e t (s.force e t) a v) (ha : a ≠ s.gate e) :
    s.fire e t d v op = .next (s.updThr e t fun x => { x with pc := a }) :=
  State.fire_jumps h (ho.trans (s.jump_off_gate t _ v ha))

/-- A row whose accepted trigger is a jump to the gate. -/
theorem State.fire_jump_gate {op : State → Force → PortOut} (h : s.accepts e t d v = true)
    (ho : op s (s.force e t) = s.jump e t (s.force e t) a v) (ha : a = s.gate e) :
    ((s.thr e t).machine = false → s.fire e t d v op = .next (s.preciseFault e t { cause := 0x05, val := v })) ∧
    ((s.thr e t).machine = true → s.currentFrame e t = none → s.fire e t d v op = .next (s.preciseFault e t { cause := 0x07, val := v })) ∧
    ((s.thr e t).machine = true → s.currentFrame e t ≠ none →
      s.fire e t d v op = .next (s.updThr e t fun x => { x with ret := true, pc := s.gate e })) := by
  refine ⟨fun hm => ?_, fun hm hc => ?_, fun hm hc => ?_⟩
  · exact State.fire_faults h (ho.trans (State.jump_gate_task ha hm))
  · exact State.fire_faults h (ho.trans (State.jump_gate_no_frame ha hm hc))
  · rw [State.fire_jumps h (ho.trans (State.jump_gate_returns ha hm hc)), State.updThr_updThr]

theorem portPcuJnz_zero {f : Force} (h : (s.thr e t).cnd = 0) : portPcuJnz s e t f v = .plain s := if_pos h

theorem portPcuJnz_nonzero {f : Force} (h : (s.thr e t).cnd ≠ 0) : portPcuJnz s e t f v = s.jump e t f ((s.thr e t).target v) v := if_neg h

end

theorem jumpsSetThePc : Claims.JumpsSetThePc := by
  intro s e t v x target dest
  have ht : x.target v = target := x.target_eq v
  rw [← ht]
  refine ⟨fun h hg => ?_, fun h hg => ?_, fun h hg => ?_, fun h hc hg => ?_, fun h hc => ?_⟩
  · exact State.fire_jump_off_gate h rfl hg
  · rw [← State.updThr_updThr s e t (fun x => { x with lk := x.pc + BitVec.ofNat 17 (s.moveLen e t) }) fun y => { y with pc := x.target v }]
    exact State.fire_jumps h (if_neg hg)
  · exact State.fire_jump_off_gate h rfl hg
  · exact State.fire_jump_off_gate h (portPcuJnz_nonzero hc) hg
  · exact State.fire_plain h (portPcuJnz_zero hc)

theorem theReturnGateIsGuarded : Claims.TheReturnGateIsGuarded := by
  intro s e t v x target fault gates
  have ht : x.target v = target := x.target_eq v
  rw [← ht]
  refine ⟨fun h hg => ?_, fun h hg => ?_, fun h hc hg => ?_, fun h hg => ?_⟩
  · exact State.fire_jump_gate h rfl hg
  · exact State.fire_jump_gate h rfl hg
  · exact State.fire_jump_gate h (portPcuJnz_nonzero hc) hg
  · have hp : portPcuJal s e t (s.force e t) v = if x.machine then argFault v else .fault { cause := 0x05, val := v } none := if_pos hg
    cases hm : x.machine with
    | true => exact State.fire_faults h (hp.trans (if_pos hm))
    | false => exact State.fire_faults h (hp.trans (by rw [hm]; rfl))

/-- Settles O16: jumps off the gate and to the gate. -/
theorem jumpsAndTheReturnGate : Obligations.JumpsAndTheReturnGate := ⟨jumpsSetThePc, theReturnGateIsGuarded⟩

end Sys2Proof.Machine

namespace Sys2Proof.Machine

/-! ### What the lanes' agreement rests on -/

theorem State.together_updEng {s : State} {e : Eng} {f : Engine → Engine} (h : (f (s.eng e)).stray = (s.eng e).stray) :
    (s.updEng e f).together e = s.together e := by
  simp only [State.together, State.updEng_eng, Engine.together, Engine.apart, h]

theorem State.still_updEng {s : State} {e : Eng} {f : Engine → Engine} (h : (f (s.eng e)).heddle.phase = (s.eng e).heddle.phase) :
    (s.updEng e f).still e = s.still e := by
  simp only [State.still, State.paused, State.updEng_eng, h]
  rfl

@[simp] theorem State.together_updThr (s : State) (e : Eng) (t : Thr) (f : Thread → Thread) : (s.updThr e t f).together e = s.together e :=
  State.together_updEng rfl

@[simp] theorem State.still_updThr (s : State) (e : Eng) (t : Thr) (f : Thread → Thread) : (s.updThr e t f).still e = s.still e :=
  State.still_updEng rfl

/-- What a delivery brings that is no input: the lanes that agree and run take it at once. -/
theorem State.deliver_of_together {s : State} {e : Eng} (h : s.together e = true) (hs : s.still e = false) {d : Delivery}
    (hd : ∀ i l v, d ≠ .input i l v) : s.deliver e d = s.take e d := by
  have hn : s.deliver e d = s.deliverNow e d := by simp [State.deliver, hs]
  rw [hn]
  cases d with
  | input i l v => exact absurd rfl (hd i l v)
  | _ => exact State.inLanes_of_together h _

/-! ### O22: the trip, watchdog and selvedge ports (R99 to R101) -/

theorem word_setWidth_low (v : Word) : v.setWidth 24 = 0#12 ++ v := by
  apply BitVec.eq_of_toNat_eq
  have hv := v.isLt
  simp only [BitVec.toNat_setWidth, BitVec.toNat_append, BitVec.toNat_ofNat]
  rw [← Nat.shiftLeft_add_eq_or_of_lt hv, Nat.shiftLeft_eq]
  omega

theorem word_setWidth_high (v : Word) : v.setWidth 24 <<< 12 = v ++ 0#12 := by
  apply BitVec.eq_of_toNat_eq
  have hv := v.isLt
  simp only [BitVec.toNat_setWidth, BitVec.toNat_append, BitVec.toNat_ofNat, BitVec.toNat_shiftLeft, Nat.zero_mod, Nat.or_zero]
  rw [Nat.shiftLeft_eq, Nat.shiftLeft_eq]
  omega

section
variable {s : State} {e : Eng} {t : Thr} {d : Nat} {v : Word} {op : State → Force → PortOut}

/-- An accepted trigger whose port changes the request bits sends the change to the vote. -/
theorem State.fire_tripPort {f : BitVec 24 → BitVec 24} (h : s.accepts e t d v = true) (ho : op s (s.force e t) = tripPort s e d v f) :
    s.fire e t d v op = .next ((s.updEng e fun y => { y with trq := f y.trq }).send e t [portRequest d 4 v]) :=
  State.fire_sends h ho

theorem portTrpSet_line (h : v.toNat ≤ 23) :
    portTrpSet s e v = tripPort s e 0x70 v fun q => q ||| BitVec.ofNat 24 (2 ^ v.toNat) := if_neg (Nat.not_lt.mpr h)

theorem portTrpSet_no_line (h : ¬ v.toNat ≤ 23) : portTrpSet s e v = argFault v := if_pos (Nat.lt_of_not_le h)

theorem portTrpClr_all (h : v = 31) : portTrpClr s e v = tripPort s e 0x71 v fun _ => 0 := if_pos h

theorem portTrpClr_line (hn : v ≠ 31) (h : v.toNat ≤ 23) :
    portTrpClr s e v = tripPort s e 0x71 v fun q => q &&& ~~~BitVec.ofNat 24 (2 ^ v.toNat) :=
  (if_neg hn).trans (if_neg (Nat.not_lt.mpr h))

theorem portTrpClr_no_line (hn : v ≠ 31) (h : ¬ v.toNat ≤ 23) : portTrpClr s e v = argFault v :=
  (if_neg hn).trans (if_pos (Nat.lt_of_not_le h))

theorem portTrpSetm_eq : portTrpSetm s e v = tripPort s e 0x72 v fun q => q ||| (0#12 ++ v) := by rw [← word_setWidth_low]; rfl

theorem portTrpSetmh_eq : portTrpSetmh s e v = tripPort s e 0x73 v fun q => q ||| (v ++ 0#12) := by rw [← word_setWidth_high]; rfl

end

theorem tripRequestBits : Claims.TripRequestBits := by
  intro s e t v put bad m
  refine ⟨fun h => ?_, fun h => ?_, fun h => ?_, fun h => ?_⟩
  · show s.fire e t 0x70 v (fun s _ => portTrpSet s e v) = _
    split
    · next hl => exact State.fire_tripPort (op := fun s _ => portTrpSet s e v) h (portTrpSet_line hl)
    · next hl => exact State.fire_faults h (portTrpSet_no_line hl)
  · show s.fire e t 0x71 v (fun s _ => portTrpClr s e v) = _
    split
    · next ha => exact State.fire_tripPort (op := fun s _ => portTrpClr s e v) h (portTrpClr_all ha)
    · next ha =>
      split
      · next hl => exact State.fire_tripPort (op := fun s _ => portTrpClr s e v) h (portTrpClr_line ha hl)
      · next hl => exact State.fire_faults h (portTrpClr_no_line ha hl)
  · exact State.fire_tripPort (op := fun s _ => portTrpSetm s e v) h portTrpSetm_eq
  · exact State.fire_tripPort (op := fun s _ => portTrpSetmh s e v) h portTrpSetmh_eq

theorem bitsAt_zero {k : Nat} (v : BitVec k) (w : Nat) : bitsAt v 0 w = v.toNat % 2 ^ w := by simp [bitsAt]

section
variable {s : State} {e : Eng} {t : Thr} {d : Nat} {v : Word} {op : State → Force → PortOut}

/-- A reserved bit of a check-in's value: bits 11 to 4. -/
theorem bitsAt_check (v : Word) : bitsAt v 4 8 = 0 ↔ v.toNat < 16 := by
  have hv := v.isLt
  unfold bitsAt
  omega

/-- An accepted selvedge-port trigger queues its operation and sends its request, or faults at a reserved page. -/
theorem State.fire_svpPort {w : Option Word} {fence inc : Bool} (h : s.accepts e t d v = true)
    (ho : op s (s.force e t) = svpPort s e t d v w fence inc) :
    let x := (s.thr e t).svp
    s.fire e t d v op = .next (
      if x.b.getLsbD 4 = true ∧ x.b.toNat / 2 % 8 ≠ 0 then s.preciseFault e t { cause := 0x07, val := v }
      else (s.updEng e fun y =>
        { y.updThr t fun z => { z with svp := { x with a := if inc then x.a + 1 else x.a, pend := true } } with
          svpq := y.svpq ++ [{ t := t, a := x.a, b := x.b, write := w, fence := fence }] }).send e t
        [{ request (BitVec.ofNat 24 (0xF00000 + d)) (if fence then 7 else 6) v with target := x.b ++ x.a }]) := by
  intro x
  have hb : (x.b.getLsbD 4 && decide (bitsAt x.b 1 3 ≠ 0)) = decide (x.b.getLsbD 4 = true ∧ x.b.toNat / 2 % 8 ≠ 0) := by
    simp [bitsAt]
  split
  · next hr =>
    refine State.fire_faults h (ho.trans (if_pos ?_))
    rw [hb]; exact decide_eq_true hr
  · next hr =>
    refine State.fire_sends h (ho.trans (if_neg ?_))
    rw [hb]; simpa using hr

end

theorem watchdogAndSelvedgePortsIssue : Claims.WatchdogAndSelvedgePortsIssue := by
  intro s e t v x bad sent
  refine ⟨fun h => ?_, fun h => State.fire_sends h rfl, fun h => State.fire_svpPort h rfl, fun h => State.fire_svpPort h rfl,
    fun h => State.fire_svpPort h rfl, fun h => State.fire_svpPort h rfl, fun h => State.fire_svpPort h rfl⟩
  split
  · next hv => exact State.fire_sends h (if_neg (by simpa using (bitsAt_check v).mpr hv))
  · next hv => exact State.fire_faults h (if_pos (by simpa using mt (bitsAt_check v).mp hv))

/-- The register of an operation, by the page that SVP.B names. -/
theorem SvpOp.addr_eq (q : SvpOp) :
    q.addr = (if q.b.getLsbD 4 then 0x80C000 + q.b.toNat % 2 * 0x1000 else 0x840000 + q.b.toNat % 16 * 0x1000) + q.a.toNat := by
  simp only [SvpOp.addr, bitsAt_zero]
  rfl

/-- The end of an operation reaches its thread, in lanes that agree and run. -/
theorem State.deliver_svp {s : State} {e : Eng} (h : s.together e = true) (hs : s.still e = false) (t : Thr) (err : Bool) (r : Option Word) :
    s.deliver e (.svp t err r) = s.updThr e t fun x =>
      { x with svp := { x.svp with
          pend := false
          st := (if err then 0x800 else 0) ||| BitVec.ofNat 12 (min 15 ((s.eng e).svpq.filter fun q => q.write.isSome).length)
          q := r.getD x.svp.q } } :=
  State.deliver_of_together h hs (by simp)

theorem selvedgePortTakesEffect : Claims.SelvedgePortTakesEffect := by
  intro s e q rest ht hs hq hsent left a done
  have hl : s.updLanes e (fun y => { y with svpq := y.svpq.tail }) = left :=
    (State.updLanes_of_together ht _).trans (State.updEng_congr (by rw [hq]; rfl))
  have hlt : left.together e = true := (State.together_updEng rfl).trans ht
  have hls : left.still e = false := (State.still_updEng rfl).trans hs
  have ha : q.addr = a := q.addr_eq
  have hx : exec (.svpTakeEffect e) s =
      .next ((left.svpEffect e q).2.2.deliver e (.svp q.t (left.svpEffect e q).1 (left.svpEffect e q).2.1)) := by
    show execSvpTakeEffect e s = _
    simp only [execSvpTakeEffect, hq, hsent, hl]
    rfl
  rw [hx]
  refine ⟨fun hf => ?_, fun v hf hw => ?_, fun hf hw hr => ?_, fun hf hw hr => ?_⟩
  · simp only [State.svpEffect, hf, if_true]
    rw [State.deliver_svp hlt hls]
  · intro r hrt hrs
    simp only [State.svpEffect, hf, hw, ha, Bool.false_eq_true, if_false]
    exact congrArg _ (State.deliver_svp hrt hrs _ _ _)
  · simp only [State.svpEffect, hf, hw, ha, hr, Bool.false_eq_true, if_false, if_true]
    rw [State.deliver_svp hlt hls]
  · simp only [State.svpEffect, hf, hw, ha, hr, Bool.false_eq_true, if_false]
    rw [State.deliver_svp hlt hls]

/-- Settles O22: the ports issue, and the selvedge port's operations take effect. -/
theorem tripWatchdogAndSelvedgePorts : Obligations.TripWatchdogAndSelvedgePorts :=
  ⟨tripRequestBits, watchdogAndSelvedgePortsIssue, selvedgePortTakesEffect⟩

end Sys2Proof.Machine

namespace Sys2Proof.Machine

/-! ### O19: sample cursors and timers (R89 to R91, R94, R95) -/

/-- A pop of lanes that agree, when the thread may make it. -/
theorem State.firePop_of_ready {s : State} {e : Eng} {t : Thr} {i : Nat} (h : s.together e = true) (hm : s.mayMove e t = true)
    (hr : s.srcReady e t i = true) : s.firePop e t i = .next (s.srcPop e t i) := by
  simp [State.firePop, State.inLanes_of_together h, State.popIn, hm, hr]

/-- A read of good words that meets nothing on its way ends well, or at an isolated cluster. -/
theorem State.effRead_ok {s : State} (m : Master) {ws : List Addr} (h : ∀ a ∈ ws, s.wordGood a = true) :
    s.effRead m ws .ok = if s.cutOff m (ws.headD 0) then .errorResponse else .ok := by
  have hb : (ws.any fun w => !s.wordGood w) = false := by simpa using h
  simp [State.effRead, hb]

section
variable {s : State} {e : Eng} {t : Thr} {v : Word}

theorem portSmpOpen_no_channel (h : 48 ≤ (s.thr e t).smp.sel.toNat % 64) : portSmpOpen s e t v = argFault v := by
  have hb := bitsAt_zero (s.thr e t).smp.sel 6
  exact dif_neg (by omega)

theorem portSmpOpen_channel {n : Chan} (h : (s.thr e t).smp.sel.toNat % 64 = n.val) :
    portSmpOpen s e t v =
      if !s.bobFeeds n e.cluster then argFault v
      else
        let a := s.bobAvail n e.cluster
        let back := min v.toNat (min a (s.bobCap n))
        let u := s.updThr e t fun x => { x with smp := { x.smp with
          chan := some n, pos := a - back, ovr := decide (min a (s.bobCap n) < v.toNat) } }
        .plain (if s.bobWm n ≠ 0 ∧ s.bobWm n ≤ back then u.setLine e 12 else u) := by
  have hb := bitsAt_zero (s.thr e t).smp.sel 6
  have hn : bitsAt (s.thr e t).smp.sel 0 6 = n.val := hb.trans h
  have hc : (⟨bitsAt (s.thr e t).smp.sel 0 6, hn ▸ n.isLt⟩ : Chan) = n := Fin.ext hn
  rw [portSmpOpen, dif_pos (hn ▸ n.isLt), hc]
  have hback : ∀ a : Nat, a - (a - min v.toNat (min a (s.bobCap n))) = min v.toNat (min a (s.bobCap n)) := by omega
  simp only [hback, Bool.and_eq_true, decide_eq_true_eq]
  rfl

theorem State.popSmp_good {n : Chan} (hc : (s.thr e t).smp.chan = some n) (hp : (s.thr e t).smp.pos < s.bobAvail n e.cluster)
    (hb : s.popBad n e.cluster (s.thr e t).smp.pos = none) :
    let x := (s.thr e t).smp
    s.popSmp e t = s.updThr e t fun y =>
      { y with smp := { y.smp with pos := x.pos + 1, qh := hiW (s.bobSample n e.cluster x.pos), seq := BitVec.ofNat 12 x.pos } } := by
  simp [State.popSmp, hc, hp, hb, State.popValue]

end

theorem sampleCursorsFollowTheBobbin : Claims.SampleCursorsFollowTheBobbin := by
  intro s e t v x
  refine ⟨fun h hs => State.fire_faults h (portSmpOpen_no_channel hs), fun n h hn => ?_, fun n h hc => ?_, fun h hc => ?_,
    fun n ht hm hr hc hp hb hg => ?_⟩
  · intro a held back u
    have ho := portSmpOpen_channel (v := v) hn
    refine ⟨fun hf => State.fire_faults h (ho.trans ?_), fun hf => State.fire_plain h (ho.trans ?_)⟩
    · rw [hf]; rfl
    · rw [hf]; rfl
  · refine State.fire_plain h (?_ : portSmpSkip s e t v = _)
    have hc' : (s.thr e t).smp.chan = some n := hc
    simp only [portSmpSkip, hc']
  · refine State.fire_plain h (?_ : portSmpSkip s e t v = _)
    have hc' : (s.thr e t).smp.chan = none := hc
    simp only [portSmpSkip, hc']
  · show execSmpQ e t .ok s = _
    have hq : execSmpQ e t .ok s = s.firePop e t 0x60 := by
      simp only [execSmpQ, hm, hr, State.effRead_ok _ hg]
      cases s.cutOff _ _ <;> rfl
    rw [hq, State.firePop_of_ready ht hm hr]
    exact congrArg _ (State.popSmp_good hc hp hb)

theorem tickLen_eq (cfg : Word) : tickLen cfg = 16 ^ (cfg.toNat % 4) := by
  have hb : bitsAt cfg 0 2 = cfg.toNat % 4 := bitsAt_zero cfg 2
  have hlt : cfg.toNat % 4 < 4 := Nat.mod_lt _ (by decide)
  rw [tickLen, hb]
  generalize cfg.toNat % 4 = n at hlt
  match n, hlt with
  | 0, _ | 1, _ | 2, _ | 3, _ => rfl

/-- A due expiry: what it leaves of the timer, and the line it makes pending. -/
theorem State.expireIn_due {s : State} {e : Eng} {t : Thr} (hp : s.paused e = false) (hr : (s.thr e t).tmr.run = true)
    (hd : (s.thr e t).tmr.due ≠ 0) :
    let x := (s.thr e t).tmr
    let u := s.updThr e t fun y => { y with tmr := { x with
      due := x.due - 1, exp := true, run := x.cfgNow.getLsbD 2
      ovf := if x.exp = false then x.ovf else if x.ovf = 15 then 15 else x.ovf + 1 } }
    s.expireIn e t = if x.cfgNow.getLsbD 3 then u.updEng e fun y => y.pend t.val else u := by
  intro x u
  have hx : s.expireIn e t = s.updEng e fun z =>
      let z := z.updThr t fun y => { y with tmr := { x with
        due := x.due - 1, exp := true, ovf := if x.exp then (if x.ovf = 15 then 15 else x.ovf + 1) else x.ovf
        run := x.cfgNow.getLsbD 2 } }
      if x.cfgNow.getLsbD 3 then z.pend t.val else z := by
    simp [State.expireIn, hr, hd, hp, x]
  have ho : (if x.exp then (if x.ovf = 15 then 15 else x.ovf + 1) else x.ovf) =
      if x.exp = false then x.ovf else if x.ovf = 15 then 15 else x.ovf + 1 := by cases x.exp <;> rfl
  rw [hx, ho]
  cases hi : x.cfgNow.getLsbD 3
  · rfl
  · exact (s.updEng_updEng e (fun z => z.updThr t _) fun y => y.pend t.val).symm

theorem timersStartStopAndExpire : Claims.TimersStartStopAndExpire := by
  intro s e t v x per n
  refine ⟨fun h => State.fire_plain h ?_, fun h => State.fire_plain h rfl, fun ht hp hr hd => ?_⟩
  · rw [← tickLen_eq]
    exact congrArg PortOut.plain (State.updThr_congr rfl)
  · show Host.Outcome.next (s.inLanes e fun s => s.expireIn e t) = _
    rw [State.inLanes_of_together ht]
    exact congrArg _ (State.expireIn_due hp hr hd)

/-- Settles O19: the sample cursors, and the timers. -/
theorem samplesAndTimers : Obligations.SamplesAndTimers := ⟨sampleCursorsFollowTheBobbin, timersStartStopAndExpire⟩

end Sys2Proof.Machine

namespace Sys2Proof.Machine

/-! ### O11: the accumulator (R70) -/

theorem overflows48_iff (r : Int) : overflows48 r = true ↔ r < -(2 ^ 47) ∨ 2 ^ 47 ≤ r := by simp [overflows48]

theorem macResult_mac (acc arg : Quad) : macResult .mac acc arg = (acc + arg, overflows48 (acc.toInt + arg.toInt)) := by
  simp [macResult, BitVec.ofInt_add]

theorem macResult_msu (acc arg : Quad) : macResult .msu acc arg = (acc - arg, overflows48 (acc.toInt - arg.toInt)) := by
  simp [macResult, ofInt_sub]

/-- What the end of a MAC operation leaves of the accumulator. -/
def State.putAcc (s : State) (e : Eng) (t : Thr) (r : Quad) : State :=
  s.updThr e t fun x => { x with mac := { x.mac with acc := r, pend := none } }

section
variable {s : State} {e : Eng} {t : Thr} {p : MacPend} (ht : s.together e = true) (hs : s.still e = false)
  (hp : (s.thr e t).mac.pend = some p)

/-- A masked MAC overflow raises nothing (R98). -/
theorem State.imprecise_masked {u : State} (pc : PAddr) (d : BitVec 7) (fa : Addr) (h : (u.thr e t).exc.amask.getLsbD 2 = true) :
    u.imprecise e t 0x1D pc d fa = u := if_pos h

/-- Nothing waits for an exception that has not arisen. -/
theorem State.waiterFirst_of_pexc {u : State} (late : Bool) (h : (u.thr e t).pexc = (s.thr e t).pexc) : u.waiterFirst s e t late = u := by
  refine if_neg ?_
  rw [h]
  cases (s.thr e t).pexc <;> simp

include ht hs hp

/-- An operation ends with its result, and with its exception when it overflows. -/
theorem exec_macComplete (late : Bool) :
    exec (.macComplete e t late) s = .next (
      let r := macResult p.op (s.thr e t).mac.acc p.arg
      let u := s.putAcc e t r.1
      if r.2 then (u.imprecise e t 0x1D p.pc p.dest 0).waiterFirst s e t late else u) := by
  show Host.Outcome.next (s.inLanes e fun s => s.macIn e t late) = _
  rw [State.inLanes_of_together ht]
  simp only [State.macIn, hs, hp]
  rfl

/-- An operation whose result is in range, or whose overflow is masked, leaves its result. -/
theorem exec_macComplete_quiet (late : Bool) {r : Quad} {o : Bool} (hr : macResult p.op (s.thr e t).mac.acc p.arg = (r, o))
    (ho : o = false ∨ (s.thr e t).exc.amask.getLsbD 2 = true) : exec (.macComplete e t late) s = .next (s.putAcc e t r) := by
  rw [exec_macComplete ht hs hp, hr]
  rcases ho with rfl | hm
  · rfl
  · have hu : ((s.putAcc e t r).thr e t).exc.amask.getLsbD 2 = true := by simpa [State.putAcc] using hm
    have hx : ((s.putAcc e t r).thr e t).pexc = (s.thr e t).pexc := by simp [State.putAcc]
    cases o
    · rfl
    · exact congrArg _ (by rw [if_pos rfl, State.imprecise_masked _ _ _ hu, State.waiterFirst_of_pexc late hx])

/-- An operation that overflows raises the MAC-overflow exception. -/
theorem exec_macComplete_overflow {r : Quad} (hr : macResult p.op (s.thr e t).mac.acc p.arg = (r, true)) :
    exec (.macComplete e t false) s = .next ((s.putAcc e t r).imprecise e t 0x1D p.pc p.dest 0) := by
  rw [exec_macComplete ht hs hp, hr]
  rfl

end

theorem State.runThread_acc (s : State) (e : Eng) (t : Nat) : (s.runThread e t).mac.acc = 0 := rfl

/-- Settles O11: each operation's result, by whether it leaves the range and is masked. -/
theorem accumulatorWrapsAndReports : Obligations.AccumulatorWrapsAndReports := by
  refine ⟨fun s e t late p ht hs hp => ?_, State.runThread_acc⟩
  intro acc put ovr masked
  have hmac : p.op = .mac → macResult p.op acc p.arg = (acc + p.arg, overflows48 (acc.toInt + p.arg.toInt)) :=
    fun ho => ho ▸ macResult_mac acc p.arg
  have hmsu : p.op = .msu → macResult p.op acc p.arg = (acc - p.arg, overflows48 (acc.toInt - p.arg.toInt)) :=
    fun ho => ho ▸ macResult_msu acc p.arg
  have hin : ∀ i, ¬ ovr i ∨ masked → overflows48 i = false ∨ masked := fun i h =>
    h.imp_left fun hi => Bool.eq_false_iff.mpr (mt (overflows48_iff i).mp hi)
  refine ⟨fun ho => ?_, fun ho => ?_, fun ho h => ?_, fun ho h => ?_, fun ho h hm => ?_, fun ho h hm => ?_⟩
  · exact exec_macComplete_quiet ht hs hp late (ho ▸ rfl) (.inl rfl)
  · exact exec_macComplete_quiet ht hs hp late (ho ▸ rfl) (.inl rfl)
  · exact exec_macComplete_quiet ht hs hp late (hmac ho) (hin _ h)
  · exact exec_macComplete_quiet ht hs hp late (hmsu ho) (hin _ h)
  · exact exec_macComplete_overflow ht hs hp (by rw [hmac ho, (overflows48_iff _).mpr h])
  · exact exec_macComplete_overflow ht hs hp (by rw [hmsu ho, (overflows48_iff _).mpr h])

end Sys2Proof.Machine

namespace Sys2Proof.Machine

/-! ### O15: block operations (R81, R82, R190)

BLK.GO clears the count of the presentations that the element before had (R190), which the statement leaves as it was: a thread whose last
operation was suspended after a presentation that received BUSY tells the two apart. -/

/-- An accepted BLK.GO of a MOVE starts its element's presentations afresh. -/
theorem exec_blkMove_tries {s : State} {e : Eng} {t : Thr} (h : s.accepts e t 0x52 0 = true) :
    ∃ u, exec (.blkMove e t 0) s = .next u ∧ (u.thr e t).blk.tries = 0 := by
  refine ⟨_, State.fire_plain h (if_neg (by decide)), ?_⟩
  simp [State.thr, Engine.thr, Engine.updThr]

/-- Engine 0 runs, with thread 0 started; its last block operation's element was presented once more. -/
def blockRetried : State :=
  (({ State.reset with dev := { phase := .run, safe := false, tethered := true } }.setReg (engBase 0) 0x020).updThr 0 0 fun x =>
    { x with run := .running, blk := { x.blk with tries := 1 } })

theorem blockRetried_tries : (blockRetried.thr 0 0).blk.tries = 1 := by simp [blockRetried]

theorem blockRetried_accepts : blockRetried.accepts 0 0 0x52 0 = true := by decide +kernel

/-- Refutes O15: the statement's MOVE leaves the presentations of the element before, of which `blockRetried` holds one; BLK.GO clears
them. -/
theorem not_blockOperations : ¬ Obligations.BlockOperations := by
  rintro ⟨hstart, -⟩
  obtain ⟨u, hu, htries⟩ := exec_blkMove_tries blockRetried_accepts
  have hclaim := ((hstart blockRetried 0 0 0).1 blockRetried_accepts).1 (by decide)
  rw [hu, Host.Outcome.next.injEq] at hclaim
  rw [hclaim] at htries
  have : (blockRetried.thr 0 0).blk.tries = 0 := by simpa [State.thr, Engine.thr, Engine.updThr] using htries
  rw [blockRetried_tries] at this
  exact absurd this (by decide)

end Sys2Proof.Machine

namespace Sys2Proof.Machine

/-! ### O13: loads leave (R74, R76, R77, R144) -/

section
variable {s : State} {e : Eng} {t : Thr} {d : Nat} {v off p : Word} {op : State → Force → PortOut}

/-- An access that is not allowed faults, and one that misses the TLB starts a walk. -/
theorem State.fire_checked {c : Checked} {write : Bool} (h : s.accepts e t d v = true)
    (hf : ∀ q, c = .fault q → op s (s.force e t) = .fault q none) (hm : ∀ a half, c = .miss a half → op s (s.force e t) = .miss a write half) :
    (∀ q, c = .fault q → s.fire e t d v op = .next (s.preciseFault e t q)) ∧
    (∀ a half, c = .miss a half → s.fire e t d v op = .next (s.startWalk e t a write half false v)) :=
  ⟨fun q hc => State.fire_faults h (hf q hc), fun a half hc => State.fire_misses h (hm a half hc)⟩

/-- A load trigger of one word. -/
theorem State.fire_portLoad_single (ho : op s (s.force e t) = portLoad s e t (s.force e t) d v)
    (ha : lsuAddr (s.thr e t).lsu d v = some (off, false, p)) (h : s.accepts e t d v = true) :
    let va := joinW (s.thr e t).lsu.seg off
    let c := s.check e t (s.force e t) false false false v [va] false
    (∀ a, c = .go [a] → s.fire e t d v op = .next ((s.startLoad e t
      { pa := a, va := va, second := none, split := false, machine := (s.force e t).machine } p).send e t [request a 1 0])) ∧
    (∀ q, c = .fault q → s.fire e t d v op = .next (s.preciseFault e t q)) ∧
    (∀ a half, c = .miss a half → s.fire e t d v op = .next (s.startWalk e t a false half false v)) := by
  intro va c
  have hc : s.check e t (s.force e t) false (false && off.getLsbD 0) false v (lsuVas (s.thr e t).lsu.seg off false) false = c := rfl
  refine ⟨fun a hg => State.fire_sends h ?_, State.fire_checked h (fun q hq => ?_) fun a half hm => ?_⟩
  · simp only [ho, portLoad, ha, hc, hg]; rfl
  · simp only [ho, portLoad, ha, hc, hq]
  · simp only [ho, portLoad, ha, hc, hm]

/-- A load trigger of two words, split when its offset is odd. -/
theorem State.fire_portLoad_double (ho : op s (s.force e t) = portLoad s e t (s.force e t) d v)
    (ha : lsuAddr (s.thr e t).lsu d v = some (off, true, p)) (h : s.accepts e t d v = true) :
    let split := off.getLsbD 0
    let va := joinW (s.thr e t).lsu.seg off
    let vb := joinW (s.thr e t).lsu.seg (off + 1)
    let c := s.check e t (s.force e t) false split false v [va, vb] false
    (∀ a b, c = .go [a, b] → s.fire e t d v op = .next ((s.startLoad e t
      { pa := a, va := va, second := some (b, vb), split := split, machine := (s.force e t).machine } p).send e t
        [request a 1 0, request b 1 0])) ∧
    (∀ q, c = .fault q → s.fire e t d v op = .next (s.preciseFault e t q)) ∧
    (∀ a half, c = .miss a half → s.fire e t d v op = .next (s.startWalk e t a false half false v)) := by
  intro split va vb c
  have hc : s.check e t (s.force e t) false (true && off.getLsbD 0) false v (lsuVas (s.thr e t).lsu.seg off true) false = c := by
    rw [Bool.true_and]; rfl
  refine ⟨fun a b hg => State.fire_sends h ?_, State.fire_checked h (fun q hq => ?_) fun a half hm => ?_⟩
  · simp only [ho, portLoad, ha, hc, hg]
    rw [Bool.true_and]; rfl
  · simp only [ho, portLoad, ha, hc, hq]
  · simp only [ho, portLoad, ha, hc, hm]

/-- The scaled offset of LDX and STX (R74). -/
theorem lsuAddr_scaled (x : LsuState) (v : Word) {n : Nat} (hn : n < 3) (hs : x.ctl.toNat % 4 = n) (hd : d = 0x47 ∨ d = 0x48) :
    lsuAddr x d v = some (v + x.x * BitVec.ofNat 12 (2 ^ n), x.ctl.getLsbD 3, v + x.x * BitVec.ofNat 12 (2 ^ n)) := by
  have hb : bitsAt x.ctl 0 2 = n := (bitsAt_zero x.ctl 2).trans hs
  rcases hd with rfl | rfl <;> match n, hn with
    | 0, _ => simp [lsuAddr, hb]
    | 1, _ | 2, _ => simp [lsuAddr, hb]

/-- The reserved scale has no address. -/
theorem lsuAddr_reserved (x : LsuState) (v : Word) (hs : x.ctl.toNat % 4 = 3) (hd : d = 0x47 ∨ d = 0x48) : lsuAddr x d v = none := by
  have hb : bitsAt x.ctl 0 2 = 3 := (bitsAt_zero x.ctl 2).trans hs
  rcases hd with rfl | rfl <;> simp [lsuAddr, hb]

end

theorem loadsLeaveWithTheirAddress : Claims.LoadsLeaveWithTheirAddress := by
  intro s e t v x f otherwise single double indexed
  have hindexed : ∀ (i : Instr) (d : Nat) (off : Word) (op : State → Force → PortOut), (exec i s = s.fire e t d v op) →
      op s (s.force e t) = portLoad s e t (s.force e t) d v → lsuAddr x d v = some (off, x.ctl.getLsbD 3, off) → indexed i d off := by
    intro i d off op hi ho ha
    refine ⟨fun hw => ?_, fun hw => ?_⟩
    · intro h
      simp only [hi, otherwise]
      exact State.fire_portLoad_single ho (hw ▸ ha) h
    · intro h
      simp only [hi, otherwise]
      exact State.fire_portLoad_double ho (hw ▸ ha) h
  refine ⟨fun h => State.fire_portLoad_double rfl rfl h, fun h => State.fire_portLoad_single rfl rfl h, ?_, fun n hn hs => ?_, fun hs h => ?_⟩
  · exact hindexed _ _ _ _ rfl rfl rfl
  · exact hindexed _ _ _ _ rfl rfl (lsuAddr_scaled x v hn hs (.inl rfl))
  · refine State.fire_faults h (?_ : portLoad s e t (s.force e t) 0x47 v = _)
    simp only [portLoad, lsuAddr_reserved (s.thr e t).lsu v hs (.inl rfl)]
    rfl
end Sys2Proof.Machine

namespace Sys2Proof.Machine

/-! ### O14: stores are posted (R74, R76, R78, R144, R179) -/

/-- Entries posted behind the engine's other stores, with what the trigger writes of the thread's LSU. -/
def State.postStores (s : State) (e : Eng) (t : Thr) (p : Word) (split : Bool) (new : List StoreEntry) : State :=
  s.updEng e fun z =>
    { z.updThr t fun q => { q with lsu := { q.lsu with p := p, part := false, split := split, busy := false, rpl := false } } with
      sbuf := z.sbuf ++ new }

/-- The entry of one store of the thread's trigger. -/
def State.storeEntry (s : State) (e : Eng) (t : Thr) (d : Nat) (a va : Addr) (w : Word) (w2 : Option Word) (half : Bool) : StoreEntry :=
  { t := t, pa := a, va := va, data := w, data2 := w2, half2 := half, machine := (s.force e t).machine, pc := (s.thr e t).pc
    dest := BitVec.ofNat 7 d }

/-- The word of a store to the program window that is not well formed (R179). -/
def malformedStore (dh : Word) (pas vas : List Addr) : Option (Clu × Addr × Addr) :=
  if progStoreOk pas dh then none else (pas.zip vas).findSome? fun q => (progOf q.1).map fun c => (c, q)

theorem malformedStore_single (dh : Word) (a va : Addr) : malformedStore dh [a] [va] = (progOf a).map fun c => (c, a, va) := by
  simp only [malformedStore, progStoreOk, Bool.false_eq_true, if_false, List.zip_cons_cons, List.zip_nil_right, List.findSome?_cons,
    List.findSome?_nil]
  cases progOf a <;> rfl

theorem malformedStore_of_ok {dh : Word} {pas : List Addr} (vas : List Addr) (h : progStoreOk pas dh = true) :
    malformedStore dh pas vas = none := if_pos h

theorem malformedStore_outside (dh : Word) {a b : Addr} (va vb : Addr) (ha : progOf a = none) (hb : progOf b = none) :
    malformedStore dh [a, b] [va, vb] = none := by
  simp [malformedStore, ha, hb]

theorem malformedStore_first {dh : Word} {a b : Addr} (va vb : Addr) {k : Clu} (ha : progOf a = some k) (h : progStoreOk [a, b] dh = false) :
    malformedStore dh [a, b] [va, vb] = some (k, a, va) := by
  simp [malformedStore, ha, h]

section
variable {s : State} {e : Eng} {t : Thr} {d : Nat} {v off p : Word} {op : State → Force → PortOut}

/-- A refused store counts at its program memory, and faults. -/
theorem State.fire_refused {q : PFault} {c : Clu} {a : Addr} (h : s.accepts e t d v = true)
    (ho : op s (s.force e t) = .fault q (some (c, a))) :
    s.fire e t d v op = .next ((s.raiseOf (.engine e t (s.force e t).machine) (progSrc c) 0x03 a).preciseFault e t q) := by
  rw [State.fire_of_accepts h, ho]; rfl

theorem portStore_fault {f : Force} {double : Bool} {q : PFault} (ha : lsuAddr (s.thr e t).lsu d v = some (off, double, p))
    (hc : s.check e t f true (double && off.getLsbD 0) false v (lsuVas (s.thr e t).lsu.seg off double) false = .fault q) :
    portStore s e t f d v = .fault q none := by
  simp only [portStore, ha, hc]

theorem portStore_miss {f : Force} {double half : Bool} {a : Addr} (ha : lsuAddr (s.thr e t).lsu d v = some (off, double, p))
    (hc : s.check e t f true (double && off.getLsbD 0) false v (lsuVas (s.thr e t).lsu.seg off double) false = .miss a half) :
    portStore s e t f d v = .miss a true half := by
  simp only [portStore, ha, hc]

theorem portStore_malformed {f : Force} {double : Bool} {pas : List Addr} {k : Clu} {a va : Addr}
    (ha : lsuAddr (s.thr e t).lsu d v = some (off, double, p))
    (hc : s.check e t f true (double && off.getLsbD 0) false v (lsuVas (s.thr e t).lsu.seg off double) false = .go pas)
    (hb : malformedStore (s.thr e t).lsu.dh pas (lsuVas (s.thr e t).lsu.seg off double) = some (k, a, va)) :
    portStore s e t f d v = .fault { cause := 0x16, val := v, fa := va } (some (k, a)) := by
  rw [malformedStore] at hb
  simp only [portStore, ha, hc, hb]

theorem portStore_posted {f : Force} {double : Bool} {pas : List Addr} (ha : lsuAddr (s.thr e t).lsu d v = some (off, double, p))
    (hc : s.check e t f true (double && off.getLsbD 0) false v (lsuVas (s.thr e t).lsu.seg off double) false = .go pas)
    (hb : malformedStore (s.thr e t).lsu.dh pas (lsuVas (s.thr e t).lsu.seg off double) = none) :
    portStore s e t f d v =
      portStore.post s e t f d (s.thr e t) (s.thr e t).lsu pas (lsuVas (s.thr e t).lsu.seg off double) (double && off.getLsbD 0) p := by
  rw [malformedStore] at hb
  simp only [portStore, ha, hc, hb]

/-- A store trigger of one word: it never enters the program window. -/
theorem State.fire_portStore_single (ho : op s (s.force e t) = portStore s e t (s.force e t) d v)
    (ha : lsuAddr (s.thr e t).lsu d v = some (off, false, p)) (h : s.accepts e t d v = true) :
    let va := joinW (s.thr e t).lsu.seg off
    let c := s.check e t (s.force e t) true false false v [va] false
    (∀ a, c = .go [a] → progOf a = none → s.fire e t d v op = .next
      ((s.postStores e t p false [s.storeEntry e t d a va (s.thr e t).lsu.d none false]).send e t [request a 2 (s.thr e t).lsu.d])) ∧
    (∀ a k, c = .go [a] → progOf a = some k → s.fire e t d v op = .next ((s.raiseOf (.engine e t (s.force e t).machine) (progSrc k) 0x03 a).preciseFault
      e t { cause := 0x16, val := v, fa := va })) ∧
    (∀ q, c = .fault q → s.fire e t d v op = .next (s.preciseFault e t q)) ∧
    (∀ a half, c = .miss a half → s.fire e t d v op = .next (s.startWalk e t a true half false v)) := by
  intro va c
  refine ⟨fun a hg hn => ?_, fun a k hg hk => ?_, State.fire_checked h (fun q hq => ho.trans (portStore_fault ha hq)) fun a half hm =>
    ho.trans (portStore_miss ha hm)⟩
  · exact State.fire_sends h (ho.trans (portStore_posted ha hg ((malformedStore_single _ a va).trans (by rw [hn]; rfl))))
  · exact State.fire_refused h (ho.trans (portStore_malformed ha hg ((malformedStore_single _ a va).trans (by rw [hk]; rfl))))

/-- A store trigger of two words, two entries when it is split. -/
theorem State.fire_portStore_double (ho : op s (s.force e t) = portStore s e t (s.force e t) d v)
    (ha : lsuAddr (s.thr e t).lsu d v = some (off, true, p)) (h : s.accepts e t d v = true) :
    let x := (s.thr e t).lsu
    let split := off.getLsbD 0
    let va := joinW x.seg off
    let vb := joinW x.seg (off + 1)
    let c := s.check e t (s.force e t) true split false v [va, vb] false
    (∀ a b, split = false → c = .go [a, b] → (progOf a = none ∧ progOf b = none) ∨ progStoreOk [a, b] x.dh = true →
      s.fire e t d v op = .next ((s.postStores e t p false [s.storeEntry e t d a va x.d (some x.dh) false]).send e t
        [request a 2 x.d, request b 2 x.dh])) ∧
    (∀ a b, split = true → c = .go [a, b] → progOf a = none → progOf b = none →
      s.fire e t d v op = .next ((s.postStores e t p true
        [s.storeEntry e t d a va x.d none false, s.storeEntry e t d b vb x.dh none true]).send e t [request a 2 x.d, request b 2 x.dh])) ∧
    (∀ a b k, c = .go [a, b] → progOf a = some k → progStoreOk [a, b] x.dh = false → s.fire e t d v op = .next
      ((s.raiseOf (.engine e t (s.force e t).machine) (progSrc k) 0x03 a).preciseFault e t { cause := 0x16, val := v, fa := va })) ∧
    (∀ q, c = .fault q → s.fire e t d v op = .next (s.preciseFault e t q)) ∧
    (∀ a half, c = .miss a half → s.fire e t d v op = .next (s.startWalk e t a true half false v)) := by
  intro x split va vb c
  have hc : s.check e t (s.force e t) true (true && off.getLsbD 0) false v (lsuVas x.seg off true) false = c := by rw [Bool.true_and]; rfl
  refine ⟨fun a b hs hg hn => ?_, fun a b hs hg hn hn' => ?_, fun a b k hg hk hbad => ?_,
    State.fire_checked h (fun q hq => ho.trans (portStore_fault ha (hc.trans hq))) fun a half hm => ho.trans (portStore_miss ha (hc.trans hm))⟩
  · have hb : malformedStore x.dh [a, b] [va, vb] = none := by
      rcases hn with ⟨hna, hnb⟩ | hok
      · exact malformedStore_outside _ _ _ hna hnb
      · exact malformedStore_of_ok _ hok
    refine State.fire_sends h (ho.trans ((portStore_posted ha (hc.trans hg) hb).trans ?_))
    rw [Bool.true_and, show off.getLsbD 0 = false from hs]
    rfl
  · refine State.fire_sends h (ho.trans ((portStore_posted ha (hc.trans hg) (malformedStore_outside _ _ _ hn hn')).trans ?_))
    rw [Bool.true_and, show off.getLsbD 0 = true from hs]
    rfl
  · exact State.fire_refused h (ho.trans (portStore_malformed ha (hc.trans hg) (malformedStore_first _ _ hk hbad)))

end

theorem storesArePosted : Claims.StoresArePosted := by
  intro s e t v y x f put word otherwise single double indexed
  have hindexed : ∀ (i : Instr) (d : Nat) (off : Word) (op : State → Force → PortOut), (exec i s = s.fire e t d v op) →
      op s (s.force e t) = portStore s e t (s.force e t) d v → lsuAddr x d v = some (off, x.ctl.getLsbD 3, off) → indexed i d off := by
    intro i d off op hi ho ha
    refine ⟨fun hw => ?_, fun hw => ?_⟩
    · intro h
      simp only [hi, otherwise]
      exact State.fire_portStore_single ho (hw ▸ ha) h
    · intro h
      simp only [hi, otherwise]
      exact State.fire_portStore_double ho (hw ▸ ha) h
  refine ⟨fun h => State.fire_portStore_double rfl rfl h, fun h => State.fire_portStore_single rfl rfl h, ?_, fun n hn hs => ?_, fun hs h => ?_⟩
  · exact hindexed _ _ _ _ rfl rfl rfl
  · exact hindexed _ _ _ _ rfl rfl (lsuAddr_scaled x v hn hs (.inr rfl))
  · refine State.fire_faults h (?_ : portStore s e t (s.force e t) 0x48 v = _)
    simp only [portStore, lsuAddr_reserved (s.thr e t).lsu v hs (.inr rfl)]
    rfl
end Sys2Proof.Machine

namespace Sys2Proof.Machine

/-! ### What an event at a memory, at the host or at a requester leaves of an engine -/

theorem rng_of_lt {o lo hi : Nat} (h : o < lo) : rng o lo hi = false := by simp [rng, Nat.not_le.mpr h]

namespace State.AgreeAt

variable {e : Eng} {s u w : State}

theorem refl (e : Eng) (s : State) : State.AgreeAt e s s := ⟨rfl, rfl, rfl, rfl⟩

theorem trans (h : State.AgreeAt e s u) (h' : State.AgreeAt e u w) : State.AgreeAt e s w :=
  ⟨h'.regs.trans h.regs, h'.dev.trans h.dev, h'.eng.trans h.eng, h'.gated.trans h.gated⟩

theorem together (h : State.AgreeAt e s u) : u.together e = s.together e := by rw [State.together, h.eng, State.together]

theorem still (h : State.AgreeAt e s u) : u.still e = s.still e := by
  rw [State.still, State.paused, h.eng, h.gated, State.still, State.paused]

theorem updClu (s : State) (e : Eng) (c : Clu) {f : Cluster → Cluster} (hf : ∀ x, (f x).gated = x.gated) :
    State.AgreeAt e s (s.updClu c f) := by
  refine ⟨rfl, rfl, rfl, ?_⟩
  by_cases hc : e.cluster = c
  · subst hc; rw [State.updClu_clu, hf]
  · rw [State.updClu_clu_other _ _ hc]

theorem updSrc (s : State) (e : Eng) (n : Fin 160) (f : Source → Source) : State.AgreeAt e s (s.updSrc n f) := ⟨rfl, rfl, rfl, rfl⟩

/-- An event at a source that sets no line. -/
theorem raiseBy (s : State) (e : Eng) (q : Option Requester) {n : Fin 160} (cause : BitVec 7) (payload : DWord)
    (hn : rng n.val 100 103 = false) : State.AgreeAt e s (s.raiseBy q n cause payload) := by
  unfold State.raiseBy
  split
  · exact refl e s
  · split
    · simp only [hn, Bool.false_eq_true, if_false]
      exact updSrc s e n _
    · exact ⟨rfl, rfl, rfl, rfl⟩

theorem memEvent (s : State) (e : Eng) (c : Clu) (b : Bank) (q : Requester) (kind : Nat) (cause : BitVec 7) (a : Addr) (write : Bool) :
    State.AgreeAt e s (s.memEvent c b q kind cause a write) := by
  have hn : rng (if b = 10 && !write then progSrc c else dataSrc c).val 100 103 = false := by
    have := c.isLt
    split
    · exact rng_of_lt (show 72 + c.val < 100 by omega)
    · exact rng_of_lt (show 64 + c.val < 100 by omega)
  unfold State.memEvent
  refine trans (updClu s e c ?_) (raiseBy _ e _ cause a hn)
  exact fun _ => rfl

theorem errorTo (s : State) (e : Eng) (m : Master) (a : Addr) (q : Requester) : State.AgreeAt e s (s.errorTo m a q) := by
  unfold State.errorTo
  split
  · exact refl e s
  · exact refl e s
  · exact raiseBy s e _ 0x01 a rfl

theorem spoil (s : State) (e : Eng) (a : Addr) : State.AgreeAt e s (s.spoil a) := by
  unfold State.spoil
  dsimp only
  split
  · exact ⟨rfl, rfl, rfl, rfl⟩
  · exact refl e s

theorem countCollision (s : State) (e : Eng) (m : Master) (a : Addr) : State.AgreeAt e s (s.countCollision m a) := by
  unfold State.countCollision
  split
  · split
    · exact updClu s e _ fun _ => rfl
    · exact refl e s
  · exact refl e s

/-- What the outcome of a read counts. -/
theorem countRead (s : State) (e : Eng) (m : Master) (ws : List Addr) (o : ReadOutcome) (walk : Bool) (q : Requester) :
    State.AgreeAt e s (s.countRead m ws o walk q) := by
  have bank : ∀ (u : State) (a : Addr) (kind : Nat) (cause : BitVec 7), State.AgreeAt e u (match (regionOf a).bank with
      | some (c, b) => u.memEvent c b q kind cause a false
      | none => if regionOf a = .recorder then u.raise 113 cause a else u) := by
    intro u a kind cause
    split
    · exact memEvent u e _ _ q kind cause a false
    · split
      · exact raiseBy u e none cause a rfl
      · exact refl e u
  cases o with
  | ok => exact refl e s
  | errorResponse => exact errorTo s e m _ q
  | replayed | replayedAt k => exact bank s _ _ _
  | resent | weftFail | timeout => exact raiseBy s e _ _ _ rfl
  | metRead | collided | collidedReplayed => exact countCollision s e m _
  | metReplayed k => exact (bank s _ _ _).trans (countCollision _ e m _)
  | metPersistent k => exact ((spoil s e _).trans (bank _ _ _ _)).trans (countCollision _ e m _)
  | persistent | persistentAt k => exact (spoil s e _).trans (bank _ _ _ _)
  | persistentCollided | persistentCollidedAt k => exact (bank s _ _ _).trans (countCollision _ e m _)

theorem protocolFault (s : State) (e : Eng) (cause : BitVec 7) (origin v : Nat) : State.AgreeAt e s (s.protocolFault cause origin v) :=
  State.AgreeAt.trans (u := s.updSht fun x => { x with pecnt := sat12 (x.pecnt.toNat + 1) }) ⟨rfl, rfl, rfl, rfl⟩ (raiseBy _ e none cause _ rfl)

theorem hostFault (s : State) (e : Eng) (cause : BitVec 7) (origin : Nat) : State.AgreeAt e s (s.hostFault cause origin) :=
  raiseBy s e none cause _ rfl

end State.AgreeAt
end Sys2Proof.Machine

namespace Sys2Proof.Machine

/-! ### Reads of data regions (R173, R180 to R187) -/

theorem Region.isData_cases {r : Region} (h : r.isData = true) : (∃ c k, r = .home c k) ∨ (∃ c, r = .flex c) ∨ ∃ c, r = .bobbin c := by
  cases r with
  | home c k => exact .inl ⟨c, k, rfl⟩
  | flex c => exact .inr (.inl ⟨c, rfl⟩)
  | bobbin c => exact .inr (.inr ⟨c, rfl⟩)
  | _ => exact Bool.noConfusion h

/-- A word that the master may read now: of a data region whose bank is awake, neither isolated from it nor refused to it. -/
def State.readable (s : State) (m : Master) (a : Addr) : Prop :=
  (regionOf a).isData = true ∧ s.asleep a = false ∧ s.cutOff m a = false ∧ s.refuses m a false = false

theorem memRead_data {s : State} {a : Addr} {o : ReadOutcome} (h : (regionOf a).isData = true) (ho : o ≠ .collided) :
    s.memRead a o = (s.memWord a.toNat, s) := by
  rcases Region.isData_cases h with ⟨c, k, hr⟩ | ⟨c, hr⟩ | ⟨c, hr⟩ <;> simp [State.memRead, ho, hr]

theorem hasParity_data {a : Addr} (h : (regionOf a).isData = true) : hasParity a = true := by
  rcases Region.isData_cases h with ⟨c, k, hr⟩ | ⟨c, hr⟩ | ⟨c, hr⟩ <;> simp [hasParity, hr]

section
variable {s : State} {m : Master} {a : Addr}

/-- What a read of a data word that returns data gives. -/
theorem State.busRead_good {o o' : ReadOutcome} (hh : HostRead) (h : s.readable m a) (he : s.effRead m [a] o = o') (hg : readGood o' = true) :
    s.busRead m a o hh = (.word ((s.countRead m [a] o' false).memRead a o').1, ((s.countRead m [a] o' false).memRead a o').2) := by
  obtain ⟨hd, -, -, hrf⟩ := h
  rcases Region.isData_cases hd with ⟨c, k, hr⟩ | ⟨c, hr⟩ | ⟨c, hr⟩ <;> simp [State.busRead, hrf, he, hg, hr]

/-- A good data word is read as it stands. -/
theorem State.busRead_data (hh : HostRead) (h : s.readable m a) (hw : s.wordGood a = true) :
    s.busRead m a .ok hh = (.word (s.memWord a.toNat), s) := by
  obtain ⟨hd, -, hc, -⟩ := id h
  have he : s.effRead m [a] .ok = .ok := by rw [State.effRead_ok m (by simpa using hw)]; simp [hc]
  rw [State.busRead_good hh h he rfl]
  simp only [State.countRead, memRead_data hd (by decide : ReadOutcome.ok ≠ .collided)]

/-- A read of a dual-port word that collides returns a free value. -/
theorem State.busRead_collided (hh : HostRead) (h : s.readable m a) (hp : dualPort a = true) :
    s.busRead m a .collided hh = (.word (Config.collidedWord s.free), (s.countCollision m a).takeFree) := by
  obtain ⟨-, -, hc, -⟩ := id h
  have he : s.effRead m [a] .collided = .collided := by simp [State.effRead, hc, hp]
  have hf : (s.countCollision m a).free = s.free := by
    unfold State.countCollision
    split
    · split <;> rfl
    · rfl
  rw [State.busRead_good hh h he rfl]
  simp only [State.countRead, State.memRead, if_true]
  rw [show outcomeWord [a] .collided = a from rfl, hf]

/-- A persistent failure stays one, at the word that is wrong. -/
theorem State.effRead_persistent (h : s.readable m a) :
    s.effRead m [a] .persistent = .persistent ∨ ∃ k, s.effRead m [a] .persistent = .persistentAt k := by
  obtain ⟨hd, -, hc, -⟩ := h
  simp only [State.effRead, List.headD_cons, hc, Bool.false_eq_true, if_false, hasParity_data hd, Bool.true_and, if_true]
  split
  · exact .inr ⟨_, rfl⟩
  · exact .inl rfl

/-- A data word that fails every replay (R183). -/
theorem State.busRead_persistent (hh : HostRead) (h : s.readable m a) :
    s.busRead m a .persistent hh = (.failed 0x17, s.countRead m [a] (s.effRead m [a] .persistent) false) := by
  obtain ⟨-, -, -, hrf⟩ := id h
  rcases State.effRead_persistent h with he | ⟨k, he⟩ <;> simp [State.busRead, hrf, he, readGood, readCause]

/-- An aligned pair of good data words is read as it stands. -/
theorem State.busReadPair_data (h : s.readable m a) (h' : s.readable m (a + 1)) (hw : s.wordGood a = true) (hw' : s.wordGood (a + 1) = true) :
    s.busReadPair m a .ok = ((.word (s.memWord a.toNat), .word (s.memWord (a + 1).toNat)), s) := by
  obtain ⟨hd, -, hc, hrf⟩ := h
  obtain ⟨hd', -, -, -⟩ := h'
  have he : s.effRead m [a, a + 1] .ok = .ok := by rw [State.effRead_ok m (by simpa using ⟨hw, hw'⟩)]; simp [hc]
  have ho : ReadOutcome.ok ≠ .collided := by decide
  simp only [State.busReadPair, hrf, he, Bool.false_eq_true, if_false, State.countRead, readGood, memRead_data hd ho, memRead_data hd' ho]
  rfl

end

/-! ### O13: loads return (R75, R79, R80, R173, R187, R395) -/

section
variable {s u : State} {e : Eng} {t : Thr} {l : Load} {m : Master} {a : Addr} {ws : List Addr}

theorem State.load_of_loadOf (h : s.loadOf e t = some l) : (s.thr e t).lsu.load = some l := (Option.filter_eq_some_iff.mp h).1

theorem Thread.takeLoad_outstanding {x : Thread} (f : LsuState → LsuState) (h : x.lsu.load = some l) : x.takeLoad f = { x with lsu := f x.lsu } := by
  simp [Thread.takeLoad, h]

/-- A load's data reaches the thread that waits for it, whatever of the device the read changed. -/
theorem State.deliver_load (ha : State.AgreeAt e s u) (h : s.together e = true) (hs : s.still e = false) (hl : s.loadOf e t = some l)
    (rpl busy : Bool) (q : Word) (qh : Option Word) :
    u.deliver e (.load t rpl busy q qh) = u.updThr e t fun x => { x with lsu := x.lsu.loaded rpl busy q qh } := by
  rw [State.deliver_of_together (ha.together.trans h) (ha.still.trans hs) (by simp)]
  have hu : (u.thr e t).lsu.load = some l := by rw [State.thr, ha.eng]; exact State.load_of_loadOf hl
  exact State.updThr_congr (Thread.takeLoad_outstanding _ hu)

theorem State.deliver_loadFail (ha : State.AgreeAt e s u) (h : s.together e = true) (hs : s.still e = false) (hl : s.loadOf e t = some l)
    (rpl busy : Bool) (cause : BitVec 6) (va : Addr) :
    u.deliver e (.loadFail t rpl busy cause va) = u.updThr e t fun x => { x with lsu := x.lsu.loadFailed rpl busy cause va } := by
  rw [State.deliver_of_together (ha.together.trans h) (ha.still.trans hs) (by simp)]
  have hu : (u.thr e t).lsu.load = some l := by rw [State.thr, ha.eng]; exact State.load_of_loadOf hl
  exact State.updThr_congr (Thread.takeLoad_outstanding _ hu)

/-- A load of awake words of data regions is performed at once. -/
theorem exec_loadComplete_data (o o2 : ReadOutcome) (h h2 : Container) (hl : s.loadOf e t = some l) (hd : (regionOf l.pa).isData = true)
    (hw : ∀ a ∈ l.words, s.asleep a = false) :
    exec (.loadComplete e t o o2 h h2) s = .next (s.finishLoad e t l o o2 (.data h) (.data h2)) := by
  have hc : regionOf l.pa ≠ .companion := fun hr => absurd (hr ▸ hd) (by decide)
  have hw' : l.words.any s.asleep = false := by simpa using hw
  show execLoadComplete e t o o2 h h2 s = _
  simp only [execLoadComplete, hl, hw', Bool.false_eq_true, if_false, if_neg hc]

/-- What a load of one word gives its thread. -/
theorem State.loadRead_single (o o2 : ReadOutcome) (h h2 : HostRead) (hn : l.second = none) :
    s.loadRead e t l o o2 h h2 =
      (let m : Master := .engine e t l.machine
       let f := s.effRead m [l.pa] o
       let warn := readCollides f && s.warned m l.pa
       let r := s.busRead m l.pa o h
       (match r.1 with
        | .word v => .load t (readAgain f) warn v none
        | .failed c => .loadFail t false warn c l.va, r.2)) := by
  have hf : (if (bankPair l.pa && !l.split) = true then l.words else [l.pa]) = [l.pa] := by simp [Load.words, hn]
  simp only [State.loadRead, hf, hn]
  cases (s.busRead (.engine e t l.machine) l.pa o h).1 <;> rfl

theorem readCollides_persistent (h : s.readable m a) : readCollides (s.effRead m [a] .persistent) = false := by
  rcases State.effRead_persistent h with he | ⟨k, he⟩ <;> rw [he] <;> rfl

theorem State.effRead_good (h : s.readable m a) (hw : ∀ b ∈ (a :: ws), s.wordGood b = true) : s.effRead m (a :: ws) .ok = .ok := by
  obtain ⟨-, -, hc, -⟩ := h
  rw [State.effRead_ok m hw]
  simp [hc]

theorem State.effRead_goodWord (h : s.readable m a) (hw : s.wordGood a = true) : s.effRead m [a] .ok = .ok :=
  State.effRead_good h (by simpa using hw)

theorem State.bothAsked_data (first : List (Nat × Nat)) (h : (regionOf a).isData = true) : s.bothAsked first a = s := by
  have hr : regionOf a ≠ .host := fun hr => absurd (hr ▸ h) (by decide)
  simp [State.bothAsked, hr]

theorem memClu_data (h : (regionOf a).isData = true) : (memClu a).isSome = true := by
  rcases Region.isData_cases h with ⟨c, k, hr⟩ | ⟨c, hr⟩ | ⟨c, hr⟩ <;> simp [memClu, hr, Region.bank]

/-- The clusters' memory lies below 0x800000 (R170). -/
theorem toNat_lt_of_isData (h : (regionOf a).isData = true) : a.toNat < 0x800000 := by
  by_contra hn
  unfold regionOf at h
  simp only [hn, if_false] at h
  repeat' split at h
  all_goals exact Bool.noConfusion h

theorem toNat_succ_of_isData (h : (regionOf a).isData = true) : (a + 1).toNat = a.toNat + 1 := by
  have := toNat_lt_of_isData h
  bv_omega

/-- A load of a good word. -/
theorem State.loadRead_data (o2 : ReadOutcome) (h h2 : HostRead) (hn : l.second = none) (hp : s.readable (.engine e t l.machine) l.pa)
    (hw : s.wordGood l.pa = true) : s.loadRead e t l .ok o2 h h2 = (.load t false false (s.memWord l.pa.toNat) none, s) := by
  rw [State.loadRead_single .ok o2 h h2 hn]
  simp only [State.busRead_data h hp hw, State.effRead_goodWord hp hw]
  rfl

/-- A load of an aligned pair of good words (R173). -/
theorem State.loadRead_pair (o2 : ReadOutcome) (h h2 : HostRead) {b : Addr × Addr} (hb : l.second = some b) (hs : l.split = false)
    (h0 : l.pa.getLsbD 0 = false) (h1 : b.1 = l.pa + 1) (hp : s.readable (.engine e t l.machine) l.pa)
    (hp' : s.readable (.engine e t l.machine) b.1) (hw : s.wordGood l.pa = true) (hw' : s.wordGood b.1 = true) :
    s.loadRead e t l .ok o2 h h2 = (.load t false false (s.memWord l.pa.toNat) (some (s.memWord (l.pa.toNat + 1))), s) := by
  have hpair : (bankPair l.pa && !l.split) = true := by rw [bankPair, memClu_data hp.1, h0, hs]; rfl
  have hf : s.effRead (.engine e t l.machine) l.words .ok = .ok := by
    rw [Load.words, hb]
    exact State.effRead_good hp (by simpa using ⟨hw, hw'⟩)
  rw [h1] at hp' hw'
  simp only [State.loadRead, hpair, if_true, hb, hf, State.busReadPair_data hp hp' hw hw', toNat_succ_of_isData hp.1]
  rfl

/-- A split load of two good words (R79). -/
theorem State.loadRead_split (h h2 : HostRead) {b : Addr × Addr} (hb : l.second = some b) (hs : l.split = true)
    (hp : s.readable (.engine e t l.machine) l.pa) (hp' : s.readable (.engine e t l.machine) b.1) (hw : s.wordGood l.pa = true)
    (hw' : s.wordGood b.1 = true) :
    s.loadRead e t l .ok .ok h h2 = (.load t false false (s.memWord l.pa.toNat) (some (s.memWord b.1.toNat)), s) := by
  have hpair : (bankPair l.pa && !l.split) = false := by simp [hs]
  simp only [State.loadRead, hpair, Bool.false_eq_true, if_false, hb, State.effRead_goodWord hp hw, State.effRead_goodWord hp' hw',
    State.busRead_data h hp hw, State.busRead_data h2 hp' hw', State.bothAsked_data _ hp'.1]
  rfl

end

/-! ### Window loads (R395) -/

section
variable {s : State} {m : Master} {a : Addr}

/-- A read of a host-window word asks for its two bytes. -/
theorem effRead_host (hr : regionOf a = .host) : s.effRead m [a] .ok = .ok := by
  have hn : 0x850000 ≤ a.toNat := by
    grind [regionOf]
  have hb : blockClu a = none := by
    have h1 : rng a.toNat 0x804000 0x805FFF = false := by simp [rng]; omega
    have h2 : rng a.toNat 0x820000 0x823FFF = false := by simp [rng]; omega
    simp [blockClu, h1, h2, memClu, hr, Region.bank]
  simp [State.effRead, State.cutOff, hb, hasParity, hr]

theorem State.busRead_host (h : HostRead) (hr : regionOf a = .host) (hw : s.windowOk = true) :
    s.busRead m a .ok h = (s.askHost (s.hostAddr a) 2).takeHost h := by
  have hrf : s.refuses m a false = false := by simp [State.refuses, hr]
  have hf : s.effRead m [a] .ok = .ok := effRead_host hr
  simp [State.busRead, hrf, hf, State.countRead, readGood, hr, hw]
end

section
variable {s : State} {e : Eng} {t : Thr} {l : Load}

/-- A thread's window load is performed with what the host returns. -/
theorem exec_hostReadComplete_host (h h2 : HostRead) (hl : s.loadOf e t = some l) (hr : regionOf l.pa = .host) (hn : l.second = none)
    (hw : s.windowOk = true) :
    exec (.hostReadComplete e t h h2) s =
      (let r := (s.askHost (s.hostAddr l.pa) 2).takeHost h
       .next (r.2.deliver e (match r.1 with
         | .word v => .load t false false v none
         | .failed c => .loadFail t false false c l.va))) := by
  have hx : exec (.hostReadComplete e t h h2) s = .next (s.finishLoad e t l .ok .ok h h2) := by
    show execHostReadComplete e t h h2 s = _
    simp only [execHostReadComplete, hl, if_pos hr]
  rw [hx, State.finishLoad, State.loadRead_single .ok .ok h h2 hn]
  simp only [State.busRead_host h hr hw, effRead_host hr]
  rfl

theorem State.AgreeAt.askHost (s : State) (e : Eng) (a n : Nat) : State.AgreeAt e s (s.askHost a n) := ⟨rfl, rfl, rfl, rfl⟩

theorem loadsReturnTheStoredWords : Claims.LoadsReturnTheStoredWords := by
  intro s e t l ht hs hl m done fails plain
  refine ⟨fun o2 h h2 hp => ⟨fun hn => ?_, fun b hb hw hw' hp' => ?_⟩, fun h2 hr hn hw => ?_⟩
  · have hd := hp.1
    change s.readable (.engine e t l.machine) l.pa at hp
    have hx := fun o => exec_loadComplete_data o o2 h h2 hl hd (by simpa [Load.words, hn] using hp.2.1)
    have hnc : regionOf l.pa ≠ .companion := fun hr => absurd (hr ▸ hd) (by decide)
    refine ⟨fun hw => ?_, fun hdp => ?_, ?_⟩
    · rw [hx, State.finishLoad, State.loadRead_data o2 _ _ hn hp hw]
      exact congrArg _ (State.deliver_load (.refl e s) ht hs hl false false _ none)
    · have he : s.effRead (.engine e t l.machine) [l.pa] .collided = .collided := by simp [State.effRead, hp.2.2.1, hdp]
      have hwarn : s.warned (.engine e t l.machine) l.pa = s.atPortY m l.pa := by simp [State.warned, hnc, m]
      rw [hx, State.finishLoad, State.loadRead_single .collided o2 _ _ hn]
      simp only [State.busRead_collided (.data h) hp hdp]
      rw [he, hwarn]
      have ha : State.AgreeAt e s (s.countCollision m l.pa).takeFree := (State.AgreeAt.countCollision s e m l.pa).trans ⟨rfl, rfl, rfl, rfl⟩
      exact congrArg _ (State.deliver_load ha ht hs hl false _ _ none)
    · rw [hx, State.finishLoad, State.loadRead_single .persistent o2 _ _ hn]
      simp only [State.busRead_persistent (.data h) hp, readCollides_persistent hp, Bool.false_and]
      exact congrArg _ (State.deliver_loadFail (State.AgreeAt.countRead s e m _ _ _ _) ht hs hl false false _ _)
  · have hx := fun o o2 => exec_loadComplete_data o o2 h h2 hl hp.1 (by simpa [Load.words, hb] using ⟨hp.2.1, hp'.2.1⟩)
    refine ⟨fun hsp h0 h1 => ?_, fun hsp => ?_⟩
    · rw [hx, State.finishLoad, State.loadRead_pair o2 _ _ hb hsp h0 h1 hp hp' hw hw']
      exact congrArg _ (State.deliver_load (.refl e s) ht hs hl false false _ _)
    · rw [hx, State.finishLoad, State.loadRead_split _ _ hb hsp hp hp' hw hw']
      exact congrArg _ (State.deliver_load (.refl e s) ht hs hl false false _ _)
  · have ha : State.AgreeAt e s (s.askHost (s.hostAddr l.pa) 2) := .askHost s e _ _
    refine ⟨fun c hc => ?_, fun c hc => ?_, ?_⟩
    · rw [exec_hostReadComplete_host _ h2 hl hr hn hw]
      simp only [State.takeHost, if_pos hc]
      exact congrArg _ (State.deliver_load ha ht hs hl false false _ none)
    · rw [exec_hostReadComplete_host _ h2 hl hr hn hw]
      simp only [State.takeHost, if_neg (Nat.not_lt.mpr hc)]
      exact congrArg _ (State.deliver_loadFail (ha.trans (.protocolFault _ e _ _ _)) ht hs hl false false _ _)
    · rw [exec_hostReadComplete_host _ h2 hl hr hn hw]
      exact congrArg _ (State.deliver_loadFail (ha.trans (.hostFault _ e _ _)) ht hs hl false false _ _)
end

/-- Settles O13: a load is the request of its trigger and the delivery of the words that its region holds or its failure names. -/
theorem loadsLeaveAndReturn : Obligations.LoadsLeaveAndReturn := ⟨loadsLeaveWithTheirAddress, loadsReturnTheStoredWords⟩
end Sys2Proof.Machine

namespace Sys2Proof.Machine

/-! ### O14: posted stores commit and fences wait (R78, R80, R144, R173, R182, R184) -/

section
variable {s u : State} {e : Eng} {q : StoreEntry} {rest : List StoreEntry} {m : Master} {a : Addr}

theorem State.effWrite_ok (h : s.cutOff m a = false) : s.effWrite m a .ok = .ok := by simp [State.effWrite, h]

theorem isData_not {r : Region} (h : r.isData = true) : r ≠ .regs ∧ r ≠ .host ∧ (∀ c, r ≠ .program c) ∧ r ≠ .companion := by
  refine ⟨?_, ?_, fun c => ?_, ?_⟩ <;> rintro rfl <;> exact Bool.noConfusion h

/-- A write of one word that a data region takes. -/
theorem State.busWrite_data (v : Word) (hd : (regionOf a).isData = true) (hc : s.cutOff m a = false) (hr : s.refuses m a true = false) :
    s.busWrite m a v .ok = (true, s.setMem a.toNat v) := by
  rcases Region.isData_cases hd with ⟨c, k, hk⟩ | ⟨c, hk⟩ | ⟨c, hk⟩ <;>
    simp [State.busWrite, State.effWrite_ok hc, State.countWrite, writeGood, hk, hr, State.storeWord]

/-- A write of an aligned pair that a data region takes. -/
theorem State.busWritePair_data (lo hi : Word) (hd : (regionOf a).isData = true) (hc : s.cutOff m a = false) (hr : s.refuses m a true = false) :
    s.busWritePair m a lo hi .ok = (true, (s.setMem a.toNat lo).setMem (a.toNat + 1) hi) := by
  rcases Region.isData_cases hd with ⟨c, k, hk⟩ | ⟨c, hk⟩ | ⟨c, hk⟩ <;>
    simp [State.busWritePair, State.effWrite_ok hc, State.countWrite, writeGood, hk, hr]

/-- A write that is not performed changes what its outcome counts. -/
theorem State.busWrite_lost {o : WriteOutcome} (v : Word) (ho : s.effWrite m a o = o) (hg : writeGood o = false) :
    s.busWrite m a v o = (false, s.countWrite m a o) := by
  simp [State.busWrite, ho, hg]

theorem bankPair_data (hd : (regionOf a).isData = true) (h0 : a.getLsbD 0 = false) : bankPair a = true := by
  rw [bankPair, memClu_data hd, h0]
  rfl

/-- The oldest posted store leaves a buffer, without a warning, and has committed. -/
theorem State.popStore_good (h : (u.eng e).sbuf = q :: rest) (hr : regionOf q.pa ≠ .host) :
    u.popStore e true true false = u.updEng e fun y => { y with sbuf := rest } := by
  simp [State.popStore, h, Engine.hostStoreGone, hr]

/-- The oldest posted store leaves a buffer, without a warning, and has failed. -/
theorem State.popStore_lost (h : (u.eng e).sbuf = q :: rest) (hr : regionOf q.pa ≠ .host) (hh : q.half2 = false) :
    u.popStore e false true false = (u.updEng e fun y => { y with sbuf := dropHalf q rest }).imprecise e q.t 0x1A q.pc q.dest q.va := by
  simp [State.popStore, h, Engine.hostStoreGone, hr, State.storeFails, hh]

theorem State.AgreeAt.setMem (s : State) (e : Eng) (n : Nat) (v : Word) : State.AgreeAt e s (s.setMem n v) := ⟨rfl, rfl, rfl, rfl⟩

/-- The engine's oldest posted store is performed. -/
theorem exec_storeCommit_due (o o2 : WriteOutcome) (hs : s.still e = false) (h : (s.eng e).sbuf = q :: rest) (hq : q.sent = true)
    (ha : s.asleep q.pa = false) : exec (.storeCommit e o o2) s = .next (s.performStore e q o o2) := by
  show execStoreCommit e o o2 s = _
  simp [execStoreCommit, hs, h, hq, ha]

/-- A store of one word: what its write leaves, and its departure. -/
theorem State.performStore_single {o : WriteOutcome} (o2 : WriteOutcome) {good : Bool} (ht : s.together e = true) (hn : q.data2 = none)
    (hw : s.busWrite (.engine e q.t q.machine) q.pa q.data o = (good, u)) (ha : State.AgreeAt e s u)
    (hc : writeCollides (s.effWrite (.engine e q.t q.machine) q.pa o) = false) :
    s.performStore e q o o2 = u.popStore e good true false := by
  simp only [State.performStore, State.storeWrite, hn, hw, hc, State.inLanes_of_together (ha.together.trans ht)]
  rfl

/-- A store of an aligned pair. -/
theorem State.performStore_pair {o : WriteOutcome} (o2 : WriteOutcome) {d : Word} (ht : s.together e = true) (hn : q.data2 = some d)
    (hp : bankPair q.pa = true) (hw : s.busWritePair (.engine e q.t q.machine) q.pa q.data d o = (true, u)) (ha : State.AgreeAt e s u)
    (hc : writeCollides (s.effWrite (.engine e q.t q.machine) q.pa o) = false) :
    s.performStore e q o o2 = u.popStore e true true false := by
  simp only [State.performStore, State.storeWrite, hn, hp, if_true, hw, hc, State.inLanes_of_together (ha.together.trans ht)]
  rfl

/-- A store of one word that is lost: what its outcome counts, and the posted-store error. -/
theorem State.performStore_lost {o : WriteOutcome} (o2 : WriteOutcome) (ht : s.together e = true)
    (h : (s.eng e).sbuf = q :: rest) (hd : (regionOf q.pa).isData = true)
    (hn : q.data2 = none) (hh : q.half2 = false) (ho : s.effWrite (.engine e q.t q.machine) q.pa o = o) (hg : writeGood o = false)
    (hc : writeCollides o = false) (ha : State.AgreeAt e s (s.countWrite (.engine e q.t q.machine) q.pa o)) :
    s.performStore e q o o2 = ((s.countWrite (.engine e q.t q.machine) q.pa o).updEng e fun y => { y with sbuf := dropHalf q rest }).imprecise
      e q.t 0x1A q.pc q.dest q.va := by
  rw [State.performStore_single o2 ht hn (State.busWrite_lost _ ho hg) ha (by rw [ho]; exact hc),
    State.popStore_lost (ha.eng ▸ h) (isData_not hd).2.1 hh]

end

theorem storesCommitInOrder : Claims.StoresCommitInOrder := by
  intro s e q rest ht hs hb hq hsl hd m left hc hr
  have hx := fun o => exec_storeCommit_due o .ok hs hb hq hsl
  have hnh : regionOf q.pa ≠ .host := (isData_not hd).2.1
  have hcol : writeCollides (s.effWrite (.engine e q.t q.machine) q.pa .ok) = false := by rw [State.effWrite_ok hc]; rfl
  refine ⟨fun hn => ?_, fun d hn h0 => ?_, fun hn hh hw => ?_, fun c b hn hh hk => ?_⟩
  · rw [hx, State.performStore_single .ok ht hn (State.busWrite_data _ hd hc hr) (.setMem s e _ _) hcol]
    exact congrArg _ (State.popStore_good hb hnh)
  · rw [hx, State.performStore_pair .ok ht hn (bankPair_data hd h0) (State.busWritePair_data _ _ hd hc hr)
      ((State.AgreeAt.setMem s e _ _).trans (.setMem _ e _ _)) hcol]
    exact congrArg _ (State.popStore_good hb hnh)
  · have ho : s.effWrite (.engine e q.t q.machine) q.pa .weftFail = .weftFail := by
      simp only [State.effWrite]
      rw [hc, hw]
      rfl
    rw [hx, State.performStore_lost .ok ht hb hd hn hh ho rfl rfl (.raiseBy s e _ _ _ rfl)]
    rfl
  · have ho : s.effWrite (.engine e q.t q.machine) q.pa .bankFail = .bankFail := by
      simp only [State.effWrite, memClu_data hd]
      rw [hc]
      rfl
    have hcw : s.countWrite (.engine e q.t q.machine) q.pa .bankFail = s.memEvent c b (.master m) 3 0x04 q.pa true := by
      simp [State.countWrite, hk, writtenWord, m]
    have ha : State.AgreeAt e s (s.countWrite (.engine e q.t q.machine) q.pa .bankFail) := hcw ▸ .memEvent s e c b _ 3 0x04 q.pa true
    rw [hx, State.performStore_lost .ok ht hb hd hn hh ho rfl rfl ha, hcw]

/-- A fence ends in a lane whose thread has neither a posted store nor a request that waits for its vote. -/
theorem State.fenceIn_eq {s : State} {e : Eng} {t : Thr} (hs : s.still e = false) (hf : (s.thr e t).lsu.fence = true) :
    s.fenceIn e t = if (s.eng e).posted t = 0 ∧ (s.eng e).unvoted t = false
      then s.updThr e t fun x => { x with lsu := { x.lsu with fence := false } } else s := by
  simp [State.fenceIn, hs, hf]

theorem Engine.posted_eq_zero (y : Engine) (t : Thr) : y.posted t = 0 ↔ ∀ q ∈ y.sbuf, q.t ≠ t := by simp [Engine.posted]

theorem Engine.unvoted_eq_false (y : Engine) (t : Thr) : y.unvoted t = false ↔ ∀ o ∈ y.out, o.t ≠ t := by simp [Engine.unvoted]

theorem exec_fenceComplete {s : State} {e : Eng} {t : Thr} (ht : s.together e = true) (hs : s.still e = false)
    (hf : (s.thr e t).lsu.fence = true) :
    exec (.fenceComplete e t) s = .next (if (∀ q ∈ (s.eng e).sbuf, q.t ≠ t) ∧ ∀ o ∈ (s.eng e).out, o.t ≠ t
      then s.updThr e t fun x => { x with lsu := { x.lsu with fence := false } } else s) := by
  show execFenceComplete e t s = _
  rw [execFenceComplete, State.inLanes_of_together ht, State.fenceIn_eq hs hf]
  simp only [Engine.posted_eq_zero, Engine.unvoted_eq_false]

theorem fenceWaitsForTheThreadsStores : Claims.FenceWaitsForTheThreadsStores := by
  intro s e t v
  refine ⟨fun h => State.fire_sends h rfl, fun ht hs hf => ⟨fun hq ho => ?_, fun h => ?_⟩⟩
  · rw [exec_fenceComplete ht hs hf, if_pos ⟨hq, ho⟩]
  · rw [exec_fenceComplete ht hs hf, if_neg]
    rintro ⟨hq, ho⟩
    rcases h with ⟨q, hm, hqt⟩ | ⟨o, hm, hot⟩
    · exact hq q hm hqt
    · exact ho o hm hot

/-- Settles O14: a store is the entry of its trigger and the write that its region or its loss makes of it. -/
theorem storesPostCommitAndFence : Obligations.StoresPostCommitAndFence :=
  ⟨storesArePosted, storesCommitInOrder, fenceWaitsForTheThreadsStores⟩

end Sys2Proof.Machine

namespace Sys2Proof.Machine

/-! ### Lanes that run as one (R135, R156) -/

/-- Every lane that commits holds the state of the others: a lane with a state of its own stands still. -/
def Engine.agrees (x : Engine) : Prop := ∀ l, (x.heddle.commits? l && x.apart l) = false

section
variable {s : State} {e : Eng}

theorem State.inLanes_of_agrees (h : (s.eng e).agrees) (f : State → State) : s.inLanes e f = f s := by
  simp only [State.inLanes, State.inLanesWith, laneList, List.foldl_cons, List.foldl_nil, reduceCtorEq, decide_false, Bool.or_false, h .a,
    h .b, h .c, Bool.false_eq_true, if_false]

theorem Engine.agrees_of_together {x : Engine} (h : x.together = true) : x.agrees := by
  intro l
  simp only [Engine.together, Bool.and_eq_true, Bool.not_eq_true'] at h
  obtain ⟨⟨ha, hb⟩, hc⟩ := h
  cases l
  · rw [ha, Bool.and_false]
  · rw [hb, Bool.and_false]
  · rw [hc, Bool.and_false]

theorem State.updLanes_of_agrees (h : (s.eng e).agrees) (f : Engine → Engine) : s.updLanes e f = s.updEng e f := s.inLanes_of_agrees h _

theorem Engine.agrees_congr {x y : Engine} (hh : y.heddle = x.heddle) (hs : y.stray = x.stray) : y.agrees ↔ x.agrees := by
  simp only [Engine.agrees, Engine.apart, hh, hs]

/-- Where a lane that commits holds the state that agrees, the lanes stay as they are. -/
theorem Engine.settle_of_one {x : Engine} {l : Lane} (hl : x.heddle.commits? l = true) (ha : x.apart l = false) : x.settle = x := by
  have hm : l ∈ laneList.filter x.heddle.commits? := List.mem_filter.mpr ⟨by cases l <;> decide, hl⟩
  unfold Engine.settle
  split
  · rfl
  · next k r hk =>
    rw [hk] at hm
    refine if_neg fun hall => ?_
    simpa [ha] using List.all_eq_true.mp hall l hm

theorem Engine.settle_of_agrees {x : Engine} {l : Lane} (hl : x.heddle.commits? l = true) (ha : x.agrees) : x.settle = x :=
  Engine.settle_of_one hl (by simpa [hl] using ha l)

theorem State.setLine_agrees (n : Nat) (h : (s.eng e).agrees) : ((s.setLine e n).eng e).agrees := by
  unfold State.setLine
  split
  · rw [State.updEng_eng]
    exact (Engine.agrees_congr rfl rfl).mpr h
  · rw [State.updLanes_of_agrees h, State.updEng_eng]
    exact (Engine.agrees_congr rfl rfl).mpr h

/-- The report of a heddle event changes neither a lane's state nor which lanes commit. -/
theorem State.heddleReport_agrees (code : BitVec 7) (lane : Nat) (h : (s.eng e).agrees) : ((s.heddleReport e code lane).eng e).agrees := by
  have hr : ((((s.updHeddle e fun h => { h with last := fld 10 lane ||| code.setWidth 12 }).raise (engSrc e) code
      (BitVec.ofNat 24 lane))).eng e).agrees := by
    have hn : rng (engSrc e).val 100 103 = false := rng_of_lt (show e.val < 100 by omega)
    rw [State.raise, (State.AgreeAt.raiseBy _ e none code _ hn).eng, State.updHeddle, State.updEng_eng]
    exact h
  unfold State.heddleReport
  split
  · exact State.setLine_agrees 31 hr
  · exact hr

theorem State.setDegraded_agrees (h : (s.eng e).agrees) : (s.setDegraded.eng e).agrees := by
  unfold State.setDegraded
  split
  · exact h
  · exact h

/-- A lane that stands still while the others agree: the two others of three that have not been retired still run as one. -/
theorem Engine.agrees_freeze {x y : Engine} {l : Lane} {cfg : Vector Word 67} (ht : x.together = true) (hs : y.stray = (x.freeze l cfg).stray)
    (hl : y.heddle.commits? l = false) : y.agrees := by
  simp only [Engine.together, Engine.apart, Bool.and_eq_true, Bool.not_eq_true'] at ht
  obtain ⟨⟨ha, hb⟩, hc⟩ := ht
  intro k
  by_cases hk : k = l
  · rw [hk, hl, Bool.false_and]
  · have hi : laneIdx k ≠ laneIdx l := by
      intro h
      apply hk
      revert h
      cases k <;> cases l <;> decide
    rw [Engine.apart, hs, Engine.freeze, upd_other _ _ hi, Bool.and_eq_false_imp]
    intro _
    cases k
    · exact ha
    · exact hb
    · exact hc

/-- With three good lanes, none has been retired or is odd. -/
theorem Heddle.good_three {h : Heddle} (hg : h.good = [.a, .b, .c]) : ∀ l, h.isRetired l = false ∧ h.odd ≠ some l := by
  intro l
  have hm : l ∈ h.good := by rw [hg]; cases l <;> decide
  simpa [Heddle.votes] using (List.mem_filter.mp hm).2

/-- Of the two other lanes one commits, whatever happens to a lane. -/
theorem exists_other (l : Lane) : ∃ k, k ≠ l := by
  cases l
  · exact ⟨.b, by decide⟩
  · exact ⟨.a, by decide⟩
  · exact ⟨.a, by decide⟩

theorem laneIdx_ne {k l : Lane} (h : k ≠ l) : laneIdx k ≠ laneIdx l := by
  revert h
  cases k <;> cases l <;> decide

/-- The engine once a lane has been retired, or has become the odd one. -/
theorem Engine.settle_freeze {x : Engine} {h : Heddle} {l k : Lane} (cfg : Vector Word 67) (ht : x.together = true)
    (hl : h.commits? l = false) (hk : h.commits? k = true) : (Engine.settle { x.freeze l cfg with heddle := h }).agrees := by
  have ha : Engine.agrees { x.freeze l cfg with heddle := h } := Engine.agrees_freeze ht rfl hl
  rw [Engine.settle_of_agrees hk ha]
  exact ha

theorem State.retireLane_agrees {l : Lane} (ht : s.together e = true) (hr : ∀ k, (s.heddle e).isRetired k = false) :
    ((s.retireLane e l).eng e).agrees := by
  obtain ⟨k, hk⟩ := exists_other l
  refine State.setDegraded_agrees (State.heddleReport_agrees 0x44 _ ?_)
  rw [State.updEng_eng]
  refine Engine.settle_freeze (k := k) _ ht ?_ ?_
  · simp [Heddle.commits?, Heddle.isRetired]
  · have h1 : (s.heddle e).retired[(laneIdx k).val] = false := hr k
    simp [Heddle.commits?, Heddle.isRetired, Heddle.frozen, upd_other _ _ (laneIdx_ne hk)]
    exact h1

/-- A lane found odd stands still or is retired, and the others run as one (R156, R159). -/
theorem State.detect_agrees {l : Lane} {code : Option (BitVec 7)} {counted : Bool} (ht : s.together e = true)
    (hr : ∀ k, (s.heddle e).isRetired k = false) : ((s.detect e l code counted).eng e).agrees := by
  obtain ⟨k, hk⟩ := exists_other l
  have key : ∀ u : State, u.together e = true → (∀ k, (u.heddle e).isRetired k = false) →
      ((u.updEng e fun x => Engine.settle { x.freeze l (u.engCopies e) with
        heddle := { x.heddle with odd := some l, phase := .bulk, since := x.free, gatedEk := 0 } }).eng e).agrees := by
    intro u hu hur
    rw [State.updEng_eng]
    refine Engine.settle_freeze (k := k) _ hu ?_ ?_
    · simp [Heddle.commits?, Heddle.frozen]
    · have h1 := hur k
      simp only [Heddle.commits?, Heddle.isRetired, Heddle.frozen, State.heddle] at h1 ⊢
      simp [h1, Ne.symm hk]
  generalize hu : (if counted then s.updHeddle e fun h =>
    { h with cnt := upd h.cnt (laneIdx l) fun c => sat12 (c.toNat + 1), times := upd h.times (laneIdx l) fun ts => (s.fk :: ts).take 15 }
    else s) = u
  have hut : u.together e = true := by
    subst hu
    split
    · rw [State.updHeddle, State.together_updEng (by exact rfl)]
      exact ht
    · exact ht
  have hur : ∀ k, (u.heddle e).isRetired k = false := by
    subst hu
    intro k
    split
    · rw [State.heddle, State.updHeddle, State.updEng_eng]
      exact hr k
    · exact hr k
  simp only [State.detect, hu]
  split
  · exact State.retireLane_agrees hut hur
  · split
    · exact State.heddleReport_agrees _ _ (key u hut hur)
    · exact key u hut hur

end

/-! ### O30: output voting (R141 to R147) -/

/-- The fault that strikes a lane, of those that strike the three. -/
def laneFault (a b c : VoteFault) : Lane → VoteFault
  | .a => a
  | .b => b
  | .c => c

/-- The voted requests of a commit go out, one behind the other. -/
def State.goBoth (s : State) (e : Eng) (t : Thr) (v : Vector (Option Request) 2) : State :=
  let one := (v[0].map (s.goOut e t 0)).getD s
  ((v[1].map (one.goOut e t 1)).getD one).updEng e fun y => { y with sent := v.toList.filterMap id }

section
variable {s : State} {e : Eng} {a b c : VoteFault} {o : Out} {rest : List Out}

theorem Engine.view_of_together {x : Engine} (h : x.together = true) (l : Lane) : x.view l = x := by
  simp only [Engine.together, Engine.apart, Bool.and_eq_true, Bool.not_eq_true', Option.isSome_eq_false_iff, Option.isNone_iff_eq_none] at h
  obtain ⟨⟨ha, hb⟩, hc⟩ := h
  cases l
  · simp only [Engine.view, ha]; rfl
  · simp only [Engine.view, hb]; rfl
  · simp only [Engine.view, hc]; rfl

theorem Engine.oldestOut_of_together {x : Engine} (h : x.together = true) (hg : x.heddle.good ≠ []) (ho : x.out = o :: rest) :
    x.oldestOut = some o := by
  unfold Engine.oldestOut
  simp only [Engine.view_of_together h, ho, List.head?_cons]
  generalize x.heddle.good = ls at hg
  cases ls with
  | nil => exact absurd rfl hg
  | cons p ps =>
    simp only [List.filterMap_cons, List.foldl_cons]
    induction ps with
    | nil => rfl
    | cons q qs ih => simpa using ih (by simp)

/-- What the voting lanes' requests make: the majority of three, or the first of two. -/
def votedOf (req : Lane → Vector (Option Request) 2) : List Lane → Vector (Option Request) 2
  | [p, q, r] => #v[voteRequest (req p)[0] (req q)[0] (req r)[0], voteRequest (req p)[1] (req q)[1] (req r)[1]]
  | p :: _ => req p
  | [] => req .a

theorem vector_two (v : Vector (Option Request) 2) : v = #v[v[0], v[1]] := by
  ext i hi
  match i, hi with
  | 0, _ => rfl
  | 1, _ => rfl

theorem tab_voteRequest (x y z : Vector (Option Request) 2) :
    (tab 2 fun i => voteRequest (x.toList[i]?.bind id) (y.toList[i]?.bind id) (z.toList[i]?.bind id)) =
      #v[voteRequest x[0] y[0] z[0], voteRequest x[1] y[1] z[1]] := by
  rw [vector_two x, vector_two y, vector_two z]
  rfl

/-- What is voted goes out, the first request of a commit before the second. -/
theorem State.goBoth_eq (e : Eng) (t : Thr) (v : Vector (Option Request) 2) (u : State) :
    (v.toList.zipIdx.foldl (fun (s : State) q => match q.1 with
      | some r => s.goOut e t q.2 r
      | none => s) u).updEng e (fun y => { y with sent := v.toList.filterMap id }) = u.goBoth e t v := by
  rw [vector_two v]
  cases v[0] <;> cases v[1] <;> rfl

/-- The vote of the oldest commit while the lanes run as one. -/
theorem exec_outputVote {p : Lane} {ps : List Lane} (hr : s.engRuns e = true) (ht : s.together e = true) (hg : (s.heddle e).good = p :: ps)
    (ho : (s.eng e).out = o :: rest) :
    exec (.outputVote e a b c true) s = (
      let req := fun l => (s.eng e).batch o.slot (laneFault a b c l)
      let v := votedOf req (p :: ps)
      .next (s.voteEnd e o.t ((p :: ps).filter fun l => req l ≠ v) fun s => (s.updLanes e fun x => x.dropOut o.slot).goBoth e o.t v)) := by
  have hg' : (s.eng e).heddle.good = p :: ps := hg
  have hold : (s.eng e).oldestOut = some o := Engine.oldestOut_of_together ht (by rw [hg']; exact List.cons_ne_nil _ _) ho
  show execOutputVote e a b c true s = _
  simp only [execOutputVote, hr, hold, Engine.view_of_together ht, hg', Bool.true_or, Bool.not_true, Bool.false_eq_true, if_false, Option.getD_some]
  refine congrArg _ (congrArg₂ (s.voteEnd e o.t) ?_ (funext fun u => ?_))
  · match ps with
    | [q, r] => simp only [tab_voteRequest]; rfl
    | [] => rfl
    | [q] => rfl
    | q :: r :: w :: ws => rfl
  · match ps with
    | [q, r] => exact (State.goBoth_eq e o.t _ _).trans (congrArg _ (tab_voteRequest _ _ _))
    | [] => exact State.goBoth_eq e o.t _ _
    | [q] => exact State.goBoth_eq e o.t _ _
    | q :: r :: w :: ws => exact State.goBoth_eq e o.t _ _

/-- Copies of the vote that disagree stop the engine (R146). -/
theorem exec_outputVote_copies {p : Lane} {ps : List Lane} (hr : s.engRuns e = true) (hl : (s.eng e).locked = false) (ht : s.together e = true)
    (hg : (s.heddle e).good = p :: ps) (ho : (s.eng e).out = o :: rest) :
    exec (.outputVote e a b c false) s = .next (s.engineStop e o.t 0x48) := by
  have hold : (s.eng e).oldestOut = some o :=
    Engine.oldestOut_of_together ht (by rw [show (s.eng e).heddle.good = p :: ps from hg]; exact List.cons_ne_nil _ _) ho
  show execOutputVote e a b c false s = _
  simp [execOutputVote, hr, hold, hl]

theorem State.locked_of_engRuns (h : s.engRuns e = true) : (s.eng e).locked = false := by
  simp only [State.engRuns, Bool.and_eq_true, Bool.not_eq_true'] at h
  exact h.1.1.2

variable {t : Thr} {l k : Lane} {ls : List Lane} {go : State → State}

theorem State.voteEnd_minority (hl : (s.eng e).locked = false) (hg : (s.heddle e).good.length = 3) :
    s.voteEnd e t [l] go = go ((s.updHeddle e fun h => h.close t 0 0 0).detect e l (some 0x41) true) := by
  simp [State.voteEnd, hl, hg]

theorem State.voteEnd_differ (hl : (s.eng e).locked = false) :
    s.voteEnd e t (l :: k :: ls) go = s.engineStop e t (if (s.heddle e).good.length = 3 then 0x46 else 0x47) := by
  simp [State.voteEnd, hl]

theorem State.voteEnd_two (hl : (s.eng e).locked = false) (hg : (s.heddle e).good.length = 2) :
    s.voteEnd e t [l] go = s.engineStop e t 0x47 := by
  simp [State.voteEnd, hl, hg]

/-- A pick's close leaves which lanes have been retired. -/
theorem State.isRetired_close (h : ∀ k, (s.heddle e).isRetired k = false) (k : Lane) :
    ((s.updHeddle e fun h => h.close t 0 0 0).heddle e).isRetired k = false := by
  rw [State.heddle, State.updHeddle, State.updEng_eng]
  exact h k

theorem maj_same {w : Nat} (x y : BitVec w) : maj x x y = x := by
  ext i hi
  simp only [maj, BitVec.getElem_or, BitVec.getElem_and]
  cases x[i] <;> simp

/-- A request that two of three lanes bring unharmed is what is voted. -/
theorem voteRequest_two (q : Request) (w : Option Request) : voteRequest (some q) (some q) w = some q := by
  have hp : (q.parity || q.parity && (w.getD noRequest).parity) = q.parity := by cases q.parity <;> simp
  simp [voteRequest, maj_same, hp]

theorem Engine.batch_head {x : Engine} {r q : Request} (ho : x.out = o :: rest) (hr : o.reqs = [r, q]) :
    x.batch o.slot none = #v[some r, some q] := by
  simp only [Engine.batch, ho, List.find?_cons, decide_true, hr]
  rfl

theorem outputVotingOutvotesOneLane : Claims.OutputVotingOutvotesOneLane := by
  intro s e a b c o rest hr hg ht ho ra rb rc v sends found run
  have hl := State.locked_of_engRuns hr
  have hret := fun k => (Heddle.good_three hg k).1
  have hlen : (s.heddle e).good.length = 3 := by rw [hg]; rfl
  have hrun : run = .next (s.voteEnd e o.t ([Lane.a, .b, .c].filter fun l => (s.eng e).batch o.slot (laneFault a b c l) ≠ v) fun u =>
      (u.updLanes e fun x => x.dropOut o.slot).goBoth e o.t v) := exec_outputVote hr ht hg ho
  have hsends : ∀ {u : State}, (u.eng e).agrees → (u.updLanes e fun x => x.dropOut o.slot).goBoth e o.t v = sends u := by
    intro u hu
    rw [State.updLanes_of_agrees hu]
    rfl
  have hfound : ∀ l, ((found l).eng e).agrees := fun l =>
    State.detect_agrees ((State.together_updEng (by exact rfl)).trans ht) (State.isRetired_close hret)
  have hodd : ∀ l, s.voteEnd e o.t [l] (fun u => (u.updLanes e fun x => x.dropOut o.slot).goBoth e o.t v) = sends (found l) := fun l =>
    (State.voteEnd_minority hl hlen).trans (hsends (hfound l))
  have hmany : ∀ l k ls go, s.voteEnd e o.t (l :: k :: ls) go = s.engineStop e o.t 0x46 := fun l k ls go => by
    rw [State.voteEnd_differ hl, if_pos hlen]
  let f := fun l => decide ((s.eng e).batch o.slot (laneFault a b c l) ≠ v)
  have hpos : ∀ {l}, (s.eng e).batch o.slot (laneFault a b c l) ≠ v → f l = true := fun h => decide_eq_true h
  have hneg : ∀ {l}, (s.eng e).batch o.slot (laneFault a b c l) = v → ¬ f l = true := fun h => by
    rw [show f _ = false from decide_eq_false (not_not.mpr h)]
    exact Bool.false_ne_true
  refine ⟨exec_outputVote_copies hr hl ht hg ho, fun ha hb hc => ?_, fun ha hb hc => ?_, fun ha hb hc => ?_, fun ha hb hc => ?_, fun h => ?_,
    fun r q hrq ha hb => ?_⟩
  · rw [hrun, List.filter_cons_of_neg (hneg (l := .a) ha), List.filter_cons_of_neg (hneg (l := .b) hb), List.filter_cons_of_neg (hneg (l := .c) hc), List.filter_nil]
    exact congrArg _ (hsends (Engine.agrees_of_together ht))
  · rw [hrun, List.filter_cons_of_pos (hpos (l := .a) ha), List.filter_cons_of_neg (hneg (l := .b) hb), List.filter_cons_of_neg (hneg (l := .c) hc), List.filter_nil, hodd]
  · rw [hrun, List.filter_cons_of_neg (hneg (l := .a) ha), List.filter_cons_of_pos (hpos (l := .b) hb), List.filter_cons_of_neg (hneg (l := .c) hc), List.filter_nil, hodd]
  · rw [hrun, List.filter_cons_of_neg (hneg (l := .a) ha), List.filter_cons_of_neg (hneg (l := .b) hb), List.filter_cons_of_pos (hpos (l := .c) hc), List.filter_nil, hodd]
  · have htwo : ∃ l k ls, [Lane.a, .b, .c].filter f = l :: k :: ls := by
      rcases h with ⟨hx, hy⟩ | ⟨hx, hy⟩ | ⟨hx, hy⟩
      · exact ⟨.a, .b, _, by rw [List.filter_cons_of_pos (hpos (l := .a) hx), List.filter_cons_of_pos (hpos (l := .b) hy)]⟩
      · by_cases hb : f .b = true
        · exact ⟨.a, .b, _, by rw [List.filter_cons_of_pos (hpos (l := .a) hx), List.filter_cons_of_pos hb]⟩
        · exact ⟨.a, .c, _, by rw [List.filter_cons_of_pos (hpos (l := .a) hx), List.filter_cons_of_neg hb, List.filter_cons_of_pos (hpos (l := .c) hy)]⟩
      · by_cases ha : f .a = true
        · exact ⟨.a, .b, _, by rw [List.filter_cons_of_pos ha, List.filter_cons_of_pos (hpos (l := .b) hx)]⟩
        · exact ⟨.b, .c, _, by rw [List.filter_cons_of_neg ha, List.filter_cons_of_pos (hpos (l := .b) hx), List.filter_cons_of_pos (hpos (l := .c) hy)]⟩
    obtain ⟨l, k, ls, hls⟩ := htwo
    rw [hrun, hls, hmany]
  · have hra : ra = #v[some r, some q] := by simp only [ra, ha]; exact Engine.batch_head ho hrq
    have hrb : rb = #v[some r, some q] := by simp only [rb, hb]; exact Engine.batch_head ho hrq
    simp only [v, hra, hrb]
    exact congrArg₂ (fun x y => #v[x, y]) (voteRequest_two r _) (voteRequest_two q _)

end
end Sys2Proof.Machine

namespace Sys2Proof.Machine

/-! ### O30: what a voted request does (R92, R99 to R101, R137, R144) -/

section
variable {s : State} {e : Eng} {t : Thr} {r : Request}

theorem State.updEng_same {f : Engine → Engine} (h : f (s.eng e) = s.eng e) : s.updEng e f = s := by
  rw [State.updEng, h, State.setEng, State.eng, Vector.set_getElem_self]

theorem updFirst_here {α : Type} {p : α → Bool} (g : α → α) {q : α} (rest : List α) (h : p q = true) :
    updFirst p g (q :: rest) = g q :: rest := by
  rw [updFirst, if_pos h]

/-- The first admitted entry stands behind those that are not admitted. -/
theorem updFirst_append {α : Type} {p : α → Bool} (g : α → α) {pre : List α} {q : α} (post : List α) (hpre : ∀ x ∈ pre, p x = false)
    (hq : p q = true) : updFirst p g (pre ++ q :: post) = pre ++ g q :: post := by
  induction pre with
  | nil => exact updFirst_here g post hq
  | cons x xs ih =>
    rw [List.cons_append, updFirst, if_neg (by rw [hpre x List.mem_cons_self]; decide), ih fun y hy => hpre y (List.mem_cons_of_mem x hy)]
    rfl

/-- What goes out of the engine besides the lanes' own record of it. -/
def State.outside (s : State) (e : Eng) (t : Thr) (r : Request) : State :=
  match r.kind.toNat with
  | 3 =>
    let d := r.target.toNat
    { s with flights := s.flights ++ [{ src := e, t := t, dst := ⟨d / 4 % 64, by omega⟩, box := ⟨d % 4, by omega⟩, v := r.data }] }
  | 4 => s.updEng e fun x => { x with trqOut := tripBits x.trqOut (r.addr.toNat % 0x1000) r.data }
  | 5 =>
    s.updWdg fun w => { w with inbox := w.inbox ++
      [if r.addr.toNat % 0x1000 = 0x74 then .check ⟨r.data.toNat % 16, by omega⟩ else .serve e t] }
  | _ => s

theorem State.goOut_of_together (ht : s.together e = true) (i : Nat) :
    s.goOut e t i r = (s.updEng e fun x => x.gone t i r).outside e t r := by
  rw [State.goOut, State.updLanes_of_together ht]
  rfl

theorem zero_append_word (v : Word) : (0#12 ++ v : BitVec 24) = v.setWidth 24 := by
  apply BitVec.eq_of_toNat_eq
  rw [BitVec.toNat_append, BitVec.toNat_setWidth, Nat.mod_eq_of_lt (by omega)]
  simp

theorem word_append_zero (v : Word) : (v ++ 0#12 : BitVec 24) = v.setWidth 24 <<< 12 := by
  apply BitVec.eq_of_toNat_eq
  rw [BitVec.toNat_append, BitVec.toNat_shiftLeft, BitVec.toNat_setWidth, Nat.mod_eq_of_lt (a := v.toNat) (by omega),
    Nat.mod_eq_of_lt (by rw [Nat.shiftLeft_eq]; omega)]
  simp

theorem Engine.gone_store {x : Engine} (h : r.kind = 2) :
    x.gone t 0 r = { x with sbuf := updFirst (fun q => q.t = t && !q.sent) (fun q => { q with pa := r.addr, data := r.data, sent := true }) x.sbuf } := by
  simp only [Engine.gone, h]
  rfl

theorem Engine.gone_svp {x : Engine} (h : r.kind = 6) :
    x.gone t 0 r = { x with
      svpq := updFirst (fun q => q.t = t && !q.sent)
        (fun q => { q with a := loW r.target, b := hiW r.target, write := q.write.map fun _ => r.data, sent := true }) x.svpq } := by
  simp only [Engine.gone, h]
  rfl

theorem Engine.gone_fence {x : Engine} (h : r.kind = 7) (ha : r.addr = 0xF0007E) :
    x.gone t 0 r = { x with svpq := updFirst (fun q => q.t = t && !q.sent && q.fence) (fun q => { q with sent := true }) x.svpq } := by
  simp only [Engine.gone, h, ha]
  rfl

/-- The lanes keep no record of a message, a trip request, a check-in or a service. -/
theorem Engine.gone_none (x : Engine) (i : Nat) (h : r.kind = 3 ∨ r.kind = 4 ∨ r.kind = 5) : x.gone t i r = x := by
  rcases h with h | h | h <;> simp [Engine.gone, h]

end

theorem votedRequestsTakeEffect : Claims.VotedRequestsTakeEffect := by
  intro s e t r ht
  have hgo := State.goOut_of_together (t := t) (r := r) ht 0
  have hout : (r.kind = 3 ∨ r.kind = 4 ∨ r.kind = 5) → s.goOut e t 0 r = s.outside e t r := fun h => by
    rw [hgo, State.updEng_same (Engine.gone_none _ 0 h)]
  refine ⟨fun hk => ?_, fun q pre post hk hb hpre hq hs => ?_, fun hk => ?_, fun hk => ?_, fun hk ha => ?_, fun hk ha => ?_,
    fun op rest hk hq ht hs => ?_, fun op rest hk ha hq ht hs hf => ?_, fun hk ha => ?_⟩
  · rw [hgo]
    simp only [State.outside, Engine.gone, hk]
    rfl
  · have hu := updFirst_append (q := q) (p := fun q => q.t = t && !q.sent) (fun q => { q with pa := r.addr, data := r.data, sent := true }) post
      (fun x hx => by rcases hpre x hx with h | h <;> simp [h]) (by simp [hq, hs])
    rw [hgo]
    simp only [State.outside, hk]
    exact State.updEng_congr (by rw [Engine.gone_store hk, hb, hu])
  · rw [hout (.inl hk)]
    simp only [State.outside, hk]
    rfl
  · rw [hout (.inr (.inl hk))]
    have hq : ((s.outside e t r).eng e).trqOut = tripBits (s.eng e).trqOut (r.addr.toNat % 0x1000) r.data := by
      simp only [State.outside, hk]
      exact congrArg _ (State.updEng_eng s e _)
    refine ⟨fun ha => ?_, fun ha => ?_, fun ha => ?_, fun ha => ?_⟩
    · rw [hq, ha]; rfl
    · rw [hq, ha]; rfl
    · rw [hq, ha, zero_append_word]; rfl
    · rw [hq, ha, word_append_zero]; rfl
  · rw [hout (.inr (.inr hk))]
    simp only [State.outside, hk, ha]
    rfl
  · rw [hout (.inr (.inr hk))]
    simp only [State.outside, hk, ha]
    rfl
  · have hu := updFirst_here (q := op) (p := fun q : SvpOp => q.t = t && !q.sent)
      (fun q => { q with a := loW r.target, b := hiW r.target, write := q.write.map fun _ => r.data, sent := true }) rest (by simp [ht, hs])
    rw [hgo]
    simp only [State.outside, hk]
    exact State.updEng_congr (by rw [Engine.gone_svp hk, hq, hu])
  · have hu := updFirst_here (q := op) (p := fun q : SvpOp => q.t = t && !q.sent && q.fence) (fun q => { q with sent := true }) rest (by simp [ht, hs, hf])
    rw [hgo]
    simp only [State.outside, hk]
    exact State.updEng_congr (by rw [Engine.gone_fence hk ha, hq, hu])
  · rw [hgo]
    simp only [State.outside, Engine.gone, hk, ha]
    exact State.updEng_same rfl

/-! ### O30: two lanes must agree (R141, R144, R147, R156) -/

section
variable {s : State} {e : Eng} {p : ClosedPick} {rest : List ClosedPick} {x y l : Lane}

/-- The oldest closed pick is judged. -/
theorem exec_pickVerdict_due (hr : s.engRuns e = true) (hc : (s.heddle e).closed = p :: rest) :
    exec (.pickVerdict e true) s = .next ((s.updHeddle e fun h => { h with closed := rest }).verdict e p) := by
  show execPickVerdict e true s = _
  simp [execPickVerdict, hr, hc]

/-- The verdict of two lanes over a pick. -/
theorem State.verdict_two (hg : (s.heddle e).good = [x, y]) :
    s.verdict e p =
      if p.sigs[(laneIdx x).val] ≠ p.sigs[(laneIdx y).val] then s.engineStop e p.thr 0x47
      else match (s.heddle e).odd with
        | some l =>
          if p.rejoin && (s.heddle e).phase = .inStep then
            (if p.sigs[(laneIdx l).val] = p.sigs[(laneIdx x).val] then s.rejoin e l else s.detect e l (some 0x43) true)
          else s
        | none => s := by
  simp only [State.verdict, hg] <;> rfl

theorem State.heddle_updHeddle (f : Heddle → Heddle) : (s.updHeddle e f).heddle e = f (s.heddle e) := by
  rw [State.heddle, State.updHeddle, State.updEng_eng]
  rfl
end

theorem twoLanesMustAgree : Claims.TwoLanesMustAgree := by
  intro s e a b c x y hr hg
  have hl := State.locked_of_engRuns hr
  have hlen : (s.heddle e).good.length = 2 := by rw [hg]; rfl
  refine ⟨?_, ?_⟩
  · intro o rest ht ho req left one
    have hreq : req = fun l => (s.eng e).batch o.slot (laneFault a b c l) := funext fun l => by cases l <;> rfl
    have hrun : exec (.outputVote e a b c true) s = .next (s.voteEnd e o.t ([x, y].filter fun l => req l ≠ req x) fun u =>
        (u.updLanes e fun x => x.dropOut o.slot).goBoth e o.t (req x)) := by
      rw [hreq]
      exact exec_outputVote hr ht hg ho
    refine ⟨fun heq => ?_, fun hne => ?_⟩
    · rw [hrun, List.filter_cons_of_neg (by simp), List.filter_cons_of_neg (by simp [heq]), List.filter_nil]
      show Host.Outcome.next ((s.updLanes e fun x => x.dropOut o.slot).goBoth e o.t (req x)) = _
      rw [State.updLanes_of_together ht]
      rfl
    · rw [hrun, List.filter_cons_of_neg (by simp), List.filter_cons_of_pos (by simpa using Ne.symm hne), List.filter_nil, State.voteEnd_two hl hlen]
  · intro p rest hc left sig
    have hrun := exec_pickVerdict_due hr hc
    have hh : left.heddle e = { s.heddle e with closed := rest } := State.heddle_updHeddle _
    have hgl : (left.heddle e).good = [x, y] := by rw [hh]; exact hg
    rw [hrun, State.verdict_two hgl]
    refine ⟨fun hne => ?_, fun heq hrj => ?_, fun l heq hrj ho hp => ⟨fun hs => ?_, fun hs => ?_⟩⟩
    · rw [if_pos hne]
    · rw [if_neg (not_not.mpr heq)]
      simp only [hrj, hh, Bool.false_and, Bool.false_eq_true, if_false]
      split <;> rfl
    · rw [if_neg (not_not.mpr heq)]
      simp only [hh, hrj, ho, hp, decide_true, Bool.and_true, if_true]
      exact congrArg _ (if_pos hs)
    · rw [if_neg (not_not.mpr heq)]
      simp only [hh, hrj, ho, hp, decide_true, Bool.and_true, if_true]
      exact congrArg _ (if_neg hs)

/-- Settles O30: the vote of the lanes' requests, what the voted ones do, and the vote of two lanes. -/
theorem outputVoting : Obligations.OutputVoting := ⟨outputVotingOutvotesOneLane, votedRequestsTakeEffect, twoLanesMustAgree⟩

end Sys2Proof.Machine

namespace Sys2Proof.Machine

/-! ### What a data write keeps -/

/-- A data write inside the device map keeps the memory in canonical form. -/
theorem State.memCanonical_setMem {s : State} {a : Nat} (v : Word) (h : s.memCanonical = true) (ha : a < 0x1000000) :
    (s.setMem a v).memCanonical = true := by
  obtain ⟨hm, hp, hu⟩ := State.memCanonical_wf h
  simp only [State.memCanonical, Bool.and_eq_true, List.all_eq_true, decide_eq_true_eq] at h ⊢
  obtain ⟨⟨⟨⟨⟨-, -⟩, hmk⟩, hpk⟩, -⟩, huk⟩ := h
  refine ⟨⟨⟨⟨⟨State.setMem_wf s a v hm, hp⟩, fun p hp => ?_⟩, hpk⟩, State.setMem_upset_wf s a v hu⟩, fun p hp => ?_⟩
  · rcases Cells.mem_write hp with h | ⟨rfl, -⟩
    · exact hmk p h
    · exact ha
  · rcases Cells.mem_write hp with h | ⟨-, hv⟩
    · exact huk p h
    · exact absurd rfl hv

/-- `u` differs from `s` in stored words alone. -/
def State.MemOnly (s u : State) : Prop := ∃ m x, u = { s with mem := m, upset := x }

namespace State.MemOnly
variable {s u w : State}

theorem refl (s : State) : State.MemOnly s s := ⟨_, _, rfl⟩

theorem setMem (s : State) (a : Nat) (v : Word) : State.MemOnly s (s.setMem a v) := ⟨_, _, rfl⟩

theorem trans (h : State.MemOnly s u) (h' : State.MemOnly u w) : State.MemOnly s w := by
  obtain ⟨_, _, rfl⟩ := h
  obtain ⟨m, x, rfl⟩ := h'
  exact ⟨m, x, rfl⟩
end State.MemOnly

/-! ### O35: snapshots (R182, R261 to R265) -/

/-- The transfer of word `k` fails for good. -/
def snapFails (o : SnapOutcome) (k : Nat) : Bool :=
  match o with
  | .failed j => j.val = k
  | _ => false

theorem snapFails_iff (o : SnapOutcome) (k : Fin 65) : snapFails o k.val = true ↔ o = .failed k := by
  cases o <;> simp [snapFails, Fin.ext_iff]

theorem State.snapStore_eq (s : State) (o : SnapOutcome) (k i : Nat) (v : Word) :
    s.snapStore o k i v = if snapFails o k then s else s.setMem (exRam i) v := by
  cases o <;> simp [State.snapStore, snapFails]

theorem State.snapStore_memOnly (s : State) (o : SnapOutcome) (k i : Nat) (v : Word) : State.MemOnly s (s.snapStore o k i v) := by
  rw [State.snapStore_eq]
  split
  · exact .refl s
  · exact .setMem s _ v

theorem State.memWord_snapStore {s : State} (h : s.memCanonical = true) (o : SnapOutcome) (k i : Nat) (v : Word) (b : Nat) :
    (s.snapStore o k i v).memWord b = if b = exRam i ∧ snapFails o k = false then v else s.memWord b := by
  rw [State.snapStore_eq]
  by_cases hf : snapFails o k = true
  · simp [hf]
  · simp [hf, State.memWord_setMem h]

theorem State.memCanonical_snapStore {s : State} (h : s.memCanonical = true) (o : SnapOutcome) (k : Nat) {i : Nat} (v : Word) (hi : i < 0x1000) :
    (s.snapStore o k i v).memCanonical = true := by
  rw [State.snapStore_eq]
  split
  · exact h
  · exact State.memCanonical_setMem v h (by unfold exRam; omega)

/-- The words of a snapshot from number `k` on are stored, behind `base`. -/
def State.snapWords (s : State) (o : SnapOutcome) (base : Nat) (ws : List Word) (k : Nat) : State :=
  (ws.zipIdx k).foldl (fun (s : State) p => s.snapStore o p.2 (base + p.2) p.1) s

section
variable {o : SnapOutcome} {base : Nat}

theorem State.snapWords_cons (s : State) (v : Word) (ws : List Word) (k : Nat) :
    s.snapWords o base (v :: ws) k = (s.snapStore o k (base + k) v).snapWords o base ws (k + 1) := rfl

theorem State.snapWords_memOnly (s : State) (ws : List Word) (k : Nat) : State.MemOnly s (s.snapWords o base ws k) := by
  induction ws generalizing s k with
  | nil => exact .refl s
  | cons v ws ih => exact (s.snapStore_memOnly o k (base + k) v).trans (ih _ (k + 1))

theorem State.memCanonical_snapWords {s : State} (h : s.memCanonical = true) (ws : List Word) (k : Nat) (hb : base + k + ws.length ≤ 0x1000) :
    (s.snapWords o base ws k).memCanonical = true := by
  induction ws generalizing s k with
  | nil => exact h
  | cons v ws ih =>
    rw [List.length_cons] at hb
    exact ih (State.memCanonical_snapStore h o k v (by omega)) (k + 1) (by omega)

/-- What a word reads as once the snapshot's words are stored. -/
theorem State.memWord_snapWords {s : State} (h : s.memCanonical = true) (ws : List Word) (k : Nat) (hb : base + k + ws.length ≤ 0x1000) (b : Nat) :
    (s.snapWords o base ws k).memWord b =
      if exRam (base + k) ≤ b ∧ b < exRam (base + k) + ws.length ∧ snapFails o (b - exRam base) = false then ws.getD (b - exRam (base + k)) 0
      else s.memWord b := by
  induction ws generalizing s k with
  | nil =>
    rw [if_neg (by simp; omega)]
    rfl
  | cons v ws ih =>
    rw [List.length_cons] at hb ⊢
    rw [State.snapWords_cons, ih (State.memCanonical_snapStore h o k v (by omega)) (k + 1) (by omega), State.memWord_snapStore h]
    have h1 : exRam (base + (k + 1)) = exRam (base + k) + 1 := rfl
    have h2 : exRam (base + k) = exRam base + k := by unfold exRam; omega
    by_cases hbk : b = exRam (base + k)
    · have h3 : b - exRam base = k := by omega
      rw [if_neg (by omega), h3]
      simp [hbk]
    · have h3 : b - exRam (base + k) = b - exRam (base + (k + 1)) + 1 ∨ b < exRam (base + k) := by omega
      simp only [hbk, false_and, if_false]
      by_cases hc : exRam (base + (k + 1)) ≤ b
      · have h4 : b - exRam (base + k) = b - exRam (base + (k + 1)) + 1 := by omega
        rw [h4, List.getD_cons_succ]
        refine if_congr ?_ rfl rfl
        constructor
        · rintro ⟨-, h5, h6⟩; exact ⟨by omega, by omega, h6⟩
        · rintro ⟨-, h5, h6⟩; exact ⟨hc, by omega, h6⟩
      · rw [if_neg (fun h => hc h.1), if_neg (fun h => hc (by omega))]
end

/-- The shadow is committed and SEQ advances (R261). -/
def State.snapCommit (s : State) : State :=
  s.updMtr fun x => { x with shadow := { x.shadow with seq := x.shadow.seq + 1, acc := vmap (fun _ y => y.acc) x.m } }

/-- The buffer that DIR does not name (R262). -/
def State.snapBuf (s : State) : Nat := if (s.memWord (exRam 0)).getLsbD 11 then 0 else 1

/-- The words of a snapshot with their CHK (R261). -/
def State.snapAll (s : State) : List Word := s.snapshotWords ++ wordsOf (crc24 s.snapshotWords).toNat 2

/-- The snapshot is written, and then named. -/
def State.snapNamed (s : State) (o : SnapOutcome) : State :=
  let u := s.snapWords o (0x40 + 0x40 * s.snapBuf) s.snapAll 0
  u.snapStore o 64 0 (flag 11 (s.snapBuf = 1) ||| BitVec.ofNat 12 (u.mtr.shadow.seq.toNat % 2048))

/-- A snapshot is published: INT_N goes low, and what the meters keep from one snapshot to the next starts again (R264, R265). -/
def State.snapPublish (s : State) : State :=
  s.updMtr fun x =>
    { x with intLow := true, intNow := true, m := vmap (fun _ y => { y with xSnap := false, gapSnap := y.gap && !y.halted }) x.m }

section
variable {s : State} (o : SnapOutcome)

theorem exec_snapshot (hr : s.inRun = true) :
    exec (.snapshot o) s = .next ((s.snapCommit.snapNamed o).snapCount o s.snapCommit.snapBuf).snapPublish := by
  show execSnapshot s o = _
  unfold execSnapshot State.snapPublish State.snapNamed State.snapWords State.snapAll State.snapBuf State.snapCommit
  rw [if_neg (by rw [hr]; decide)]

theorem State.snapNamed_memOnly (s : State) : State.MemOnly s (s.snapNamed o) :=
  (State.snapWords_memOnly s _ 0).trans (State.snapStore_memOnly _ o 64 0 _)

theorem State.snapshotWords_length (s : State) : s.snapshotWords.length = 62 := by simp [State.snapshotWords, wordsOf]
theorem State.snapAll_length (s : State) : s.snapAll.length = 64 := by
  rw [State.snapAll, List.length_append, State.snapshotWords_length]
  rfl
theorem State.snapBuf_le (s : State) : s.snapBuf ≤ 1 := by
  unfold State.snapBuf
  split <;> decide

theorem State.snapBuf_names (s : State) : decide (s.snapCommit.snapBuf = 1) = !(s.memWord (exRam 0)).getLsbD 11 := by
  have hb : s.snapCommit.snapBuf = if (s.memWord (exRam 0)).getLsbD 11 then 0 else 1 := rfl
  rw [hb]
  generalize (s.memWord (exRam 0)).getLsbD 11 = b
  cases b <;> rfl

/-- What a word reads as after a snapshot. -/
theorem State.memWord_snapNamed (h : s.memCanonical = true) (b : Nat) :
    (s.snapNamed o).memWord b =
      if b = exRam 0 then (if snapFails o 64 then s.memWord b else flag 11 (s.snapBuf = 1) ||| BitVec.ofNat 12 (s.mtr.shadow.seq.toNat % 2048))
      else if exRam (0x40 + 0x40 * s.snapBuf) ≤ b ∧ b < exRam (0x40 + 0x40 * s.snapBuf) + 64 ∧
          snapFails o (b - exRam (0x40 + 0x40 * s.snapBuf)) = false then s.snapAll.getD (b - exRam (0x40 + 0x40 * s.snapBuf)) 0
      else s.memWord b := by
  have hbuf := s.snapBuf_le
  have hlen : 0x40 + 0x40 * s.snapBuf + 0 + s.snapAll.length ≤ 0x1000 := by rw [State.snapAll_length]; omega
  have hseq : (s.snapWords o (0x40 + 0x40 * s.snapBuf) s.snapAll 0).mtr = s.mtr := by
    obtain ⟨m, x, hx⟩ := State.snapWords_memOnly (o := o) (base := 0x40 + 0x40 * s.snapBuf) s s.snapAll 0
    rw [hx]
  rw [State.snapNamed, State.memWord_snapStore (State.memCanonical_snapWords h _ 0 hlen), State.memWord_snapWords h _ 0 hlen, hseq,
    State.snapAll_length, Nat.add_zero]
  by_cases hb : b = exRam 0
  · subst hb
    have hn : ¬ exRam (0x40 + 0x40 * s.snapBuf) ≤ exRam 0 := by unfold exRam; omega
    by_cases hf : snapFails o 64 = true
    · simp [hf, hn]
    · simp [hf]
  · simp [hb]

theorem State.snapCount_resent (s : State) (buf : Nat) :
    s.snapCount .resent buf = s.raiseBy (some .frontEnd) 80 0x01 (BitVec.ofNat 24 (exRam (0x40 + 0x40 * buf))) := rfl

theorem State.snapCount_failed (s : State) (k : Fin 65) (buf : Nat) :
    s.snapCount (.failed k) buf =
      s.raiseBy (some .frontEnd) 81 0x02 (BitVec.ofNat 24 (exRam (if k.val = 64 then 0 else 0x40 + 0x40 * buf + k.val))) := rfl

theorem exRam_failed (k : Fin 65) (b : Nat) :
    exRam (if k.val = 64 then 0 else b + k.val) = if k = 64 then 0x900000 else exRam b + k.val := by
  have hk : k = 64 ↔ k.val = 64 := Fin.ext_iff
  by_cases h : k.val = 64
  · rw [if_pos h, if_pos (hk.mpr h), exRam]
  · rw [if_neg h, if_neg (mt hk.mp h), exRam, exRam, Nat.add_assoc]

/-- The events of a snapshot's transfers reach neither the memory nor the meters. -/
theorem State.snapCount_frames (s : State) (buf : Nat) :
    (∀ b, (s.snapCount o buf).memWord b = s.memWord b) ∧ (s.snapCount o buf).mtr = s.mtr ∧ (s.snapCount o buf).regs = s.regs := by
  have key : ∀ (n : Fin 160) (cause : BitVec 7) (a : DWord), rng n.val 100 103 = false →
      (∀ b, (s.raiseBy (some .frontEnd) n cause a).memWord b = s.memWord b) ∧ (s.raiseBy (some .frontEnd) n cause a).mtr = s.mtr ∧
        (s.raiseBy (some .frontEnd) n cause a).regs = s.regs := by
    intro n cause a hn
    unfold State.raiseBy
    simp only [hn, Bool.false_eq_true, if_false]
    split
    · exact ⟨fun _ => rfl, rfl, rfl⟩
    · split
      · exact ⟨fun _ => rfl, rfl, rfl⟩
      · exact ⟨fun _ => rfl, rfl, rfl⟩
  cases o with
  | ok => exact ⟨fun _ => rfl, rfl, rfl⟩
  | resent => exact key 80 0x01 _ rfl
  | failed k => exact key 81 0x02 _ rfl
end

end Sys2Proof.Machine
namespace Sys2Proof.Machine

theorem vmap_two {α β : Type} (f : α → β) (v : Vector α 2) : vmap (fun _ y => f y) v = #v[f v[0], f v[1]] := by
  have hv : v = #v[v[0], v[1]] := by
    ext i hi
    match i, hi with
    | 0, _ => rfl
    | 1, _ => rfl
  rw [hv]
  rfl

theorem wordsOf_two (v : DWord) : wordsOf v.toNat 2 = [v.setWidth 12, (v >>> 12).setWidth 12] := by
  have h0 : wordOf v.toNat 0 = v.setWidth 12 := by
    apply BitVec.eq_of_toNat_eq
    simp [wordOf]
  have h1 : wordOf v.toNat 1 = (v >>> 12).setWidth 12 := by
    apply BitVec.eq_of_toNat_eq
    simp [wordOf, Nat.shiftRight_eq_div_pow]
  rw [← h0, ← h1]
  rfl

theorem snapCommit_eq (s : State) :
    (s.updMtr fun x => { x with shadow := { x.shadow with seq := x.shadow.seq + 1, acc := #v[x.m[0].acc, x.m[1].acc] } }) = s.snapCommit := by
  simp only [State.snapCommit, vmap_two]

/-- An event that the collector takes waits behind those of its source (R319). -/
theorem State.raiseBy_waiting {s : State} (q : Option Requester) {n : Fin 160} (cause : BitVec 7) (payload : DWord)
    (hn : rng n.val 100 103 = false) (hu : s.up = true) (hw : (s.src n).waiting.length < 5) :
    ((s.raiseBy q n cause payload).src n).waiting = (s.src n).waiting ++ [⟨cause, payload, q⟩] := by
  simp only [State.raiseBy, hu, hw, hn, Bool.not_true, Bool.false_eq_true, if_false, if_true, State.updSrc_src]

/-- DIR names the buffer it did not name, with the low bits of SEQ (R262). -/
theorem dirWord (b : Bool) (n : Nat) :
    (flag 11 b ||| BitVec.ofNat 12 (n % 2048)).getLsbD 11 = b ∧ (flag 11 b ||| BitVec.ofNat 12 (n % 2048)).toNat % 2048 = n % 2048 := by
  have hx : BitVec.ofNat 12 (n % 2048) = (BitVec.ofNat 11 n).setWidth 12 := by
    apply BitVec.eq_of_toNat_eq
    simp
  constructor
  · rw [hx, BitVec.getLsbD_or, BitVec.getLsbD_setWidth, BitVec.getLsbD_of_ge _ _ (le_refl 11)]
    cases b <;> rfl
  · have hm : (n % 2048) % 2 ^ 12 % 2 ^ 11 = n % 2048 := by omega
    have hf : (flag 11 b).toNat % 2 ^ 11 = 0 := by cases b <;> rfl
    rw [BitVec.toNat_or, show 2048 = 2 ^ 11 from rfl, Nat.or_mod_two_pow, hf, Nat.zero_or, BitVec.toNat_ofNat]
    exact hm

theorem snapshotsAreWrittenThenNamed : Claims.SnapshotsAreWrittenThenNamed := by
  intro s o hr hcan
  refine ⟨_, exec_snapshot o hr, ?_⟩
  obtain ⟨hmem, hmtr, hregs⟩ := State.snapCount_frames o (s.snapCommit.snapNamed o) s.snapCommit.snapBuf
  obtain ⟨m, x, hN⟩ := State.snapNamed_memOnly o s.snapCommit
  have hwords := State.memWord_snapNamed o (s := s.snapCommit) hcan
  have hword : ∀ b, ((s.snapCommit.snapNamed o).snapCount o s.snapCommit.snapBuf).snapPublish.memWord b = (s.snapCommit.snapNamed o).memWord b := fun b =>
    hmem b
  have hsrc : ∀ n, ((s.snapCommit.snapNamed o).snapCount o s.snapCommit.snapBuf).snapPublish.src n =
      ((s.snapCommit.snapNamed o).snapCount o s.snapCommit.snapBuf).src n := fun _ => rfl
  have hshadow : ((s.snapCommit.snapNamed o).snapCount o s.snapCommit.snapBuf).snapPublish.mtr.shadow = s.snapCommit.mtr.shadow := by
    rw [State.snapPublish, State.updMtr, hmtr, hN]
  have hint : ((s.snapCommit.snapNamed o).snapCount o s.snapCommit.snapBuf).snapPublish.intIsLow = s.cmpOn := by
    simp only [State.intIsLow, State.snapPublish, State.updMtr, State.cmpOn, State.regB, State.reg, hmtr, hregs, Bool.true_and]
    rw [hN]
    rfl
  have hbuf : exRam (0x40 + 0x40 * s.snapCommit.snapBuf) = if (s.memWord 0x900000).getLsbD 11 then 0x900040 else 0x900080 := by
    show exRam (0x40 + 0x40 * if (s.memWord 0x900000).getLsbD 11 then 0 else 1) = _
    split <;> rfl
  refine ⟨?_, fun h => hint.trans h, fun h => hint.trans h, fun k => ?_, ?_⟩
  · rw [hshadow]
    rfl
  · rw [hshadow, ← snapCommit_eq]
    match k with
    | 0 => rfl
    | 1 => rfl
  · rw [snapCommit_eq]
    intro dir buf words chk all counts
    have hall : all = s.snapCommit.snapAll := by rw [State.snapAll, wordsOf_two]
    have hb : exRam (0x40 + 0x40 * s.snapCommit.snapBuf) = buf := hbuf
    have hlo : 0x900040 ≤ buf := by simp only [buf]; split <;> decide
    have hev : ∀ (n : Fin 160) (cause : BitVec 7) (b : Nat), rng n.val 100 103 = false →
        (s.snapCommit.snapNamed o).snapCount o s.snapCommit.snapBuf =
          (s.snapCommit.snapNamed o).raiseBy (some .frontEnd) n cause (BitVec.ofNat 24 b) → counts n cause b := by
      intro n cause b hn hx hup hlen
      rw [hsrc, hx, State.raiseBy_waiting _ cause _ hn (by rw [hN]; exact hup) (by rw [hN]; exact hlen), hN]
      rfl
    refine ⟨State.snapshotWords_length _, fun k hk => ?_, fun h => ?_, fun h => ?_, fun h => hev 80 0x01 buf rfl ?_, fun k h => hev 81 0x02 _ rfl ?_,
      fun a ha hout => ?_⟩
    · have hk64 : k.val < 64 := by have := k.isLt; have : k.val ≠ 64 := fun h => hk (Fin.ext h); omega
      rw [hword, hwords, hb, if_neg (by unfold exRam; omega), Nat.add_sub_cancel_left, hall]
      by_cases hf : o = .failed k
      · rw [if_pos hf, if_neg (by rw [(snapFails_iff o k).mpr hf]; simp)]
        rfl
      · rw [if_neg hf, if_pos ⟨by omega, by omega, by rw [Bool.eq_false_iff]; exact fun hs => hf ((snapFails_iff o k).mp hs)⟩]
    · have hf : ¬ snapFails o 64 = true := fun hs => h ((snapFails_iff o 64).mp hs)
      rw [hword, hwords, if_pos (show 0x900000 = exRam 0 from rfl), if_neg hf]
      obtain ⟨h1, h2⟩ := dirWord (decide (s.snapCommit.snapBuf = 1)) s.snapCommit.mtr.shadow.seq.toNat
      refine ⟨h1.trans ?_, h2⟩
      exact State.snapBuf_names s
    · have hf : snapFails o 64 = true := (snapFails_iff o 64).mpr h
      rw [hword, hwords, if_pos (show 0x900000 = exRam 0 from rfl), if_pos hf]
      rfl
    · rw [h, State.snapCount_resent, ← hb]
    · rw [h, State.snapCount_failed, exRam_failed, hb]
    · rw [hword, hwords, hb, if_neg (show ¬ a = exRam 0 from ha), if_neg (by omega)]
      rfl

end Sys2Proof.Machine

namespace Sys2Proof.Machine

/-! ### O35: the companion port (R260, R265, R266, R273) -/

section
variable {s : State}

/-- A companion access begins, with no collision. -/
theorem State.companionAct_none (write : Bool) :
    s.companionAct .none write = s.updMtr fun x => { x with act := true, reading := !write } := by
  simp [State.companionAct]

theorem bitsAt_word (a : BitVec 13) : bitsAt a 0 11 = a.toNat % 2048 := by simp [bitsAt]

theorem bitsAt_page {a : BitVec 13} (ha : a.toNat / 2048 = 0) : bitsAt a 11 2 = 0 := by simp [bitsAt, ha]

/-- The word that a read of the exchange RAM drives, with its parity bit, both as they are stored. -/
def State.driveWord (s : State) (i : Nat) : State := s.updMtr fun x => { x with driven := some (s.memWord i, s.memP i) }

theorem exec_companionRead_ram (a : BitVec 13) (hon : s.cmpOn = true) (ha : a.toNat / 2048 = 0) :
    exec (.companionRead a false .none) s = .next (
      if (s.companionAct .none false).memGood (exRam (a.toNat % 2048)) then (s.companionAct .none false).driveWord (exRam (a.toNat % 2048))
      else ((s.companionAct .none false).driveWord (exRam (a.toNat % 2048))).companionEvent 132 0x02 a) := by
  show execCompanionRead a false .none s = _
  simp only [execCompanionRead, hon, bitsAt_page ha, bitsAt_word, Bool.not_true, Bool.false_eq_true, if_false, reduceCtorEq, if_true,
    State.driveWord]

/-- A companion write that does not come with OE_N low. -/
theorem exec_companionWrite_ram (a : BitVec 13) (v : Word) (hon : s.cmpOn = true) (ha : a.toNat / 2048 = 0) :
    exec (.companionWrite a v (foldedParity a.toNat v) false .none) s = .next (
      if a.toNat % 2048 < 0x100 then (s.companionAct .none true).companionEvent 133 0x02 a
      else (s.companionAct .none true).setMem (exRam (a.toNat % 2048)) v) := by
  show execCompanionWrite a v _ false .none s = _
  simp only [execCompanionWrite, hon, bitsAt_page ha, bitsAt_word, Bool.not_true, Bool.false_eq_true, if_false, reduceCtorEq, if_true,
    ne_eq, not_true_eq_false]
  by_cases hi : a.toNat % 2048 < 0x100
  · rw [if_pos hi, if_pos hi]
  · rw [if_neg hi, if_neg hi]

theorem companionPortReadsAndWrites : Claims.CompanionPortReadsAndWrites := by
  intro s a v good i act
  have hact : ∀ w, s.companionAct .none w = act w := fun w => State.companionAct_none w
  refine ⟨fun hoff => ⟨?_, ?_, ?_⟩, fun hon => ⟨fun ha => ⟨⟨fun hg => ?_, fun hg => ?_⟩, fun hi => ?_, fun hi => ?_⟩, fun ha => ?_, ?_, ?_, ?_, ?_⟩⟩
  · show execCompanionRead a false .none s = _
    simp only [execCompanionRead, hoff, Bool.not_false, if_true]
  · show execCompanionWrite a v good false .none s = _
    simp only [execCompanionWrite, hoff, Bool.not_false, if_true]
  · show execCack v _ s = _
    simp only [execCack, hoff, Bool.not_false, if_true]
  · rw [exec_companionRead_ram a hon ha, hact, if_pos (show (act false).memGood (exRam (a.toNat % 2048)) = true from hg)]
    rfl
  · rw [exec_companionRead_ram a hon ha, hact,
      if_neg (show ¬ (act false).memGood (exRam (a.toNat % 2048)) = true from ne_true_of_eq_false hg)]
    rfl
  · rw [exec_companionWrite_ram a v hon ha, if_neg (Nat.not_lt.mpr hi), hact]
    rfl
  · rw [exec_companionWrite_ram a v hon ha, if_pos hi, hact]
  · subst ha
    show execCompanionRead 0x800 false .none s = _
    have hp : bitsAt (0x800 : BitVec 13) 11 2 = 1 := rfl
    have h0 : bitsAt (0x800 : BitVec 13) 0 11 = 0 := rfl
    have hint : (act false).intIsLow = s.mtr.intLow := by
      have hc : (act false).cmpOn = true := hon
      rw [State.intIsLow, hc, Bool.and_true]
      rfl
    simp only [execCompanionRead, hon, hp, h0, hact, hint, Bool.not_true, Bool.false_eq_true, if_false, ite_self]
    rfl
  · show execCompanionWrite a v good true .none s = _
    simp only [execCompanionWrite, hon, ite_self, hact, Bool.not_true, Bool.false_eq_true, if_false, if_true]
  · show execCompanionWrite a v (!good) false .none s = _
    have hg : (!good) ≠ foldedParity a.toNat v := Bool.not_ne_self good
    simp only [execCompanionWrite, hon, ite_self, hact, Bool.not_true, Bool.false_eq_true, if_false, if_pos hg]
  · show execCack v _ s = _
    have hp : foldedParity (0x801 : BitVec 13).toNat v = foldedParity 0x801 v := rfl
    simp only [execCack, hon, hact, hp, Bool.not_true, Bool.false_eq_true, if_false, ne_eq, not_true_eq_false]
    rfl
  · show execCack v _ s = _
    have hg : (!foldedParity 0x801 v) ≠ foldedParity (0x801 : BitVec 13).toNat v := Bool.not_ne_self _
    simp only [execCack, hon, hact, Bool.not_true, Bool.false_eq_true, if_false, if_pos hg]
end

/-! ### O35: BUSY (R79, R188, R190) -/

section
variable {s : State} {e : Eng} {t : Thr} {l : Load} {m : Master} {a : Addr}

theorem toNat_companion (h : regionOf a = .companion) : 0x900000 ≤ a.toNat := by
  grind [regionOf, rng]

/-- No cluster answers for the companion RAM. -/
theorem State.cutOff_companion (h : regionOf a = .companion) : s.cutOff m a = false := by
  have hn := toNat_companion h
  have h1 : rng a.toNat 0x804000 0x805FFF = false := by simp [rng]; omega
  have h2 : rng a.toNat 0x820000 0x823FFF = false := by simp [rng]; omega
  have hb : blockClu a = none := by simp [blockClu, h1, h2, memClu, h, Region.bank]
  simp [State.cutOff, hb]

theorem State.effRead_companion_collided (h : regionOf a = .companion) : s.effRead m [a] .collided = .collided := by
  simp [State.effRead, State.cutOff_companion h, dualPort, h]

theorem State.asleep_companion (h : regionOf a = .companion) : s.asleep a = false := by
  simp [State.asleep, h, Region.bank]

theorem State.updLoad_of_together (ht : s.together e = true) (f : Load → Load) :
    s.updLoad e t f = s.updThr e t fun x => { x with lsu := { x.lsu with load := x.lsu.load.map f } } := by
  exact State.updLanes_of_together ht _

theorem State.effRead_companion_ok (h : regionOf a = .companion) (hw : s.wordGood a = true) : s.effRead m [a] .ok = .ok := by
  rw [State.effRead_ok m (by simpa using hw)]
  simp [State.cutOff_companion h]

/-- A read of a good word of the companion RAM. -/
theorem State.busRead_companion (hh : HostRead) (h : regionOf a = .companion) (hw : s.wordGood a = true) :
    s.busRead m a .ok hh = (.word (s.memWord a.toNat), s) := by
  simp [State.busRead, State.refuses, h, State.effRead_companion_ok h hw, State.countRead, readGood, State.memRead]

/-- A read of a word of the companion RAM that meets a write of it. -/
theorem State.busRead_companion_collided (hh : HostRead) (h : regionOf a = .companion) :
    s.busRead m a .collided hh = (.word (Config.collidedWord s.free), s.takeFree) := by
  simp [State.busRead, State.refuses, h, State.effRead_companion_collided h, State.countRead, readGood, State.memRead, outcomeWord,
    State.countCollision]

theorem readCollides_checked (c : Prop) [Decidable c] (k : Fin 32) : readCollides (if c then .persistentAt k else .ok) = false := by
  split <;> rfl

/-- Whether a presentation of a single companion load receives BUSY. -/
theorem State.busyAt_single (hn : l.second = none) (o o2 : ReadOutcome) :
    s.busyAt e t l o o2 = readCollides (s.effRead (.engine e t l.machine) [l.pa] o) := by
  simp [State.busyAt, hn]

theorem State.busyAt_ok (hn : l.second = none) (hr : regionOf l.pa = .companion) (o2 : ReadOutcome) : s.busyAt e t l .ok o2 = false := by
  rw [State.busyAt_single hn]
  simp only [State.effRead, List.headD_cons, State.cutOff_companion hr, Bool.false_eq_true, if_false]
  exact readCollides_checked _ _

theorem State.busyAt_collided (hn : l.second = none) (hr : regionOf l.pa = .companion) (o2 : ReadOutcome) : s.busyAt e t l .collided o2 = true := by
  rw [State.busyAt_single hn, State.effRead_companion_collided hr]
  rfl

/-- A load of the companion RAM that is presented first, or takes the result it has. -/
theorem exec_loadComplete_companion (o o2 : ReadOutcome) (h h2 : Container) (hl : s.loadOf e t = some l) (hn : l.second = none)
    (hr : regionOf l.pa = .companion) :
    exec (.loadComplete e t o o2 h h2) s = .next (match l.tries, l.result with
      | some _, _ => s
      | none, some r => s.finishLoad e t l r.1 r.2 (.data h) (.data h2)
      | none, none => if s.busyAt e t l o o2 then s.updLoad e t fun l => { l with tries := some 4, result := some (o, o2) }
        else s.finishLoad e t l o o2 (.data h) (.data h2)) := by
  have hw : l.words.any s.asleep = false := by simp [Load.words, hn, State.asleep_companion hr]
  show execLoadComplete e t o o2 h h2 s = _
  simp only [execLoadComplete, hl, hw, Bool.false_eq_true, if_false, if_pos hr]
  cases l.tries with
  | some k => rfl
  | none =>
    cases l.result with
    | some r => rfl
    | none => by_cases hb : s.busyAt e t l o o2 = true <;> simp only [hb] <;> rfl

/-- A presentation of a load that received BUSY. -/
theorem exec_busyRepresent_load (o o2 : ReadOutcome) {k : Nat} {r : ReadOutcome} (ht : s.together e = true) (hl : s.loadOf e t = some l)
    (hk : l.tries = some k) (hres : l.result = some (.collided, r)) (hr : (if readCollides r then o2 else r) = r) :
    exec (.busyRepresent e t o o2) s = .next (s.updThr e t fun x => { x with lsu := { x.lsu with load := x.lsu.load.map fun q =>
      { q with tries := if s.busyAt e t l o r && decide (1 < k) then some (k - 1) else none, result := some (o, r) } } }) := by
  show execBusyRepresent e t o o2 s = _
  simp only [execBusyRepresent, hl, hk, hres, State.updLoad_of_together ht]
  rw [hr, if_pos (show readCollides .collided = true from rfl)]
  have hload : (s.thr e t).lsu.load = some l := State.load_of_loadOf hl
  exact congrArg _ (State.updThr_congr (by simp only [hload, Option.map_some]))

theorem busyReadsArePresentedAgain : Claims.BusyReadsArePresentedAgain := by
  intro s e t l o2 h h2 ht hs hl hn hr upd
  have hx := fun o => exec_loadComplete_companion o o2 h h2 hl hn hr
  have hself : (if readCollides o2 then o2 else o2) = o2 := ite_self o2
  refine ⟨fun htr hres => ?_, fun k htr hres => ⟨fun hk => ?_, fun hk => ?_, ?_⟩, fun htr hres hw => ?_, fun htr hres => ?_⟩
  · rw [hx]
    simp only [htr, hres, State.busyAt_collided hn hr, if_true, State.updLoad_of_together ht]
    rfl
  · rw [exec_busyRepresent_load _ _ ht hl htr hres hself, State.busyAt_collided hn hr, decide_eq_true hk]
    rfl
  · rw [exec_busyRepresent_load _ _ ht hl htr hres hself, State.busyAt_collided hn hr, decide_eq_false (Nat.not_lt.mpr hk)]
    rfl
  · rw [exec_busyRepresent_load _ _ ht hl htr hres hself, State.busyAt_ok hn hr]
    rfl
  · rw [hx]
    simp only [htr, hres]
    rw [State.finishLoad, State.loadRead_single _ _ _ _ hn]
    simp only [State.busRead_companion _ hr hw, State.effRead_companion_ok hr hw]
    exact congrArg _ (State.deliver_load (.refl e s) ht hs hl false false _ none)
  · rw [hx]
    simp only [htr, hres]
    rw [State.finishLoad, State.loadRead_single _ _ _ _ hn]
    simp only [State.busRead_companion_collided _ hr, State.effRead_companion_collided hr, State.warned, hr, decide_true, Bool.true_or]
    exact congrArg _ (State.deliver_load (u := s.takeFree) ⟨rfl, rfl, rfl, rfl⟩ ht hs hl false true _ none)
end

/-- Settles O35: the snapshot's words and its naming, the companion port's accesses, and the loads that meet them. -/
theorem snapshotsAndCompanionPort : Obligations.SnapshotsAndCompanionPort :=
  ⟨snapshotsAreWrittenThenNamed, companionPortReadsAndWrites, busyReadsArePresentedAgain⟩

end Sys2Proof.Machine

namespace Sys2Proof.Machine

/-! ### O36: trip lines (R301, R456)

The edge of a pin that an event selects toggles the event line of an engine whose cluster is clocked. In a clock-gated cluster the pending
bits run in the fabric clock and take the event themselves (R456), so that the event line does not toggle; the statement says that it does
at every engine. -/

/-- Cluster 1 is clock-gated in RUN, and event 0 selects the rising edge of pin 0. -/
def gatedPinEvent : State :=
  ({ State.reset with dev := { phase := .run, safe := false, tethered := true } }.setReg (pioBase + 0x10) 0x400).updClu 1
    fun x => { x with gated := true }

theorem gatedPinEvent_selects :
    gatedPinEvent.inputsOk = true ∧ gatedPinEvent.trip.pio.getLsbD (0 : BitVec 6).toNat ≠ true ∧
      bitsAt (gatedPinEvent.reg (pioBase + 0x10 + 0)) 0 6 = (0 : BitVec 6).toNat ∧ gatedPinEvent.regB (pioBase + 0x10 + 0) 10 = true := by
  decide +kernel

/-- The event becomes pending in engine 8, whose event line stays as it was. -/
theorem gatedPinEvent_line :
    ((stateAfter gatedPinEvent (exec (.pioEvent 0 true) gatedPinEvent)).eng 8).lineIn = 0 ∧
      ((stateAfter gatedPinEvent (exec (.pioEvent 0 true) gatedPinEvent)).eng 8).ipend.getLsbD 16 = true := by
  decide +kernel

/-- Refutes O36: in `gatedPinEvent` the event of pin 0 leaves the event line of engine 8, whose cluster is clock-gated. -/
theorem not_tripLines : ¬ Obligations.TripLines := by
  rintro ⟨-, harrive, -⟩
  obtain ⟨hin, hpio, hcode, hedge⟩ := gatedPinEvent_selects
  obtain ⟨-, -, -, hevent, -⟩ := harrive gatedPinEvent 0 0 true 0 0
  obtain ⟨u, hu, -, hline⟩ := hevent hin (by decide) hpio
  have h8 := hline 8 0 (by decide) hcode hedge
  have hl := gatedPinEvent_line.1
  rw [hu] at hl
  rw [show (u.eng 8).lineIn = 0 from hl] at h8
  exact absurd h8 (by decide)

end Sys2Proof.Machine

namespace Sys2Proof.Machine

/-! ### O42: the watchdog (R115, R347, R456)

An expiry makes line 13 of every selvedge engine pending: by a toggle of its event line where its cluster is clocked, and in the pending bits
themselves where it is clock-gated (R456). The statement speaks of the event line alone, and of every state: it does not exclude those whose
cluster 0 is clock-gated, which no run reaches (CLUSTER_GATE gates the other clusters alone). -/

/-- Engine 0 is a selvedge engine of a clock-gated cluster, and the watchdog's normal period has expired. -/
def gatedExpiry : State :=
  (({ State.reset with
    dev := { phase := .run, safe := false, tethered := true }
    wdg := { State.reset.wdg with running := true, i := 0xFFFFFF } }).setReg selBase 0x003).updClu 0 fun x => { x with gated := true }

theorem gatedExpiry_due : gatedExpiry.wdgExpired = true ∧ gatedExpiry.wdg.grace = false ∧ gatedExpiry.isSel 0 = true := by decide +kernel

/-- Line 13 becomes pending in engine 0, whose event line stays as it was. -/
theorem gatedExpiry_line :
    ((stateAfter gatedExpiry (exec .wdgPeriodExpiry gatedExpiry)).eng 0).lineIn = 0 ∧
      ((stateAfter gatedExpiry (exec .wdgPeriodExpiry gatedExpiry)).eng 0).ipend.getLsbD 13 = true := by
  decide +kernel

/-- Refutes O42: in `gatedExpiry` the expiry leaves the event line of engine 0, whose cluster is clock-gated. -/
theorem not_watchdog : ¬ Obligations.Watchdog := by
  rintro ⟨-, hexpires, -⟩
  obtain ⟨hdue, hgrace, hsel⟩ := gatedExpiry_due
  obtain ⟨u, hu, -, -, -, -, -, -, hline⟩ := (hexpires gatedExpiry false).1 hdue hgrace
  have h13 := hline 0 hsel
  have hl := gatedExpiry_line.1
  rw [hu] at hl
  rw [show (u.eng 0).lineIn = 0 from hl] at h13
  exact absurd h13 (by decide)

end Sys2Proof.Machine

namespace Sys2Proof.Machine

/-! ### What a descriptor in execution is, and how it goes on (R411 to R415) -/

section
variable {s : State} {n : Fin 8} {x : Exec}

@[simp] theorem State.updSq_sq (s : State) (n : Fin 8) (f : Sq → Sq) : (s.updSq n f).sq n = f (s.sq n) :=
  upd_self s.sht.sq n f

theorem State.updSq_congr {f g : Sq → Sq} (h : f (s.sq n) = g (s.sq n)) : s.updSq n f = s.updSq n g := by
  have hu : upd s.sht.sq n f = upd s.sht.sq n g := congrArg (s.sht.sq.set n.val · n.isLt) h
  simp only [State.updSq, State.updSht, hu]

theorem State.executing_of (h : (s.sq n).exec = some x) (hs : x.status = none) {k : Nat} (hk : x.d.opc.toNat = k) : s.executing n k = some x := by
  simp [State.executing, h, hs, hk]

theorem State.updExec_exec (h : (s.sq n).exec = some x) (f : Exec → Exec) : ((s.updExec n f).sq n).exec = some (f x) := by
  rw [State.updExec, State.updSq_sq]
  simp [h]

theorem State.finishDesc_exec (h : (s.sq n).exec = some x) (status : BitVec 16) (result : BitVec 32) :
    ((s.finishDesc n status result).sq n).exec = some { x with status := some (status, result) } :=
  State.updExec_exec h _

theorem State.partialDesc_eq (reason datum : Nat) :
    s.partialDesc n reason datum = s.updExec n fun x => { x with status := some (1, BitVec.ofNat 32 (reason * 2 ^ 24 + datum % 2 ^ 24)) } := rfl

theorem State.progress_exec (h : (s.sq n).exec = some x) (k : Nat) : ((s.progress n k).sq n).exec = some { x with prog := x.prog + k } :=
  State.updExec_exec h _

/-- A change of the descriptor in execution is a change of that descriptor. -/
theorem State.updExec_eq (h : (s.sq n).exec = some x) (f : Exec → Exec) :
    s.updExec n f = s.updSq n fun q => { q with exec := some (f x) } := by
  exact State.updSq_congr (by rw [h]; rfl)

end

/-! ### O52: messages (R92, R326, R411, R414) -/

/-- The mailboxes of the engine take words: it runs, its cluster is not isolated, and none waits at the delivery point. -/
structure State.TakesMail (s : State) (e : Eng) : Prop where
  together : s.together e = true
  still : s.still e = false
  held : (s.eng e).held = []
  run : s.inRun = true
  en : s.engEn e = true
  locked : (s.eng e).locked = false
  iso : (s.clu e.cluster).iso = false

section
variable {s : State} {e : Eng} {b : Fin 4} {n : Fin 8}

theorem State.TakesMail.updExec (h : s.TakesMail e) (f : Exec → Exec) : (s.updExec n f).TakesMail e :=
  ⟨h.together, h.still, h.held, h.run, h.en, h.locked, h.iso⟩

theorem State.TakesMail.takeMail (h : s.TakesMail e) (w : MailWord) : (s.updEng e fun x => x.takeMail b w).TakesMail e := by
  refine ⟨(State.together_updEng (by exact rfl)).trans h.together, (State.still_updEng (by exact rfl)).trans h.still, ?_, h.run, h.en, ?_, h.iso⟩
  · rw [State.updEng_eng]; exact h.held
  · rw [State.updEng_eng]; exact h.locked

/-- A mailbox with room takes a word. -/
theorem State.mailWord_room (h : s.TakesMail e) (out : Bool) (v origin : Word) (hr : ((s.eng e).mbox[b.val]).length < 16) :
    s.mailWord e b out v origin = some (s.updEng e fun x => x.takeMail b ⟨v, origin⟩) := by
  have hc : (s.eng e).mailCount b = ((s.eng e).mbox[b.val]).length := by simp [Engine.mailCount, h.held]
  have he : s.mailEnd e b out = .delivered := by
    simp [State.mailEnd, h.run, h.en, h.locked, h.iso, hc, hr]
  rw [State.mailWord, if_pos he, State.deliver_of_together h.together h.still (by simp)]
  rfl

/-- A full mailbox, and one of an isolated cluster, takes no word of the host's. -/
theorem State.mailWord_refused (hh : (s.eng e).held = []) (v origin : Word) (hr : 16 ≤ ((s.eng e).mbox[b.val]).length ∨ (s.clu e.cluster).iso = true) :
    s.mailWord e b true v origin = none := by
  have hc : (s.eng e).mailCount b = ((s.eng e).mbox[b.val]).length := by simp [Engine.mailCount, hh]
  rw [State.mailWord, if_neg]
  unfold State.mailEnd
  rw [hc]
  rcases hr with hr | hr
  · rw [if_pos hr]
    split <;> decide
  · simp [hr]


/-- The word of a message as its mailbox keeps it (R92). -/
def hostWord (n : Fin 8) (c : Container) : MailWord := ⟨c.setWidth 12, fld 10 1 ||| fld 0 n.val⟩

theorem hostWord_eq (n : Fin 8) (c : Container) : hostWord n c = ⟨c.setWidth 12, BitVec.ofNat 12 (0x400 + n.val)⟩ := by
  have h : ∀ n : Fin 8, (fld 10 1 ||| fld 0 n.val : Word) = BitVec.ofNat 12 (0x400 + n.val) := by decide
  rw [hostWord, h]

/-- One word of a message has entered its mailbox. -/
def State.delivered (s : State) (n : Fin 8) (e : Eng) (b : Fin 4) (c : Container) : State :=
  ((s.updEng e fun x => x.takeMail b (hostWord n c)).progress n 1).updExec n fun x => { x with refused := none }

theorem State.delivered_eng (c : Container) : (s.delivered n e b c).eng e = (s.eng e).takeMail b (hostWord n c) :=
  State.updEng_eng s e fun x => x.takeMail b (hostWord n c)

theorem State.TakesMail.delivered (h : s.TakesMail e) (c : Container) : (s.delivered n e b c).TakesMail e :=
  ((h.takeMail (hostWord n c)).updExec _).updExec _

theorem Engine.takeMail_mbox (y : Engine) (b : Fin 4) (w : MailWord) : (y.takeMail b w).mbox[b.val] = y.mbox[b.val] ++ [w] :=
  upd_self y.mbox b _

theorem Engine.takeMail_pend (y : Engine) (b : Fin 4) (w : MailWord) : (y.takeMail b w).ipend.getLsbD (8 + b.val) = true := by
  have hb := b.isLt
  simp only [Engine.takeMail, Engine.pend, BitVec.getLsbD_or, BitVec.getLsbD_ofNat, Nat.testBit_two_pow_self, Bool.and_true]
  simp
  omega

theorem State.delivered_exec {x : Exec} (h : (s.sq n).exec = some x) (c : Container) :
    ((s.delivered n e b c).sq n).exec = some { x with prog := x.prog + 1, refused := none } :=
  State.updExec_exec (State.progress_exec (s := s.updEng e _) h 1) _

theorem State.deliverMsg_cons {i : BitVec 8} {c : Container} (rest : List Container) (hm : s.TakesMail (mailEng i)) (hc : c.toNat < 4096)
    (hr : ((s.eng (mailEng i)).mbox[(mailBox i).val]).length < 16) :
    s.deliverMsg n i (c :: rest) = (s.delivered n (mailEng i) (mailBox i) c).deliverMsg n i rest := by
  rw [State.deliverMsg, if_neg (by simp [plainWord, hc]), State.mailWord_room hm _ _ _ hr]
  rfl

/-- A mailbox with room takes the words of a message, in order, and the descriptor is done. -/
theorem State.deliverMsg_room {i : BitVec 8} (words : List Container) {x : Exec} (hm : s.TakesMail (mailEng i)) (hx : (s.sq n).exec = some x)
    (hp : ∀ c ∈ words, c.toNat < 4096) (hr : ((s.eng (mailEng i)).mbox[(mailBox i).val]).length + words.length ≤ 16) :
    let u := s.deliverMsg n i words
    (u.eng (mailEng i)).mbox[(mailBox i).val] = (s.eng (mailEng i)).mbox[(mailBox i).val] ++ words.map (hostWord n) ∧
      (((s.eng (mailEng i)).ipend.getLsbD (8 + (mailBox i).val) = true ∨ words ≠ []) →
        (u.eng (mailEng i)).ipend.getLsbD (8 + (mailBox i).val) = true) ∧ u.mem = s.mem ∧ u.regs = s.regs ∧
      (u.sq n).exec = some { x with prog := x.prog + words.length, refused := if words = [] then x.refused else none, status := some (0, 0) } := by
  induction words generalizing s x with
  | nil =>
    refine ⟨(List.append_nil _).symm, fun h => ?_, rfl, rfl, ?_⟩
    · rcases h with h | h
      · exact h
      · exact absurd rfl h
    · exact State.finishDesc_exec hx 0 0
  | cons c rest ih =>
    rw [List.length_cons] at hr
    have hbox : (((s.delivered n (mailEng i) (mailBox i) c).eng (mailEng i)).mbox[(mailBox i).val]) =
        (s.eng (mailEng i)).mbox[(mailBox i).val] ++ [hostWord n c] := by
      rw [State.delivered_eng, Engine.takeMail_mbox]
    obtain ⟨hb, hi, hmem, hregs, he⟩ := ih (hm.delivered c) (State.delivered_exec hx c) (fun d hd => hp d (List.mem_cons_of_mem c hd))
      (by rw [hbox, List.length_append, List.length_singleton]; omega)
    intro u
    have hu : u = (s.delivered n (mailEng i) (mailBox i) c).deliverMsg n i rest :=
      State.deliverMsg_cons rest hm (hp c List.mem_cons_self) (by omega)
    rw [hu]
    refine ⟨?_, fun _ => hi (.inl ?_), hmem, hregs, ?_⟩
    · rw [hb, hbox, List.map_cons, List.append_assoc]
      rfl
    · rw [State.delivered_eng, Engine.takeMail_pend]
    · rw [he, List.length_cons, if_neg (List.cons_ne_nil c rest), ite_self, Nat.add_assoc, Nat.add_comm 1]

end

/-- The first offer of a message's words. -/
theorem exec_msg {s : State} {n : Fin 8} {x : Exec} (h : s.executing n 3 = some x) (hr : x.refused = none) :
    exec (.msg n) s = .next (s.deliverMsg n (x.d.daddr.setWidth 8) x.words) := by
  show execMsg n s = _
  simp [execMsg, h, hr]

section
variable {s : State} {n : Fin 8} {x : Exec} {us : Nat}

/-- A refused word that its mailbox takes when it is offered again. -/
theorem exec_mailboxRetry_taken {u : State} (h : s.executing n 3 = some x) (hr : x.refused = some us)
    (hm : s.mailWord (mailEng (x.d.daddr.setWidth 8)) (mailBox (x.d.daddr.setWidth 8)) true ((x.words.headD 0).setWidth 12)
      (fld 10 1 ||| fld 0 n.val) = some u) :
    exec (.mailboxRetry n) s = .next (s.deliverMsg n (x.d.daddr.setWidth 8) x.words) := by
  show execMailboxRetry n s = _
  simp only [execMailboxRetry, h, hr, hm]

/-- A refused word that is refused again. -/
theorem exec_mailboxRetry_refused (h : s.executing n 3 = some x) (hr : x.refused = some us)
    (hm : s.mailWord (mailEng (x.d.daddr.setWidth 8)) (mailBox (x.d.daddr.setWidth 8)) true ((x.words.headD 0).setWidth 12)
      (fld 10 1 ||| fld 0 n.val) = none) :
    exec (.mailboxRetry n) s = .next (if s.regN (shtBase + 1) ≤ us + 1 then s.partialDesc n 5 (x.d.daddr.setWidth 8 : BitVec 8).toNat
      else s.updExec n fun x => { x with refused := some (us + 1) }) := by
  show execMailboxRetry n s = _
  simp only [execMailboxRetry, h, hr, hm]
  split <;> rfl

theorem State.deliverMsg_refused {i : BitVec 8} {c : Container} (rest : List Container) (hc : c.toNat < 4096)
    (hm : ∀ v origin, s.mailWord (mailEng i) (mailBox i) true v origin = none) :
    s.deliverMsg n i (c :: rest) = s.updExec n fun x => { x with refused := some 0 } := by
  rw [State.deliverMsg, if_neg (by simp [plainWord, hc]), hm]

end

theorem messagesWaitForTheirMailbox : Claims.MessagesWaitForTheirMailbox := by
  intro s n x hx hst hop i e b box words run set us hp hne hrun hen hlk ht hs hh
  have hex : s.executing n 3 = some x := State.executing_of hx hst (by rw [hop]; rfl)
  have hset : ∀ f : Exec → Exec, s.updExec n f = set (f x) := fun f => State.updExec_eq hx f
  have hrun0 : x.refused = none → run = .next (s.deliverMsg n i words) := fun hr => by
    show (if x.refused.isSome then _ else _) = _
    rw [hr]
    exact exec_msg hex hr
  have hrun1 : ∀ k, x.refused = some k → run = exec (.mailboxRetry n) s := fun k hr => by
    show (if x.refused.isSome then _ else _) = _
    rw [hr]
    rfl
  refine ⟨fun hiso hroom => ?_, fun hfull => ?_⟩
  · have hm : s.TakesMail (mailEng i) := ⟨ht, hs, hh, hrun, hen, hlk, hiso⟩
    obtain ⟨hb, hi, hmem, hregs, he⟩ := State.deliverMsg_room words hm hx hp hroom
    refine ⟨s.deliverMsg n i words, ?_, ?_, hi (.inr hne), hmem, hregs, ?_⟩
    · cases hr : x.refused with
      | none => exact hrun0 hr
      | some k =>
        have hlen : ((s.eng (mailEng i)).mbox[(mailBox i).val]).length < 16 := by
          have := List.length_pos_iff.mpr hne
          exact Nat.lt_of_lt_of_le (Nat.lt_add_of_pos_right this) hroom
        rw [hrun1 k hr]
        exact exec_mailboxRetry_taken hex hr (State.mailWord_room hm _ _ _ hlen)
    · simp only [← hostWord_eq]
      exact hb
    · rw [he, if_neg hne]
  · have hnone : ∀ v origin, s.mailWord (mailEng i) (mailBox i) true v origin = none := fun v origin =>
      State.mailWord_refused hh v origin hfull
    refine ⟨fun hr => ?_, fun hr hus => ?_, fun hr hus => ?_⟩
    · obtain ⟨c, rest, hw⟩ := List.exists_cons_of_ne_nil hne
      rw [hrun0 hr, hw, State.deliverMsg_refused rest (hp c (hw ▸ List.mem_cons_self)) hnone, hset]
    · obtain ⟨k, hk⟩ := Option.ne_none_iff_exists'.mp hr
      have huk : us = k := by simp only [us, hk, Option.getD_some]
      rw [hrun1 k hk, exec_mailboxRetry_refused hex hk (hnone _ _), if_neg (by rw [huk] at hus; exact Nat.not_le.mpr hus), hset, huk]
    · obtain ⟨k, hk⟩ := Option.ne_none_iff_exists'.mp hr
      have huk : us = k := by simp only [us, hk, Option.getD_some]
      rw [hrun1 k hk, exec_mailboxRetry_refused hex hk (hnone _ _), if_pos (by rw [huk] at hus; exact hus), State.partialDesc_eq,
        Nat.mod_eq_of_lt (Nat.lt_trans i.isLt (by decide)), hset]
end Sys2Proof.Machine

namespace Sys2Proof.Machine

/-! ### O52: what descriptors send (R396, R411 to R415) -/

theorem bytesOf_length (cs : List Container) : (bytesOf cs).length = 2 * cs.length := by
  induction cs with
  | nil => rfl
  | cons c cs ih =>
    have : bytesOf (c :: cs) = c.setWidth 8 :: (c >>> 8).setWidth 8 :: bytesOf cs := rfl
    rw [this, List.length_cons, List.length_cons, ih, List.length_cons]
    omega

/-- The bytes of the container at a place, low byte first. -/
theorem bytesOf_get (cs : List Container) {k : Nat} (h : k < cs.length) :
    (bytesOf cs)[2 * k]? = some (cs[k].setWidth 8) ∧ (bytesOf cs)[2 * k + 1]? = some ((cs[k] >>> 8).setWidth 8) := by
  induction cs generalizing k with
  | nil => exact absurd h (Nat.not_lt_zero k)
  | cons c cs ih =>
    have hc : bytesOf (c :: cs) = c.setWidth 8 :: (c >>> 8).setWidth 8 :: bytesOf cs := rfl
    rw [hc]
    cases k with
    | zero => exact ⟨rfl, rfl⟩
    | succ k =>
      rw [show 2 * (k + 1) = 2 * k + 1 + 1 from rfl]
      simpa using ih (Nat.lt_of_succ_lt_succ h)

/-- The words went out as host-side words, from a host address on. -/
def State.sentWords (u : State) (a : Nat) (ws : List Word) : Prop :=
  u.sht.hostOut.map Prod.fst = [a] ∧ (u.sht.hostOut.flatMap Prod.snd).length = 2 * ws.length ∧
    ∀ k, ∀ h : k < ws.length, (u.sht.hostOut.flatMap Prod.snd)[2 * k]? = some (ws[k].setWidth 8) ∧
      (u.sht.hostOut.flatMap Prod.snd)[2 * k + 1]? = some ((ws[k] >>> 8).setWidth 8)

theorem State.sentWords_of {u : State} {a : Nat} {ws : List Word}
    (h : u.sht.hostOut = [(a, bytesOf (ws.map fun (w : Word) => w.setWidth 16))]) : u.sentWords a ws := by
  have hf : u.sht.hostOut.flatMap Prod.snd = bytesOf (ws.map fun (w : Word) => w.setWidth 16) := by simp [h]
  refine ⟨by simp [h], by rw [hf, bytesOf_length, List.length_map], fun k hk => ?_⟩
  obtain ⟨hlo, hhi⟩ := bytesOf_get (ws.map fun (w : Word) => w.setWidth 16) (k := k) (by rwa [List.length_map])
  rw [hf, hlo, hhi, List.getElem_map]
  refine ⟨congrArg _ ?_, congrArg _ ?_⟩
  · apply BitVec.eq_of_toNat_eq
    simp
  · apply BitVec.eq_of_toNat_eq
    simp [Nat.shiftRight_eq_div_pow]
    omega

section
variable {s : State} {n : Fin 8} {x : Exec}

theorem exec_gaugeRead (hc : s.canSend = true) (h : s.executing n 4 = some x) {g : Fin 32} (hg : x.d.daddr.toNat = g.val) :
    exec (.gaugeRead n) s = .next (((s.sendWords x.d.haddr.toNat ((List.range 40).map fun k => s.readReg (monBase g + 8 + k))).progress n 40).finishDesc
      n 0 ((s.readReg (monBase g + 8)).setWidth 32)) := by
  have hb : (⟨x.d.daddr.toNat % 32, by omega⟩ : Fin 32) = g := Fin.ext (by simp [hg, Nat.mod_eq_of_lt g.isLt])
  show execGaugeRead n s = _
  simp only [execGaugeRead, hc, if_true, h, hb]

/-- No cluster answers for an address above the registers. -/
theorem State.cutOff_above {m : Master} {a : Addr} (h : 0x850000 ≤ a.toNat) : s.cutOff m a = false := by
  have h1 : rng a.toNat 0x804000 0x805FFF = false := by simp [rng]; omega
  have h2 : rng a.toNat 0x820000 0x823FFF = false := by simp [rng]; omega
  have h3 : memClu a = none := by grind [memClu, regionOf, Region.bank]
  simp [State.cutOff, blockClu, h1, h2, h3]

/-- A word of a record that is read from the RAM ring, or comes from the NV memory. -/
theorem State.effRead_ring (q : BitVec 36) {j : Nat} (hj : j < 16) (hw : s.wordGood (BitVec.ofNat 24 (slotAddr q + j)) = true) (m : Master) :
    s.effRead m [BitVec.ofNat 24 (slotAddr q + j)] .ok = .ok := by
  have ha : 0x850000 ≤ (BitVec.ofNat 24 (slotAddr q + j)).toNat := by
    have hq : q.toNat % 512 < 512 := Nat.mod_lt _ (by decide)
    rw [BitVec.toNat_ofNat, Nat.mod_eq_of_lt (by unfold slotAddr; omega)]
    unfold slotAddr
    omega
  rw [State.effRead_ok m (by simpa using hw)]
  simp [State.cutOff_above ha]

/-- A record whose words are good is read to its end. -/
theorem State.readRing_good (m : Master) (q : BitVec 36) (hw : ∀ k, k < 16 → s.wordGood (BitVec.ofNat 24 (slotAddr q + k)) = true) {j k : Nat}
    (hk : j + k ≤ 16) : s.readRing m q (fun _ => .ok) j k = (j + k, none, s) := by
  induction k generalizing j with
  | zero => rfl
  | succ k ih =>
    have hp : q + BitVec.ofNat 36 (j / 16) = q := by
      rw [Nat.div_eq_of_lt (by omega)]
      simp
    have hr := State.effRead_ring q (show j < 16 by omega) (hw j (by omega)) m
    rw [State.readRing]
    simp only [hp, Nat.mod_eq_of_lt (show j < 16 by omega), hr, ite_self, readGood, if_true, State.countRead, ih (show j + 1 + k ≤ 16 by omega)]
    rw [Nat.add_right_comm, Nat.add_assoc]


/-- The words of a record, or that it is absent. -/
theorem State.lookUp_one (q : BitVec 36) :
    s.lookUp q 1 = match s.findRecord q with
      | none => ([], some q)
      | some w => (w.toList, none) := by
  rw [State.lookUp]
  cases s.findRecord q with
  | none => rfl
  | some w => simp [State.lookUp]

/-- The record that a REC_READ of one record names. -/
def Exec.recordSeq (x : Exec) : BitVec 36 := handleOf (x.d.param[0].setWidth 12) (x.d.param[1].setWidth 12) (x.d.param[2].setWidth 12)

theorem Exec.seq_plain (h : ∀ k : Fin 3, (x.d.param[k.val]).toNat < 4096) : ((x.d.param.toList.take 3).find? fun c => !plainWord c) = none := by
  rw [List.find?_eq_none]
  intro c hc
  obtain ⟨i, hi, rfl⟩ := List.mem_iff_getElem.mp hc
  rw [List.length_take] at hi
  have := h ⟨i, by omega⟩
  simpa [plainWord] using this

/-- The state in which a REC_READ has looked its record up at the recorder's SPI port. -/
def State.lookedUp (s : State) (q : BitVec 36) : State := s.updRcd fun y => y.sent (s.readsFrom q 1)

theorem State.wordGood_lookedUp (q : BitVec 36) (a : Addr) : (s.lookedUp q).wordGood a = s.wordGood a := by
  simp only [State.lookedUp, State.updRcd, Recorder.sent]
  split <;> rfl

theorem State.sendWords_exec (h : (s.sq n).exec = some x) (a : Nat) (ws : List Word) : ((s.sendWords a ws).sq n).exec = some x := h

theorem State.lookedUp_exec (h : (s.sq n).exec = some x) (q : BitVec 36) : ((s.lookedUp q).sq n).exec = some x := h

/-- What a REC_READ of one record does once it has looked the record up. -/
theorem exec_recRead_one (hc : s.canSend = true) (h : s.executing n 5 = some x) (hn : x.d.count = 1)
    (hp : ∀ k : Fin 3, (x.d.param[k.val]).toNat < 4096) {ws : List Word} {absent : Option (BitVec 36)}
    (hl : s.lookUp x.recordSeq 1 = (ws, absent))
    (hr : (s.lookedUp x.recordSeq).readRing .shuttle x.recordSeq (fun _ => .ok) 0 ws.length = (ws.length, none, s.lookedUp x.recordSeq)) :
    exec (.recRead n .none) s =
      .next (State.doRecRead.finish n (((s.lookedUp x.recordSeq).sendWords x.d.haddr.toNat ws).progress n ws.length) absent) := by
  have hcount : x.d.count.toNat = 1 := by rw [hn]; rfl
  have hq : handleOf (x.d.param[0].setWidth 12) (x.d.param[1].setWidth 12) (x.d.param[2].setWidth 12) = x.recordSeq := rfl
  have hu : (s.updRcd fun y => y.sent (s.readsFrom x.recordSeq 1)) = s.lookedUp x.recordSeq := rfl
  have hends : (fun j => ((stopRead XferStop.none).bind fun p => if p.1 = j then some p.2 else none).getD ReadOutcome.ok) = fun _ => .ok := rfl
  show execRecRead n .none s = _
  simp only [execRecRead, hc, if_true, h, State.doRecRead, Exec.seq_plain hp, hq, hcount, hl, hu, hends, hr]

theorem exec_recRead_found (hc : s.canSend = true) (h : s.executing n 5 = some x) (hn : x.d.count = 1)
    (hp : ∀ k : Fin 3, (x.d.param[k.val]).toNat < 4096) {w : Vector Word 16} (hf : s.findRecord x.recordSeq = some w)
    (hg : ∀ k, k < 16 → s.wordGood (BitVec.ofNat 24 (slotAddr x.recordSeq + k)) = true) :
    exec (.recRead n .none) s =
      .next ((((s.lookedUp x.recordSeq).sendWords x.d.haddr.toNat w.toList).progress n 16).finishDesc n 0 0) := by
  have hg' : ∀ k, k < 16 → (s.lookedUp x.recordSeq).wordGood (BitVec.ofNat 24 (slotAddr x.recordSeq + k)) = true := fun k hk =>
    (State.wordGood_lookedUp _ _).trans (hg k hk)
  have hlen : w.toList.length = 16 := w.length_toList
  have hring := State.readRing_good (s := s.lookedUp x.recordSeq) .shuttle x.recordSeq hg' (j := 0) (k := w.toList.length) (by omega)
  rw [Nat.zero_add] at hring
  rw [exec_recRead_one hc h hn hp (by rw [State.lookUp_one, hf]) hring, hlen]
  rfl

theorem exec_recRead_absent (hc : s.canSend = true) (h : s.executing n 5 = some x) (hn : x.d.count = 1)
    (hp : ∀ k : Fin 3, (x.d.param[k.val]).toNat < 4096) (hf : s.findRecord x.recordSeq = none) :
    exec (.recRead n .none) s =
      .next ((((s.lookedUp x.recordSeq).sendWords x.d.haddr.toNat []).progress n 0).partialDesc n 6 x.recordSeq.toNat) := by
  rw [exec_recRead_one hc h hn hp (by rw [State.lookUp_one, hf]) rfl]
  rfl
end

section
variable {s : State} {n : Fin 8} {x : Exec}

theorem exec_recClear (h : s.executing n 6 = some x) :
    exec (.recClear n) s = .next (if s.rcd.clearingFor n then s else s.armClear n) := by
  show execRecClear n s = _
  simp only [execRecClear, h]
  split <;> rfl

theorem exec_fence (h : s.executing n 8 = some x) : exec (.fence n) s = .next (if x.wait = 0 then s.finishDesc n 0 0 else s) := by
  show execFence n s = _
  simp only [execFence, h]
  split <;> rfl

/-- A refused clear ends its descriptor with the reason, and arms none. -/
theorem State.refuseClear_ends (h : (s.sq n).exec = some x) (reason : Nat) :
    ((s.refuseClear n reason).sq n).exec = some { x with prog := x.prog + 0, status := some (9, BitVec.ofNat 32 reason) } ∧
      (s.refuseClear n reason).rcd.armed = s.rcd.armed := by
  refine ⟨State.finishDesc_exec (s := s.logRec 9 (BitVec.ofNat 7 reason) (BitVec.ofNat 12 n.val) 0) h 9 _, ?_⟩
  show (s.logRec 9 (BitVec.ofNat 7 reason) (BitVec.ofNat 12 n.val) 0).rcd.armed = _
  simp only [State.logRec, State.updRcd]
  split <;> rfl

end

theorem gaugeRecordClearAndFence : Claims.GaugeRecordClearAndFence := by
  intro s n x hx hst ends sent p q
  have hex : ∀ k, x.d.opc.toNat = k → s.executing n k = some x := fun k hk => State.executing_of hx hst hk
  refine ⟨fun hop hc g hg => ?_, fun hop hc hn hp => ⟨fun w hf hgood => ?_, fun hf => ?_⟩, fun hop hcl => ?_, fun hop hcl => ?_,
    fun hop hw => ?_, fun hop hw => ?_⟩
  · refine ⟨_, exec_gaugeRead hc (hex 4 (by rw [hop]; rfl)) hg, ?_, State.sentWords_of rfl, rfl, rfl⟩
    exact State.finishDesc_exec (State.progress_exec (State.sendWords_exec hx _ _) 40) 0 _
  · refine ⟨_, exec_recRead_found hc (hex 5 (by rw [hop]; rfl)) hn hp hf hgood, ?_, State.sentWords_of rfl⟩
    exact State.finishDesc_exec (State.progress_exec (State.sendWords_exec (State.lookedUp_exec hx _) _ _) 16) 0 _
  · refine ⟨_, exec_recRead_absent hc (hex 5 (by rw [hop]; rfl)) hn hp hf, ?_⟩
    exact State.finishDesc_exec (State.progress_exec (State.sendWords_exec (State.lookedUp_exec hx _) _ _) 0) 1 _
  · rw [exec_recClear (hex 6 (by rw [hop]; rfl)), if_pos hcl]
  · intro used why
    have hrun : exec (.recClear n) s = .next (s.armClear n) := by
      rw [exec_recClear (hex 6 (by rw [hop]; rfl)), if_neg (by rw [hcl]; exact Bool.false_ne_true)]
    have hwhy : ∀ reason, s.armClear n = s.refuseClear n reason → why reason := fun reason ha =>
      ⟨_, ha ▸ hrun, State.refuseClear_ends hx reason⟩
    refine ⟨fun hs => hwhy 1 ?_, fun hs ho => hwhy 2 ?_, fun hs ho ha => hwhy 5 ?_, fun hs ho ha he => ⟨fun hu => hwhy 6 ?_, fun hu => ?_⟩⟩
    · simp only [State.armClear, hs, if_true]
    · simp only [State.armClear, hs, ho, Bool.not_false, Bool.false_eq_true, if_false, if_true]
    · have hb : (s.rcd.armed.isSome || s.rcd.erase) = true := by
        rcases ha with ha | ha
        · rw [Option.isSome_iff_ne_none.mpr ha, Bool.true_or]
        · rw [ha, Bool.or_true]
      simp only [State.armClear, hs, ho, Bool.not_true, Bool.false_eq_true, if_false, if_pos hb]
    · simp only [State.armClear, hs, ho, ha, he, Option.isSome_none, Bool.or_false, Bool.not_true, Bool.false_eq_true, if_false]
      exact if_pos hu
    · rw [hrun]
      simp only [State.armClear, hs, ho, ha, he, Option.isSome_none, Bool.or_false, Bool.not_true, Bool.false_eq_true, if_false]
      exact congrArg _ (if_neg (Nat.not_le.mpr hu))
  · exact ⟨_, (exec_fence (hex 8 (by rw [hop]; rfl))).trans (by rw [if_pos hw]), State.finishDesc_exec hx 0 0⟩
  · rw [exec_fence (hex 8 (by rw [hop]; rfl)), if_neg hw]
end Sys2Proof.Machine

namespace Sys2Proof.Machine

/-! ### O52: transfers that time out (R80, R171, R182, R185, R388, R414) -/

section
variable {s u : State} {e : Eng} {t : Thr} {l : Load} {n : Fin 8} {x : Exec} {m : Master} {a : Addr}

/-- An event at a source that sets no line reaches no engine. -/
theorem State.raiseBy_updEng (q : Option Requester) {k : Fin 160} (cause : BitVec 7) (payload : DWord) (hk : rng k.val 100 103 = false)
    (f : Engine → Engine) : (s.updEng e f).raiseBy q k cause payload = (s.raiseBy q k cause payload).updEng e f := by
  have hup : (s.updEng e f).up = s.up := rfl
  have hsrc : (s.updEng e f).src k = s.src k := rfl
  simp only [State.raiseBy, hup, hsrc, hk, Bool.false_eq_true, if_false]
  split
  · rfl
  · split <;> rfl

theorem State.raiseBy_exec (h : (s.sq n).exec = some x) (q : Option Requester) {k : Fin 160} (cause : BitVec 7) (payload : DWord)
    (hk : rng k.val 100 103 = false) : ((s.raiseBy q k cause payload).sq n).exec = some x := by
  simp only [State.raiseBy, hk, Bool.false_eq_true, if_false]
  split
  · exact h
  · split
    · exact h
    · exact h

/-- What a load that fails leaves of its thread (R80). -/
theorem State.loadFailed_thr (rpl busy : Bool) (cause : BitVec 6) (va : Addr) :
    ((s.updThr e t fun x => { x with lsu := x.lsu.loadFailed rpl busy cause va }).thr e t).lsu.load = none ∧
      ((s.updThr e t fun x => { x with lsu := x.lsu.loadFailed rpl busy cause va }).thr e t).lsu.fault = some (cause, va) := by
  simp [State.thr, State.updThr, Engine.thr, Engine.updThr, LsuState.loadFailed]

theorem State.effRead_timeout (hc : s.cutOff m a = false) (hw : crossesWeft m a = true) (hr : regionOf a ≠ .host) :
    s.effRead m [a] .timeout = .timeout := by
  simp [State.effRead, hc, hw, hr]

/-- A read over the weft that is never answered. -/
theorem State.busRead_timeout (hh : HostRead) (hc : s.cutOff m a = false) (hrf : s.refuses m a false = false) (hw : crossesWeft m a = true)
    (hr : regionOf a ≠ .host) : s.busRead m a .timeout hh = (.failed 0x19, s.raiseBy (some (.master m)) 83 0x01 a) := by
  simp [State.busRead, hrf, State.effRead_timeout hc hw hr, readGood, readCause, State.countRead, outcomeWord]

/-- A load over the weft that is never answered. -/
theorem State.finishLoad_timeout (ht : s.together e = true) (hs : s.still e = false) (hl : s.loadOf e t = some l) (hn : l.second = none)
    (hc : s.cutOff (.engine e t l.machine) l.pa = false) (hrf : s.refuses (.engine e t l.machine) l.pa false = false)
    (hw : crossesWeft (.engine e t l.machine) l.pa = true) (hr : regionOf l.pa ≠ .host) :
    s.finishLoad e t l .timeout .timeout .abort .abort =
      (s.raiseBy (some (.master (.engine e t l.machine))) 83 0x01 l.pa).updThr e t fun x =>
        { x with lsu := x.lsu.loadFailed false false 0x19 l.va } := by
  rw [State.finishLoad, State.loadRead_single _ _ _ _ hn]
  simp only [State.busRead_timeout .abort hc hrf hw hr, State.effRead_timeout hc hw hr]
  exact State.deliver_loadFail (.raiseBy s e _ _ _ rfl) ht hs hl false false 0x19 l.va

/-- A window load that the host never answers. -/
theorem State.finishLoad_abort (ht : s.together e = true) (hs : s.still e = false) (hl : s.loadOf e t = some l) (hn : l.second = none)
    (hr : regionOf l.pa = .host) (hw : s.windowOk = true) :
    s.finishLoad e t l .ok .ok .abort .abort = ((s.askHost (s.hostAddr l.pa) 2).hostFault 0x02 0x10).updThr e t fun x =>
        { x with lsu := x.lsu.loadFailed false false 0x19 l.va } := by
  rw [State.finishLoad, State.loadRead_single _ _ _ _ hn]
  simp only [State.busRead_host .abort hr hw, effRead_host hr]
  exact State.deliver_loadFail ((State.AgreeAt.askHost s e _ _).trans (.hostFault _ e _ _)) ht hs hl false false 0x19 l.va

theorem exec_weftTransferTimeout_load (hl : s.loadOf e t = some l) (hn : l.second = none) (hw : crossesWeft (.engine e t l.machine) l.pa = true)
    (hr : regionOf l.pa ≠ .host) :
    exec (.weftTransferTimeout (.load e t)) s = .next (s.finishLoad e t l .timeout .timeout .abort .abort) := by
  show Host.Outcome.next (s.loadTimeout e t) = _
  simp [State.loadTimeout, hl, Load.words, hn, hw, hr]

theorem exec_completionTimeout_load (hl : s.loadOf e t = some l) (hr : regionOf l.pa = .host) (hw : s.windowOk = true) :
    exec (.completionTimeout (.load e t)) s = .next (s.finishLoad e t l .ok .ok .abort .abort) := by
  show execCompletionTimeout (.load e t) s = _
  simp [execCompletionTimeout, hl, hr, hw]

theorem exec_weftTransferTimeout_store {q : StoreEntry} {rest : List StoreEntry} (hs : s.still e = false) (h : (s.eng e).sbuf = q :: rest)
    (hq : q.sent = true) (hw : crossesWeft (.engine e q.t q.machine) q.pa = true) :
    exec (.weftTransferTimeout (.store e)) s = .next (s.performStore e q .timeout .ok) := by
  show Host.Outcome.next (s.storeTimeout e) = _
  simp [State.storeTimeout, hs, h, hq, hw]

theorem exec_weftTransferTimeout_copy (hx : (s.sq n).exec = some x) (hs : x.status = none) (ho : x.d.opc = 1) :
    exec (.weftTransferTimeout (.shuttle n)) s =
      .next ((s.raiseOf .shuttle 83 0x01 (BitVec.ofNat 24 (x.d.daddr.toNat + x.prog))).partialDesc n 1 (x.d.daddr.toNat + x.prog)) := by
  show Host.Outcome.next (s.shuttleTimeout n) = _
  simp [State.shuttleTimeout, hx, hs, ho]

theorem exec_completionTimeout_copy (hc : s.canSend = true) (h : s.executing n 1 = some x) :
    exec (.completionTimeout (.copy n [])) s = exec (.copyIn n [] (.host 0)) s := by
  show execCompletionTimeout (.copy n []) s = execCopyIn n [] (.host 0) s
  simp [execCompletionTimeout, execCopyIn, hc, h]

end

theorem transfersTimeOut : Claims.TransfersTimeOut := by
  intro s e t n ch second counted
  refine ⟨rfl, rfl, rfl, ?_, ?_, ?_⟩
  · intro l ht hs hl hn m hc hrf failed
    refine ⟨fun hd hw => ?_, fun hr hw => ?_⟩
    · have hnh := (isData_not hd).2.1
      refine ⟨_, (exec_weftTransferTimeout_load hl hn hw hnh).trans (congrArg _ (State.finishLoad_timeout ht hs hl hn hc hrf hw hnh)), ?_, ?_⟩
      · obtain ⟨h1, h2⟩ := State.loadFailed_thr (s := s.raiseBy (some (.master m)) 83 0x01 l.pa) (e := e) (t := t) false false 0x19 l.va
        exact ⟨h1, h2, by simp, by simp⟩
      · exact fun hu hwt => State.raiseBy_waiting _ 0x01 _ rfl hu hwt
    · refine ⟨_, (exec_completionTimeout_load hl hr hw).trans (congrArg _ (State.finishLoad_abort ht hs hl hn hr hw)), ?_, ?_⟩
      · obtain ⟨h1, h2⟩ := State.loadFailed_thr (s := (s.askHost (s.hostAddr l.pa) 2).hostFault 0x02 0x10) (e := e) (t := t) false false 0x19 l.va
        exact ⟨h1, h2, by simp [State.hostFault, State.askHost], by simp [State.hostFault, State.askHost]⟩
      · exact fun hu hwt => State.raiseBy_waiting (s := s.askHost (s.hostAddr l.pa) 2) none 0x02 _ rfl hu hwt
  · intro q rest ht hs hb hq hn hh m hd hc hrf hw
    have ho : s.effWrite (.engine e q.t q.machine) q.pa .timeout = .timeout := by
      simp only [State.effWrite]
      rw [hc, hw]
      rfl
    rw [exec_weftTransferTimeout_store hs hb hq hw, State.performStore_lost .ok ht hb hd hn hh ho rfl rfl (.raiseBy s e _ _ _ rfl), State.raiseOf,
      State.raiseBy_updEng _ _ _ rfl]
    rfl
  · intro x hx hst hop b
    refine ⟨⟨_, exec_weftTransferTimeout_copy hx hst hop, ?_, ?_⟩, fun hc _ _ => ?_⟩
    · exact State.finishDesc_exec (State.raiseBy_exec hx _ 0x01 _ rfl) 1 _
    · exact fun hu hwt => State.raiseBy_waiting _ 0x01 _ rfl hu hwt
    · exact exec_completionTimeout_copy hc (State.executing_of hx hst (by rw [hop]; rfl))

/-- Settles O52: messages and their mailbox, the descriptors that read, clear and wait, and the transfers that no one answers. -/
theorem otherDescriptorsAndTimeouts : Obligations.OtherDescriptorsAndTimeouts :=
  ⟨messagesWaitForTheirMailbox, gaugeRecordClearAndFence, transfersTimeOut⟩

end Sys2Proof.Machine

namespace Sys2Proof.Machine

/-! ### O20: mailboxes (R92, R115) -/

section
variable {s : State} {e d : Eng} {t : Thr} {b : Fin 4} {v : Word}

/-- A word of a thread that is alone on its way. -/
def State.onlyFlight (s : State) (e : Eng) (t : Thr) (d : Eng) (b : Fin 4) (v : Word) (r : Option SendEnd) : State :=
  { s with flights := [⟨e, t, d, b, v, r⟩] }

/-- The word arrives: what its mailbox answers starts back. -/
theorem exec_mailboxWordArrive (h : s.flights = [⟨e, t, d, b, v, none⟩]) {u : State}
    (hu : (s.mailWord d b (decide (e.cluster ≠ d.cluster)) v (BitVec.ofNat 12 e.val)).getD s = u) (hf : u.flights = s.flights) :
    exec (.mailboxWordArrive e t) s =
      .next (u.onlyFlight e t d b v (some (s.mailEnd d b (decide (e.cluster ≠ d.cluster))))) := by
  have hp : Flight.of e t false ⟨e, t, d, b, v, none⟩ = true := by simp [Flight.of]
  show execMailboxWordArrive e t s = _
  simp only [execMailboxWordArrive, h, List.find?_cons, hp, hu, hf, updFlight, if_true]
  rfl

theorem State.mailWord_none {out : Bool} {origin : Word} (h : s.mailEnd d b out ≠ .delivered) : s.mailWord d b out v origin = none := if_neg h

theorem State.mailWord_delivered {out : Bool} {w : Word} (h : s.mailEnd d b out = .delivered) (ht : s.together d = true) (hs : s.still d = false) :
    s.mailWord d b out v w = some (s.updEng d fun x => x.takeMail b ⟨v, w⟩) := by
  rw [State.mailWord, if_pos h, State.deliver_of_together ht hs (by simp)]
  rfl

/-- The mailbox's line is no event line: it pends at once. -/
theorem State.takeMail_setLine (ht : s.together d = true) (w : MailWord) :
    (s.updEng d fun y => { y with mbox := y.mbox.set b.val (y.mbox[b.val] ++ [w]) }).setLine d (8 + b.val) =
      s.updEng d fun x => x.takeMail b w := by
  have hb : eventLine (8 + b.val) = false := by revert b; decide
  rw [State.setLine, hb, Bool.false_and, if_neg Bool.false_ne_true, State.updLanes_of_together ((State.together_updEng rfl).trans ht),
    State.updEng_updEng]
  rfl

end

theorem mailboxesAreQueues : Claims.MailboxesAreQueues := by
  refine ⟨?_, ?_⟩
  · intro s e d t b v h q ended
    refine ⟨fun hr he hl ht hs hh ho => ?_, fun hdead => ?_⟩
    · have hc : (s.eng d).mailCount b = q.length := by simp [Engine.mailCount, hh, q]
      have hend : s.mailEnd d b (decide (e.cluster ≠ d.cluster)) = if 16 ≤ q.length then .full else .delivered := by
        rcases ho with ho | ho <;> simp [State.mailEnd, hr, he, hl, hc, ho]
      refine ⟨fun hq => ?_, fun hq => ?_⟩
      · rw [if_neg (Nat.not_le.mpr hq)] at hend
        rw [exec_mailboxWordArrive h (congrArg (Option.getD · s) (State.mailWord_delivered hend ht hs)) rfl, hend, ← State.takeMail_setLine ht]
        rw [State.updEng_congr (g := fun y => { y with mbox := y.mbox.set b.val (q ++ [⟨v, BitVec.ofNat 12 e.val⟩]) }) rfl]
        rfl
      · rw [if_pos hq] at hend
        rw [exec_mailboxWordArrive h (congrArg (Option.getD · s) (State.mailWord_none (by rw [hend]; decide))) rfl, hend]
        rfl
    · have hend : s.mailEnd d b (decide (e.cluster ≠ d.cluster)) = .dead := by
        rcases hdead with h | h | h | ⟨h, hi⟩
        · simp [State.mailEnd, h]
        · simp [State.mailEnd, h]
        · simp [State.mailEnd, h]
        · simp [State.mailEnd, h, hi]
      rw [exec_mailboxWordArrive h (congrArg (Option.getD · s) (State.mailWord_none (by rw [hend]; decide))) rfl, hend]
      rfl
  · intro s e t v b hb
    have hsel : (s.thr e t).mbSel = b := Fin.ext ((congrArg (· % 4) hb).trans (Nat.mod_eq_of_lt b.isLt))
    refine ⟨fun w rest ht hm hq => ?_, fun h => State.fire_plain h ?_⟩
    · have hr : s.srcReady e t 0x64 = true := by
        simp [State.srcReady, rng, hsel, hq]
      show s.firePop e t 0x64 = _
      rw [State.firePop_of_ready ht hm hr]
      show Host.Outcome.next (s.popMsg e t) = _
      simp only [State.popMsg, hsel, hq]
      rfl
    · simp only [portMsgFlush, hsel]
      rfl

/-! ### O20: messages (R92) -/

theorem messagesReportTheirOutcome : Claims.MessagesReportTheirOutcome := by
  intro s e t v
  refine ⟨fun h => State.fire_sends h rfl, fun d b w r rest hf ht hs => ?_⟩
  have hp : Flight.of e t true ⟨e, t, d, b, w, some r⟩ = true := by simp [Flight.of]
  show execMsgSndComplete e t s = _
  simp only [execMsgSndComplete, hf, List.find?_cons, hp, List.erase_cons_head, Option.getD_some]
  rw [State.deliver_of_together (s := { s with flights := rest }) ht hs (by simp)]
  cases r <;> rfl

end Sys2Proof.Machine

namespace Sys2Proof.Machine

/-! ### O20: agreed inputs (R93, R120, R148, R149, R152) -/

section
variable {s : State} {e : Eng} {l k : Lane}

theorem State.asLane_of_together (h : s.together e = true) (l : Lane) : s.asLane e l = s :=
  State.updEng_of_eq (Engine.view_of_together h l)

/-- A fault that strikes lane `l` alone, while another lane runs on: `f` in the others, `g` in that lane (R135, R152). -/
theorem State.inLanesWith_struck {f g : State → State} (ht : s.together e = true) (hl : (s.heddle e).commits? l = true)
    (hk : (s.heddle e).commits? k = true) (hkl : k ≠ l) (hs : ((f s).eng e).stray = (s.eng e).stray)
    (hh : ((f s).eng e).heddle = (s.eng e).heddle) :
    s.inLanesWith e (some l) g f = (f s).updEng e fun x => x.keepLane l ((g s).eng e) := by
  have ht' := ht
  simp only [State.together, Engine.together, Bool.and_eq_true, Bool.not_eq_true'] at ht'
  obtain ⟨⟨ha, hb⟩, hc⟩ := ht'
  have hfold : s.inLanesWith e (some l) g f = ((f s).updEng e fun x => x.keepLane l ((g s).eng e)).updEng e Engine.settle := by
    have hl' : (s.eng e).heddle.commits? l = true := hl
    cases l <;>
      simp [State.inLanesWith, laneList, ha, hb, hc, hl', State.asLane_of_together ht]
  rw [hfold]
  refine State.updEng_of_eq ?_
  rw [State.updEng_eng]
  have hka : ((s.eng e).stray[(laneIdx k).val]).isSome = false := by
    cases k
    · exact ha
    · exact hb
    · exact hc
  have hkc : (((f s).eng e).keepLane l ((g s).eng e)).heddle.commits? k = true := by
    rw [show (((f s).eng e).keepLane l ((g s).eng e)).heddle.commits? k = ((f s).eng e).heddle.commits? k from rfl, hh]
    exact hk
  have hkn : (((f s).eng e).keepLane l ((g s).eng e)).apart k = false := by
    simp only [Engine.apart, Engine.keepLane, upd_other _ _ (laneIdx_ne hkl), hs, hka]
  exact Engine.settle_of_one hkc hkn

/-- What a struck lane has kept as its own. -/
theorem Engine.view_keepLane (x y : Engine) (l : Lane) : (x.keepLane l y).view l = { x.keepLane l y with toEngineCore := y.toEngineCore } := by
  simp only [Engine.view, Engine.keepLane, upd_self, Option.getD_some]

end

/-- The input may change as it stands (R148, R304, R520). -/
def State.inputDue (s : State) (e : Eng) : Input → Prop
  | .pin p => s.inputsOk = true ∨ p.val = 41
  | .line n => (s.eng e).lineIn.getLsbD n.val = true
  | .tick => True

section
variable {s : State} {e : Eng} {i : Input} {level : Bool} {v : InputView}

/-- An input that is due is sampled and delivered at once where the lanes agree and run. -/
theorem exec_inputAgreed (ht : s.together e = true) (hs : s.still e = false) (hd : s.inputDue e i) :
    exec (.inputAgreed e i level v) s = .next ((s.updEng e fun x => x.sample i level).deliverNow e (.input i level v)) := by
  have hg : (s.clu e.cluster).gated = false := (Bool.or_eq_false_iff.mp hs).2
  have hs' : (s.updEng e fun x => x.sample i level).still e = false := (State.still_updEng (by cases i <;> rfl)).trans hs
  show execInputAgreed e i level v s = _
  have key : execInputAgreed e i level v s = .next ((s.updLanes e fun x => x.sample i level).deliver e (.input i level v)) := by
    cases i with
    | pin p =>
      have hp : (decide (p.val = 41) || s.inputsOk) = true := by simpa using Or.comm.mp hd
      simp [execInputAgreed, hp, hg]
    | line n =>
      have hn : (s.eng e).lineIn.getLsbD n.val = true := hd
      simp [execInputAgreed, hn, hg]
    | tick => simp [execInputAgreed, hg]
  rw [key, State.updLanes_of_together ht, State.deliver, if_neg (by rw [hs']; exact Bool.false_ne_true)]

end

/-- One level of the pins, set or cleared. -/
def pinLevel (x : BitVec 42) (p : Pin) (level : Bool) : BitVec 42 :=
  if level then x ||| BitVec.ofNat 42 (2 ^ p.val) else x &&& ~~~BitVec.ofNat 42 (2 ^ p.val)

theorem pinLevel_getLsbD (x : BitVec 42) (p : Pin) (level : Bool) {k : Nat} (hk : k < 42) :
    (pinLevel x p level).getLsbD k = if k = p.val then level else x.getLsbD k := by
  have hm : (BitVec.ofNat 42 (2 ^ p.val)).getLsbD k = decide (p.val = k) := by
    rw [BitVec.getLsbD_ofNat, Nat.testBit_two_pow]
    simp [hk]
  cases level
  · simp only [pinLevel, Bool.false_eq_true, if_false, BitVec.getLsbD_and, BitVec.getLsbD_not, hm, hk, decide_true, Bool.true_and]
    by_cases h : k = p.val
    · simp [h]
    · simp [h, Ne.symm h]
  · simp only [pinLevel, if_true, BitVec.getLsbD_or, hm]
    by_cases h : k = p.val
    · simp [h]
    · simp [h, Ne.symm h]

/-- An engine whose lanes have sampled an input and take it. -/
def Engine.inputTaken (x : Engine) (i : Input) (level nmiOn : Bool) : Engine := (x.sample i level).takeInput i level nmiOn

section
variable {s : State} {e : Eng} {i : Input} {level : Bool} {v : InputView} {l k : Lane}

theorem State.together_sample (ht : s.together e = true) : (s.updEng e fun x => x.sample i level).together e = true :=
  (State.together_updEng (by cases i <;> rfl)).trans ht

theorem State.take_sampled : (s.updEng e fun x => x.sample i level).take e (.input i level v) =
    s.updEng e fun x => x.inputTaken i level (s.inRun && s.isSel e) := by
  rw [State.take, State.updEng_updEng]
  rfl

/-- An input that every lane releases. -/
theorem State.inLanes_sampled (ht : s.together e = true) :
    ((s.updEng e fun x => x.sample i level).inLanes e fun s => s.take e (.input i level .all)) =
      s.updEng e fun x => x.inputTaken i level (s.inRun && s.isSel e) :=
  (State.inLanes_of_together (State.together_sample ht) _).trans State.take_sampled

theorem State.unreleased_pin (p : Pin) : s.unreleased e (.pin p) = s := rfl

theorem State.unreleased_tick : s.unreleased e .tick = s.updEng e fun x => { x with tickOff := true } := rfl

/-- The toggle of an event line that every lane releases is used up (R148). -/
theorem State.deliverNow_line (n : Fin 32) : s.deliverNow e (.input (.line n) level .all) =
    (s.inLanes e fun s => s.take e (.input (.line n) level .all)).updEng e
      fun x => { x with lineIn := x.lineIn &&& ~~~BitVec.ofNat 32 (2 ^ n.val) } := rfl

/-- An input that every lane but one releases: that lane keeps what it had, or its timers stand still. -/
theorem State.inLanesWith_sampled (ht : s.together e = true) (hl : (s.heddle e).commits? l = true) (hk : (s.heddle e).commits? k = true)
    (hkl : k ≠ l) :
    ((s.updEng e fun x => x.sample i level).inLanesWith e (some l) (fun s => s.unreleased e i) fun s => s.take e (.input i level (.allBut l))) =
      s.updEng e fun x => (x.inputTaken i level (s.inRun && s.isSel e)).keepLane l
        (((s.updEng e fun x => x.sample i level).unreleased e i).eng e) := by
  have hh : ((s.updEng e fun x => x.sample i level).heddle e) = s.heddle e := by
    rw [State.heddle, State.updEng_eng]
    cases i <;> rfl
  have htake : ∀ x : Engine, ∀ nmiOn, (x.takeInput i level nmiOn).stray = x.stray ∧ (x.takeInput i level nmiOn).heddle = x.heddle := by
    intro x nmiOn
    cases i <;> exact ⟨rfl, rfl⟩
  rw [State.inLanesWith_struck (State.together_sample ht) (by rw [hh]; exact hl) (by rw [hh]; exact hk) hkl, State.take_sampled,
    State.updEng_updEng]
  · rw [State.take, State.updEng_eng]
    exact (htake _ _).1
  · rw [State.take, State.updEng_eng]
    exact (htake _ _).2

/-- A lane that the check names commits beside lane `l`. -/
theorem exists_committing (h : (laneList.any fun k => decide (k ≠ l) && (s.heddle e).commits? k) = true) :
    ∃ k, k ≠ l ∧ (s.heddle e).commits? k = true := by
  obtain ⟨k, _, hk⟩ := List.any_eq_true.mp h
  exact ⟨k, by simpa using hk⟩

end

theorem inputsAreAgreed : Claims.InputsAreAgreed := by
  intro s e t v p level l now
  refine ⟨fun h => State.fire_plain h rfl, fun ht hs hd => ?_, fun ht hs hd hl hk _ => ?_, fun n ht hs hn => ?_, fun ht hs => ?_,
    fun ht hs hl hk => ?_, fun hv hg => ?_⟩
  · refine ⟨_, (exec_inputAgreed (i := .pin p) ht hs hd).trans (congrArg _ (State.inLanes_sampled ht)), ?_⟩
    rw [State.updEng_eng]
    refine ⟨fun k hk => pinLevel_getLsbD _ p level hk, fun k hk => pinLevel_getLsbD _ p level hk, ?_, rfl⟩
    show ((s.eng e).nmi || ((s.inRun && s.isSel e) && decide (p.val = 41) && now.getLsbD 41 && !level)) = _
    ac_rfl
  · obtain ⟨k, hkl, hk⟩ := exists_committing hk
    refine ⟨_, (exec_inputAgreed (i := .pin p) ht hs (.inl hd)).trans (congrArg _ (State.inLanesWith_sampled ht hl hk hkl)), ?_⟩
    rw [State.updEng_eng, Engine.view_keepLane, State.unreleased_pin, State.updEng_eng]
    exact ⟨(pinLevel_getLsbD _ p level p.isLt).trans (if_pos rfl), rfl⟩
  · refine (exec_inputAgreed (i := .line n) ht hs hn).trans (congrArg _ ?_)
    rw [State.deliverNow_line, State.inLanes_sampled ht, State.updEng_updEng]
    rfl
  · exact (exec_inputAgreed (i := .tick) ht hs trivial).trans (congrArg _ (State.inLanes_sampled ht))
  · obtain ⟨k, hkl, hk⟩ := exists_committing hk
    refine ⟨_, (exec_inputAgreed (i := .tick) ht hs trivial).trans (congrArg _ (State.inLanesWith_sampled ht hl hk hkl)), ?_⟩
    rw [State.updEng_eng, Engine.view_keepLane, State.unreleased_tick, State.updEng_eng, State.updEng_eng]
    exact ⟨rfl, rfl⟩
  · show execInputAgreementTimeout e l s = _
    simp [execInputAgreementTimeout, hv, State.gatedEng, hg]

/-- Settles O20: mailboxes, messages and agreed inputs. -/
theorem mailboxesMessagesAndInputs : Obligations.MailboxesMessagesAndInputs :=
  ⟨mailboxesAreQueues, messagesReportTheirOutcome, inputsAreAgreed⟩

end Sys2Proof.Machine

namespace Sys2Proof.Machine

theorem vmap_getElem {α β : Type} {n : Nat} (f : Nat → α → β) (v : Vector α n) {i : Nat} (h : i < n) : (vmap f v)[i] = f i v[i] := by
  simp [vmap]

/-! ### What the counters of a fabric clock run on -/

/-- What an engine's clocks and timers run on: its own clock count, whether its lanes release the tick, its pause, and its timers. -/
structure EngineClocks where
  free : Nat
  tickOff : Bool
  phase : RtPhase
  tmr : Thr → TmrState

def Engine.clocks (x : Engine) : EngineClocks := ⟨x.free, x.tickOff, x.heddle.phase, fun t => (x.thr t).tmr⟩

/-- What the counters of a fabric clock run on (R9, R94, R489), with the queue. -/
structure Clocks where
  pending : List Instr
  fk : Nat
  clk : Clk
  phase : Phase
  gated : Clu → Bool
  engine : Eng → EngineClocks

def State.clocks (s : State) : Clocks :=
  ⟨s.pending, s.fk, s.clk, s.dev.phase, fun c => (s.clu c).gated, fun e => (s.eng e).clocks⟩

section
variable (s : State)

/-- A change of an engine that leaves its clocks and timers. -/
theorem State.updEng_clocks {e : Eng} {f : Engine → Engine} (h : (f (s.eng e)).clocks = (s.eng e).clocks) :
    (s.updEng e f).clocks = s.clocks := by
  have he : (fun k => ((s.updEng e f).eng k).clocks) = fun k => (s.eng k).clocks := by
    funext k
    by_cases hk : k = e
    · rw [hk, State.updEng_eng, h]
    · rw [State.updEng_eng_other s f hk]
  exact congrArg (Clocks.mk s.pending s.fk s.clk s.dev.phase fun c => (s.clu c).gated) he

@[simp] theorem State.updTrip_clocks (f : Trip → Trip) : (s.updTrip f).clocks = s.clocks := rfl
@[simp] theorem State.updWdg_clocks (f : Watchdog → Watchdog) : (s.updWdg f).clocks = s.clocks := rfl
@[simp] theorem State.updRcd_clocks (f : Recorder → Recorder) : (s.updRcd f).clocks = s.clocks := rfl
@[simp] theorem State.updJsn_clocks (f : Jarsyn → Jarsyn) : (s.updJsn f).clocks = s.clocks := rfl
@[simp] theorem State.updSht_clocks (f : Shuttle → Shuttle) : (s.updSht f).clocks = s.clocks := rfl
@[simp] theorem State.updCol_clocks (f : Collector → Collector) : (s.updCol f).clocks = s.clocks := rfl
@[simp] theorem State.updSrc_clocks (n : Fin 160) (f : Source → Source) : (s.updSrc n f).clocks = s.clocks := rfl
@[simp] theorem State.updGauge_clocks (g : Fin 32) (f : Gauge → Gauge) : (s.updGauge g f).clocks = s.clocks := rfl
@[simp] theorem State.takeFree_clocks : s.takeFree.clocks = s.clocks := rfl
@[simp] theorem State.logRec_clocks (typ : BitVec 5) (code : BitVec 7) (src : Word) (pay : Quad) :
    (s.logRec typ code src pay).clocks = s.clocks := rfl
@[simp] theorem State.modeRec_clocks (code : Nat) (on : Bool) : (s.modeRec code on).clocks = s.clocks := rfl

/-! #### Lines and lanes -/

theorem Engine.keepLane_clocks (x y : Engine) (l : Lane) : (x.keepLane l y).clocks = x.clocks := rfl

/-- What the lanes do in one clock leaves the clocks and timers of the lanes that agree where it does so in them. -/
theorem State.inLanes_clocks (e : Eng) {f : State → State} (h : (f s).clocks = s.clocks) : (s.inLanes e f).clocks = s.clocks := by
  refine (foldl_keeps State.clocks _ (fun u l => ?_) laneList (f s)).trans h
  split
  · exact u.updEng_clocks (Engine.keepLane_clocks _ _ _)
  · rfl

@[simp] theorem State.setLine_clocks (e : Eng) (n : Nat) : (s.setLine e n).clocks = s.clocks := by
  unfold State.setLine
  split
  · exact s.updEng_clocks rfl
  · exact s.inLanes_clocks e (s.updEng_clocks rfl)

@[simp] theorem State.setLines_clocks (es : List Eng) (n : Nat) : (s.setLines es n).clocks = s.clocks :=
  foldl_keeps State.clocks _ (fun _ _ => State.setLine_clocks _ _ _) es s

/-- A verdict on its way to a thread is no matter of clocks (R100, R346). -/
theorem State.deliver_verdict_clocks (e : Eng) (t : Thr) (st : Word) : (s.deliver e (.verdict t st)).clocks = s.clocks := by
  unfold State.deliver
  split
  · exact s.updEng_clocks rfl
  · refine s.inLanes_clocks e (s.updEng_clocks ?_)
    refine congrArg (EngineClocks.mk (s.eng e).free (s.eng e).tickOff (s.eng e).heddle.phase) (funext fun k => ?_)
    simp only [Engine.thr, vmap_getElem]
    split <;> rfl

/-! #### Faults, records and SAFE -/

@[simp] theorem State.raise_clocks (n : Fin 160) (cause : BitVec 7) (payload : DWord) : (s.raise n cause payload).clocks = s.clocks := by
  unfold State.raise State.raiseBy
  split
  · rfl
  · split
    · rw [State.updSrc_clocks]
      split <;> simp
    · rfl

@[simp] theorem State.hirq_clocks : s.hirq.clocks = s.clocks := by
  unfold State.hirq State.msix
  dsimp only
  split
  · split <;> simp
  · rfl

@[simp] theorem State.waveTrigger_clocks : s.waveTrigger.clocks = s.clocks := by
  unfold State.waveTrigger
  split <;> simp

@[simp] theorem State.gaugeSnap_clocks (g : Fin 32) : (s.gaugeSnap g).clocks = s.clocks := by
  unfold State.gaugeSnap State.gaugeLine
  split <;> simp

@[simp] theorem State.gaugesAtSafe_clocks : s.gaugesAtSafe.clocks = s.clocks :=
  foldl_keeps State.clocks _ (fun _ _ => by split <;> simp) _ s

@[simp] theorem State.setSafe_clocks : s.setSafe.clocks = s.clocks := by
  have hd : ∀ u : State, (u.updDev fun d => { d with safe := true, safeNow := true }).clocks = u.clocks := fun _ => rfl
  unfold State.setSafe
  split
  · rfl
  · dsimp only
    split <;> simp [hd]

/-! #### The trip fabric -/

@[simp] theorem State.pioFire_clocks (code : Nat) (rising ignoreEdge : Bool) : (s.pioFire code rising ignoreEdge).clocks = s.clocks :=
  foldl_keeps State.clocks _ (fun _ _ => by simp [apply_ite State.clocks]) _ s

@[simp] theorem State.drivePilot_clocks : s.drivePilot.clocks = s.clocks := by
  unfold State.drivePilot
  extract_lets p ovr lvl s1 s2
  split
  · rfl
  · split <;> simp [s2, s1]

@[simp] theorem State.driveOutputs_clocks : s.driveOutputs.clocks = s.clocks := by simp [State.driveOutputs]

@[simp] theorem State.floodTrip_clocks (f : TripCopy) (arrival : Option Port) : (s.floodTrip f arrival).clocks = s.clocks :=
  foldl_keeps State.clocks _ (fun _ _ => by split <;> rfl) _ s

@[simp] theorem State.updLocal_clocks (n : Fin 24) (f : Local → Local) : (s.updLocal n f).clocks = s.clocks := rfl

@[simp] theorem State.newSeq_clocks : s.newSeq.2.clocks = s.clocks := rfl

@[simp] theorem State.lineSignal_clocks (n : Fin 24) (was now own : Bool) : (s.lineSignal n was now own).clocks = s.clocks := by
  unfold State.lineSignal
  simp [apply_ite Prod.snd, apply_ite State.clocks]

@[simp] theorem State.evalLines_clocks : s.evalLines.clocks = s.clocks := by
  unfold State.evalLines
  extract_lets was raw own latch copies now s1 s2 s3 s4
  have h2 : s2.clocks = s.clocks := foldl_keeps State.clocks _ (fun _ _ => by simp) _ _
  have h3 : s3.clocks = s.clocks := by unfold s3; split <;> simp [h2]
  simp [s4, h3]

@[simp] theorem State.fabric_clocks : s.fabric.clocks = s.clocks := by
  unfold State.fabric State.fabricFrom
  extract_lets s1 s2 fault s3 s4 s5 s6
  have h2 : s2.clocks = s.clocks := rfl
  have h4 : s4.clocks = s.clocks := by unfold s4; split <;> simp [s3, h2]
  have h6 : s6.clocks = s.clocks := by unfold s6; split <;> simp [s5, h4]
  split <;> simp [h6]

@[simp] theorem State.fabricClock_clocks : s.fabricClock.clocks = s.clocks := by
  unfold State.fabricClock
  split <;> simp

@[simp] theorem State.pilotTick_clocks : s.pilotTick.clocks = s.clocks := by
  unfold State.pilotTick
  dsimp only
  split <;> simp

@[simp] theorem State.subClock_clocks : s.subClock.clocks = s.clocks := by
  unfold State.subClock
  split
  · rfl
  · split <;> simp

/-! #### The watchdog -/

@[simp] theorem State.wdgEvent_clocks (src : Fin 160) (cause : Nat) (payload : DWord) (task : Nat) :
    (s.wdgEvent src cause payload task).clocks = s.clocks := by simp [State.wdgEvent]

@[simp] theorem State.wdgRecords_clocks : s.wdgRecords.clocks = s.clocks := rfl

@[simp] theorem State.expireFirst_clocks : s.expireFirst.clocks = s.clocks := by
  unfold State.expireFirst State.graceExpiry State.periodExpiry
  split
  · split <;> simp
  · split <;> simp

@[simp] theorem State.wdgVerdict_clocks (e : Eng) (t : Thr) (valid : Bool) : (s.wdgVerdict e t valid).clocks = s.clocks :=
  s.deliver_verdict_clocks e t _

@[simp] theorem State.judge_clocks (e : Eng) (t : Thr) : (s.judge e t).clocks = s.clocks := by
  unfold State.judge
  extract_lets early bad s1
  split
  · simp [s1]
  · split
    · simp [s1]
    · rw [State.wdgVerdict_clocks]
      exact foldl_keeps State.clocks _ (fun u p => by simp) _ _

@[simp] theorem State.serveDue_clocks : s.serveDue.clocks = s.clocks := by
  unfold State.serveDue
  split
  · rfl
  · exact (foldl_keeps State.clocks _ (fun u p => by simp) _ _).trans (by simp)

@[simp] theorem State.wdgClock_clocks : s.wdgClock.clocks = s.clocks := by
  unfold State.wdgClock
  dsimp only
  split
  · rfl
  · split
    · simp
    · split <;> simp

end

/-! ### O2: one fabric clock (R9, R94, R95, R489, R490) -/

/-- One fabric clock of an engine of which `n` clocks begin: its count, and its timers while its lanes release the tick (R94, R148). -/
def EngineClocks.tick (x : EngineClocks) (n : Nat) : EngineClocks :=
  { x with free := x.free + n, tmr := fun t => if x.tickOff then x.tmr t else (x.tmr t).clock }

/-- Engine clocks of an engine in a fabric clock (R94, R157, R456). -/
def Clocks.begun (k : Clocks) (e : Eng) : Nat :=
  if k.phase = .run ∧ k.gated e.cluster = false ∧ (k.engine e).phase ≠ .paused then k.clk.engineClocks else 0

/-- One fabric clock of the counters. -/
def Clocks.tick (k : Clocks) : Clocks :=
  { k with fk := k.fk + 1, clk := k.clk.clock, engine := fun e => (k.engine e).tick (k.begun e) }

section
variable (s : State) (e : Eng)

theorem State.clocksOf_eq : s.clocksOf e.val = s.clocks.begun e := by
  have hc : s.clusters.toList[e.val / 8]? = some (s.clu e.cluster) := by
    rw [Vector.getElem?_toList]
    exact Vector.getElem?_eq_getElem _
  have he : s.engines.toList[e.val]? = some (s.eng e) := by
    rw [Vector.getElem?_toList]
    exact Vector.getElem?_eq_getElem _
  rw [State.clocksOf, hc, he]
  simp only [State.inRun, Option.map_some, Option.getD_some, Bool.and_eq_true, Bool.not_eq_true', decide_eq_true_eq,
    decide_eq_false_iff_not, and_assoc]
  rfl

theorem Engine.clock_clocks (x : Engine) (n : Nat) : (x.clock n).clocks = x.clocks.tick n := by
  refine congrArg (EngineClocks.mk (x.free + n) x.tickOff x.heddle.phase) (funext fun t => ?_)
  show ((if x.tickOff then x.threads else vmap _ x.threads)[t.val]).tmr = if x.tickOff then (x.thr t).tmr else (x.thr t).tmr.clock
  split
  · rfl
  · rw [vmap_getElem]
    rfl

/-- The state once the counters have stepped, before the watchdog, the pilot, the operating second and the trip fabric have their clock. -/
def State.counted : State :=
  { s with
    fk := s.fk + 1, clk := s.clk.clock, engines := vmap (fun e (x : Engine) => x.clock (s.clocksOf e)) s.engines
    clusters := vmap (fun _ (x : Cluster) => { x with rlostNow := 0 }) s.clusters
    chans := vmap (fun _ (x : Channel) => { x with berrNow := false }) s.chans
    col := s.col.clock
    dev := { s.dev with safeNow := false }
    mtr := { s.mtr with intNow := false, act := false, busyLow := false, reading := false } }

theorem State.counted_clocks : s.counted.clocks = s.clocks.tick := by
  have hc : ∀ c, (s.counted.clu c).gated = (s.clu c).gated := fun c => by
    show Cluster.gated ((vmap _ s.clusters)[c.val]) = _
    rw [vmap_getElem]
    rfl
  have he : ∀ e, (s.counted.eng e).clocks = (s.eng e).clocks.tick (s.clocks.begun e) := fun e => by
    rw [← State.clocksOf_eq, ← Engine.clock_clocks]
    exact congrArg Engine.clocks (vmap_getElem _ s.engines e.isLt)
  exact congrArg₂ (Clocks.mk s.pending (s.fk + 1) s.clk.clock s.dev.phase) (funext hc) (funext he)

/-- While the fabric clock runs, a tick moves the counters once, whatever else its clock does (R9). -/
theorem State.tick_clocks (h : s.clk.fabOk = true) : s.tick.clocks = s.clocks.tick := by
  have ht : s.tick = s.serveDue.counted.wdgClock.pilotTick.subClock.fabricClock := if_neg (by simp [h])
  rw [ht, State.fabricClock_clocks, State.subClock_clocks, State.pilotTick_clocks, State.wdgClock_clocks, State.counted_clocks,
    State.serveDue_clocks]

end

/-- The divider of the governor's step (R490). -/
theorem engineDiv_eq (k : BitVec 2) : engineDiv k = if k = 0 then 4 else if k = 1 then 5 else if k = 2 then 6 else 8 := by
  revert k
  decide

/-- R95 as one choice. -/
theorem TmrState.clock_eq (x : TmrState) : x.clock =
    let per := x.cfgNow.getLsbD 2
    let c := if x.count = 0 then 0 else x.count - 1
    if x.run = false ∨ (x.due ≠ 0 ∧ per = false) then x
    else if 1 < x.pre then { x with pre := x.pre - 1 }
    else { x with count := if c = 0 ∧ per = true then x.reload else c, pre := tickLen x.cfgNow, due := if c = 0 then x.due + 1 else x.due } := by
  simp only [TmrState.clock, Bool.or_eq_true, Bool.and_eq_true, Bool.not_eq_true', decide_eq_true_eq]

/-- Settles O2: what runs beside the counters leaves them, and each of them steps once. -/
theorem idleStepIsOneFabricClock : Obligations.IdleStepIsOneFabricClock := by
  intro s hp hf k div rest begun
  have hu := s.tick_clocks hf
  have hdiv : engineDiv s.clk.step = div := engineDiv_eq _
  have he : ∀ e, (s.tick.eng e).clocks = (s.eng e).clocks.tick (s.clocks.begun e) := fun e => congrFun (congrArg Clocks.engine hu) e
  refine ⟨s.tick, by rw [step, hp], congrArg Clocks.fk hu, (congrArg Clocks.pending hu).trans hp, ?_, fun e => ?_, fun e t => ?_⟩
  · rw [← hdiv]
    exact congrArg Clocks.clk hu
  · refine (congrArg EngineClocks.free (he e)).trans ?_
    have hb : begun = s.clk.engineClocks := by rw [Clk.engineClocks, hdiv]; rfl
    rw [hb]
    rfl
  · refine (congrFun (congrArg EngineClocks.tmr (he e)) t).trans ?_
    show (if (s.eng e).tickOff then (s.thr e t).tmr else (s.thr e t).tmr.clock) = _
    rw [TmrState.clock_eq]
    cases (s.eng e).tickOff
    · simp only [Bool.false_eq_true, if_false, false_or]
    · simp only [if_true, true_or]

end Sys2Proof.Machine

namespace Sys2Proof.Machine

/-! ### Where a frame lies (R110, R113, R124) -/

/-- Address `a` lies where a frame of the engine may: within 2^17 words of its home bank's base, in its own cluster (R113). -/
structure InFrameSpan (e : Eng) (a : Nat) : Prop where
  low : homeBase e ≤ a
  high : a + 26 ≤ homeBase e + 0x20000

theorem Engine.fspOf_lt (x : Engine) (t : Thr) : x.fspOf t < 4096 := BitVec.isLt _

theorem inFrameSpan_area (s : State) (e : Eng) {n : Nat} (h : n < 8) : InFrameSpan e (s.frameArea e + 32 * n) := by
  have := Nat.mod_lt (s.regN (engBase e + 0x11)) (show 128 > 0 by decide)
  constructor <;> unfold State.frameArea <;> omega

theorem inFrameSpan_stack (e : Eng) {n : Nat} (h : n < 4096) : InFrameSpan e (homeBase e + n * 32) := by
  constructor <;> omega

theorem State.allocFrame_span {s : State} {e : Eng} {t : Thr} {f : FrameSlot} (h : s.allocFrame e t = some f) : InFrameSpan e f.addr := by
  have ht := t.isLt
  have hn := (s.eng e).fspOf_lt t
  unfold State.allocFrame at h
  dsimp only at h
  split at h <;> split_ifs at h <;> cases h
  exacts [inFrameSpan_area s e ht, inFrameSpan_area s e (by omega), inFrameSpan_area s e (by omega), inFrameSpan_area s e ht,
    inFrameSpan_stack e (by omega)]

theorem State.currentFrame_span {s : State} {e : Eng} {t : Thr} {f : FrameSlot} (h : s.currentFrame e t = some f) :
    InFrameSpan e f.addr := by
  have ht := t.isLt
  have hn := (s.eng e).fspOf_lt t
  unfold State.currentFrame at h
  dsimp only at h
  split at h <;> split_ifs at h <;> cases h
  exacts [inFrameSpan_area s e ht, inFrameSpan_area s e (by omega), inFrameSpan_area s e (by omega), inFrameSpan_area s e ht,
    inFrameSpan_stack e hn]

namespace InFrameSpan
variable {e : Eng} {a : Nat}

/-- A frame lies inside the device map, below the program windows of its engine's cluster. -/
theorem bounds (h : InFrameSpan e a) : e.val / 8 * 0x100000 ≤ a ∧ a + 26 ≤ e.val / 8 * 0x100000 + 0x58000 := by
  obtain ⟨hl, hh⟩ := h
  unfold homeBase at hl hh
  omega

theorem lt (h : InFrameSpan e a) : a + 26 ≤ 0x800000 := by
  have := h.bounds
  omega

/-- What answers for a frame's address is a bank of the engine's own cluster, or nothing. -/
theorem blockClu (h : InFrameSpan e a) {c : Clu} (hc : blockClu (BitVec.ofNat 24 a) = some c) : c.val = e.val / 8 := by
  have hb := h.bounds
  have hn : (BitVec.ofNat 24 a).toNat = a := by simp; omega
  have hq : (cluOf a).val = e.val / 8 := by show a / 0x100000 % 8 = _; omega
  have h1 : rng a 0x804000 0x805FFF = false := rng_of_lt (by omega)
  have h2 : rng a 0x820000 0x823FFF = false := rng_of_lt (by omega)
  simp only [Sys2Proof.Machine.blockClu, hn, h1, h2, Bool.false_eq_true, if_false, memClu, regionOf, if_pos (show a < 0x800000 by omega)] at hc
  split_ifs at hc <;> simp_all [Region.bank]

/-- No isolation stands between an engine and its frame (R326). -/
theorem cutOff (h : InFrameSpan e a) (s : State) (t : Thr) (l : Bool) : s.cutOff (.engine e t l) (BitVec.ofNat 24 a) = false := by
  unfold State.cutOff
  split
  · next c hc => simp [masterInside, h.blockClu hc]
  · rfl

end InFrameSpan

theorem State.updClu_eq_self {s : State} {c : Clu} {f : Cluster → Cluster} (h : f (s.clu c) = s.clu c) : s.updClu c f = s := by
  unfold State.updClu
  rw [h]
  simp [State.clu]

/-- A bank that is not asleep is not woken. -/
theorem State.wake_of_awake {s : State} {a : Addr} (h : s.asleep a = false) : s.wake a = s := by
  unfold State.wake
  split
  · next c b hb =>
    have hx : (s.clu c).banks[b.val] = .active := by simpa [State.asleep, hb] using h
    exact State.updClu_eq_self (if_neg (by rw [hx]; decide))
  · rfl

end Sys2Proof.Machine

namespace Sys2Proof.Machine

/-! ### The frame writer's words (R110 to R112, R114) -/

theorem State.writeFrame_memOnly (s : State) (base : Nat) (ws : List (Nat × Word)) : State.MemOnly s (s.writeFrame base ws) := by
  induction ws generalizing s with
  | nil => exact .refl s
  | cons p ws ih => exact (State.MemOnly.setMem s _ _).trans (ih _)

section
variable {s : State} {base : Nat} {ws : List (Nat × Word)}

theorem State.writeFrame_cons (s : State) (base : Nat) (p : Nat × Word) (ws : List (Nat × Word)) :
    s.writeFrame base (p :: ws) = (s.setMem (base + p.1) p.2).writeFrame base ws := rfl

/-- A word that no word of the frame is written to stands. -/
theorem State.memWord_writeFrame_other (hc : s.memCanonical = true) (hb : ∀ p ∈ ws, base + p.1 < 0x1000000) {a : Nat}
    (ha : ∀ p ∈ ws, base + p.1 ≠ a) : (s.writeFrame base ws).memWord a = s.memWord a := by
  induction ws generalizing s with
  | nil => rfl
  | cons p ws ih =>
    rw [List.forall_mem_cons] at hb ha
    rw [State.writeFrame_cons, ih (State.memCanonical_setMem p.2 hc hb.1) hb.2 ha.2, State.memWord_setMem hc, if_neg ha.1.symm]

/-- Each of the frame's words is read back, when no two have one number. -/
theorem State.memWord_writeFrame (hc : s.memCanonical = true) (hb : ∀ p ∈ ws, base + p.1 < 0x1000000) (hn : (ws.map Prod.fst).Nodup)
    {k : Nat} {v : Word} (hk : (k, v) ∈ ws) : (s.writeFrame base ws).memWord (base + k) = v := by
  induction ws generalizing s with
  | nil => exact absurd hk List.not_mem_nil
  | cons p ws ih =>
    rw [List.forall_mem_cons] at hb
    rw [List.map_cons, List.nodup_cons] at hn
    have hc' := State.memCanonical_setMem p.2 hc hb.1
    rw [State.writeFrame_cons]
    rcases List.mem_cons.mp hk with rfl | hk
    · rw [State.memWord_writeFrame_other hc' hb.2 fun q hq h => hn.1 (List.mem_map.mpr ⟨q, hq, by omega⟩), State.memWord_setMem hc, if_pos rfl]
    · exact ih hc' hb.2 hn.2 hk
end

/-- The numbers of a frame's words (R110 to R112). -/
def frameNumbers (ldd blka : Bool) : List Nat :=
  List.range 16 ++ (if ldd then [16, 17] else []) ++ if blka then [18, 19, 20, 21, 22, 23, 24, 25] else []

theorem frameNumbers_nodup (ldd blka : Bool) : (frameNumbers ldd blka).Nodup := by cases ldd <;> cases blka <;> decide

theorem frameNumbers_lt (ldd blka : Bool) : ∀ k ∈ frameNumbers ldd blka, k < 26 := by cases ldd <;> cases blka <;> decide

theorem frameWords_numbers (x : Thread) (cause : BitVec 6) (val : Word) (fa : Addr) (lit ldd blka : Bool) :
    (frameWords x cause val fa lit ldd blka).map Prod.fst = frameNumbers ldd blka := by
  cases ldd <;> cases blka <;> rfl

/-! #### PCH and CS, words 1 and 3 of a frame (R110) -/

/-- Word 1: the top of PC, the active priority and the flags of what is interrupted. -/
def Thread.pch (x : Thread) (lit ldd blka : Bool) : Word :=
  flag 11 ldd ||| flag 10 blka ||| flag 9 lit ||| fld 5 x.apri.toNat ||| (x.pc >>> 12).setWidth 12

/-- Word 3: the flags over the cause. -/
def Thread.cs (x : Thread) (cause : BitVec 6) : Word :=
  flag 11 x.alu.n ||| flag 10 x.alu.z ||| flag 9 x.alu.c ||| flag 8 x.alu.v ||| cause.setWidth 12

theorem bitsAt_eq_extractLsb' {k : Nat} (v : BitVec k) (p w : Nat) : bitsAt v p w = (v.extractLsb' p w).toNat := by
  simp [bitsAt, BitVec.extractLsb'_toNat, Nat.shiftRight_eq_div_pow]

theorem flag_getLsbD (p : Nat) (b : Bool) (i : Nat) : (flag p b).getLsbD i = (b && (decide (i < 12) && decide (p = i))) := by
  cases b
  · simp [flag]
  · rw [flag, if_pos rfl, BitVec.getLsbD_ofNat, Nat.testBit_two_pow, Bool.true_and]

theorem fld_getLsbD (p n i : Nat) : (fld p n).getLsbD i = (decide (i < 12) && (decide (p ≤ i) && n.testBit (i - p))) := by
  rw [fld, BitVec.getLsbD_ofNat, Nat.testBit_mul_two_pow]

section
variable (x : Thread) (lit ldd blka : Bool) (cause : BitVec 6)

theorem Thread.pch_getLsbD (i : Nat) : (x.pch lit ldd blka).getLsbD i =
    (decide (i < 12) && (ldd && decide (11 = i) || blka && decide (10 = i) || lit && decide (9 = i) ||
      decide (5 ≤ i) && x.apri.getLsbD (i - 5) || x.pc.getLsbD (12 + i))) := by
  simp only [Thread.pch, BitVec.getLsbD_or, flag_getLsbD, fld_getLsbD, BitVec.getLsbD_setWidth, BitVec.getLsbD_ushiftRight,
    BitVec.testBit_toNat]
  cases decide (i < 12) <;> simp

theorem Thread.pch_page : bitsAt (x.pch lit ldd blka) 0 5 = x.pc.toNat / 4096 := by
  have h : (x.pch lit ldd blka).extractLsb' 0 5 = x.pc.extractLsb' 12 5 := by
    ext i hi
    rw [BitVec.getElem_extractLsb', BitVec.getElem_extractLsb', Thread.pch_getLsbD]
    simp [show i < 12 by omega, show 11 ≠ i by omega, show 10 ≠ i by omega, show 9 ≠ i by omega, show ¬ 5 ≤ i by omega]
  rw [bitsAt_eq_extractLsb', h, ← bitsAt_eq_extractLsb']
  have := x.pc.isLt
  simp [bitsAt]
  omega

theorem Thread.pch_apri : bitsAt (x.pch lit ldd blka) 5 4 = x.apri.toNat := by
  have h : (x.pch lit ldd blka).extractLsb' 5 4 = x.apri := by
    ext i hi
    rw [BitVec.getElem_extractLsb', Thread.pch_getLsbD, BitVec.getLsbD_of_ge x.pc _ (by omega)]
    simp [show 5 + i < 12 by omega, show 11 ≠ 5 + i by omega, show 10 ≠ 5 + i by omega, show 9 ≠ 5 + i by omega, BitVec.getLsbD_eq_getElem hi]
  rw [bitsAt_eq_extractLsb', h]

theorem Thread.pch_ldd : (x.pch lit ldd blka).getLsbD 11 = ldd := by
  rw [Thread.pch_getLsbD]
  simp

theorem Thread.pch_blka : (x.pch lit ldd blka).getLsbD 10 = blka := by
  rw [Thread.pch_getLsbD]
  simp

theorem Thread.cs_flags : (x.cs cause).getLsbD 11 = x.alu.n ∧ (x.cs cause).getLsbD 10 = x.alu.z ∧
    (x.cs cause).getLsbD 9 = x.alu.c ∧ (x.cs cause).getLsbD 8 = x.alu.v := by
  simp only [Thread.cs, BitVec.getLsbD_or, flag_getLsbD, BitVec.getLsbD_setWidth]
  simp
end
end Sys2Proof.Machine

namespace Sys2Proof.Machine

/-! ### The entry in a lane (R114) -/

section
variable {s u : State} {e : Eng} {t : Thr} {ev : Event} {f : FrameSlot}

/-! The stored words have no part in where a frame lies or in which event is due. -/

namespace State.MemOnly
variable (h : State.MemOnly s u)
include h

theorem allocFrame : u.allocFrame e t = s.allocFrame e t := by
  obtain ⟨m, x, rfl⟩ := h
  rfl

theorem currentFrame : u.currentFrame e t = s.currentFrame e t := by
  obtain ⟨m, x, rfl⟩ := h
  rfl

theorem eventNow : u.eventNow e t = s.eventNow e t := by
  obtain ⟨m, x, rfl⟩ := h
  rfl

theorem engRuns : u.engRuns e = s.engRuns e := by
  obtain ⟨m, x, rfl⟩ := h
  rfl

theorem eng : u.eng e = s.eng e := by
  obtain ⟨m, x, rfl⟩ := h
  rfl

theorem vectorLine : u.vectorLine e t ev = s.vectorLine e t ev := by
  obtain ⟨m, x, rfl⟩ := h
  rfl

theorem together : u.together e = s.together e := by
  obtain ⟨m, x, rfl⟩ := h
  rfl

theorem thr : u.thr e t = s.thr e t := congrArg (fun y : Engine => y.thr t) h.eng

end State.MemOnly

/-- `u` differs from `s` in its engines alone. -/
def State.EnginesOnly (s u : State) : Prop := ∃ es, u = { s with engines := es }

theorem State.EnginesOnly.trans {w : State} (h : s.EnginesOnly u) (h' : u.EnginesOnly w) : s.EnginesOnly w := by
  obtain ⟨_, rfl⟩ := h
  obtain ⟨es, rfl⟩ := h'
  exact ⟨es, rfl⟩

theorem State.EnginesOnly.updEng (s : State) (e : Eng) (g : Engine → Engine) : s.EnginesOnly (s.updEng e g) := ⟨_, rfl⟩

/-- The engines hold no stored word. -/
theorem State.EnginesOnly.memWord (h : s.EnginesOnly u) (a : Nat) : u.memWord a = s.memWord a := by
  obtain ⟨es, rfl⟩ := h
  rfl

theorem State.consume_enginesOnly (s : State) (e : Eng) (t : Thr) (ev : Event) : s.EnginesOnly (s.consume e t ev) := by
  cases ev <;> exact ⟨_, rfl⟩

/-- An entry in a lane stays inside the engine. -/
theorem State.enterLane_enginesOnly (h : s.allocFrame e t = some f) (ev : Event) : s.EnginesOnly (s.enterLane e t ev) := by
  simp only [State.enterLane, h]
  exact (((State.EnginesOnly.updEng s e _).trans (State.consume_enginesOnly _ e t ev)).trans (.updEng _ e _)).trans (.updEng _ e _)

theorem Engine.markFrame_thr (y : Engine) (t : Thr) (f : FrameSlot) (take : Bool) (k : Thr) : (y.markFrame t f take).thr k = y.thr k := by
  unfold Engine.markFrame
  split <;> rfl

theorem Engine.orphanWalk_thr (y : Engine) (t k : Thr) : (y.orphanWalk t).thr k = y.thr k := rfl

theorem State.updEng_thr (s : State) (e : Eng) (t : Thr) (g : Engine → Engine) : (s.updEng e g).thr e t = (g (s.eng e)).thr t :=
  congrArg (fun y : Engine => y.thr t) (s.updEng_eng e g)

theorem State.foldCommit_thr (s : State) (e : Eng) (t : Thr) (ws : List DWord) (k : Thr) : (s.foldCommit e t ws).thr e k = s.thr e k :=
  s.updEng_thr e k fun y => { y with heddle := y.heddle.fold t ws }

/-- What an entry does to its own thread, beside the frame it takes, the walk it leaves and the block unit it frees. -/
theorem Engine.enter_thr (y : Engine) (t : Thr) (f : FrameSlot) (g : Thread → Thread) (o : Option Thr) :
    ({ ((y.markFrame t f true).orphanWalk t).updThr t g with blkOwner := o } : Engine).thr t = g (y.thr t) := by
  refine (Engine.updThr_thr _ t g).trans ?_
  rw [Engine.orphanWalk_thr, Engine.markFrame_thr]

/-- `y` is the thread `x` but for the words staged for the frame writer and the fault or exception that waits. -/
def Thread.EventsOnly (x y : Thread) : Prop := ∃ ws p q, y = { x with staged := ws, pfault := p, pexc := q }

theorem Thread.EventsOnly.trans {x y z : Thread} (h : x.EventsOnly y) (h' : y.EventsOnly z) : x.EventsOnly z := by
  obtain ⟨_, _, _, rfl⟩ := h
  obtain ⟨ws, p, q, rfl⟩ := h'
  exact ⟨ws, p, q, rfl⟩

theorem State.consume_eventsOnly (s : State) (e : Eng) (t : Thr) (ev : Event) : (s.thr e t).EventsOnly ((s.consume e t ev).thr e t) := by
  cases ev with
  | precise f | imprecise c fa => exact ⟨_, _, _, s.updThr_thr e t _⟩
  | nmi => exact ⟨_, _, _, s.updEng_thr e t fun y => { y with nmi := false }⟩
  | line n => exact ⟨_, _, _, s.updEng_thr e t fun y => { y with ipend := y.ipend &&& ~~~ BitVec.ofNat 32 (2 ^ n.val) }⟩

/-- What an entry changes of its thread (R114). -/
theorem State.enterLane_thr (h : s.allocFrame e t = some f) (ho : f.ovr = false) :
    ∃ y, (s.thr e t).EventsOnly y ∧
      (s.enterLane e t ev).thr e t = y.entered (entryApri s e ev (s.thr e t).apri) (s.vector e ev.cause) f.addr := by
  let w := s.updThr e t fun x => { x with staged := s.frameOf e t f ev.cause ev.val ev.fa }
  have hw : (s.thr e t).EventsOnly (w.thr e t) := ⟨_, _, _, s.updThr_thr e t _⟩
  refine ⟨(w.consume e t ev).thr e t, hw.trans (w.consume_eventsOnly e t ev), ?_⟩
  have hx : s.enterLane e t ev = ((w.consume e t ev).updEng e fun y =>
      { ((y.markFrame t f true).orphanWalk t).updThr t fun x =>
          x.entered (entryApri s e ev (s.thr e t).apri) (s.vector e ev.cause) f.addr with
        blkOwner := if y.blkOwner = some t then none else y.blkOwner }).foldCommit e t [w0Entry ev.cause t (s.vector e ev.cause)] := by
    simp only [State.enterLane, h, ho]
    rfl
  rw [hx, State.foldCommit_thr, State.updEng_thr, Engine.enter_thr]
  rfl
end

end Sys2Proof.Machine

namespace Sys2Proof.Machine

/-! ### O26: what an entry saves (R110 to R114) -/

section
variable {s : State} {e : Eng} {t : Thr} {ev : Event} {f : FrameSlot}

/-- The words of a frame that is not the emergency frame (R110 to R112). -/
theorem State.frameOf_eq (s : State) (e : Eng) (t : Thr) (cause : BitVec 6) (val : Word) (fa : Addr) (ho : f.ovr = false) :
    s.frameOf e t f cause val fa = frameWords (s.thr e t) cause val fa (isLit ((s.thr e t).tm.getLsbD 10) (s.fetchWord e t (s.thr e t).pc))
      (s.thr e t).lsu.delay ((s.thr e t).blk.active && !(s.thr e t).blk.ended) := by
  simp only [State.frameOf, ho, Bool.false_eq_true, if_false]

theorem State.enter_of_allocFrame (h : s.allocFrame e t = some f) (ev : Event) :
    s.enter e t ev = (s.writeFrame f.addr (s.frameOf e t f ev.cause ev.val ev.fa)).enterLane e t ev := by
  simp only [State.enter, h]

/-- An entry writes its frame and stays inside its engine. -/
theorem State.enter_enginesOnly (h : s.allocFrame e t = some f) (ev : Event) :
    (s.writeFrame f.addr (s.frameOf e t f ev.cause ev.val ev.fa)).EnginesOnly (s.enter e t ev) := by
  rw [State.enter_of_allocFrame h]
  exact State.enterLane_enginesOnly ((s.writeFrame_memOnly f.addr _).allocFrame.trans h) ev

/-- What an entry changes of its thread. -/
theorem State.enter_thr (h : s.allocFrame e t = some f) (ho : f.ovr = false) :
    ∃ y, (s.thr e t).EventsOnly y ∧
      (s.enter e t ev).thr e t = y.entered (entryApri s e ev (s.thr e t).apri) (s.vector e ev.cause) f.addr := by
  have hw := s.writeFrame_memOnly f.addr (s.frameOf e t f ev.cause ev.val ev.fa)
  rw [State.enter_of_allocFrame h]
  generalize s.writeFrame f.addr (s.frameOf e t f ev.cause ev.val ev.fa) = u at hw
  have := State.enterLane_thr (ev := ev) (hw.allocFrame.trans h) ho
  obtain ⟨m, x, rfl⟩ := hw
  exact this

theorem State.frameOf_bounds (ho : f.ovr = false) : ∀ p ∈ s.frameOf e t f ev.cause ev.val ev.fa, p.1 < 26 := by
  intro p hp
  rw [State.frameOf_eq s e t _ _ _ ho] at hp
  exact frameNumbers_lt _ _ p.1 (frameWords_numbers .. ▸ List.mem_map_of_mem hp)

section
variable (hc : s.memCanonical = true) (h : s.allocFrame e t = some f) (ho : f.ovr = false)
include hc h ho

/-- A word of the frame, read back after the entry. -/
theorem State.enter_frame {k : Nat} {v : Word} (hk : (k, v) ∈ s.frameOf e t f ev.cause ev.val ev.fa) :
    (s.enter e t ev).memWord (f.addr + k) = v := by
  have ha := (State.allocFrame_span h).lt
  rw [(State.enter_enginesOnly h ev).memWord]
  refine State.memWord_writeFrame hc (fun p hp => ?_) ?_ hk
  · have := State.frameOf_bounds ho p hp
    omega
  · rw [State.frameOf_eq s e t _ _ _ ho, frameWords_numbers]
    exact frameNumbers_nodup _ _

/-- A word outside the frame stands. -/
theorem State.enter_frame_other {a : Nat} (ha : a < f.addr ∨ f.addr + 26 ≤ a) : (s.enter e t ev).memWord a = s.memWord a := by
  have hl := (State.allocFrame_span h).lt
  rw [(State.enter_enginesOnly h ev).memWord]
  refine State.memWord_writeFrame_other hc (fun p hp => ?_) fun p hp => ?_ <;>
  · have := State.frameOf_bounds ho p hp
    omega

end

/-- The sixteen words that every frame holds (R110). -/
structure FrameSaves (x : Thread) (ev : Event) (lit : Bool) (w : Nat → Word) : Prop where
  pc : w 0 = x.pc.setWidth 12
  pch : w 1 = x.pch lit x.lsu.delay (x.blk.active && !x.blk.ended)
  tm : w 2 = x.tm
  cs : w 3 = x.cs ev.cause
  val : w 4 = ev.val
  fa : w 5 = loW ev.fa
  fah : w 6 = hiW ev.fa
  seg : w 7 = x.lsu.seg
  g1 : w 8 = x.g[1]
  g2 : w 9 = x.g[2]
  thi : w 10 = x.thi
  cnd : w 11 = x.cnd
  d : w 12 = x.lsu.d
  dh : w 13 = x.lsu.dh
  q : w 14 = x.lsu.q
  qh : w 15 = x.lsu.qh

theorem State.enter_saves (hc : s.memCanonical = true) (h : s.allocFrame e t = some f) (ho : f.ovr = false) (ev : Event) :
    ∃ lit, FrameSaves (s.thr e t) ev lit fun k => (s.enter e t ev).memWord (f.addr + k) := by
  refine ⟨isLit ((s.thr e t).tm.getLsbD 10) (s.fetchWord e t (s.thr e t).pc), ?_⟩
  constructor <;>
  · refine State.enter_frame hc h ho ?_
    rw [State.frameOf_eq s e t _ _ _ ho]
    simp [frameWords, Thread.pch, Thread.cs]

/-- G1 and G2 give the frame's address; the caller's other registers stand (R114 step 5). -/
theorem Thread.entered_g (x : Thread) (apri : BitVec 4) (vec : PAddr) (addr : Nat) :
    (x.entered apri vec addr).g[1] = wordOf addr 0 ∧ (x.entered apri vec addr).g[2] = wordOf addr 1 ∧
      ∀ k : Fin 32, 3 ≤ k.val → (x.entered apri vec addr).g[k.val] = x.g[k.val] := by
  have hg : (x.entered apri vec addr).g = (x.g.set 1 (wordOf addr 0)).set 2 (wordOf addr 1) := rfl
  simp only [hg]
  refine ⟨by simp, by simp, fun k hk => ?_⟩
  rw [Vector.getElem_set_ne _ _ (by omega), Vector.getElem_set_ne _ _ (by omega)]

/-- An entry changes no register and no program word. -/
theorem State.enter_regs_prog (h : s.allocFrame e t = some f) (ev : Event) :
    (s.enter e t ev).regs = s.regs ∧ (s.enter e t ev).prog = s.prog := by
  obtain ⟨es, hes⟩ := State.enter_enginesOnly h ev
  obtain ⟨m, z, hm⟩ := s.writeFrame_memOnly f.addr (s.frameOf e t f ev.cause ev.val ev.fa)
  rw [hes, hm]
  exact ⟨rfl, rfl⟩

theorem takingAnExceptionSavesTheThread : Claims.TakingAnExceptionSavesTheThread := by
  intro s e t ev f hc h ho x u y w
  obtain ⟨lit, hs⟩ := State.enter_saves hc h ho ev
  obtain ⟨hregs, hprog⟩ := State.enter_regs_prog h ev
  obtain ⟨x', ⟨ws, p, q, rfl⟩, hy⟩ := State.enter_thr (ev := ev) h ho
  obtain ⟨hg1, hg2, hg⟩ := Thread.entered_g { x with staged := ws, pfault := p, pexc := q } (entryApri s e ev x.apri)
    (s.vector e ev.cause) f.addr
  have hpch : w 1 = _ := hs.pch
  refine ⟨hs.pc, hpch ▸ x.pch_page lit _ _, hpch ▸ x.pch_apri lit _ _, hpch ▸ x.pch_ldd lit _ _, hpch ▸ x.pch_blka lit _ _, hs.tm, hs.cs,
    hs.val, hs.fa, hs.fah, hs.seg, hs.g1, hs.g2, hs.thi, hs.cnd, hs.d, hs.dh, hs.q, hs.qh,
    fun a ha => State.enter_frame_other hc h ho ha, ?_⟩
  have hy' : y = _ := hy
  clear_value y
  subst hy'
  exact ⟨rfl, rfl, rfl, hg1, hg2, rfl, rfl, rfl, rfl, rfl, rfl, rfl, rfl, rfl, rfl, rfl, rfl, rfl, rfl, rfl, hg, hregs, hprog⟩

end
end Sys2Proof.Machine

namespace Sys2Proof.Machine

/-! ### O26: the entry slot (R114, R117, R122, R123, R133) -/

section
variable {s u : State} {e : Eng} {t : Thr} {ev : Event} {f : FrameSlot} {q : Tail}

/-- Lanes that agree ask for one thing. -/
theorem State.firstAsk_of_together {α : Type} (h : s.together e = true) (req : State → Option α) : s.firstAsk e req = req s := by
  simp only [State.together, Engine.together, Bool.and_eq_true, Bool.not_eq_true'] at h
  have hl : s.askOf e req = fun _ => req s := by
    funext l
    cases l <;> simp [State.askOf, h]
  rw [State.firstAsk, hl]
  match (s.heddle e).good with
  | [] => rfl
  | l :: ls =>
    cases hr : req s with
    | none => exact List.findSome?_eq_none_iff.mpr fun _ _ => rfl
    | some r => rfl

/-- The selected thread has an event to enter, and its vector's line is cached. -/
structure EntryDue (s : State) (e : Eng) (t : Thr) (ev : Event) : Prop where
  cur : (s.eng e).cur = some t
  event : s.eventNow e t = some ev
  runs : s.engRuns e = true
  cached : ((s.eng e).cached (s.vectorLine e t ev)).isSome = true

namespace EntryDue
variable (h : EntryDue s e t ev)
include h

/-- The frame writer's words change nothing of what is due. -/
theorem memOnly (hm : State.MemOnly s u) : EntryDue u e t ev := by
  obtain ⟨hc, hv, hr, hl⟩ := h
  constructor
  · rwa [hm.eng]
  · rwa [hm.eventNow]
  · rwa [hm.engRuns]
  · rwa [hm.eng, hm.vectorLine]

/-- The frame writer asks for the new frame's words. -/
theorem frameRequest_new (ht : (s.thr e t).tail = none) (hf : s.allocFrame e t = some f) :
    s.frameRequest e = some (f.addr, false, s.frameOf e t f ev.cause ev.val ev.fa) := by
  simp [State.frameRequest, h.cur, h.event, h.runs, Option.isSome_iff_ne_none.mp h.cached, ht, hf]

/-- A tail entry keeps the frame: its writer asks for the cause alone (R122). -/
theorem frameRequest_tail (ht : (s.thr e t).tail = some q) (hf : s.currentFrame e t = some f) :
    s.frameRequest e = some (f.addr, true, [(3, ev.cause.setWidth 12)]) := by
  simp [State.frameRequest, h.cur, h.event, h.runs, Option.isSome_iff_ne_none.mp h.cached, ht, hf]

theorem entryIn_new (ht : (s.thr e t).tail = none) : s.entryIn e = (s.enterLane e t ev).boundary e := by
  simp [State.entryIn, h.cur, h.event, h.runs, Option.isSome_iff_ne_none.mp h.cached, ht]

theorem entryIn_tail (ht : (s.thr e t).tail = some q) (hf : s.currentFrame e t = some f) :
    s.entryIn e = (s.tailLane e t f q ev).boundary e := by
  simp [State.entryIn, h.cur, h.event, h.runs, Option.isSome_iff_ne_none.mp h.cached, ht, hf]

/-- The vote passes in lanes that agree, and the frame writer's words end as `o` says. -/
theorem exec_entrySlot {r : FrameAsk} (ht : s.together e = true) (hr : s.frameRequest e = some r) (o : WriteOutcome)
    (ho : o ≠ .errorResponse) (hw : s.effWrite (.engine e t true) (BitVec.ofNat 24 r.1) o = o) :
    exec (.entrySlot e o) s = .next (
      let w := (s.countWrite (.engine e t true) (BitVec.ofNat 24 r.1) o 26).wake (BitVec.ofNat 24 r.1)
      if writeGood o then (w.writeAsked r).inLanes e fun s => s.entryIn e else w.lockup e t 0x3F) := by
  show execEntrySlot e o s = _
  simp only [execEntrySlot, State.firstAsk_of_together ht, State.voteNow_of_together ht, hr, h.cur, Option.bind_some, if_neg ho, hw]

/-- The frame writer's words reach the bank, and the entry follows. -/
theorem exec_entrySlot_ok {r : FrameAsk} (ht : s.together e = true) (hr : s.frameRequest e = some r) (hs : InFrameSpan e r.1)
    (ha : s.asleep (BitVec.ofNat 24 r.1) = false) (hm : State.MemOnly s (s.writeAsked r)) :
    exec (.entrySlot e .ok) s = .next ((s.writeAsked r).entryIn e) := by
  rw [h.exec_entrySlot ht hr .ok (by decide) (State.effWrite_ok (hs.cutOff s t true))]
  show Host.Outcome.next (((s.wake _).writeAsked r).inLanes e _) = _
  rw [State.wake_of_awake ha, State.inLanes_of_together (hm.together.trans ht)]

end EntryDue

theorem State.asleep_congr {a : Addr} (h : u.clusters = s.clusters) : u.asleep a = s.asleep a := by
  unfold State.asleep State.clu
  rw [h]

theorem State.updClu_asleep (s : State) (c : Clu) {g : Cluster → Cluster} (hg : ∀ x, (g x).banks = x.banks) (a : Addr) :
    (s.updClu c g).asleep a = s.asleep a := by
  have hb : ∀ k, ((s.updClu c g).clu k).banks = (s.clu k).banks := by
    intro k
    by_cases hk : k = c
    · subst hk
      rw [State.updClu_clu, hg]
    · rw [State.updClu_clu_other _ _ hk]
  simp only [State.asleep, hb]

/-- A memory event leaves the banks' modes. -/
theorem State.memEvent_asleep (s : State) (c : Clu) (b : Bank) (q : Requester) (kind : Nat) (cause : BitVec 7) (a : Addr) (write : Bool)
    (x : Addr) : (s.memEvent c b q kind cause a write).asleep x = s.asleep x := by
  unfold State.memEvent
  rw [State.asleep_congr (State.raiseBy_clusters ..)]
  refine State.updClu_asleep s c ?_ x
  exact fun _ => rfl

theorem State.countWrite_bankFail_asleep (s : State) (m : Master) (a : Addr) (n : Nat) (x : Addr) :
    (s.countWrite m a .bankFail n).asleep x = s.asleep x := by
  unfold State.countWrite
  dsimp only
  split
  · exact State.memEvent_asleep ..
  · rfl

theorem entrySlotsTakeTheEvent : Claims.EntrySlotsTakeTheEvent := by
  intro s e t ev ht hc hv hr hl
  have h : EntryDue s e t ev := ⟨hc, hv, hr, hl⟩
  refine ⟨fun f hn hf ha => ?_, fun f hn hf hd ha => ?_, fun f q hq hf ha => ?_⟩
  · have hm := s.writeFrame_memOnly f.addr (s.frameOf e t f ev.cause ev.val ev.fa)
    rw [h.exec_entrySlot_ok ht (h.frameRequest_new hn hf) (State.allocFrame_span hf) ha hm,
      State.enter_of_allocFrame hf]
    exact congrArg _ ((h.memOnly hm).entryIn_new ((congrArg Thread.tail hm.thr).trans hn))
  · have hs := State.allocFrame_span hf
    have hw : s.effWrite (.engine e t true) (BitVec.ofNat 24 f.addr) .bankFail = .bankFail := by
      simp [State.effWrite, hs.cutOff, memClu_data hd]
    rw [h.exec_entrySlot ht (h.frameRequest_new hn hf) .bankFail (by decide) hw]
    refine congrArg (fun u : State => Host.Outcome.next (u.lockup e t 0x3F)) ?_
    exact State.wake_of_awake ((s.countWrite_bankFail_asleep _ _ 26 _).trans ha)
  · have hm := State.MemOnly.setMem s (f.addr + 3) ((s.memWord (f.addr + 3) &&& 0xFC0) ||| ev.cause.setWidth 12)
    rw [h.exec_entrySlot_ok ht (h.frameRequest_tail hq hf) (State.currentFrame_span hf) ha hm]
    exact congrArg _ ((h.memOnly hm).entryIn_tail ((congrArg Thread.tail hm.thr).trans hq) (hm.currentFrame.trans hf))

end

/-- Settles O26: the entry slot is the entry, and the entry writes the frame and then changes its engine alone. -/
theorem entriesSaveTheThread : Obligations.EntriesSaveTheThread :=
  ⟨entrySlotsTakeTheEvent, takingAnExceptionSavesTheThread⟩

end Sys2Proof.Machine

namespace Sys2Proof.Machine

/-! ### O27: what a return restores (R114, R121) -/

section
variable {s : State} {e : Eng} {t : Thr} {f : FrameSlot}

/-- A return through a frame that holds no block operation: what it gives back to its thread. -/
theorem State.restoreWith_thr (s : State) (e : Eng) (t : Thr) (f : FrameSlot) {w : Nat → Word} (hb : (w 1).getLsbD 10 = false) :
    (s.restoreWith e t f w).thr e t =
      let x := s.thr e t
      { x with
        pc := BitVec.ofNat 17 (bitsAt (w 1) 0 5 * 4096 + (w 0).toNat)
        tm := w 2
        shadow := none
        alu := { x.alu with n := (w 3).getLsbD 11, z := (w 3).getLsbD 10, c := (w 3).getLsbD 9, v := (w 3).getLsbD 8 }
        g := (x.g.set 1 (w 8)).set 2 (w 9)
        thi := w 10
        cnd := w 11
        lsu := { x.lsu with
          seg := w 7, d := w 12, dh := w 13, q := w 14, qh := w 15
          delay := (w 1).getLsbD 11
          newQ := if (w 1).getLsbD 11 then some (w 16, some (w 17)) else none }
        apri := BitVec.ofNat 4 (bitsAt (w 1) 5 4)
        ret := false } := by
  simp only [State.restoreWith, hb, Bool.false_eq_true, if_false, Bool.false_and, State.updEng_thr, Engine.updThr_thr, Engine.markFrame_thr]
  rfl

/-- The caller's G1 and G2 written back over those of the entry. -/
theorem Thread.entered_g_restored (x : Thread) (apri : BitVec 4) (vec : PAddr) (addr : Nat) :
    ((x.entered apri vec addr).g.set 1 x.g[1]).set 2 x.g[2] = x.g := by
  ext k hk
  simp only [Thread.entered, Vector.getElem_set]
  split_ifs with h2 h1
  · subst h2; rfl
  · subst h1; rfl
  · rfl

/-- The two words of a PC in a frame. -/
theorem PAddr.ofNat_page (pc : PAddr) : (BitVec.ofNat 17 (pc.toNat / 4096 * 4096 + (pc.setWidth 12 : Word).toNat) : PAddr) = pc := by
  apply BitVec.eq_of_toNat_eq
  have := pc.isLt
  simp
  omega

theorem returnRestoresWhatTheEntrySaved : Claims.ReturnRestoresWhatTheEntrySaved := by
  intro s e t ev f hc h ho hb hd _ x y
  obtain ⟨lit, hs⟩ : ∃ lit, FrameSaves x ev lit ((s.enter e t ev).frameAt f.addr) := State.enter_saves hc h ho ev
  obtain ⟨x', ⟨ws, p, q, rfl⟩, hx⟩ := State.enter_thr (ev := ev) h ho
  have hy : y = ((s.enter e t ev).restoreWith e t f ((s.enter e t ev).frameAt f.addr)).thr e t := rfl
  generalize (s.enter e t ev).frameAt f.addr = w at hs hy
  have hblk : (w 1).getLsbD 10 = false := by rw [hs.pch, Thread.pch_blka, hb]; rfl
  have hldd : (w 1).getLsbD 11 = false := by rw [hs.pch, Thread.pch_ldd, hd]
  obtain ⟨hn, hz, hcy, hv⟩ := x.cs_flags ev.cause
  rw [State.restoreWith_thr _ e t f hblk, hx] at hy
  clear_value y
  subst hy
  refine ⟨?_, hs.tm, ?_, hs.thi, hs.cnd, ?_, ?_, hs.seg, hs.d, hs.dh, hs.q, hs.qh, hldd, rfl, rfl, rfl⟩
  · show BitVec.ofNat 17 (bitsAt (w 1) 0 5 * 4096 + (w 0).toNat) = x.pc
    rw [hs.pch, Thread.pch_page, hs.pc, PAddr.ofNat_page]
  · show ((Thread.entered _ _ _ _).g.set 1 (w 8)).set 2 (w 9) = x.g
    rw [hs.g1, hs.g2]
    exact Thread.entered_g_restored { x with staged := ws, pfault := p, pexc := q } _ _ _
  · show BitVec.ofNat 4 (bitsAt (w 1) 5 4) = x.apri
    rw [hs.pch, Thread.pch_apri, BitVec.ofNat_toNat, BitVec.setWidth_eq]
  · show { x.alu with n := (w 3).getLsbD 11, z := (w 3).getLsbD 10, c := (w 3).getLsbD 9, v := (w 3).getLsbD 8 } = x.alu
    rw [hs.cs, hn, hz, hcy, hv]
end
end Sys2Proof.Machine

namespace Sys2Proof.Machine

/-! ### O27: the return (R121 to R123) -/

section
variable {s : State} {e : Eng} {t : Thr} {f : FrameSlot} {a : Addr} {m : Master} {ws : List Addr}

/-- Nothing replaces a return whose frame holds a load delay, or whose IEN and priority let no waiting event in (R122). -/
theorem State.tailEvent_eq_none {w : Nat → Word}
    (h : (w 1).getLsbD 11 = true ∨ s.pickEvent e t ((w 2).getLsbD 9) (BitVec.ofNat 4 (bitsAt (w 1) 5 4)) true = none) :
    s.tailEvent e t w = none := by
  unfold State.tailEvent
  rcases h with h | h
  · rw [if_pos h]
  · rw [h, ite_self]

theorem State.tailEvent_of_no_delay {w : Nat → Word} (h : (w 1).getLsbD 11 = false) :
    s.tailEvent e t w = s.pickEvent e t ((w 2).getLsbD 9) (BitVec.ofNat 4 (bitsAt (w 1) 5 4)) true := by
  rw [State.tailEvent, h, if_neg Bool.false_ne_true]

/-- A read of good words that fails persistently on its way. -/
theorem State.effRead_persistent_of_good (hg : ∀ b ∈ ws, s.wordGood b = true) (hc : s.cutOff m (ws.headD 0) = false)
    (hp : hasParity (ws.headD 0) = true) : s.effRead m ws .persistent = .persistent := by
  have hb : (ws.any fun w => !s.wordGood w) = false := by simpa using hg
  simp only [State.effRead, hc, hb, hp, Bool.and_false, Bool.false_eq_true, if_false, if_true]

/-- A thread of lanes that agree returns: its stores are committed and its frame's bank is awake. -/
structure ReturnDue (s : State) (e : Eng) (t : Thr) (f : FrameSlot) : Prop where
  together : s.together e = true
  ret : (s.thr e t).ret = true
  stores : (s.eng e).posted t = 0
  runs : s.engRuns e = true
  frame : s.currentFrame e t = some f
  awake : s.asleep (BitVec.ofNat 24 f.addr) = false

namespace ReturnDue
variable (h : ReturnDue s e t f)
include h

theorem returnAsk : s.returnAsk e t = some f.addr := by
  simp [State.returnAsk, h.ret, h.stores, h.runs, h.frame]

/-- A waiting event replaces the return, and the frame is not read. -/
theorem exec_tail {ev : Event} (o : ReadOutcome) (hv : s.tailEvent e t (s.frameAt f.addr) = some ev) :
    exec (.returnGate e t o) s = .next (s.updThr e t fun x =>
      { x with ret := false, tail := some ⟨ev.cause, (s.frameAt f.addr 2).getLsbD 9, BitVec.ofNat 4 (bitsAt (s.frameAt f.addr 1) 5 4)⟩ }) := by
  show execReturnGate e t o s = _
  simp [execReturnGate, State.voteNow_of_together h.together, h.returnAsk, h.awake, hv, State.inLanes_of_together h.together,
    State.returnIn, h.ret, h.frame]

/-- No event waits: the frame is read. -/
theorem exec_read {o : ReadOutcome} (hv : s.tailEvent e t (s.frameAt f.addr) = none)
    (ho : s.effRead (.engine e t true) (s.frameReads f.addr) o = o) :
    exec (.returnGate e t o) s = .next (
      let u := s.countRead (.engine e t true) (s.frameReads f.addr) o false
      if readGood o then u.inLanes e fun v => v.returnIn e t (u.frameAt f.addr) else u.lockup e t 0x3F) := by
  show execReturnGate e t o s = _
  simp only [execReturnGate, State.voteNow_of_together h.together, h.returnAsk, h.awake, hv, ho, Bool.false_eq_true, if_false,
    Option.isSome_none]

theorem returnIn (hv : s.tailEvent e t (s.frameAt f.addr) = none) : s.returnIn e t (s.frameAt f.addr) = s.restore e t f := by
  simp [State.returnIn, h.ret, h.frame, hv, State.restore]
end ReturnDue

theorem returnsReadTheirFrame : Claims.ReturnsReadTheirFrame := by
  intro s e t f ht hr hs hn hf ha hg pch waits
  have h : ReturnDue s e t f := ⟨ht, hr, hs, hn, hf, ha⟩
  have hc : s.cutOff (.engine e t true) ((s.frameReads f.addr).headD 0) = false := (State.currentFrame_span hf).cutOff s t true
  refine ⟨fun hw => ?_, fun ev hd hw => ?_, fun hw hd => ?_⟩
  · have hv := State.tailEvent_eq_none (w := s.frameAt f.addr) hw
    have ho : s.effRead (.engine e t true) (s.frameReads f.addr) .ok = .ok := by rw [State.effRead_ok _ hg, hc, if_neg Bool.false_ne_true]
    rw [h.exec_read hv ho]
    show Host.Outcome.next (s.inLanes e fun v => v.returnIn e t (s.frameAt f.addr)) = _
    rw [State.inLanes_of_together ht, h.returnIn hv]
  · have hv := State.tailEvent_of_no_delay (s := s) (e := e) (t := t) (w := s.frameAt f.addr) hd
    exact h.exec_tail .ok (hv.trans hw)
  · have hv := State.tailEvent_eq_none (w := s.frameAt f.addr) hw
    rw [h.exec_read hv (State.effRead_persistent_of_good hg hc (hasParity_data hd))]
    rfl
end

/-! ### O27: lockup (R123, R320) -/

/-- ENG.LOCK after a lockup (R133). -/
theorem lockWord (t : Thr) (cause : BitVec 6) :
    let v := flag 11 true ||| fld 8 t.val ||| cause.setWidth 12
    v.getLsbD 11 = true ∧ bitsAt v 8 3 = t.val ∧ bitsAt v 0 6 = cause.toNat := by
  intro v
  have hb : ∀ i, v.getLsbD i = (decide (i < 12) && (decide (11 = i) || decide (8 ≤ i) && t.val.testBit (i - 8) || cause.getLsbD i)) := by
    intro i
    simp only [v, BitVec.getLsbD_or, flag_getLsbD, fld_getLsbD, BitVec.getLsbD_setWidth, Bool.true_and]
    cases decide (i < 12) <;> simp
  refine ⟨by rw [hb]; rfl, ?_, ?_⟩
  · have h : v.extractLsb' 8 3 = BitVec.ofNat 3 t.val := by
      ext i hi
      rw [BitVec.getElem_extractLsb', hb, BitVec.getLsbD_of_ge cause _ (by omega)]
      simp [show 8 + i < 12 by omega, show 11 ≠ 8 + i by omega]
    rw [bitsAt_eq_extractLsb', h, BitVec.toNat_ofNat]
    exact Nat.mod_eq_of_lt t.isLt
  · have h : v.extractLsb' 0 6 = cause := by
      ext i hi
      rw [BitVec.getElem_extractLsb', hb]
      simp [show i < 12 by omega, show 11 ≠ i by omega, show ¬ 8 ≤ i by omega, BitVec.getLsbD_eq_getElem hi]
    rw [bitsAt_eq_extractLsb', h]

section
variable {s : State} {e : Eng} {t : Thr} {cause : BitVec 6}

theorem State.hirq_engines (s : State) : s.hirq.engines = s.engines := by
  simp only [State.hirq]
  split
  · exact s.msix_engines _
  · rfl

theorem State.hirq_col (s : State) : s.hirq.col = s.col := by
  simp only [State.hirq]
  split
  · exact s.msix_col _
  · rfl

theorem engSrc_no_lines (e : Eng) : rng (engSrc e).val 100 103 = false :=
  rng_of_lt (show e.val < 100 by omega)

/-- An engine locks up: what that leaves of it, and of the events at its source. -/
theorem State.lockup_eng_src (h : (s.eng e).locked = false) (t : Thr) (cause : BitVec 6) :
    (s.lockup e t cause).eng e = (s.eng e).lockUp t cause ∧
      (s.lockup e t cause).src (engSrc e) =
        (s.raise (engSrc e) 0x50 (BitVec.ofNat 24 (t.val * 2 ^ 9 + cause.toNat))).src (engSrc e) := by
  let u := (s.raise (engSrc e) 0x50 (BitVec.ofNat 24 (t.val * 2 ^ 9 + cause.toNat))).updEng e fun x => x.lockUp t cause
  have hx : s.lockup e t cause = if s.lockedUp then u else u.hirq := by
    have hu : u = (s.updEng e fun x => x.lockUp t cause).raise (engSrc e) 0x50 _ :=
      (State.raiseBy_updEng none _ _ (engSrc_no_lines e) _).symm
    rw [State.lockup, State.lockWith, h, if_neg Bool.false_ne_true, hu]
  have heng : u.eng e = (s.eng e).lockUp t cause := by
    rw [State.updEng_eng, State.raise, (State.AgreeAt.raiseBy s e none _ _ (engSrc_no_lines e)).eng]
  rw [hx]
  split
  · exact ⟨heng, rfl⟩
  · refine ⟨Eq.trans ?_ heng, ?_⟩
    · rw [State.eng, State.hirq_engines, State.eng]
    · simp only [State.src, State.hirq_col]
      rfl

theorem Engine.lockUp_thr (y : Engine) (t : Thr) (cause : BitVec 6) (k : Thr) :
    (y.lockUp t cause).thr k = { y.thr k with run := .locked, haltReq := false } := vmap_getElem _ _ k.isLt

theorem lockupStopsTheEngine : Claims.LockupStopsTheEngine := by
  intro s e t cause
  refine ⟨fun h => if_pos h, fun h => ?_⟩
  intro u
  obtain ⟨heng, hsrc⟩ := State.lockup_eng_src h t cause
  obtain ⟨hl, ht, hc⟩ := lockWord t cause
  have hu : u.eng e = _ := heng
  have hthr : ∀ k, u.thr e k = { s.thr e k with run := .locked, haltReq := false } := fun k => by
    rw [State.thr, hu, Engine.lockUp_thr]
    rfl
  refine ⟨hu ▸ hl, hu ▸ ht, hu ▸ hc, fun k => by rw [hthr]; exact ⟨rfl, rfl, rfl⟩, fun hup hw => ?_, fun k hk => ?_⟩
  · rw [hsrc]
    exact State.raiseBy_waiting none 0x50 _ (engSrc_no_lines e) hup hw
  · rw [(State.Within.lockup s e t cause).eng k hk]
end

/-- Settles O27: the frame's words are those that the entry saved, the return gate reads them, and a lockup changes its engine alone. -/
theorem returnsRestoreTheThread : Obligations.ReturnsRestoreTheThread :=
  ⟨returnRestoresWhatTheEntrySaved, returnsReadTheirFrame, lockupStopsTheEngine⟩

end Sys2Proof.Machine

namespace Sys2Proof.Machine

/-! ### O31: picks close and are judged (R139 to R141, R146, R165) -/

section
variable {s : State} {e : Eng} {p : ClosedPick} {rest : List ClosedPick}

theorem Heddle.close_count (h : Heddle) (t : Thr) (xa xb xc : DWord) :
    (h.close t xa xb xc).count = #v[if h.commits? .a then 0 else h.count[0], if h.commits? .b then 0 else h.count[1],
      if h.commits? .c then 0 else h.count[2]] := by
  ext i hi
  rw [Heddle.close, vmap_getElem _ _ hi]
  match i, hi with
  | 0, _ => rfl
  | 1, _ => rfl
  | 2, _ => rfl

/-- A close with each lane's count written out: it starts again with the next pick where the lane commits. -/
theorem Heddle.close_eq (h : Heddle) (t : Thr) (xa xb xc : DWord) :
    h.close t xa xb xc = { h with
      closed := h.closed ++ [⟨#v[h.sig[0] ^^^ xa, h.sig[1] ^^^ xb, h.sig[2] ^^^ xc], decide (h.phase = .inStep), t, h.injPick⟩]
      sig := Vector.replicate 3 0x5A5A5A, injPick := Vector.replicate 3 false, picks := h.picks + 1
      count := #v[if h.commits? .a then 0 else h.count[0], if h.commits? .b then 0 else h.count[1],
        if h.commits? .c then 0 else h.count[2]] } := by
  rw [← Heddle.close_count h t xa xb xc]
  rfl

theorem State.updHeddle_congr {f g : Heddle → Heddle} (h : f (s.heddle e) = g (s.heddle e)) : s.updHeddle e f = s.updHeddle e g :=
  State.updEng_congr (congrArg (fun h => { s.eng e with heddle := h }) h)

/-- Verdict units that disagree stop the engine (R146). -/
theorem exec_pickVerdict_units (hr : s.engRuns e = true) (hc : (s.heddle e).closed = p :: rest) :
    exec (.pickVerdict e false) s = .next ((s.updHeddle e fun h => { h with closed := rest }).engineStop e p.thr 0x48) := by
  show execPickVerdict e false s = _
  simp [execPickVerdict, hr, hc]

/-- What the verdict of three lanes makes of the one whose signature differs: an injection into it is not counted (R165). -/
def State.outvoted (s : State) (e : Eng) (p : ClosedPick) (l : Lane) : State :=
  if p.inj[(laneIdx l).val] then s.detect e l (some 0x49) false else s.detect e l (some 0x40) true

/-- The verdict of three lanes over a pick. -/
theorem State.verdict_three (hg : (s.heddle e).good = [.a, .b, .c]) :
    s.verdict e p =
      if p.sigs[0] = p.sigs[1] && p.sigs[1] = p.sigs[2] then s
      else if p.sigs[0] ≠ p.sigs[1] && p.sigs[1] ≠ p.sigs[2] && p.sigs[0] ≠ p.sigs[2] then s.engineStop e p.thr 0x45
      else s.outvoted e p (if p.sigs[0] = p.sigs[1] then .c else if p.sigs[0] = p.sigs[2] then .b else .a) := by
  simp only [State.verdict, hg]
  rfl

end

theorem picksCloseAndAreJudged : Claims.PicksCloseAndAreJudged := by
  intro s e timed xa xb xc hr h
  refine ⟨fun hw => ?_, ?_⟩
  · have hdue : (s.engRuns e && (timed || decide (s.pickW e ≤ (s.heddle e).commits))) = true := by
      rw [hr, Bool.true_and, Bool.or_eq_true, decide_eq_true_eq]
      exact hw
    show execPickClose e timed xa xb xc s = _
    rw [execPickClose, if_pos hdue]
    exact congrArg _ (State.updHeddle_congr (Heddle.close_eq _ _ _ _ _))
  · intro p rest hc hg left run found
    have hgl : (left.heddle e).good = [.a, .b, .c] := by rw [State.heddle_updHeddle]; exact hg
    have hrun : run = .next (left.verdict e p) := exec_pickVerdict_due hr hc
    have hfound : ∀ l, found l = left.outvoted e p l := fun _ => rfl
    rw [hrun, State.verdict_three hgl]
    simp only [hfound]
    refine ⟨fun hab hbc => ?_, fun hab hbc => ?_, fun hac hbc => ?_, fun hbc hac => ?_, fun hab hbc hac => ?_, exec_pickVerdict_units hr hc⟩
    · simp [hab, hbc]
    · simp [hab, hbc]
    · simp [hac, hbc, Ne.symm hbc]
    · simp [hbc, hac]
    · simp [hab, hbc, hac]

/-! ### O31: the bulk copy and the pause (R154 to R157) -/

section
variable {s : State} {e : Eng} {l g : Lane} {rest : List Lane}

/-- A thread after the bulk copy holds the source lane's, with the odd lane's own operations in flight. -/
theorem EngineCore.bulkCopy_thread (x y : EngineCore) (cfg : Vector Word 67) (t : Thr) :
    (x.bulkCopy cfg y).threads[t.val] = x.threads[t.val].keepFlight y.threads[t.val] := by
  rw [EngineCore.bulkCopy, vmap_getElem _ _ t.isLt]
  simp

theorem Engine.view_of_stray {x : Engine} {y : EngineCore} (h : x.stray[(laneIdx l).val] = some y) : (x.view l).toEngineCore = y := by
  rw [Engine.view, h, Option.getD_some]

/-- The engine at the end of the bulk copy into lane `l`. -/
def Engine.bulkCopied (x : Engine) (l : Lane) (cfg : Vector Word 67) : Engine :=
  { x with
    stray := upd x.stray (laneIdx l) fun o => o.map fun y => (x.view x.heddle.source).bulkCopy cfg y
    heddle := { x.heddle with phase := .copied } }

theorem exec_bulkCopyEnd (hg : s.gatedEng e = false) (hp : (s.heddle e).phase = .bulk) (ho : (s.heddle e).odd = some l) :
    exec (.bulkCopyEnd e) s = .next (s.updEng e fun x => x.bulkCopied l (s.engCopies e)) := by
  show execBulkCopyEnd e s = _
  simp only [execBulkCopyEnd, hg, hp, ho, decide_true, Bool.not_false, Bool.and_self, if_true]
  rfl

theorem Engine.bulkCopied_view {x : Engine} {y : EngineCore} (cfg : Vector Word 67) (h : x.stray[(laneIdx l).val] = some y) :
    ((x.bulkCopied l cfg).view l).toEngineCore = (x.view x.heddle.source).bulkCopy cfg y :=
  Engine.view_of_stray ((upd_self _ _ _).trans (by rw [h]; rfl))

theorem exec_pauseStart (hg : s.gatedEng e = false) (hp : (s.heddle e).phase = .copied) :
    exec (.pauseStart e) s = .next (s.updHeddle e fun h => { h with phase := .paused }) := by
  show execPauseStart e s = _
  simp [execPauseStart, hg, hp]

/-- The engine at the end of a pause of `ek` engine clocks, before what waited is delivered: lane `l` holds what lane `g` holds, which is
what the lanes that agree hold. -/
def Engine.resumed (x : Engine) (l g : Lane) (ek : Word) : Engine :=
  { x with
    stray := x.stray.set (laneIdx l).val none
    heddle := { x.heddle with
      phase := .inStep, gatedEk := x.heddle.gatedEk + ek.toNat, sig := x.heddle.sig.set (laneIdx l).val (x.heddle.sigOf g)
      count := x.heddle.count.set (laneIdx l).val x.heddle.count[(laneIdx g).val]
      maxp := if x.heddle.maxp.toNat < ek.toNat then ek else x.heddle.maxp } }

theorem exec_pauseEnd (hg : s.gatedEng e = false) (hp : (s.heddle e).phase = .paused) (ho : (s.heddle e).odd = some l)
    (hs : (s.heddle e).good = g :: rest) (ha : (s.eng e).apart g = false) (ek : Word) :
    exec (.pauseEnd e ek) s = .next (((s.updEng e fun x => x.resumed l g ek).flush e).gaugeFeed 6 e.val none (ek.setWidth 24)) := by
  have hsrc : (s.heddle e).source = g := by rw [Heddle.source, hs]; rfl
  have hnone : (s.eng e).stray[(laneIdx g).val] = none := by simpa [Engine.apart] using ha
  show execPauseEnd e ek s = _
  simp only [execPauseEnd, hg, hp, ho, hsrc, decide_true, Bool.not_false, Bool.and_self, if_true]
  refine congrArg _ (congrArg (fun u : State => (u.flush e).gaugeFeed 6 e.val none (ek.setWidth 24)) (State.updEng_congr ?_))
  simp only [hnone]
  rfl

/-- Lanes that run take what waited at the delivery point, in its order. -/
theorem State.flush_of_runs (h : s.still e = false) :
    s.flush e = (s.eng e).held.foldl (fun u d => u.deliverNow e d) (s.updEng e fun x => { x with held := [] }) := by
  rw [State.flush, if_neg (by rw [h]; exact Bool.false_ne_true)]

theorem State.still_resumed (hg : s.gatedEng e = false) (ek : Word) : (s.updEng e fun x => x.resumed l g ek).still e = false := by
  rw [State.still, State.paused, State.updEng_eng]
  exact hg

end

/-! ### O31: a counted detection (R156, R158, R159) -/

section
variable {s : State} {e : Eng} {l : Lane}

theorem Engine.settle_heddle (x : Engine) : x.settle.heddle = x.heddle := by
  unfold Engine.settle
  split
  · rfl
  · split
    · rfl
    · rfl

/-- A lane that does not commit keeps its state. -/
theorem Engine.settle_stray {x : Engine} (hl : x.heddle.commits? l = false) :
    x.settle.stray[(laneIdx l).val] = x.stray[(laneIdx l).val] := by
  unfold Engine.settle
  split
  · rfl
  · next k r hk =>
    have hkc : x.heddle.commits? k = true := (List.mem_filter.mp (hk ▸ List.mem_cons_self)).2
    have hne : l ≠ k := fun h => by rw [h, hkc] at hl; cases hl
    split
    · exact upd_other _ _ (laneIdx_ne hne)
    · rfl

/-- A detection of lane `l` has been counted. -/
def State.countDetection (s : State) (e : Eng) (l : Lane) : State :=
  s.updHeddle e fun h =>
    { h with cnt := upd h.cnt (laneIdx l) fun c => sat12 (c.toNat + 1), times := upd h.times (laneIdx l) fun ts => (s.fk :: ts).take 15 }

/-- The engine once the re-threading of lane `l` has begun. -/
def Engine.rethreading (x : Engine) (l : Lane) (cfg : Vector Word 67) : Engine :=
  Engine.settle { x.freeze l cfg with heddle := { x.heddle with odd := some l, phase := .bulk, since := x.free, gatedEk := 0 } }

theorem State.detect_at_limit (code : Option (BitVec 7))
    (h : bitsAt (s.reg (engBase e + 0x40)) 8 4 ≤ (s.countDetection e l).recentDetections e l) :
    s.detect e l code true = (s.countDetection e l).retireLane e l := by
  rw [State.detect, if_pos]
  · rfl
  · exact decide_eq_true h

theorem State.detect_below_limit (code : BitVec 7)
    (h : (s.countDetection e l).recentDetections e l < bitsAt (s.reg (engBase e + 0x40)) 8 4) :
    s.detect e l (some code) true =
      ((s.countDetection e l).updEng e fun x => x.rethreading l (s.engCopies e)).heddleReport e code (laneCode l) := by
  rw [State.detect, if_neg]
  · rfl
  · exact fun hd => Nat.not_le.mpr h (of_decide_eq_true hd)

theorem Engine.rethreading_heddle (x : Engine) (cfg : Vector Word 67) :
    (x.rethreading l cfg).heddle = { x.heddle with odd := some l, phase := .bulk, since := x.free, gatedEk := 0 } :=
  Engine.settle_heddle _

theorem Heddle.commits?_of_bulk {h : Heddle} (ho : h.odd = some l) (hp : h.phase = .bulk) : h.commits? l = false := by
  simp [Heddle.commits?, Heddle.frozen, ho, hp]

/-- The lane stands still with what it held and its configuration copies. -/
theorem Engine.rethreading_stray (x : Engine) (cfg : Vector Word 67) :
    (x.rethreading l cfg).stray[(laneIdx l).val] = some { (x.view l).toEngineCore with cfg := some cfg } :=
  (Engine.settle_stray (Heddle.commits?_of_bulk rfl rfl)).trans (upd_self _ _ _)

/-- The engine once a heddle event has entered ENG.HLAST. -/
def Engine.reported (x : Engine) (code : BitVec 7) (lane : Nat) : Engine :=
  { x with heddle := { x.heddle with last := fld 10 lane ||| code.setWidth 12 } }

/-- A report without line 31 reaches ENG.HLAST alone in its engine (R162). -/
theorem State.heddleReport_eng {code : BitVec 7} (h : rng code.toNat 0x42 0x44 = false) (lane : Nat) :
    (s.heddleReport e code lane).eng e = (s.eng e).reported code lane := by
  rw [State.heddleReport, if_neg (by rw [h]; exact Bool.false_ne_true), State.raise,
    (State.AgreeAt.raiseBy _ e none _ _ (engSrc_no_lines e)).eng, State.updHeddle, State.updEng_eng, Engine.reported]

theorem State.detect_below_limit_eng {code : BitVec 7} (hc : rng code.toNat 0x42 0x44 = false)
    (h : (s.countDetection e l).recentDetections e l < bitsAt (s.reg (engBase e + 0x40)) 8 4) :
    (s.detect e l (some code) true).eng e =
      (((s.countDetection e l).eng e).rethreading l (s.engCopies e)).reported code (laneCode l) := by
  rw [State.detect_below_limit code h, State.heddleReport_eng hc, State.updEng_eng]

@[simp] theorem State.heddleReport_dev (code : BitVec 7) (lane : Nat) : (s.heddleReport e code lane).dev = s.dev := by
  unfold State.heddleReport
  split
  · rw [State.setLine_dev, State.raise_dev]; rfl
  · rw [State.raise_dev]; rfl

/-- Which lanes have been retired, and which is odd. -/
def Heddle.roster (h : Heddle) : Vector Bool 3 × Option Lane := (h.retired, h.odd)

/-- A line that becomes pending changes neither which lanes have been retired nor which is odd. -/
theorem State.setLine_roster (n : Nat) : ((s.setLine e n).heddle e).roster = (s.heddle e).roster := by
  unfold State.setLine
  split
  · rw [State.heddle, State.updEng_eng]; rfl
  · refine (foldl_keeps (fun u => (u.heddle e).roster) _ (fun u k => ?_) laneList _).trans ?_
    · split
      · simp only [State.heddle, State.updEng_eng]; rfl
      · rfl
    · simp only [State.heddle, State.updEng_eng]; rfl

theorem State.heddleReport_roster (code : BitVec 7) (lane : Nat) :
    ((s.heddleReport e code lane).heddle e).roster = (s.heddle e).roster := by
  have hr : (((s.updHeddle e fun h => { h with last := fld 10 lane ||| code.setWidth 12 }).raise (engSrc e) code
      (BitVec.ofNat 24 lane)).heddle e).roster = (s.heddle e).roster := by
    rw [State.heddle, State.raise, (State.AgreeAt.raiseBy _ e none _ _ (engSrc_no_lines e)).eng, State.updHeddle, State.updEng_eng]
    rfl
  unfold State.heddleReport
  split
  · exact (State.setLine_roster _).trans hr
  · exact hr

theorem State.setDegraded_heddle (s : State) (e : Eng) : s.setDegraded.heddle e = s.heddle e := by
  unfold State.setDegraded
  split
  · rfl
  · rfl

theorem State.setDegraded_degraded (s : State) : s.setDegraded.dev.degraded = true := by
  unfold State.setDegraded
  split
  · assumption
  · rw [State.modeRec_dev]; rfl

theorem State.retireLane_roster : ((s.retireLane e l).heddle e).roster = (upd (s.heddle e).retired (laneIdx l) fun _ => true, none) := by
  rw [State.retireLane, State.setDegraded_heddle, State.heddleReport_roster, State.heddle, State.updEng_eng, Engine.settle_heddle]
  rfl

theorem State.retireLane_isRetired : ((s.retireLane e l).heddle e).isRetired l = true :=
  (congrArg (fun r => r.1[(laneIdx l).val]) State.retireLane_roster).trans (upd_self _ _ _)

theorem State.retireLane_odd : ((s.retireLane e l).heddle e).odd = none := congrArg Prod.snd State.retireLane_roster

end

theorem rethreadingRejoinsOrRetires : Claims.RethreadingRejoinsOrRetires := by
  intro s e l ek h x c up
  refine ⟨fun y hup hp ho hy => ?_, fun hup hp => exec_pauseStart hup hp, fun g rest hup hp ho hs ha => ?_, ?_⟩
  · refine ⟨_, exec_bulkCopyEnd hup hp ho, ?_⟩
    rw [State.heddle, State.updEng_eng]
    refine ⟨rfl, rfl, ?_⟩
    intro z
    have hz : z.toEngineCore = c.bulkCopy (s.engCopies e) y := Engine.bulkCopied_view _ hy
    rw [hz]
    refine ⟨rfl, rfl, rfl, rfl, rfl, rfl, rfl, rfl, rfl, rfl, fun t => ?_⟩
    rw [EngineCore.bulkCopy_thread]
    exact ⟨rfl, rfl, rfl, rfl, rfl⟩
  · intro back measured
    have hrun := exec_pauseEnd hup hp ho hs ha ek
    rw [State.flush_of_runs (State.still_resumed hup ek), State.updEng_updEng] at hrun
    have hheld : ((s.updEng e fun x => x.resumed l g ek).eng e).held = x.held := by rw [State.updEng_eng]; rfl
    rw [hheld] at hrun
    have hback : (s.updEng e fun x => { x.resumed l g ek with held := [] }) = back := State.updEng_congr rfl
    rw [hback] at hrun
    refine ⟨fun h0 => ?_, fun d h1 => ?_⟩
    · rw [hrun, h0]; rfl
    · rw [hrun, h1]; rfl
  · intro counted limit u
    refine ⟨fun hlim => ?_, fun hlim => ?_⟩
    · have hu : u = counted.retireLane e l := State.detect_at_limit _ hlim
      rw [hu]
      exact ⟨State.retireLane_isRetired, State.retireLane_odd, State.setDegraded_degraded _⟩
    · have hu := State.detect_below_limit 0x40 hlim
      have heng := State.detect_below_limit_eng (code := 0x40) rfl hlim
      have hodd : (u.heddle e).odd = some l := by
        rw [State.heddle, heng]
        exact congrArg Heddle.odd (Engine.rethreading_heddle _ _)
      have hphase : (u.heddle e).phase = .bulk := by
        rw [State.heddle, heng]
        exact congrArg Heddle.phase (Engine.rethreading_heddle _ _)
      have hstray : (u.eng e).stray[(laneIdx l).val] = some { (x.view l).toEngineCore with cfg := some (s.engCopies e) } := by
        rw [heng]
        refine (Engine.rethreading_stray _ _).trans ?_
        rw [State.countDetection, State.updHeddle, State.updEng_eng]
        rfl
      refine ⟨hodd, hphase, Heddle.commits?_of_bulk hodd hphase, ?_, Engine.view_of_stray hstray, ?_⟩
      · rw [Engine.apart, hstray]; rfl
      · exact (congrArg (fun v : State => v.dev.degraded) hu).trans (by rw [State.heddleReport_dev]; rfl)

/-- Settles O31: picks close and are judged, and a re-threading rejoins the lane or retires it. -/
theorem picksAndRethreading : Obligations.PicksAndRethreading := ⟨picksCloseAndAreJudged, rethreadingRejoinsOrRetires⟩

end Sys2Proof.Machine

namespace Sys2Proof.Machine

/-! ### O6: the stored words' canonical form (R170, R179, R411)

`State.memCanonical` keeps the listed data words inside the device map of 2^24 words. LOAD_PROGRAM writes each of its words as an aligned pair
from DADDR on and rests on the descriptor's check for the place (R411): a descriptor in execution that names the last word of the map, which no
fetch admits and the statement does not exclude, has its pair's high word listed at 2^24. -/

/-- SQ 0 executes a LOAD_PROGRAM of one word at the last word of the map; the link can send. -/
def loadAtMapsEnd : State :=
  { State.reset with
    pending := [.loadProgram 0 [0x1000] .none]
    sht := { State.reset.sht with
      lup := true, bme := true
      sq := State.reset.sht.sq.set 0
        { exec := some
            { d :=
                { opc := 7, flg := 0, tag := 0, grant0 := 0, grant1 := 0, grant2 := 0, rsv10 := 0, count := 1, haddr := 0, daddr := 0xFFFFFF
                  rsv28 := 0, param := Vector.replicate 16 0 }
              prog := 0, status := none, head := 0, refused := none, wait := 0 } } } }

/-- The high word of the pair is listed beyond the map. -/
theorem loadAtMapsEnd_step : (0x1000000, 1) ∈ (stateAfter loadAtMapsEnd (step loadAtMapsEnd)).mem := by decide +kernel

/-- Refutes O6: in `loadAtMapsEnd`, which lists no word, LOAD_PROGRAM's pair at the last word of the map leaves a word listed at 2^24. -/
theorem not_stepKeepsMemoryCanonical : ¬ Obligations.StepKeepsMemoryCanonical := by
  intro h
  have hlisted := loadAtMapsEnd_step
  obtain ⟨u, hu⟩ : ∃ u, step loadAtMapsEnd = .next u := ⟨_, rfl⟩
  rw [hu] at hlisted
  have hc := h loadAtMapsEnd u (by decide +kernel) hu
  simp only [State.memCanonical, Bool.and_eq_true, List.all_eq_true, decide_eq_true_eq] at hc
  obtain ⟨⟨⟨⟨⟨-, -⟩, hbound⟩, -⟩, -⟩, -⟩ := hc
  exact absurd (hbound _ hlisted) (by decide)

end Sys2Proof.Machine

namespace Sys2Proof.Machine

/-! ### O32: retention and the loss of a bank (R191 to R194, R213) -/

/-- Updates of a cluster that do the same to it are the same. -/
theorem State.updClu_congr {s : State} {c : Clu} {f g : Cluster → Cluster} (h : f (s.clu c) = g (s.clu c)) : s.updClu c f = s.updClu c g := by
  unfold State.updClu
  rw [h]

/-- An access wakes a bank that is in retention (R192). -/
theorem State.wake_of_retained {s : State} {c : Clu} {b : Bank} {a : Addr} (hr : (s.clu c).banks[b.val] = .retained)
    (ha : (regionOf a).bank = some (c, b)) :
    s.wake a = s.updClu c fun x => { x with banks := x.banks.set b.val .waking } := by
  unfold State.wake
  rw [ha]
  exact State.updClu_congr (if_pos hr)

/-- A loss advances the bank's count of losses, and no other of the cluster's parts. -/
theorem State.loseBank_clu (s : State) (c : Clu) (b : Bank) :
    (s.loseBank c b).clu c = { s.clu c with epoch := upd (s.clu c).epoch b (· + 1) } := by
  unfold State.loseBank
  split <;> exact s.updClu_clu c fun x => { x with epoch := upd x.epoch b (· + 1) }

theorem State.loseBank_col (s : State) (c : Clu) (b : Bank) : (s.loseBank c b).col = s.col := by
  unfold State.loseBank
  split <;> rfl

theorem State.loseBank_dev (s : State) (c : Clu) (b : Bank) : (s.loseBank c b).dev = s.dev := by
  unfold State.loseBank
  split <;> rfl

/-- After its loss no word of a bank of data is listed. -/
theorem State.loseBank_mem_out (s : State) (c : Clu) {b : Bank} (hb : b ≠ 10) : ∀ p ∈ (s.loseBank c b).mem, inBank c b p.1 = false := by
  intro p hp
  simp only [State.loseBank, if_neg hb] at hp
  simpa using (List.mem_filter.mp hp).2

/-- After the loss of a cluster's program memory none of its words is listed. -/
theorem State.loseBank_prog_out (s : State) (c : Clu) : ∀ p ∈ (s.loseBank c 10).prog, p.1 / 131072 ≠ c.val := by
  intro p hp
  simp only [State.loseBank, if_true] at hp
  simpa using (List.mem_filter.mp hp).2

/-- The data source of a cluster is none of the vehicle's pins, whose events set lines (R185, R301). -/
theorem dataSrc_no_lines (c : Clu) : rng (dataSrc c).val 100 103 = false := by
  have hc := c.isLt
  have hv : (dataSrc c).val = 64 + c.val := rfl
  simp only [rng, hv, Bool.and_eq_false_iff, decide_eq_false_iff_not]
  omega

/-- A set bit stands, whatever else is set. -/
theorem getLsbD_or_bit (x : Word) (b : Bank) : (x ||| BitVec.ofNat 12 (2 ^ b.val)).getLsbD b.val = true := by
  have hb := b.isLt
  have h : (BitVec.ofNat 12 (2 ^ b.val)).getLsbD b.val = true := by
    rw [BitVec.getLsbD_ofNat, Nat.testBit_two_pow_self]
    simp
    omega
  rw [BitVec.getLsbD_or, h, Bool.or_true]

theorem banksSleepWakeAndLose : Claims.BanksSleepWakeAndLose := by
  intro s c b now set
  refine ⟨fun hdoze hen hgated hnow hok => ?_, fun hnow a ha => State.wake_of_retained hnow ha, fun hnow => if_pos hnow, fun hnow => ?_⟩
  · exact if_pos (by simp only [hdoze, hen, hgated, hok, decide_eq_true (p := (s.clu c).banks[b.val] = .active) hnow, Bool.and_self])
  · refine ⟨_, if_neg hnow, ?_, ?_, fun p hp hb => ?_, fun p hp hb => ?_, fun hup hlen => ?_⟩
    · rw [State.clu_of_clusters (State.raise_clusters _ _ _ _), State.updClu_clu]
      exact getLsbD_or_bit _ b
    · rw [State.clu_of_clusters (State.raise_clusters _ _ _ _), State.updClu_clu, State.loseBank_clu]
      exact upd_self _ b _
    · rw [State.raise_mem] at hp
      exact s.loseBank_mem_out c hb p hp
    · subst hb
      rw [State.raise_prog] at hp
      exact s.loseBank_prog_out c p hp
    · have hcol := s.loseBank_col c b
      refine (State.raiseBy_waiting none 0x06 _ (dataSrc_no_lines c) ?_ ?_).trans ?_
      · simpa [State.up, s.loseBank_dev c b] using hup
      · simpa [State.src, hcol] using hlen
      · simp [State.src, hcol]

/-! ### O32: the flex arrangement (R175 to R178) -/

/-- CLU.FLEX keeps every arrangement but a reserved one. -/
theorem State.put_cluFlex (s : State) (m : Master) (c : Clu) (v : Word) :
    s.put m (cluBase c) v = if flexBad v then .refused s else .ok (s.setReg (cluBase c) v) := by
  have hc := c.isLt
  have hoff : cluBase c % 0x400 = 0 := by simp [cluBase]
  have hclu : (⟨(cluBase c - 0x804000) / 0x400 % 8, by omega⟩ : Clu) = c := Fin.ext (by simp [cluBase])
  have hpage : cluBase c / 0x1000 = 0x804 ∨ cluBase c / 0x1000 = 0x805 := by simp only [cluBase]; omega
  rcases hpage with hpage | hpage <;>
  · simp only [State.put, hpage, hoff, hclu]
    rfl

/-- What is no reserved arrangement: CONTIG with an engine or the shuttle as its owner, SHARED with two different codes. -/
theorem flexBad_eq_false_iff (v : Word) :
    flexBad v = false ↔
      (v.toNat / 1024 = 0 ∧ v.toNat / 16 % 16 ≤ 8 ∧ (v.toNat % 16 ≤ 9 ∨ v.toNat % 16 = 15)) ∨
      (v.toNat / 1024 = 1 ∧ (v.toNat / 16 % 16 ≠ v.toNat % 16 ∨ v.toNat / 16 % 16 = 15) ∧
        (v.toNat / 16 % 16 ≤ 9 ∨ v.toNat / 16 % 16 = 15) ∧ (v.toNat % 16 ≤ 9 ∨ v.toNat % 16 = 15)) := by
  have hv := v.isLt
  have hm : bitsAt v 10 2 = v.toNat / 1024 := Nat.mod_eq_of_lt (by omega)
  have hx : bitsAt v 4 4 = v.toNat / 16 % 16 := rfl
  have hy : bitsAt v 0 4 = v.toNat % 16 := by simp [bitsAt]
  simp only [flexBad, hm, hx, hy]
  split
  · next h =>
    simp only [h, Bool.or_eq_false_iff, decide_eq_false_iff_not, Bool.not_eq_false', Bool.or_eq_true, decide_eq_true_eq,
      true_and, zero_ne_one, false_and, or_false]
    omega
  · next h =>
    simp only [h, Bool.or_eq_false_iff, Bool.and_eq_false_iff, decide_eq_false_iff_not, Bool.not_eq_false', Bool.or_eq_true, decide_eq_true_eq,
      true_and, one_ne_zero, false_and, false_or, not_not]
    omega
  · next h0 h1 =>
    simp only [Bool.true_eq_false, false_iff]
    rintro (⟨h, -⟩ | ⟨h, -⟩)
    · exact h0 h
    · exact h1 h

theorem flexBanksAreArranged : Claims.FlexBanksAreArranged := by
  intro s m c v a x y code legal hw
  have hexec : exec (.cluFlexWrite m c v) s = s.writeCommand m (cluBase c) v := rfl
  rw [hexec, State.writeCommand_of_canWrite v hw, State.put_cluFlex]
  have hlegal : legal ↔ flexBad v = false := (flexBad_eq_false_iff v).symm
  refine ⟨fun h => ?_, fun h => ?_⟩
  · rw [if_neg (by simp [hlegal.mp h])]
    rfl
  · rw [if_pos (by simpa [hlegal] using h)]

/-- Settles O32: retention and the loss of a bank, and the flex arrangement. -/
theorem banksSleepWakeAndAreArranged : Obligations.BanksSleepWakeAndAreArranged := ⟨banksSleepWakeAndLose, flexBanksAreArranged⟩

end Sys2Proof.Machine

namespace Sys2Proof.Machine

/-! ### What the trip fabric, the gauges and the pilot's decoder leave of the front end

An evaluation of the fabric, the entry to SAFE among it, drives pins, sets lines, takes snapshots of gauges and writes records; the front end's
channels and converters, and the events that wait at the collector, are none of that. -/

/-- The channels with their groups, the converters, the collector with its events, and whether the device is up. -/
structure FrontEnd where
  chans : Vector Channel 48
  groups : Vector Group 12
  adc : Adc
  col : Collector
  up : Bool

def State.frontEnd (s : State) : FrontEnd := ⟨s.chans, s.groups, s.adc, s.col, s.up⟩

section
variable {s u : State}

theorem State.chan_of_frontEnd (h : u.frontEnd = s.frontEnd) (n : Chan) : u.chan n = s.chan n :=
  congrArg (fun x : FrontEnd => x.chans[n.val]) h
theorem State.adc_of_frontEnd (h : u.frontEnd = s.frontEnd) : u.adc = s.adc := congrArg FrontEnd.adc h
theorem State.src_of_frontEnd (h : u.frontEnd = s.frontEnd) (n : Fin 160) : u.src n = s.src n :=
  congrArg (fun x : FrontEnd => x.col.src[n.val]) h
theorem State.up_of_frontEnd (h : u.frontEnd = s.frontEnd) : u.up = s.up := congrArg FrontEnd.up h
end

section
variable (s : State)

@[simp] theorem State.updEng_frontEnd (e : Eng) (f : Engine → Engine) : (s.updEng e f).frontEnd = s.frontEnd := rfl
@[simp] theorem State.updTrip_frontEnd (f : Trip → Trip) : (s.updTrip f).frontEnd = s.frontEnd := rfl
@[simp] theorem State.updRcd_frontEnd (f : Recorder → Recorder) : (s.updRcd f).frontEnd = s.frontEnd := rfl
@[simp] theorem State.updJsn_frontEnd (f : Jarsyn → Jarsyn) : (s.updJsn f).frontEnd = s.frontEnd := rfl
@[simp] theorem State.updSht_frontEnd (f : Shuttle → Shuttle) : (s.updSht f).frontEnd = s.frontEnd := rfl
@[simp] theorem State.updGauge_frontEnd (g : Fin 32) (f : Gauge → Gauge) : (s.updGauge g f).frontEnd = s.frontEnd := rfl
@[simp] theorem State.modeRec_frontEnd (code : Nat) (on : Bool) : (s.modeRec code on).frontEnd = s.frontEnd := rfl

@[simp] theorem State.inLanes_frontEnd (e : Eng) {f : State → State} (h : (f s).frontEnd = s.frontEnd) :
    (s.inLanes e f).frontEnd = s.frontEnd := by
  refine (foldl_keeps State.frontEnd _ (fun u l => ?_) laneList (f s)).trans h
  split <;> rfl

@[simp] theorem State.setLine_frontEnd (e : Eng) (n : Nat) : (s.setLine e n).frontEnd = s.frontEnd := by
  unfold State.setLine
  split
  · rfl
  · exact s.inLanes_frontEnd e rfl

@[simp] theorem State.setLines_frontEnd (es : List Eng) (n : Nat) : (s.setLines es n).frontEnd = s.frontEnd :=
  foldl_keeps State.frontEnd _ (fun _ _ => State.setLine_frontEnd _ _ _) es s

/-! #### Gauges and SAFE -/

@[simp] theorem State.gaugeLine_frontEnd (g : Fin 32) : (s.gaugeLine g).frontEnd = s.frontEnd := s.setLines_frontEnd _ _

@[simp] theorem State.gaugeTake_frontEnd (g : Fin 32) (v : DWord) : (s.gaugeTake g v).frontEnd = s.frontEnd := by
  unfold State.gaugeTake
  dsimp only
  split
  · rfl
  · split <;> simp

@[simp] theorem State.gaugeFeed_frontEnd (kind idx : Nat) (xsel : Option Nat) (v : DWord) :
    (s.gaugeFeed kind idx xsel v).frontEnd = s.frontEnd :=
  foldl_keeps State.frontEnd _ (fun _ _ => by dsimp only; split <;> simp) _ s

@[simp] theorem State.gaugeSnap_frontEnd (g : Fin 32) : (s.gaugeSnap g).frontEnd = s.frontEnd := by
  unfold State.gaugeSnap
  split <;> simp

@[simp] theorem State.gaugesAtSafe_frontEnd : s.gaugesAtSafe.frontEnd = s.frontEnd :=
  foldl_keeps State.frontEnd _ (fun _ _ => by split <;> simp) _ s

@[simp] theorem State.waveTrigger_frontEnd : s.waveTrigger.frontEnd = s.frontEnd := by
  unfold State.waveTrigger
  split <;> rfl

@[simp] theorem State.hirq_frontEnd : s.hirq.frontEnd = s.frontEnd := by
  unfold State.hirq State.msix
  dsimp only
  split
  · split <;> rfl
  · rfl

@[simp] theorem State.setSafe_frontEnd : s.setSafe.frontEnd = s.frontEnd := by
  have hd : ∀ u : State, (u.updDev fun d => { d with safe := true, safeNow := true }).frontEnd = u.frontEnd := fun _ => rfl
  unfold State.setSafe
  split
  · rfl
  · dsimp only
    split <;> simp [hd]

/-! #### The fabric -/

@[simp] theorem State.pioFire_frontEnd (code : Nat) (rising ignoreEdge : Bool) :
    (s.pioFire code rising ignoreEdge).frontEnd = s.frontEnd :=
  foldl_keeps State.frontEnd _ (fun _ _ => by simp [apply_ite State.frontEnd]) _ s

@[simp] theorem State.drivePilot_frontEnd : s.drivePilot.frontEnd = s.frontEnd := by
  unfold State.drivePilot
  extract_lets p ovr lvl s1 s2
  split
  · rfl
  · split <;> simp [s2, s1]

@[simp] theorem State.driveOutputs_frontEnd : s.driveOutputs.frontEnd = s.frontEnd := by simp [State.driveOutputs]

@[simp] theorem State.floodTrip_frontEnd (f : TripCopy) (arrival : Option Port) : (s.floodTrip f arrival).frontEnd = s.frontEnd :=
  foldl_keeps State.frontEnd _ (fun _ _ => by split <;> rfl) _ s

@[simp] theorem State.updLocal_frontEnd (n : Fin 24) (f : Local → Local) : (s.updLocal n f).frontEnd = s.frontEnd := rfl

@[simp] theorem State.newSeq_frontEnd : s.newSeq.2.frontEnd = s.frontEnd := rfl

@[simp] theorem State.lineSignal_frontEnd (n : Fin 24) (was now own : Bool) : (s.lineSignal n was now own).frontEnd = s.frontEnd := by
  unfold State.lineSignal
  simp [apply_ite Prod.snd, apply_ite State.frontEnd]

@[simp] theorem State.evalLines_frontEnd : s.evalLines.frontEnd = s.frontEnd := by
  unfold State.evalLines
  extract_lets was raw own latch copies now s1 s2 s3 s4
  have h2 : s2.frontEnd = s.frontEnd := foldl_keeps State.frontEnd _ (fun _ _ => by simp) _ _
  have h3 : s3.frontEnd = s.frontEnd := by unfold s3; split <;> simp [h2]
  simp [s4, h3]

@[simp] theorem State.fabricFrom_frontEnd (before : State) : (s.fabricFrom before).frontEnd = s.frontEnd := by
  unfold State.fabricFrom
  extract_lets s1 s2 fault s3 s4 s5 s6
  have h2 : s2.frontEnd = s.frontEnd := rfl
  have h4 : s4.frontEnd = s.frontEnd := by unfold s4; split <;> simp [s3, h2]
  have h6 : s6.frontEnd = s.frontEnd := by unfold s6; split <;> simp [s5, h4]
  split <;> simp [h6]

@[simp] theorem State.fabric_frontEnd : s.fabric.frontEnd = s.frontEnd := s.fabricFrom_frontEnd s

@[simp] theorem State.pilotSample_frontEnd (adb : Bool) (inp : Nat) (code : Word) : (s.pilotSample adb inp code).frontEnd = s.frontEnd := by
  unfold State.pilotSample
  dsimp only
  split <;> rfl

end

/-! ### An event at a source leaves the front end -/

/-- What an event leaves: everything but the engines' lines and the collector. -/
theorem State.raiseBy_rest (s : State) (q : Option Requester) (n : Fin 160) (cause : BitVec 7) (payload : DWord) :
    (s.raiseBy q n cause payload).chans = s.chans ∧ (s.raiseBy q n cause payload).adc = s.adc ∧
      (s.raiseBy q n cause payload).up = s.up := by
  have hl : (if rng n.val 100 103 then s.setLines engList 15 else s).frontEnd = s.frontEnd := by split <;> simp
  unfold State.raiseBy
  split
  · exact ⟨rfl, rfl, rfl⟩
  · split
    · exact ⟨congrArg FrontEnd.chans hl, congrArg FrontEnd.adc hl, congrArg FrontEnd.up hl⟩
    · exact ⟨rfl, rfl, rfl⟩

@[simp] theorem State.raise_chans (s : State) (n : Fin 160) (cause : BitVec 7) (payload : DWord) : (s.raise n cause payload).chans = s.chans :=
  (s.raiseBy_rest none n cause payload).1
@[simp] theorem State.raise_adc (s : State) (n : Fin 160) (cause : BitVec 7) (payload : DWord) : (s.raise n cause payload).adc = s.adc :=
  (s.raiseBy_rest none n cause payload).2.1

/-- An event at a source leaves the other sources. -/
theorem State.raise_src_other (s : State) {n k : Fin 160} (cause : BitVec 7) (payload : DWord) (h : k ≠ n) :
    (s.raise n cause payload).src k = s.src k := by
  have hl : (if rng n.val 100 103 then s.setLines engList 15 else s).frontEnd = s.frontEnd := by split <;> simp
  unfold State.raise State.raiseBy
  split
  · rfl
  · split
    · exact (State.updSrc_src_other _ _ h).trans (State.src_of_frontEnd hl k)
    · rfl

end Sys2Proof.Machine

namespace Sys2Proof.Machine

/-! ### O33: filters (R229, R234 to R236, R239) -/

theorem Channel.path_setPath (c : Channel) (fast : Bool) (p : FilterPath) : (c.setPath fast p).path fast = p := by
  cases fast <;> rfl

theorem Channel.count_setPath (c : Channel) (fast : Bool) (p : FilterPath) : (c.setPath fast p).count = c.count := by
  cases fast <;> rfl

theorem Channel.stuck_setPath (c : Channel) (fast : Bool) (p : FilterPath) : (c.setPath fast p).stuck = c.stuck := by
  cases fast <;> rfl

/-- A path of a channel with the number of its samples that the bobbin took. -/
def Channel.delivery (c : Channel) (fast : Bool) : FilterPath × Nat := (c.path fast, c.count)

section
variable (s : State)

theorem State.bobDeliver_chan (n : Chan) (x : DWord) (fast : Bool) :
    ((s.bobDeliver n x).chan n).delivery fast = (((s.chan n).delivery fast).1, (s.chan n).count + 1) := by
  unfold State.bobDeliver
  extract_lets x' num w feeds g at_ s1
  have h1 : s1.chan n = s.chan n := by unfold s1; split <;> rfl
  rw [State.updChan_chan, h1]
  cases fast <;> rfl

@[simp] theorem State.meterInterval_chans (m : Fin 2) (v i : DWord) : (s.meterInterval m v i).chans = s.chans := by
  unfold State.meterInterval
  dsimp only
  split <;> simp [State.updMeter]

@[simp] theorem State.meterCheck_chans (m : Fin 2) (v x : DWord) : (s.meterCheck m v x).chans = s.chans := by
  unfold State.meterCheck
  dsimp only
  split
  · split <;> simp [State.updMeter]
  · rfl

@[simp] theorem State.meterResult_chans (m : Fin 2) (n : Chan) (num : Nat) (x : DWord) : (s.meterResult m n num x).chans = s.chans := by
  unfold State.meterResult
  split
  · rfl
  · extract_lets y r rx xv xx p c missed s1 s2
    have h2 : s2.chans = s.chans := by
      unfold s2
      split
      · split
        · exact s1.meterCheck_chans m _ _
        · rfl
      · rfl
    split <;> simp [h2]

@[simp] theorem State.meterVote_chans (m : Fin 2) (n : Chan) (before : Meter) (f : CopyFault) :
    (s.meterVote m n before f).chans = s.chans := by
  unfold State.meterVote
  split
  · rfl
  · split
    · rfl
    · split <;> simp [State.updMeter]

theorem State.chan_of_chans {s u : State} (h : u.chans = s.chans) (n : Chan) : u.chan n = s.chan n := by
  unfold State.chan
  rw [h]

/-- A delivered result shows on its path, and on the bobbin's source path it is numbered (R229, R239). -/
theorem State.deliverResult_chan (n : Chan) (fast : Bool) (num : Nat) (x : DWord) :
    ((s.deliverResult n fast num x).chan n).delivery fast =
      ({ (s.chan n).path fast with value := x, fresh := true }, (s.chan n).count + if s.bobFast n = fast then 1 else 0) := by
  unfold State.deliverResult
  extract_lets s1 ovr was s2 s3 v s4 s5
  have h1 : (s1.chan n).delivery fast = ({ (s.chan n).path fast with value := x, fresh := true }, (s.chan n).count) := by
    unfold s1
    rw [State.updChan_chan, Channel.delivery, Channel.path_setPath, Channel.count_setPath]
  have h3 : (s3.chan n).delivery fast = (s1.chan n).delivery fast := by
    cases fast with
    | true => rfl
    | false =>
      have h2 : (s2.chan n).delivery false = (s1.chan n).delivery false := by
        unfold s2
        rw [State.updChan_chan]
        rfl
      unfold s3
      split
      · next h => exact absurd h Bool.false_ne_true
      · split
        · rw [State.chan_of_chans (State.raise_chans _ _ _ _), h2]
        · exact h2
  have h4 : s4.chan n = s3.chan n := State.chan_of_frontEnd (State.gaugeFeed_frontEnd _ _ _ _ _) n
  have hreg : s4.regs = s.regs := by
    have h31 : s3.regs = s.regs := by
      unfold s3
      split
      · rfl
      · split <;> simp [s2, s1]
    simp [s4, h31]
  have hbob : s4.bobFast n = s.bobFast n := by simp only [State.bobFast, State.regB, State.reg, hreg]
  have h5 : (s5.chan n).delivery fast = ({ (s.chan n).path fast with value := x, fresh := true }, (s.chan n).count + if s.bobFast n = fast then 1 else 0) := by
    unfold s5
    rw [hbob]
    split
    · rw [State.bobDeliver_chan, h4, h3, h1]
      have hc : (s3.chan n).count = (s.chan n).count := congrArg Prod.snd (h3.trans h1)
      rw [hc]
    · rw [h4, h3, h1]
      rfl
  split
  · exact h5
  · rw [State.chan_of_chans ((State.meterResult_chans _ _ _ _ _).trans (State.meterResult_chans _ _ _ _ _)), h5]

theorem State.refreshGaps_chans : s.refreshGaps.chans = s.chans := rfl

/-- A path whose filter has had its first results is valid in a group in use, with its clock and its bits (R239). -/
theorem State.pathValid_iff (n : Chan) (fast : Bool) (hr : s.inRun = true) (he : s.pathEn n fast = true)
    (hg : s.regB (groupReg (groupOf n).val) 11 = true) (hl : (s.groupAt (groupOf n)).lost = false) :
    s.pathValid n fast = true ↔
      ((s.chan n).path fast).skip = 0 ∧ (s.groupAt (groupOf n)).iso = false ∧ (s.chan n).stuck = false := by
  simp only [State.pathValid, hr, he, hg, hl, Bool.true_and, Bool.and_eq_true, Bool.not_eq_true', Bool.not_false, decide_eq_true_eq]
  exact ⟨fun ⟨⟨hi, hs⟩, hk⟩ => ⟨hk, hi, hs⟩, fun ⟨hk, hi, hs⟩ => ⟨⟨hi, hs⟩, hk⟩⟩

end

/-- The path after an interval's bits, whatever is delivered of it (R234, R235). -/
theorem FilterPath.interval_fst (p : FilterPath) (fast : Bool) (k : Nat) (bits : List Bool) :
    (p.interval fast k bits).1 =
      { p with
        hist := (bits.reverse ++ p.hist).take ((if fast then 2 else 3) * 2 ^ k), skip := p.skip - 1, ends := p.ends + 1, part := false } := by
  simp only [FilterPath.interval]
  split
  · next h => simp [h]
  · rfl

/-- A result is due of every interval after the first ones (R234 to R236). -/
theorem FilterPath.interval_snd (p : FilterPath) (fast : Bool) (k : Nat) (bits : List Bool) :
    (p.interval fast k bits).2 =
      if p.skip = 0 then
        let y := sincOut (2 ^ k) (if fast then 2 else 3) ((bits.reverse ++ p.hist).take ((if fast then 2 else 3) * 2 ^ k))
        some (if fast then fastOut k y else preciseOut k y)
      else none := by
  simp only [FilterPath.interval]
  split <;> rfl

end Sys2Proof.Machine

namespace Sys2Proof.Machine

section
variable {s : State} {n : Chan} {fast : Bool} {bits : List Bool}

/-- The path's result with an interval's bits in the filter, where the path is then valid (R239). -/
def State.resultDue (s : State) (n : Chan) (fast : Bool) (bits : List Bool) : Option DWord :=
  if (s.groupAt (groupOf n)).iso = false ∧ (s.chan n).stuck = false then (((s.chan n).path fast).interval fast (s.pathK n fast) bits).2 else none

/-- The state in which an interval's bits have entered their filter, before its result is delivered. -/
def State.filled (s : State) (n : Chan) (fast : Bool) (bits : List Bool) : State :=
  (s.updChan n fun c => c.setPath fast (((s.chan n).path fast).interval fast (s.pathK n fast) bits).1).refreshGaps

theorem State.filled_chan (s : State) (n : Chan) (fast : Bool) (bits : List Bool) :
    (s.filled n fast bits).chan n = (s.chan n).setPath fast (((s.chan n).path fast).interval fast (s.pathK n fast) bits).1 :=
  s.updChan_chan n fun c => c.setPath fast (((s.chan n).path fast).interval fast (s.pathK n fast) bits).1

/-- A result leaves the filter where the path is valid with the interval's bits in it. -/
theorem State.resultDue_of_filled (bits : List Bool) (hr : s.inRun = true) (he : s.pathEn n fast = true)
    (hg : s.regB (groupReg (groupOf n).val) 11 = true) (hl : (s.groupAt (groupOf n)).lost = false) :
    (if (s.filled n fast bits).pathValid n fast then (((s.chan n).path fast).interval fast (s.pathK n fast) bits).2 else none) =
      s.resultDue n fast bits := by
  have hv := State.pathValid_iff (s.filled n fast bits) n fast hr he hg hl
  rw [State.filled_chan, Channel.path_setPath, Channel.stuck_setPath, FilterPath.interval_fst] at hv
  rw [State.resultDue, FilterPath.interval_snd]
  by_cases hs : ((s.chan n).path fast).skip = 0
  · refine if_congr ?_ rfl rfl
    rw [hv, hs]
    exact ⟨fun h => h.2, fun h => ⟨rfl, h⟩⟩
  · simp only [if_neg hs, ite_self]

/-- The end of an interval that is due fills its filter and delivers the result (R229, R234 to R236). -/
theorem exec_decimationIntervalEnd (f0 f1 : CopyFault) (hr : s.inRun = true) (he : s.pathEn n fast = true)
    (hg : s.regB (groupReg (groupOf n).val) 11 = true) (hl : (s.groupAt (groupOf n)).lost = false)
    (hb : ((s.chan n).path fast).bitsOk (s.pathK n fast) bits = true) (hd : s.endDue n fast = true) :
    ∃ u, exec (.decimationIntervalEnd n fast bits f0 f1) s = .next u ∧
      u.chan n = (match s.resultDue n fast bits with
        | some x => (s.filled n fast bits).deliverResult n fast (((s.chan n).path fast).interval fast (s.pathK n fast) bits).1.ends x
        | none => s.filled n fast bits).chan n := by
  refine ⟨_, if_neg (by simp [hr, he, hg, hl, hb, hd]), ?_⟩
  rw [← State.resultDue_of_filled bits hr he hg hl]
  rw [State.chan_of_frontEnd (State.fabric_frontEnd _)]
  cases fast with
  | true => rfl
  | false => exact State.chan_of_chans ((State.meterVote_chans _ _ _ _ _).trans (State.meterVote_chans _ _ _ _ _)) n

end

/-- A result is due of a path past its first ones, in a group and a channel that work (R234 to R236, R239, R240). -/
theorem State.resultDue_eq (s : State) (n : Chan) (fast : Bool) (bits : List Bool) :
    s.resultDue n fast bits =
      if ((s.chan n).path fast).skip = 0 ∧ (s.groupAt (groupOf n)).iso = false ∧ (s.chan n).stuck = false then
        let y := sincOut (2 ^ s.pathK n fast) (if fast then 2 else 3)
          ((bits.reverse ++ ((s.chan n).path fast).hist).take ((if fast then 2 else 3) * 2 ^ s.pathK n fast))
        some (if fast then fastOut (s.pathK n fast) y else preciseOut (s.pathK n fast) y)
      else none := by
  rw [State.resultDue, FilterPath.interval_snd]
  by_cases h : ((s.chan n).path fast).skip = 0
  · simp only [h, if_true, true_and]
  · simp only [h, if_false, false_and, ite_self]

theorem filtersDeliverEachInterval : Claims.FiltersDeliverEachInterval := by
  refine ⟨?_, by decide +kernel, by decide +kernel, by decide +kernel, by decide +kernel⟩
  intro s n fast bits f0 f1 g p
  have hp : p = (s.chan n).path fast := rfl
  have hgroup : g = groupOf n := rfl
  clear_value p g
  subst hp hgroup
  intro hr he hg hl hd hb
  have hbits : ((s.chan n).path fast).bitsOk (s.pathK n fast) bits = true := by
    simpa [FilterPath.bitsOk, and_assoc] using hb
  obtain ⟨u, hu, hchan⟩ := exec_decimationIntervalEnd f0 f1 hr he hg hl hbits hd
  refine ⟨u, hu, ?_⟩
  have hfill := congrArg (Channel.delivery · fast) (State.filled_chan s n fast bits)
  have hseen := congrArg (Channel.delivery · fast) hchan
  simp only [Channel.delivery, Channel.path_setPath, Channel.count_setPath, FilterPath.interval_fst, Prod.mk.injEq] at hfill
  obtain ⟨hpath, hcount⟩ := hfill
  rw [State.resultDue_eq] at hseen
  by_cases hv : ((s.chan n).path fast).skip = 0 ∧ (s.groupAt (groupOf n)).iso = false ∧ (s.chan n).stuck = false
  · rw [if_pos hv] at hseen
    have hq := hseen.trans (State.deliverResult_chan _ n fast _ _)
    rw [hpath, hcount, Channel.delivery, Prod.mk.injEq] at hq
    obtain ⟨hq, hc⟩ := hq
    obtain ⟨hskip, hiso, hstuck⟩ := hv
    constructor
    · intro q hist y
      rw [show q = _ from hq]
      exact ⟨rfl, rfl, rfl, rfl, by simp [hskip, hiso, hstuck, y, hist]⟩
    · rw [hc]
      simp only [hskip, hiso, hstuck, true_and]
      rfl
  · rw [if_neg hv] at hseen
    have hq := hseen
    simp only [Channel.delivery, hpath, hcount, Prod.mk.injEq] at hq
    obtain ⟨hq, hc⟩ := hq
    constructor
    · intro q hist y
      rw [show q = _ from hq]
      simp only [not_and_or, Bool.not_eq_false] at hv
      exact ⟨rfl, rfl, rfl, rfl, (if_pos hv).symm⟩
    · rw [hc, if_neg fun ⟨hskip, hiso, hstuck, _⟩ => hv ⟨hskip, hiso, hstuck⟩, Nat.add_zero]

end Sys2Proof.Machine

namespace Sys2Proof.Machine

/-! ### O33: lost clocks and stuck bitstreams (R234, R240) -/

/-- A group whose clock the device does not drive takes no other group's edge count. -/
theorem State.resumeCount_of_not_driven {s : State} {g : Fin 12} (h : s.sdcDriven g = false) : s.resumeCount g = 0 :=
  if_neg (by simp [h])

theorem clockLossAndStuckBitstreams : Claims.ClockLossAndStuckBitstreams := by
  intro s g n hr stop
  refine ⟨fun hu hl => ?_, fun hl hd => ?_, fun hu hl hs => ?_, fun hs => if_pos hs, fun c => ⟨rfl, rfl, rfl, rfl, rfl, rfl, rfl⟩⟩
  · exact if_pos (by simp [hr, hu, hl])
  · refine (if_pos (by simp [hr, hl])).trans ?_
    simp only [State.resumeCount_of_not_driven hd, Nat.zero_div, Nat.max_zero]
    rfl
  · have hu' : s.regB (groupReg (groupOf n).val) 11 = true := hu
    exact if_pos (by simp [hr, hu', hl, hs])

/-! ### O33: conversions (R242 to R244) -/

/-- The slot at which a converter stands. -/
def Adc.slot (a : Adc) (adb : Bool) : Nat := if adb then a.slotB else a.slotA

/-- A slot `q` of a converter ends: its next one follows, and the input is marked where it did not complete; a paired code of A waits for B's. -/
def Adc.ended (a : Adc) (adb : Bool) (q : Bool × Nat × Nat) (code : Word) (done : Bool) : Adc :=
  let k := a.slot adb
  let next := if k + 1 < q.2.2 then k + 1 else 0
  let inp : Fin 16 := ⟨q.2.1 % 16, by omega⟩
  if adb then { a with slotB := next, badB := if q.2.1 = 16 then a.badB else upd a.badB inp fun _ => !done }
  else { a with slotA := next, badA := if q.2.1 = 16 then a.badA else upd a.badA inp fun _ => !done
                pairA := if q.1 && done then some (k, code) else none }

/-- The code of a slot `q` is shown and counted. -/
def Adc.taken (a : Adc) (adb : Bool) (q : Bool × Nat × Nat) (code : Word) : Adc :=
  let inp : Fin 16 := ⟨q.2.1 % 16, by omega⟩
  if adb then
    { a with cntB := a.cntB + 1, rb := if q.2.1 = 16 then a.rb else upd a.rb inp fun _ => code, rrefB := if q.2.1 = 16 then code else a.rrefB }
  else
    { a with cntA := a.cntA + 1, ra := if q.2.1 = 16 then a.ra else upd a.ra inp fun _ => code, rrefA := if q.2.1 = 16 then code else a.rrefA }

/-- A converter's source (R243). -/
def adcSrc (adb : Bool) : Fin 160 := if adb then 97 else 96

/-- A converter that is enabled and not isolated. -/
def State.adcOn (s : State) (adb : Bool) : Bool := if adb then s.regB adcBase 10 && !s.adc.isoB else s.regB adcBase 11 && !s.adc.isoA

/-- The slot that a converter is at: whether it is paired, its input, and how many slots there are. -/
def State.slotNow (s : State) (adb : Bool) : Bool × Nat × Nat := s.adcSlot adb (s.adc.slot adb)

/-- What a completed slot's code reaches: the registers, the gauges, the reference's check, and the pilot's decoder (R243, R297, R378). -/
def State.codeTaken (s : State) (adb : Bool) (code : Word) : State :=
  let q := s.slotNow adb
  let s := (s.updAdc fun a => a.ended adb q code true).updAdc fun a => a.taken adb q code
  let s := s.gaugeFeed 0xB q.2.1 (some (bit1 adb)) (code.setWidth 24)
  let s := if q.2.1 = 16 && (code.toNat < 2032 || 2064 < code.toNat) then s.raise (adcSrc adb) 0x02 0 else s
  if q.2.1 = 16 then s else (s.pilotSample adb q.2.1 code).fabricFrom s

section
variable {s : State} {adb : Bool}

theorem State.adcOn_not_off (h : s.adcOn adb = true) :
    ¬ (!if adb then s.regB adcBase 10 && !s.adc.isoB else s.regB adcBase 11 && !s.adc.isoA) = true := by
  rw [← State.adcOn, h]
  exact Bool.false_ne_true

/-- A slot that does not complete is counted (R242). -/
theorem exec_conversionSlotEnd_failed (code : Word) (h : s.adcOn adb = true) :
    exec (.conversionSlotEnd adb code false) s =
      .next (((s.updAdc fun a => a.ended adb (s.slotNow adb) code false).raise (adcSrc adb) 0x01 0).fabric) :=
  if_neg (State.adcOn_not_off h)

/-- The difference of two codes (R244). -/
def codesApart (c d : Word) : Nat := if c.toNat ≤ d.toNat then d.toNat - c.toNat else c.toNat - d.toNat

/-- What the comparison of a pair counts: codes more than DTOL apart (R244). -/
def State.pairCompared (s : State) (c code : Word) : State :=
  let t := s.updAdc fun a => { a with pairA := none }
  if bitsAt (t.reg (adcBase + 1)) 0 8 < codesApart c code then t.raise 96 0x03 0 else t

/-- The end of a slot that completes: B's paired one is compared with A's of the same slot (R243, R244). -/
theorem exec_conversionSlotEnd_done (code : Word) (h : s.adcOn adb = true) :
    exec (.conversionSlotEnd adb code true) s =
      if adb && (s.slotNow adb).1 then
        match s.adc.pairA with
        | some (j, c) => if j ≠ s.adc.slot adb then .next (s.codeTaken adb code) else .next ((s.codeTaken adb code).pairCompared c code)
        | none => .next (s.codeTaken adb code)
      else .next (s.codeTaken adb code) :=
  if_neg (State.adcOn_not_off h)

/-- A slot that completes with nothing to compare it with. -/
theorem exec_conversionSlotEnd_shown (code : Word) (h : s.adcOn adb = true)
    (hp : adb = false ∨ (s.slotNow adb).1 = false ∨ ∀ c, s.adc.pairA ≠ some (s.adc.slot adb, c)) :
    exec (.conversionSlotEnd adb code true) s = .next (s.codeTaken adb code) := by
  rw [exec_conversionSlotEnd_done code h]
  split
  · next hb =>
    obtain ⟨ha, hq⟩ := Bool.and_eq_true_iff.mp hb
    split
    · next j c hj =>
      refine if_pos ?_
      rintro rfl
      rcases hp with hp | hp | hp
      · exact absurd ha (by simp [hp])
      · exact absurd hq (by simp [hp])
      · exact hp c hj
    · rfl
  · rfl

/-- A paired slot of converter B is compared with A's of the same slot. -/
theorem exec_conversionSlotEnd_compared (code : Word) {c : Word} (h : s.adcOn true = true) (hq : (s.slotNow true).1 = true)
    (hp : s.adc.pairA = some (s.adc.slotB, c)) :
    exec (.conversionSlotEnd true code true) s = .next ((s.codeTaken true code).pairCompared c code) := by
  rw [exec_conversionSlotEnd_done code h, hq, hp]
  exact if_neg (not_not.mpr rfl)

/-- What a code reaches beside the converter leaves its registers. -/
theorem State.codeTaken_adc (code : Word) :
    (s.codeTaken adb code).adc = (s.adc.ended adb (s.slotNow adb) code true).taken adb (s.slotNow adb) code := by
  unfold State.codeTaken
  extract_lets q s1 s2 s3
  have h2 : s2.adc = s1.adc := State.adc_of_frontEnd (State.gaugeFeed_frontEnd _ _ _ _ _)
  have h3 : s3.adc = s1.adc := by
    unfold s3
    split
    · exact (State.raise_adc _ _ _ _).trans h2
    · exact h2
  split
  · exact h3
  · rw [State.adc_of_frontEnd (State.fabricFrom_frontEnd _ _), State.adc_of_frontEnd (State.pilotSample_frontEnd _ _ _ _), h3]
    rfl

/-- A code of an input leaves the events that wait and the device up. -/
theorem State.codeTaken_src (code : Word) (hq : (s.slotNow adb).2.1 ≠ 16) (n : Fin 160) :
    (s.codeTaken adb code).src n = s.src n ∧ (s.codeTaken adb code).up = s.up := by
  unfold State.codeTaken
  extract_lets q s1 s2 s3
  have h3 : s3 = s2 := if_neg (by simp [q, hq])
  have hf : ((s3.pilotSample adb q.2.1 code).fabricFrom s3).frontEnd = s1.frontEnd := by rw [h3]; simp [s2]
  rw [if_neg hq]
  exact ⟨State.src_of_frontEnd hf n, (State.up_of_frontEnd hf).trans rfl⟩

/-- A reference out of its range is counted (R243). -/
theorem State.codeTaken_reference (code : Word) (hq : (s.slotNow adb).2.1 = 16) (hc : code.toNat < 2032 ∨ 2064 < code.toNat)
    (hup : s.up = true) (hlen : (s.src (adcSrc adb)).waiting.length < 5) :
    ((s.codeTaken adb code).src (adcSrc adb)).waiting = (s.src (adcSrc adb)).waiting ++ [⟨0x02, 0, none⟩] := by
  have hn : rng (adcSrc adb).val 100 103 = false := by cases adb <;> rfl
  unfold State.codeTaken
  extract_lets q s1 s2 s3
  have h2 : s2.frontEnd = s1.frontEnd := State.gaugeFeed_frontEnd _ _ _ _ _
  have hsrc : s2.src (adcSrc adb) = s.src (adcSrc adb) := State.src_of_frontEnd h2 _
  have hup2 : s2.up = true := (State.up_of_frontEnd h2).trans hup
  have h3 : s3 = s2.raise (adcSrc adb) 0x02 0 := if_pos (by simpa [q, hq] using hc)
  rw [if_pos hq, h3, State.raise, State.raiseBy_waiting none 0x02 0 hn hup2 (by rw [hsrc]; exact hlen), hsrc]

theorem State.codeTaken_regs (code : Word) : (s.codeTaken adb code).regs = s.regs := by
  unfold State.codeTaken
  extract_lets q s1 s2 s3
  have h3 : s3.regs = s.regs := by unfold s3; split <;> simp [s2, s1]
  split <;> simp [h3]

end

/-- An incomplete slot's event waits at its converter's source. -/
theorem State.slotFailed_waiting {s : State} (adb : Bool) (f : Adc → Adc) (hup : s.up = true)
    (hlen : (s.src (adcSrc adb)).waiting.length < 5) :
    ((((s.updAdc f).raise (adcSrc adb) 0x01 0).fabric).src (adcSrc adb)).waiting = (s.src (adcSrc adb)).waiting ++ [⟨0x01, 0, none⟩] := by
  have hn : rng (adcSrc adb).val 100 103 = false := by cases adb <;> rfl
  rw [State.src_of_frontEnd (State.fabric_frontEnd _)]
  exact State.raiseBy_waiting (s := s.updAdc f) none 0x01 0 hn hup hlen

theorem State.slotFailed_adc (s : State) (n : Fin 160) (f : Adc → Adc) : (((s.updAdc f).raise n 0x01 0).fabric).adc = f s.adc := by
  rw [State.adc_of_frontEnd (State.fabric_frontEnd _), State.raise_adc]
  rfl

/-- The difference of two codes is the larger less the smaller. -/
theorem codesApart_eq_max (c d : Word) : codesApart c d = max (c.toNat - d.toNat) (d.toNat - c.toNat) := by
  unfold codesApart
  split <;> omega

theorem State.pairCompared_adc (s : State) (c code : Word) : (s.pairCompared c code).adc = { s.adc with pairA := none } := by
  unfold State.pairCompared
  dsimp only
  split
  · exact State.raise_adc _ _ _ _
  · rfl

/-- Codes further apart than DTOL are counted at source 96, others nowhere (R244). -/
theorem State.pairCompared_src (s : State) (c code : Word) (hup : s.up = true) (hlen : (s.src 96).waiting.length < 5) :
    ((s.pairCompared c code).src 96).waiting =
      (s.src 96).waiting ++ if bitsAt (s.reg (adcBase + 1)) 0 8 < codesApart c code then [⟨0x03, 0, none⟩] else [] := by
  unfold State.pairCompared
  extract_lets t
  have hreg : t.reg (adcBase + 1) = s.reg (adcBase + 1) := rfl
  rw [hreg]
  split
  · exact State.raiseBy_waiting (s := t) none 0x03 0 rfl hup hlen
  · exact (List.append_nil _).symm

/-- The comparison counts at source 96 alone. -/
theorem State.pairCompared_src_other (s : State) (c code : Word) {n : Fin 160} (h : n ≠ 96) : (s.pairCompared c code).src n = s.src n := by
  unfold State.pairCompared
  dsimp only
  split
  · exact State.raise_src_other _ _ _ h
  · rfl

theorem State.pairCompared_src_of_near {s : State} {c code : Word} (h : ¬ bitsAt (s.reg (adcBase + 1)) 0 8 < codesApart c code) (n : Fin 160) :
    (s.pairCompared c code).src n = s.src n := by
  have he : s.pairCompared c code = s.updAdc fun a => { a with pairA := none } := if_neg h
  rw [he]
  rfl

section
variable (a : Adc) (adb : Bool) {q : Bool × Nat × Nat} (code : Word)

/-- The slot that follows. -/
def Adc.next (q : Bool × Nat × Nat) : Nat := if a.slot adb + 1 < q.2.2 then a.slot adb + 1 else 0

/-- A completed slot of an input of converter A. -/
theorem Adc.taken_inputA {i : Fin 16} (h : q.2.1 = i.val) :
    (a.ended false q code true).taken false q code =
      { a with slotA := a.next false q, ra := a.ra.set i.val code, cntA := a.cntA + 1, badA := a.badA.set i.val false
               pairA := if q.1 then some (a.slotA, code) else none } := by
  obtain ⟨p, k, len⟩ := q
  obtain rfl : k = i.val := h
  have h16 : i.val ≠ 16 := by omega
  simp only [Adc.taken, Adc.ended, Nat.mod_eq_of_lt i.isLt, h16, Bool.false_eq_true, if_false, Bool.and_true]
  rfl

/-- A completed slot of an input of converter B. -/
theorem Adc.taken_inputB {i : Fin 16} (h : q.2.1 = i.val) :
    (a.ended true q code true).taken true q code =
      { a with slotB := a.next true q, rb := a.rb.set i.val code, cntB := a.cntB + 1, badB := a.badB.set i.val false } := by
  obtain ⟨p, k, len⟩ := q
  obtain rfl : k = i.val := h
  have h16 : i.val ≠ 16 := by omega
  simp only [Adc.taken, Adc.ended, Nat.mod_eq_of_lt i.isLt, h16, if_true, if_false]
  rfl

theorem Adc.failed_inputA {i : Fin 16} (h : q.2.1 = i.val) :
    a.ended false q code false = { a with slotA := a.next false q, badA := a.badA.set i.val true, pairA := none } := by
  obtain ⟨p, k, len⟩ := q
  obtain rfl : k = i.val := h
  have h16 : i.val ≠ 16 := by omega
  simp only [Adc.ended, Nat.mod_eq_of_lt i.isLt, h16, Bool.false_eq_true, if_false, Bool.and_false]
  rfl

theorem Adc.failed_inputB {i : Fin 16} (h : q.2.1 = i.val) :
    a.ended true q code false = { a with slotB := a.next true q, badB := a.badB.set i.val true } := by
  obtain ⟨p, k, len⟩ := q
  obtain rfl : k = i.val := h
  have h16 : i.val ≠ 16 := by omega
  simp only [Adc.ended, Nat.mod_eq_of_lt i.isLt, h16, if_true, if_false]
  rfl

/-- A completed slot of converter A's reference. -/
theorem Adc.taken_referenceA (h : q.2.1 = 16) :
    ((a.ended false q code true).taken false q code).rrefA = code ∧
      ((a.ended false q code true).taken false q code).slotA = a.next false q ∧
      ((a.ended false q code true).taken false q code).ra = a.ra := by
  obtain ⟨p, k, len⟩ := q
  obtain rfl : k = 16 := h
  exact ⟨rfl, rfl, rfl⟩

/-- A completed slot of converter B's reference. -/
theorem Adc.taken_referenceB (h : q.2.1 = 16) :
    ((a.ended true q code true).taken true q code).rrefB = code ∧
      ((a.ended true q code true).taken true q code).slotB = a.next true q ∧
      ((a.ended true q code true).taken true q code).rb = a.rb := by
  obtain ⟨p, k, len⟩ := q
  obtain rfl : k = 16 := h
  exact ⟨rfl, rfl, rfl⟩

end

theorem conversionsAreShownAndChecked : Claims.ConversionsAreShownAndChecked := by
  intro s code counts
  constructor
  · intro hen hiso q next
    have hon : s.adcOn false = true := by simp [State.adcOn, hen, hiso]
    have hshown := exec_conversionSlotEnd_shown code hon (.inl rfl)
    refine ⟨fun i hi => ⟨_, hshown, ?_⟩, fun i hi => ⟨_, exec_conversionSlotEnd_failed code hon, ?_, State.slotFailed_waiting false _⟩,
      fun hi => ?_⟩
    · rw [State.codeTaken_adc]
      exact s.adc.taken_inputA code hi
    · rw [State.slotFailed_adc]
      exact s.adc.failed_inputA code hi
    · obtain ⟨hr, hs, ha⟩ := s.adc.taken_referenceA code (q := s.slotNow false) hi
      rw [← State.codeTaken_adc] at hr hs ha
      exact ⟨_, hshown, hr, hs, ha, fun hc => State.codeTaken_reference code hi hc⟩
  · intro hen hiso q next shown
    have hon : s.adcOn true = true := by simp [State.adcOn, hen, hiso]
    have hadc : ∀ i : Fin 16, q.2.1 = i.val → (s.codeTaken true code).adc = shown i s.adc.pairA := fun i hi => by
      rw [State.codeTaken_adc]
      exact s.adc.taken_inputB code hi
    refine ⟨fun i hi hp => ⟨_, exec_conversionSlotEnd_shown code hon (.inr hp), hadc i hi⟩, fun i c hi hq hp => ?_,
      fun i hi => ⟨_, exec_conversionSlotEnd_failed code hon, ?_, State.slotFailed_waiting true _⟩, fun hi => ?_⟩
    · have h16 : (s.slotNow true).2.1 ≠ 16 := by
        have : q.2.1 ≠ 16 := by omega
        exact this
      have hkept := State.codeTaken_src (s := s) (adb := true) code h16
      refine ⟨_, exec_conversionSlotEnd_compared code hon hq hp, ?_, ?_⟩
      · rw [State.pairCompared_adc, hadc i hi]
      · have hreg : (s.codeTaken true code).reg (adcBase + 1) = s.reg (adcBase + 1) := by
          simp only [State.reg, State.codeTaken_regs]
        rw [← codesApart_eq_max]
        obtain ⟨hsrc, hup⟩ := hkept 96
        split
        · next hfar =>
          intro hu hlen
          rw [State.pairCompared_src _ _ _ (hup.trans hu) (by rw [hsrc]; exact hlen), hreg, if_pos hfar, hsrc]
        · next hnear => rw [State.pairCompared_src_of_near (by rw [hreg]; exact hnear), hsrc]
    · rw [State.slotFailed_adc]
      exact s.adc.failed_inputB code hi
    · obtain ⟨hr, hs, hb⟩ := s.adc.taken_referenceB code (q := s.slotNow true) hi
      rw [← State.codeTaken_adc] at hr hs hb
      have hcount : (code.toNat < 2032 ∨ 2064 < code.toNat) → counts (s.codeTaken true code) 97 0x02 :=
        fun hc => State.codeTaken_reference code hi hc
      by_cases hp : (s.slotNow true).1 = false ∨ ∀ c, s.adc.pairA ≠ some (s.adc.slotB, c)
      · exact ⟨_, exec_conversionSlotEnd_shown code hon (.inr hp), hr, hs, hb, hcount⟩
      · simp only [not_or, not_forall, not_not, Bool.not_eq_false] at hp
        obtain ⟨hq, c, hp⟩ := hp
        refine ⟨_, exec_conversionSlotEnd_compared code hon hq hp, ?_, ?_, ?_, fun hc => ?_⟩
        · rw [State.pairCompared_adc]
          exact hr
        · rw [State.pairCompared_adc]
          exact hs
        · rw [State.pairCompared_adc]
          exact hb
        · simp only [counts, State.pairCompared_src_other _ _ _ (show (97 : Fin 160) ≠ 96 by decide)]
          exact hcount hc

end Sys2Proof.Machine

namespace Sys2Proof.Machine

/-! ### O33: bobbins (R184, R229, R246, R248, R457) -/

section
variable {s : State} {n : Chan} {second : Bool} {c : Clu} {w : BobWrite} {rest : List BobWrite}

/-- The write leaves its copy's queue, and its samples are available. -/
def State.bobTaken (s : State) (n : Chan) (second : Bool) (w : BobWrite) (rest : List BobWrite) : State :=
  s.updChan n fun x =>
    if second then { x with queue1 := rest, avail1 := x.avail1 + w.samples } else { x with queue0 := rest, avail0 := x.avail0 + w.samples }

/-- The write's words stand in the bobbin RAM. -/
def State.bobStored (s : State) (c : Clu) (l : List (Nat × Word)) : State :=
  l.foldl (fun s p => s.setMem (bobAddr c (p.1 % 0x4000)) p.2) s

/-- The channel's write failed (R248). -/
def State.bobFailed (s : State) (n : Chan) : State := s.updChan n fun x => { x with berr := true, berrNow := true }

section
variable (hc : s.bobCluster n second = some c) (hq : (if second then (s.chan n).queue1 else (s.chan n).queue0) = w :: rest)
  (ht : s.bobTurn n second w = true) (hi : (s.clu c).iso = false)
include hc hq ht hi

theorem exec_bobbinWrite_ok (k : Fin 9) :
    exec (.bobbinWrite n second .ok k) s =
      .next ((((s.bobStored c w.words).bobTaken n second w rest).bobAdvance n c (s.bobAvail n c)).wokenBy n c) := by
  show execBobbinWrite n second .ok k s = _
  unfold execBobbinWrite
  simp only [hc, hq, ht, hi, Bool.not_true, Bool.false_eq_true, if_false]
  rfl

theorem exec_bobbinWrite_weftFail (k : Fin 9) :
    exec (.bobbinWrite n second .weftFail k) s =
      .next (((((s.bobFailed n).raiseBy (some .frontEnd) 81 0x02
        (BitVec.ofNat 24 (bobAddr c ((w.words.head?.map Prod.fst).getD 0)))).bobTaken n second w rest).bobAdvance n c (s.bobAvail n c)).wokenBy n c) := by
  show execBobbinWrite n second .weftFail k s = _
  unfold execBobbinWrite
  simp only [hc, hq, ht, hi, Bool.not_true, Bool.false_eq_true, if_false, List.head?_eq_getElem?]
  rfl

theorem exec_bobbinWrite_bankFail {k : Fin 9} {p : Nat × Word} (hp : w.words[k.val]? = some p) :
    exec (.bobbinWrite n second .bankFail k) s =
      .next (((((s.bobFailed n).memEvent c 9 .frontEnd 3 0x04 (BitVec.ofNat 24 (bobAddr c p.1)) true).bobTaken n second w rest).bobAdvance n c
        (s.bobAvail n c)).wokenBy n c) := by
  have hk : k.val % w.words.length = k.val := Nat.mod_eq_of_lt (List.getElem?_eq_some_iff.mp hp).1
  show execBobbinWrite n second .bankFail k s = _
  unfold execBobbinWrite
  simp only [hc, hq, ht, hi, hk, hp, Bool.not_true, Bool.false_eq_true, if_false]
  rfl
end

end

/-! #### Cursors, and the wake of a gated cluster (R90, R249, R457) -/

/-- The channel that each thread's cursor is attached to. -/
def Engine.cursors (x : Engine) : Thr → Option Chan := fun t => (x.thr t).smp.chan
def State.cursors (s : State) : Eng → Thr → Option Chan := fun e => (s.eng e).cursors

section
variable (s : State)

theorem State.updEng_cursors {e : Eng} {f : Engine → Engine} (h : (f (s.eng e)).cursors = (s.eng e).cursors) :
    (s.updEng e f).cursors = s.cursors := by
  funext k
  by_cases hk : k = e
  · rw [hk, State.cursors, State.updEng_eng, h]
    rfl
  · rw [State.cursors, State.updEng_eng_other s f hk]
    rfl

theorem State.updLanes_cursors {e : Eng} {f : Engine → Engine} (h : (f (s.eng e)).cursors = (s.eng e).cursors) :
    (s.updLanes e f).cursors = s.cursors := by
  refine (foldl_keeps State.cursors _ (fun u l => ?_) laneList (s.updEng e f)).trans (s.updEng_cursors h)
  split
  · exact u.updEng_cursors rfl
  · rfl

theorem State.setLine_cursors (e : Eng) (n : Nat) : (s.setLine e n).cursors = s.cursors := by
  unfold State.setLine
  split
  · exact s.updEng_cursors rfl
  · exact s.updLanes_cursors rfl

/-- An overtaken cursor moves and stays attached. -/
theorem State.bobAdvance_cursors (n : Chan) (c : Clu) (before : Nat) : (s.bobAdvance n c before).cursors = s.cursors := by
  refine foldl_keeps State.cursors _ (fun u e => ?_) _ s
  extract_lets rise v
  have hv : v.cursors = u.cursors := by
    refine u.updLanes_cursors (funext fun t => ?_)
    simp only [Engine.cursors, Engine.thr, vmap_getElem]
    split <;> rfl
  split
  · exact (State.setLine_cursors _ _ _).trans hv
  · exact hv

@[simp] theorem State.bobAdvance_clusters (n : Chan) (c : Clu) (before : Nat) : (s.bobAdvance n c before).clusters = s.clusters :=
  foldl_keeps State.clusters _ (fun u e => by dsimp only; split <;> simp) _ s

theorem State.bobStored_clusters (c : Clu) (l : List (Nat × Word)) : (s.bobStored c l).clusters = s.clusters := by
  refine foldl_keeps State.clusters _ (fun _ _ => ?_) l s
  rfl

theorem State.bobStored_cursors (c : Clu) (l : List (Nat × Word)) : (s.bobStored c l).cursors = s.cursors := by
  refine foldl_keeps State.cursors _ (fun _ _ => ?_) l s
  rfl

/-- What follows the words of a bobbin write changes no cluster but by a wake. -/
theorem State.bobAdvance_bobTaken_clu (n : Chan) (second : Bool) (w : BobWrite) (rest : List BobWrite) (c d : Clu) (before : Nat) :
    ((s.bobTaken n second w rest).bobAdvance n c before).clu d = s.clu d :=
  State.clu_of_clusters (State.bobAdvance_clusters _ n c before) d

/-- A memory event counts in its cluster, whose clocks it leaves as they are (R185, R213). -/
theorem State.memEvent_gated (c : Clu) (b : Bank) (q : Requester) (kind : Nat) (cause : BitVec 7) (a : Addr) (write : Bool) :
    ((s.memEvent c b q kind cause a write).clu c).gated = (s.clu c).gated := by
  unfold State.memEvent
  rw [State.clu_of_clusters (State.raiseBy_clusters _ _ _ _ _), State.updClu_clu]

variable {s}

/-- A write to a channel wakes no cluster that is clocked. -/
theorem State.wokenBy_of_clocked {n : Chan} {c : Clu} (h : (s.clu c).gated = false) : s.wokenBy n c = s :=
  if_neg (by simp [h])

/-- A write to a channel is a wake event of a gated cluster whose cursor is attached to it (R457). -/
theorem State.wokenBy_of_gated {n : Chan} {c : Clu} {e : Eng} {t : Thr} (h : (s.clu c).gated = true) (he : e.cluster = c)
    (ht : s.cursors e t = some n) :
    ((s.wokenBy n c).clu c).woken = true ∧ ((s.wokenBy n c).clu c).gated = true := by
  have ht' : (s.thr e t).smp.chan = some n := ht
  have hw : s.wokenBy n c = s.updClu c fun x => { x with woken := true } := by
    refine if_pos ?_
    simp only [h, Bool.true_and, List.any_eq_true, Bool.and_eq_true, decide_eq_true_eq]
    exact ⟨e, List.mem_finRange e, he, t, List.mem_finRange t, ht'⟩
  rw [hw, State.updClu_clu]
  exact ⟨rfl, h⟩

end

theorem bobbinsAdvance : Claims.BobbinsAdvance := by
  intro s n second c w rest k hc hq ht hi taken before store fails
  have hstored := State.clu_of_clusters (s.bobStored_clusters c w.words) c
  refine ⟨fun hg => ⟨?_, ?_, fun p hp => ?_⟩, fun e t hg he hch => ?_⟩
  · rw [exec_bobbinWrite_ok hc hq ht hi, State.wokenBy_of_clocked]
    · rfl
    · rw [State.bobAdvance_bobTaken_clu, hstored, hg]
  · rw [exec_bobbinWrite_weftFail hc hq ht hi, State.wokenBy_of_clocked]
    · rfl
    · rw [State.bobAdvance_bobTaken_clu, State.clu_of_clusters (State.raiseBy_clusters _ _ _ _ _)]
      exact hg
  · rw [exec_bobbinWrite_bankFail hc hq ht hi hp, State.wokenBy_of_clocked]
    · rfl
    · rw [State.bobAdvance_bobTaken_clu, State.memEvent_gated]
      exact hg
  · refine ⟨_, exec_bobbinWrite_ok hc hq ht hi k, State.wokenBy_of_gated (e := e) (t := t) ?_ he ?_⟩
    · rw [State.bobAdvance_bobTaken_clu, hstored, hg]
    · rw [State.bobAdvance_cursors]
      exact (congrFun (congrFun (s.bobStored_cursors c w.words) e) t).trans hch

/-- Settles O33: the filters, the lost clocks, the conversions and the bobbins. -/
theorem filtersConvertersAndBobbins : Obligations.FiltersConvertersAndBobbins :=
  ⟨filtersDeliverEachInterval, clockLossAndStuckBitstreams, conversionsAreShownAndChecked, bobbinsAdvance⟩

end Sys2Proof.Machine

namespace Sys2Proof.Machine

/-! ### Runs of words that the shuttle stores (R173, R411) -/

/-- An address of the device map is its own number (R170). -/
theorem toNat_ofNat_map {a : Nat} (h : a < 2 ^ 24) : (BitVec.ofNat 24 a).toNat = a := by
  rw [BitVec.toNat_ofNat, Nat.mod_eq_of_lt h]

section
variable {s u : State} {m : Master} {p : Addr}

/-- A word that the master may write now: of a data region whose bank is awake, neither isolated from it nor refused to it. -/
def State.writable (s : State) (m : Master) (p : Addr) : Prop :=
  (regionOf p).isData = true ∧ s.asleep p = false ∧ s.cutOff m p = false ∧ s.refuses m p true = false

theorem State.writable_memOnly (h : State.MemOnly s u) (hw : s.writable m p) : u.writable m p := by
  obtain ⟨_, _, rfl⟩ := h
  exact hw

/-- What a run of writes may still write after its first `j` words. -/
theorem State.writable_rest {a n : Nat} (j : Nat) (hp : ∀ k, k < n + j → s.writable m (BitVec.ofNat 24 (a + k)))
    (hu : State.MemOnly s u) (k : Nat) (hk : k < n) : u.writable m (BitVec.ofNat 24 (a + j + k)) :=
  State.writable_memOnly hu (Nat.add_assoc a j k ▸ hp (j + k) (by omega))

/-- The words stored from an address on. -/
def State.storeWords (s : State) (a : Nat) : List Word → State
  | [] => s
  | w :: ws => (s.setMem a w).storeWords (a + 1) ws

theorem State.storeWords_memOnly (s : State) (a : Nat) (ws : List Word) : State.MemOnly s (s.storeWords a ws) := by
  induction ws generalizing s a with
  | nil => exact .refl s
  | cons w ws ih => exact (State.MemOnly.setMem s a w).trans (ih _ _)

/-- What a word reads as after a run of stores. -/
theorem State.memWord_storeWords {s : State} (h : s.memCanonical = true) {a : Nat} (ws : List Word) (ha : a + ws.length ≤ 2 ^ 24) (b : Nat) :
    (s.storeWords a ws).memWord b = if b < a then s.memWord b else (ws[b - a]?).getD (s.memWord b) := by
  induction ws generalizing s a with
  | nil => simp [State.storeWords]
  | cons w ws ih =>
    rw [List.length_cons] at ha
    rw [State.storeWords, ih (State.memCanonical_setMem w h (by omega)) (by omega), State.memWord_setMem h]
    rcases Nat.lt_trichotomy b a with hb | rfl | hb
    · rw [if_pos (by omega), if_neg (by omega), if_pos hb]
    · simp
    · rw [if_neg (by omega), if_neg (by omega), if_neg (by omega), show b - a = b - (a + 1) + 1 by omega, List.getElem?_cons_succ]

theorem State.memWord_storeWords_inside {s : State} (h : s.memCanonical = true) {a : Nat} {ws : List Word} (ha : a + ws.length ≤ 2 ^ 24) {k : Nat}
    (hk : k < ws.length) : (s.storeWords a ws).memWord (a + k) = ws[k] := by
  rw [State.memWord_storeWords h ws ha, if_neg (by omega), Nat.add_sub_cancel_left, List.getElem?_eq_getElem hk, Option.getD_some]

theorem State.memWord_storeWords_outside {s : State} (h : s.memCanonical = true) {a : Nat} {ws : List Word} (ha : a + ws.length ≤ 2 ^ 24) {b : Nat}
    (hb : b < a ∨ a + ws.length ≤ b) : (s.storeWords a ws).memWord b = s.memWord b := by
  rw [State.memWord_storeWords h ws ha]
  split
  · rfl
  · rw [List.getElem?_eq_none (by omega), Option.getD_none]

/-- Words that the shuttle may write are stored, in pairs or one by one. -/
theorem State.copyIn_writable {s : State} {a : Nat} {ws : List Word} (ha : a + ws.length ≤ 2 ^ 24)
    (hp : ∀ k, k < ws.length → s.writable .shuttle (BitVec.ofNat 24 (a + k))) :
    s.copyIn a none ws = (ws.length, .all, s.storeWords a ws) := by
  induction ws using List.twoStepInduction generalizing s a with
  | nil => rfl
  | singleton w =>
    rw [List.length_singleton] at ha hp
    obtain ⟨hd, hs, hc, hr⟩ := hp 0 Nat.one_pos
    rw [Nat.add_zero] at hd hs hc hr
    rw [State.copyIn.eq_def]
    simp [hs, State.busWrite_data w hd hc hr, toNat_ofNat_map (a := a) (by omega), State.storeWords]
  | cons_cons w v rest ih ih' =>
    simp only [List.length_cons] at ha hp
    obtain ⟨hd, hs, hc, hr⟩ := hp 0 (by omega)
    rw [Nat.add_zero] at hd hs hc hr
    rw [State.copyIn.eq_def]
    by_cases hpair : bankPair (BitVec.ofNat 24 a) = true
    · have hrest := ih (s := (s.setMem a w).setMem (a + 1) v) (a := a + 2) (by omega)
        (State.writable_rest 2 hp ((State.MemOnly.setMem s a w).trans (.setMem _ _ v)))
      simp [hs, hpair, State.busWritePair_data w v hd hc hr, toNat_ofNat_map (a := a) (by omega), hrest, State.storeWords]
    · have hrest := ih' v (s := s.setMem a w) (a := a + 1) (by rw [List.length_cons]; omega) (State.writable_rest 1 hp (.setMem s a w))
      simp [hs, hpair, State.busWrite_data w hd hc hr, toNat_ofNat_map (a := a) (by omega), hrest, State.storeWords]

end
end Sys2Proof.Machine

namespace Sys2Proof.Machine

/-! ### O51: COPY_IN (R396, R411, R414, R415) -/

section
variable {s : State} {n : Fin 8} {x : Exec} {data : List Container} {stop : XferStop}

theorem exec_copyIn (hc : s.canSend = true) (h : s.executing n 1 = some x) : exec (.copyIn n data stop) s = .next (s.doCopyIn n x data stop) := by
  show execCopyIn n data stop s = _
  simp [execCopyIn, hc, h]

theorem progOf_data {a : Addr} (h : (regionOf a).isData = true) : progOf a = none := by
  unfold progOf
  split
  · next c hr => exact absurd hr ((isData_not h).2.2.1 c)
  · rfl

/-- The shuttle asks the host for the words of a COPY_IN that are not done. -/
def State.asked (s : State) (x : Exec) : State := s.askHost (x.d.haddr.toNat + 2 * x.prog) (2 * (x.d.count.toNat - x.prog))

/-- Every word of the rest arrives as a host-side word and is stored. -/
theorem State.doCopyIn_all (hf : x.d.flg.getLsbD 1 = false) (ha : x.d.daddr.toNat + x.prog + (x.d.count.toNat - x.prog) ≤ 2 ^ 24)
    (hw : ∀ k, k < x.d.count.toNat - x.prog → s.writable .shuttle (BitVec.ofNat 24 (x.d.daddr.toNat + x.prog + k)))
    (hl : data.length = x.d.count.toNat - x.prog) (hd : ∀ w ∈ data, w.toNat < 4096) :
    s.doCopyIn n x data .none =
      (((s.asked x).storeWords (x.d.daddr.toNat + x.prog) (data.map fun c => c.setWidth 12)).progress n data.length).finishDesc n 0 0 := by
  have htake : data.takeWhile plainWord = data := by
    rw [List.takeWhile_eq_self_iff]
    simpa [plainWord] using hd
  have hcopy := State.copyIn_writable (s := s.asked x) (a := x.d.daddr.toNat + x.prog) (ws := data.map fun c => c.setWidth 12)
    (by rwa [List.length_map, hl]) (by rw [List.length_map, hl]; exact hw)
  have hfull : (data.map fun c => c.setWidth 12).take (x.d.count.toNat - x.prog) = data.map fun c => (c.setWidth 12 : Word) :=
    List.take_of_length_le (by rw [List.length_map, hl])
  rw [State.asked, List.length_map, hl] at hcopy
  simp only [State.doCopyIn, hf, Bool.false_eq_true, if_false, htake, hostLimit, Nat.min_self, hfull, List.length_map, hl, Nat.lt_irrefl,
    decide_false, Bool.false_and, stopWrite, hcopy, if_true, State.asked]

section
variable (hf : x.d.flg.getLsbD 1 = false) (hp : x.prog < x.d.count.toNat)
include hf hp

/-- The first word's write ends in an error response. -/
theorem State.doCopyIn_refused {c : Container} (hc : c.toNat < 4096) (hd : (regionOf (BitVec.ofNat 24 (x.d.daddr.toNat + x.prog))).isData = true)
    (hs : s.asleep (BitVec.ofNat 24 (x.d.daddr.toNat + x.prog)) = false) :
    s.doCopyIn n x [c] (.deviceWrite 0 .errorResponse) =
      (((s.asked x).errorTo .shuttle (BitVec.ofNat 24 (x.d.daddr.toNat + x.prog))).progress n 0).partialDesc n 1 (x.d.daddr.toNat + x.prog) := by
  have hmin : 0 < x.d.count.toNat - x.prog := by omega
  have hs' : (s.asked x).asleep (BitVec.ofNat 24 (x.d.daddr.toNat + x.prog)) = false := hs
  have heff : (s.asked x).effWrite .shuttle (BitVec.ofNat 24 (x.d.daddr.toNat + x.prog)) .errorResponse = .errorResponse := by
    simp [State.effWrite]
  have htake : [(c.setWidth 12 : Word)].take (x.d.count.toNat - x.prog) = [c.setWidth 12] := List.take_of_length_le hmin
  have hcopy : (s.asked x).copyIn (x.d.daddr.toNat + x.prog) (some (0, .errorResponse)) [c.setWidth 12] =
      (0, .failed, (s.asked x).errorTo .shuttle (BitVec.ofNat 24 (x.d.daddr.toNat + x.prog))) := by
    rw [State.copyIn.eq_def]
    simp [hs', State.busWrite, heff, writeGood, State.countWrite]
  rw [State.asked] at hcopy
  simp only [State.doCopyIn, hf, Bool.false_eq_true, if_false, List.takeWhile_cons, plainWord, hc, decide_true, if_true, List.takeWhile_nil,
    List.map_cons, List.map_nil, hostLimit, Nat.min_self, htake, progOf_data hd, Option.isSome_none, Bool.and_false, Bool.false_and, stopWrite,
    hcopy, State.asked, Nat.add_zero]

/-- The host's data ends before the first word. -/
theorem State.doCopyIn_nothing (stop : XferStop) :
    s.doCopyIn n x [] stop = ((s.asked x).progress n 0).hostStop n stop (x.d.daddr.toNat + x.prog) := by
  have hne : ¬ 0 = x.d.count.toNat - x.prog := by omega
  have hcopy : ∀ bad, (s.asked x).copyIn (x.d.daddr.toNat + x.prog) bad [] = (0, .all, s.asked x) := fun bad => rfl
  rw [State.asked] at hcopy
  simp [State.doCopyIn, show x.d.flg[1] = false from hf, hcopy, hne, State.asked]

/-- The first container is no host-side word. -/
theorem State.doCopyIn_bad {c : Container} (hc : 4096 ≤ c.toNat) :
    s.doCopyIn n x [c] .none =
      ((((s.asked x).progress n 0).protocolFault 0x02 n.val c.toNat).partialDesc n 4 (x.d.daddr.toNat + x.prog)) := by
  have hne : ¬ 0 = x.d.count.toNat - x.prog := by omega
  have hcopy : (s.asked x).copyIn (x.d.daddr.toNat + x.prog) none [] = (0, .all, s.asked x) := rfl
  rw [State.asked] at hcopy
  simp [State.doCopyIn, show x.d.flg[1] = false from hf, plainWord, Nat.not_lt.mpr hc, stopWrite, hostLimit, hcopy, hne, hp,
    State.asked]
end

theorem State.asked_exec (h : (s.sq n).exec = some x) (y : Exec) : ((s.asked y).sq n).exec = some x := h

theorem State.partialDesc_exec (h : (s.sq n).exec = some x) (reason datum : Nat) :
    ((s.partialDesc n reason datum).sq n).exec =
      some { x with status := some (1, BitVec.ofNat 32 (reason * 2 ^ 24 + datum % 2 ^ 24)) } :=
  State.finishDesc_exec h 1 _

theorem State.protocolFault_exec (h : (s.sq n).exec = some x) (cause : BitVec 7) (origin v : Nat) :
    ((s.protocolFault cause origin v).sq n).exec = some x :=
  State.raiseBy_exec (s := s.updSht fun y => { y with pecnt := sat12 (y.pecnt.toNat + 1) }) h none cause _ rfl

theorem State.hostFault_exec (h : (s.sq n).exec = some x) (cause : BitVec 7) (origin : Nat) :
    ((s.hostFault cause origin).sq n).exec = some x :=
  State.raiseBy_exec h none cause _ rfl

theorem State.memCanonical_asked (h : s.memCanonical = true) (y : Exec) : (s.asked y).memCanonical = true := h

theorem State.progWord_asked (s : State) (y : Exec) (d : Clu) (i : PAddr) : (s.asked y).progWord d i = s.progWord d i := rfl

@[simp] theorem State.asked_mem (s : State) (y : Exec) : (s.asked y).mem = s.mem := rfl
@[simp] theorem State.asked_src (s : State) (y : Exec) : (s.asked y).src = s.src := rfl
@[simp] theorem State.asked_up (s : State) (y : Exec) : (s.asked y).up = s.up := rfl
end

/-! The packed form and its inverse (R396) -/

section
variable (w v : Word)

theorem unpack_low : ((v.setWidth 4 ++ ((w >>> 8).setWidth 4 : BitVec 4) : BitVec 8).setWidth 4 ++ w.setWidth 8 : Word) = w := by
  ext i hi
  simp only [BitVec.getElem_append, BitVec.getElem_setWidth, BitVec.getLsbD_append, BitVec.getLsbD_setWidth, BitVec.getLsbD_ushiftRight]
  grind

theorem unpack_high :
    ((v >>> 4).setWidth 8 ++ ((v.setWidth 4 ++ ((w >>> 8).setWidth 4 : BitVec 4) : BitVec 8) >>> 4).setWidth 4 : Word) = v := by
  ext i hi
  simp only [BitVec.getElem_append, BitVec.getElem_setWidth, BitVec.getLsbD_append, BitVec.getLsbD_setWidth, BitVec.getLsbD_ushiftRight]
  grind
end

theorem unpackBytes_packBytes (ws : List Word) (h : ws.length % 2 = 0) : unpackBytes (packBytes ws) = ws := by
  induction ws using List.twoStepInduction with
  | nil => rfl
  | singleton w => simp at h
  | cons_cons w v rest ih _ =>
    have hlen : rest.length % 2 = 0 := by
      simp only [List.length_cons] at h
      omega
    rw [packBytes, unpackBytes, ih hlen, unpack_low, unpack_high]

theorem copyInStoresTheHostsWords : Claims.CopyInStoresTheHostsWords := by
  refine ⟨?_, unpackBytes_packBytes⟩
  intro s n x data c hcan hsend hx hst hop hf hp a need ends ha hw
  have hexec : ∀ data stop, exec (.copyIn n data stop) s = .next (s.doCopyIn n x data stop) := fun _ _ =>
    exec_copyIn hsend (State.executing_of hx hst (by rw [hop]; rfl))
  have hask := State.asked_exec hx x
  obtain ⟨hd, hs, -, -⟩ := hw 0 (Nat.sub_pos_of_lt hp)
  refine ⟨fun hl hplain => ?_, fun hc => ?_, ?_, ?_, fun hc => ?_⟩
  · have hmem := State.storeWords_memOnly (s.asked x) a (data.map fun c => c.setWidth 12)
    have hlen : a + (data.map fun c => (c.setWidth 12 : Word)).length ≤ 2 ^ 24 := by rwa [List.length_map, hl]
    refine ⟨_, (hexec _ _).trans (congrArg _ (State.doCopyIn_all hf ha hw hl hplain)), ?_, fun k hk => ?_, fun b hb => ?_, ?_⟩
    · rw [← hl]
      refine State.finishDesc_exec (State.progress_exec ?_ _) 0 0
      obtain ⟨_, _, he⟩ := hmem
      exact he ▸ hask
    · refine (State.memWord_storeWords_inside (State.memCanonical_asked hcan x) hlen (by rwa [List.length_map])).trans ?_
      rw [List.getElem_map]
    · exact State.memWord_storeWords_outside (State.memCanonical_asked hcan x) hlen (by rwa [List.length_map, hl])
    · obtain ⟨_, _, he⟩ := hmem
      rw [he]
      exact ⟨rfl, rfl, rfl⟩
  · refine ⟨_, (hexec _ _).trans (congrArg _ (State.doCopyIn_refused hf hp hc hd hs)), ?_, State.errorTo_mem _ _ _ _⟩
    exact Nat.one_mul (2 ^ 24) ▸ State.partialDesc_exec (State.progress_exec (State.raiseBy_exec hask _ 0x01 _ rfl) 0) 1 a
  · exact ⟨_, (hexec _ _).trans (congrArg _ (State.doCopyIn_nothing hf hp _)),
      State.partialDesc_exec (State.hostFault_exec (State.progress_exec hask 0) 0x02 _) 2 a, State.raise_mem _ _ _ _,
      fun hup hwait => State.raiseBy_waiting none 0x02 _ rfl hup hwait⟩
  · exact ⟨_, (hexec _ _).trans (congrArg _ (State.doCopyIn_nothing hf hp _)),
      State.partialDesc_exec (State.hostFault_exec (State.progress_exec hask 0) 0x01 _) 3 a, State.raise_mem _ _ _ _,
      fun hup hwait => State.raiseBy_waiting none 0x01 _ rfl hup hwait⟩
  · exact ⟨_, (hexec _ _).trans (congrArg _ (State.doCopyIn_bad hf hp hc)),
      State.partialDesc_exec (State.protocolFault_exec (State.progress_exec hask 0) 0x02 _ _) 4 a, State.raise_mem _ _ _ _⟩

end Sys2Proof.Machine

namespace Sys2Proof.Machine

/-! ### O51: COPY_OUT (R396, R411, R415) -/

section
variable {s : State} {n : Fin 8} {x : Exec}

theorem exec_copyOut (stop : XferStop) (hc : s.canSend = true) (h : s.executing n 2 = some x) :
    exec (.copyOut n stop) s = .next (s.doCopyOut n x stop) := by
  show execCopyOut n stop s = _
  simp [execCopyOut, hc, h]

/-- The words that stand from an address on. -/
def State.wordsFrom (s : State) (a k : Nat) : List Word := (List.range' a k).map s.memWord

theorem State.wordsFrom_length (s : State) (a k : Nat) : (s.wordsFrom a k).length = k := by simp [State.wordsFrom]

/-- Good words that the shuttle may read go out as they stand. -/
theorem State.copyOut_readable {a : Nat} (k : Nat) (ha : a + k ≤ 2 ^ 24)
    (hp : ∀ j, j < k → s.readable .shuttle (BitVec.ofNat 24 (a + j)) ∧ s.wordGood (BitVec.ofNat 24 (a + j)) = true) :
    s.copyOut a none k = (s.wordsFrom a k, .all, s) := by
  induction k using Nat.twoStepInduction generalizing a with
  | zero => rfl
  | one =>
    obtain ⟨hr, hg⟩ := hp 0 Nat.one_pos
    rw [Nat.add_zero] at hr hg
    rw [State.copyOut.eq_def]
    simp [hr.2.1, State.busRead_data _ hr hg, toNat_ofNat_map (a := a) (by omega), State.wordsFrom]
  | more k ih ih' =>
    obtain ⟨hr, hg⟩ := hp 0 (by omega)
    obtain ⟨hr', hg'⟩ := hp 1 (by omega)
    rw [Nat.add_zero] at hr hg
    have hnext : ∀ i, i ≤ 2 → ∀ j, j < k + 2 - i →
        s.readable .shuttle (BitVec.ofNat 24 (a + i + j)) ∧ s.wordGood (BitVec.ofNat 24 (a + i + j)) = true := fun i hi j hj =>
      Nat.add_assoc a i j ▸ hp (i + j) (by omega)
    rw [State.copyOut.eq_def]
    by_cases hpair : bankPair (BitVec.ofNat 24 a) = true
    · have hrest := ih (a := a + 2) (by omega) (hnext 2 (le_refl 2))
      have hsucc : BitVec.ofNat 24 (a + 1) = BitVec.ofNat 24 a + 1 := BitVec.ofNat_add a 1
      have hread := State.busReadPair_data hr (hsucc ▸ hr') hg (hsucc ▸ hg')
      rw [← hsucc, toNat_ofNat_map (a := a) (by omega), toNat_ofNat_map (a := a + 1) (by omega)] at hread
      simp [hr.2.1, hpair, hread, hrest, State.wordsFrom, List.range'_succ]
    · have hrest := ih' (a := a + 1) (by omega) (hnext 1 (by omega))
      simp [hr.2.1, hpair, State.busRead_data _ hr hg, toNat_ofNat_map (a := a) (by omega), hrest, State.wordsFrom, List.range'_succ]

/-- Every word of the rest is read and goes out. -/
theorem State.doCopyOut_all (hf : x.d.flg.getLsbD 1 = false) (ha : x.d.daddr.toNat + x.prog + (x.d.count.toNat - x.prog) ≤ 2 ^ 24)
    (hp : ∀ j, j < x.d.count.toNat - x.prog → s.readable .shuttle (BitVec.ofNat 24 (x.d.daddr.toNat + x.prog + j)) ∧
      s.wordGood (BitVec.ofNat 24 (x.d.daddr.toNat + x.prog + j)) = true) :
    s.doCopyOut n x .none =
      (((s.sendWords (x.d.haddr.toNat + 2 * x.prog) (s.wordsFrom (x.d.daddr.toNat + x.prog) (x.d.count.toNat - x.prog))).progress n
        (x.d.count.toNat - x.prog)).finishDesc n 0 0) := by
  simp only [State.doCopyOut, stopRead, State.copyOut_readable _ ha hp, hf, Bool.false_eq_true, if_false, State.wordsFrom_length]

end

theorem copyOutSendsTheWords : Claims.CopyOutSendsTheWords := by
  intro s n x hsend hx hst hop hf hle a need h ha hw
  have hread : ∀ j, j < need → s.readable .shuttle (BitVec.ofNat 24 (a + j)) ∧ s.wordGood (BitVec.ofNat 24 (a + j)) = true := by
    intro j hj
    obtain ⟨hd, hs, hc, hr, hg⟩ := hw j hj
    exact ⟨⟨hd, hs, hc, hr⟩, hg⟩
  have hexec := (exec_copyOut .none hsend (State.executing_of hx hst (by rw [hop]; rfl))).trans
    (congrArg _ (State.doCopyOut_all (n := n) hf ha hread))
  obtain ⟨haddr, hlen, hbytes⟩ := State.sentWords_of (u := s.sendWords h (s.wordsFrom a need)) rfl
  rw [State.wordsFrom_length] at hlen
  refine ⟨_, hexec, ?_, rfl, rfl, haddr, hlen, fun k hk => ?_⟩
  · have hx' := State.finishDesc_exec (State.progress_exec (State.sendWords_exec hx h (s.wordsFrom a need)) need) 0 0
    rwa [show x.prog + need = x.d.count.toNat by omega] at hx'
  · have hk' : k < (s.wordsFrom a need).length := by rwa [State.wordsFrom_length]
    have hword : (s.wordsFrom a need)[k] = s.memWord (a + k) := by simp [State.wordsFrom]
    exact hword ▸ hbytes k hk'

/-! ### O51: LOAD_PROGRAM (R179, R396, R411) -/

section
variable {s u : State} {c : Clu}

theorem State.memCanonical_setProg (i : PAddr) (v : PWord) (h : s.memCanonical = true) : (s.setProg c i v).memCanonical = true := by
  obtain ⟨hm, hp, hu⟩ := State.memCanonical_wf h
  simp only [State.memCanonical, Bool.and_eq_true, List.all_eq_true, decide_eq_true_eq] at h ⊢
  obtain ⟨⟨⟨⟨⟨-, -⟩, hmk⟩, hpk⟩, -⟩, huk⟩ := h
  refine ⟨⟨⟨⟨⟨hm, State.setProg_wf s c i v hp⟩, hmk⟩, fun p hp => ?_⟩, State.setProg_upset_wf s c i v hu⟩, fun p hp => ?_⟩
  · rcases Cells.mem_write hp with h | ⟨rfl, -⟩
    · exact hpk p h
    · have := c.isLt
      have := i.isLt
      unfold progKey
      omega
  · rcases Cells.mem_write hp with h | ⟨-, hv⟩
    · exact huk p h
    · exact absurd rfl hv

/-- The program words stored from a word on. -/
def State.storeProg (s : State) (c : Clu) (i : Nat) : List PWord → State
  | [] => s
  | w :: ws => (s.setProg c (BitVec.ofNat 17 i) w).storeProg c (i + 1) ws

/-- `u` differs from `s` in stored program words alone. -/
def State.ProgOnly (s u : State) : Prop := ∃ p x, u = { s with prog := p, upset := x }

theorem State.storeProg_progOnly (s : State) (c : Clu) (i : Nat) (ws : List PWord) : State.ProgOnly s (s.storeProg c i ws) := by
  induction ws generalizing s i with
  | nil => exact ⟨_, _, rfl⟩
  | cons w ws ih =>
    obtain ⟨p, x, h⟩ := ih (s.setProg c (BitVec.ofNat 17 i) w) (i + 1)
    exact ⟨p, x, h⟩

/-- What a program word reads as after a run of stores. -/
theorem State.progWord_storeProg {i : Nat} (h : s.memCanonical = true) (ws : List PWord) (hi : i + ws.length ≤ 2 ^ 17) (d : Clu) (j : PAddr) :
    (s.storeProg c i ws).progWord d j = if d ≠ c ∨ j.toNat < i then s.progWord d j else (ws[j.toNat - i]?).getD (s.progWord d j) := by
  induction ws generalizing s i with
  | nil => simp [State.storeProg]
  | cons w ws ih =>
    rw [List.length_cons] at hi
    have hword : j = BitVec.ofNat 17 i ↔ j.toNat = i := by
      rw [← BitVec.toNat_inj, BitVec.toNat_ofNat, Nat.mod_eq_of_lt (by omega)]
    rw [State.storeProg, ih (State.memCanonical_setProg _ w h) (by omega), State.progWord_setProg h]
    simp only [hword]
    by_cases hd : d = c
    · simp only [hd, ne_eq, not_true_eq_false, false_or, true_and]
      rcases Nat.lt_trichotomy j.toNat i with hj | hj | hj
      · rw [if_pos (by omega), if_neg (by omega), if_pos hj]
      · simp [hj]
      · rw [if_neg (by omega), if_neg (by omega), if_neg (by omega), show j.toNat - i = j.toNat - (i + 1) + 1 by omega,
          List.getElem?_cons_succ]
    · simp [hd]

/-! Words of a program window (R179) -/

section
variable {a : Nat} (h0 : c.val * 0x100000 + 0x80000 ≤ a) (h1 : a < c.val * 0x100000 + 0xC0000)
include h0 h1

theorem regionOf_program : regionOf (BitVec.ofNat 24 a) = .program c := by
  have hc := c.isLt
  have hclu : cluOf a = c := Fin.ext (by simp only [cluOf]; omega)
  simp only [regionOf, toNat_ofNat_map (a := a) (by omega), if_pos (show a < 0x800000 by omega),
    if_neg (show ¬ a % 0x100000 < 0x40000 by omega), if_neg (show ¬ a % 0x100000 < 0x42000 by omega),
    if_neg (show ¬ a % 0x100000 < 0x48000 by omega), if_neg (show ¬ a % 0x100000 < 0x4C000 by omega),
    if_neg (show ¬ a % 0x100000 < 0x80000 by omega), if_pos (show a % 0x100000 < 0xC0000 by omega), hclu]

theorem windowWord_program : windowWord (BitVec.ofNat 24 a) = BitVec.ofNat 17 ((a - (c.val * 0x100000 + 0x80000)) / 2) := by
  have hc := c.isLt
  rw [windowWord, toNat_ofNat_map (a := a) (by omega), show a % 0x100000 - 0x80000 = a - (c.val * 0x100000 + 0x80000) by omega]

theorem State.cutOff_program (m : Master) (hi : (s.clu c).iso = false) : s.cutOff m (BitVec.ofNat 24 a) = false := by
  have hc := c.isLt
  have hn := toNat_ofNat_map (a := a) (by omega)
  have hb : blockClu (BitVec.ofNat 24 a) = some c := by
    have h2 : rng a 0x804000 0x805FFF = false := by simp [rng]; omega
    have h3 : rng a 0x820000 0x823FFF = false := by simp [rng]; omega
    simp [blockClu, hn, h2, h3, memClu, regionOf_program h0 h1, Region.bank]
  simp [State.cutOff, hb, hi]

/-- A program word is written as one pair (R179). -/
theorem State.busWritePair_program (m : Master) (v : PWord) (hi : (s.clu c).iso = false) :
    s.busWritePair m (BitVec.ofNat 24 a) (v.setWidth 12) ((v >>> 12).setWidth 12) .ok =
      (true, s.setProg c (BitVec.ofNat 17 ((a - (c.val * 0x100000 + 0x80000)) / 2)) v) := by
  have hpair : (((v >>> 12).setWidth 12 : Word) ++ (v.setWidth 12 : Word)).setWidth 14 = v := by
    ext i h
    simp only [BitVec.getElem_setWidth, BitVec.getLsbD_append, BitVec.getLsbD_setWidth, BitVec.getLsbD_ushiftRight]
    grind
  have hhi : ¬ 4 ≤ ((v >>> 12).setWidth 12 : Word).toNat := by
    have := v.isLt
    simp only [BitVec.toNat_setWidth, BitVec.toNat_ushiftRight, Nat.shiftRight_eq_div_pow]
    omega
  simp only [State.busWritePair, State.effWrite_ok (State.cutOff_program h0 h1 m hi), State.countWrite, writeGood, Bool.not_true,
    Bool.false_eq_true, if_false, regionOf_program h0 h1, if_neg hhi, hpair, windowWord_program h0 h1]

end

/-- Program words that the shuttle may write are stored, each as one pair. -/
theorem State.loadWords_program {a : Nat} {ws : List PWord} (he : a % 2 = 0) (h0 : c.val * 0x100000 + 0x80000 ≤ a)
    (h1 : a + 2 * ws.length ≤ c.val * 0x100000 + 0xC0000) (hs : ∀ k, k < ws.length → s.asleep (BitVec.ofNat 24 (a + 2 * k)) = false)
    (hi : (s.clu c).iso = false) :
    s.loadWords a none ws = (ws.length, .all, s.storeProg c ((a - (c.val * 0x100000 + 0x80000)) / 2) ws) := by
  induction ws generalizing s a with
  | nil => rfl
  | cons w ws ih =>
    rw [List.length_cons] at h1 hs
    have hawake : s.asleep (BitVec.ofNat 24 a) = false := hs 0 (by omega)
    have hrest := ih (s := s.setProg c (BitVec.ofNat 17 ((a - (c.val * 0x100000 + 0x80000)) / 2)) w) (a := a + 2) (by omega) (by omega)
      (by omega) (fun k hk => by rw [show a + 2 + 2 * k = a + 2 * (k + 1) by omega]; exact hs (k + 1) (by omega)) hi
    rw [show (a + 2 - (c.val * 0x100000 + 0x80000)) / 2 = (a - (c.val * 0x100000 + 0x80000)) / 2 + 1 by omega] at hrest
    rw [State.loadWords.eq_def]
    simp only [hawake, Bool.false_eq_true, if_false, State.busWritePair_program h0 (by omega) _ w hi, Bool.not_true,
      Option.bind_none, hrest, List.length_cons, State.storeProg]

end

section
variable {s : State} {n : Fin 8} {x : Exec} {data : List Container}

theorem exec_loadProgram (stop : XferStop) (hc : s.canSend = true) (h : s.executing n 7 = some x) :
    exec (.loadProgram n data stop) s = .next (s.doLoad n x data stop) := by
  show execLoadProgram n data stop s = _
  simp [execLoadProgram, hc, h]

/-- Every program word of the rest arrives and is stored. -/
theorem State.doLoad_all {c : Clu} (hd : ∀ w ∈ data, w.toNat < 16384) (hl : data.length = x.d.count.toNat - x.prog)
    (he : (x.d.daddr.toNat + 2 * x.prog) % 2 = 0) (h0 : c.val * 0x100000 + 0x80000 ≤ x.d.daddr.toNat + 2 * x.prog)
    (h1 : x.d.daddr.toNat + 2 * x.prog + 2 * data.length ≤ c.val * 0x100000 + 0xC0000)
    (hs : ∀ k, k < data.length → s.asleep (BitVec.ofNat 24 (x.d.daddr.toNat + 2 * x.prog + 2 * k)) = false) (hi : (s.clu c).iso = false) :
    s.doLoad n x data .none =
      (((s.asked x).storeProg c ((x.d.daddr.toNat + 2 * x.prog - (c.val * 0x100000 + 0x80000)) / 2)
        (data.map fun w => w.setWidth 14)).progress n data.length).finishDesc n 0 0 := by
  have htake : data.takeWhile (fun w => decide (w.toNat < 16384)) = data := by
    rw [List.takeWhile_eq_self_iff]
    simpa using hd
  have hload := State.loadWords_program (s := s.asked x) (c := c) (ws := data.map fun w => (w.setWidth 14 : PWord)) he h0
    (by rwa [List.length_map]) (by rw [List.length_map]; exact hs) hi
  rw [State.asked, List.length_map, hl] at hload
  simp only [State.doLoad, htake, hostLimit, Nat.min_self, List.take_of_length_le (Nat.le_of_eq hl), stopWrite, hload, if_true, hl, State.asked]

end

theorem loadProgramFillsTheWindow : Claims.LoadProgramFillsTheWindow := by
  intro s n x c data hcan hsend hx hst hop hle hl hd a base word he h0 h1 hs hi
  have hlen : (data.map fun w => (w.setWidth 14 : PWord)).length = data.length := List.length_map _
  have hword0 : ∀ k, word k = (a - base) / 2 + k := fun _ => rfl
  have hroom : (a - base) / 2 + (data.map fun w => (w.setWidth 14 : PWord)).length ≤ 2 ^ 17 := by omega
  have hend : a + 2 * data.length ≤ c.val * 0x100000 + 0xC0000 := le_of_le_of_eq h1 (Nat.add_assoc (c.val * 0x100000) 0x80000 0x40000)
  have hload := State.doLoad_all (s := s) (n := n) (x := x) (c := c) hd hl he h0 hend hs hi
  obtain ⟨p, z, hprog⟩ := State.storeProg_progOnly (s.asked x) c ((a - base) / 2) (data.map fun w => (w.setWidth 14 : PWord))
  have hword := State.progWord_storeProg (c := c) (State.memCanonical_asked hcan x) _ hroom
  refine ⟨_, (exec_loadProgram .none hsend (State.executing_of hx hst (by rw [hop]; rfl))).trans (congrArg _ hload), ?_, ?_, ?_,
    fun k hk => ?_, fun d i hdi => ?_⟩
  · have hx' := State.finishDesc_exec (State.progress_exec (State.asked_exec hx x) data.length) 0 0
    rw [show x.prog + data.length = x.d.count.toNat by omega] at hx'
    exact hprog ▸ hx'
  · exact (congrArg State.mem hprog :)
  · exact (congrArg State.regs hprog :)
  · have hnum : (BitVec.ofNat 17 (word k)).toNat = (a - base) / 2 + k := by
      rw [hword0, BitVec.toNat_ofNat, Nat.mod_eq_of_lt (by omega)]
    refine (hword c _).trans ?_
    rw [hnum, if_neg (by simp), Nat.add_sub_cancel_left, List.getElem?_eq_getElem (by rwa [hlen]), Option.getD_some, List.getElem_map]
  · rw [hword0, hword0, Nat.add_zero] at hdi
    refine (hword d i).trans ?_
    by_cases hout : d ≠ c ∨ i.toNat < (a - base) / 2
    · rw [if_pos hout, State.progWord_asked]
    · have hafter : (a - base) / 2 + data.length ≤ i.toNat := by
        rcases hdi with h | h | h
        · exact absurd (.inl h) hout
        · exact absurd (.inr h) hout
        · exact h
      rw [if_neg hout, List.getElem?_eq_none (by omega), Option.getD_none, State.progWord_asked]

/-- Settles O51: the runs of words that COPY_IN and LOAD_PROGRAM store and COPY_OUT reads, and the ends of a COPY_IN. -/
theorem dataDescriptors : Obligations.DataDescriptors :=
  ⟨copyInStoresTheHostsWords, copyOutSendsTheWords, loadProgramFillsTheWindow⟩

end Sys2Proof.Machine

namespace Sys2Proof.Machine

/-! ### O59: the boot monitor's view of records (R365, R366, R377, R486)

V looks a record up as a fetch does: one that has left the RAM ring is sought in the NV memory, and the search sends its READ commands at the
recorder SPI port whether it finds the record or not. The statement's clause on a record that is not found has V send nothing. -/

/-- NV_EN is set, and record 5 of 600 stands neither in the RAM ring, which holds the youngest 512, nor in the NV memory, which is blank. -/
def recordNowhere : State :=
  ({ State.reset with
      dev := { phase := .setup, safe := true, tethered := true }
      rcd := { State.reset.rcd with nseq := 600 } }).setReg recBase 0x800

theorem recordNowhere_on : recordNowhere.monitorOn = true ∧ recordNowhere.findRecord 5 = none := by decide +kernel

theorem recordNowhere_spi : recordNowhere.rcd.spi = [] := by decide +kernel

/-- V sends the READ commands of its search. -/
theorem monitorV_recordNowhere_spi : (stateAfter recordNowhere (exec (.monitorV 5 1 []) recordNowhere)).rcd.spi ≠ [] := by decide +kernel

/-- Refutes O59: in `recordNowhere` V finds no record, and the search of the NV memory leaves its READ commands at the recorder SPI port. -/
theorem not_bootMonitor : ¬ Obligations.BootMonitor := by
  rintro ⟨-, hreach⟩
  obtain ⟨hon, hfind⟩ := recordNowhere_on
  obtain ⟨-, -, -, -, -, hcommands⟩ := hreach recordNowhere 0 0 0 0 0 0 0 0 5 1 [] false 0 [] 0 [] .ok [] [] [] {}
  obtain ⟨-, -, -, -, -, -, -, -, -, -, -, hnone, -⟩ := hcommands hon
  have hspi : (stateAfter recordNowhere (exec (.monitorV 5 1 []) recordNowhere)).rcd.spi = recordNowhere.rcd.spi := by
    rw [hnone (le_refl 1) (by decide) hfind]
    rfl
  exact monitorV_recordNowhere_spi (hspi.trans recordNowhere_spi)

end Sys2Proof.Machine
